-- ==== Sys2Proof/Word.lean ====
section
/-! DEFINITION. The word types of the block and the plainest operations on them. -/

namespace Sys2Proof

/-- A register word (R3: registers are 32 bits wide). -/
abbrev Word := BitVec 32

/-- A byte of a table, a frame or a record. -/
abbrev Byte := BitVec 8

/-- A byte string, first byte first (network byte order where it holds fields, R3). -/
abbrev Bytes := List Byte

/-- A sparse table: pairs of key and value, keys strictly rising. -/
abbrev Tab (α : Type) := List (Nat × α)

end Sys2Proof
end

