-- ==== Sys2Proof/Syntax.lean ====
section
/-! DEFINITION. The commands and events of the block: one constructor of `Instr` for each row of the table of operations
and events, with the operands that the outside world supplies. -/

namespace Sys2Proof

/-- Roles of a request (R452). -/
inductive Role where
  | observer | operator | engineer
  deriving DecidableEq, Repr

/-- The path of a write: a register access through the privileged or the unprivileged view (R466), or a dictionary write
in a role (R452). -/
inductive Via where
  | reg (priv : Bool)
  | dict (role : Role)
  deriving DecidableEq, Repr

/-- The two Toll channels (R396). -/
inductive TollChan where
  | logic | proc
  deriving DecidableEq, Repr

/-- Memories with check bytes (R339). -/
inductive MemKind where
  /-- Tally bank that a channel counts in: words 0 to 576 are one buffer, 577 to 1,153 the other. -/
  | tally (ch : Fin 512)
  /-- Seed file of a channel: two words a buffer. -/
  | seed (ch : Fin 512)
  /-- Bank 0 or 1 of the double-banked table with this dictionary index. -/
  | table (idx : Nat) (bank : Fin 2)
  /-- Bale coding state of a stream. -/
  | bale (stream : Fin 2)
  /-- Memory of steward A (0) or B (1). -/
  | steward (s : Fin 2)
  /-- Memory of a Toll channel. -/
  | toll (ch : TollChan)
  /-- F store. -/
  | fStore
  /-- Persistence store. -/
  | pStore
  /-- Pre-event ring. -/
  | ring
  /-- Acquisition buffer of a unit. -/
  | acq (unit : Fin 4)
  deriving DecidableEq, Repr

/-- A received Ethernet frame, before its contents (R377–R379). -/
structure RxFrame where
  port : Fin 2
  /-- Uptime of arrival, ns. -/
  t : Nat
  /-- Source MAC address. -/
  mac : Nat
  /-- VLAN ID of its tag; 0 for an untagged frame or a tag with VID 0. -/
  vid : Nat
  /-- Sequence number and LanId of its redundancy trailer. -/
  trailer : Option (Nat × Nat)
  deriving DecidableEq, Repr

/-- The path a Flefen request came by: UDP, the host SPI inbox, or a Basxiop frame from the string's lead (R375, R445). -/
inductive Carrier where
  | udp | spi | bx
  deriving DecidableEq, Repr

/-- What an inserted drive shows of its namespace: its blocks of 4,096 bytes, and the incidents that stand in its ring from TAIL, block by
block (R349, R350). -/
structure DriveSpace where
  blocks : Nat
  ring : List Bytes
  deriving DecidableEq, Repr

/-- What carries a Flefen request: its arrival and the header fields that the requester sets (R445, R448). -/
structure ReqHdr where
  /-- The Ethernet frame that carried it; on the other paths its `t` alone counts. -/
  rx : RxFrame
  path : Carrier
  /-- Source: IPv4 address × 65,536 + UDP port; 0 on the other paths. -/
  src : Nat
  session : Nat
  tag : Nat
  seq : Nat
  /-- LAST_SEGMENT of FLAGS. -/
  last : Bool
  /-- MAC that followed the body; empty when none did. -/
  mac : Bytes
  deriving DecidableEq, Repr

/-- Fields of a received PTP message that the block uses (R381–R383). -/
structure PtpMsg where
  /-- Uptime at the lane pins, ns. -/
  t : Nat
  /-- VLAN ID; 0 for an untagged frame or a tag with VID 0. -/
  vid : Nat
  /-- domainNumber. -/
  domain : Nat
  /-- sequenceId. -/
  seq : Nat
  /-- sourcePortIdentity: clockIdentity × 65,536 + portNumber. -/
  source : Nat
  /-- requestingPortIdentity of a delay response; 0 in other messages. -/
  requester : Nat
  /-- twoStepFlag. -/
  twoStep : Bool
  /-- correctionField, 2^-16 ns. -/
  corr : Int
  /-- Seconds of the origin or receive timestamp. -/
  sec : Nat
  /-- Nanoseconds of that timestamp. -/
  ns : Nat
  /-- Message is of the peer delay mechanism (802.1AS profile). -/
  peer : Bool
  /-- It is the follow-up of a peer delay response. -/
  followUp : Bool
  /-- grandmasterPriority1. -/
  prio1 : Nat
  /-- grandmasterClockQuality: class × 2^24 + accuracy × 2^16 + variance. -/
  quality : Nat
  /-- grandmasterPriority2. -/
  prio2 : Nat
  /-- grandmasterIdentity. -/
  gm : Nat
  /-- stepsRemoved. -/
  steps : Nat
  deriving DecidableEq, Repr

/-- The commands and events. Each docstring gives the row's own rule. -/
inductive Instr where
  /-- POWER_ON_RESET (R530). -/
  | powerOnReset (strapRef : Bool) (strapRcv : Bool) (localMaint : Bool)
  /-- RESET_N_ASSERT (R546). -/
  | resetNAssert (width : Nat)
  /-- RESET_N_RELEASE (R501). -/
  | resetNRelease (strapRef : Bool) (strapRcv : Bool) (localMaint : Bool)
  /-- BOOT_CTRL_RUN (R502). -/
  | bootCtrlRun (v : Nat)
  /-- SOFTWARE_RESET (R512). -/
  | softwareReset (role : Role) (v : Nat)
  /-- VDD_TOLL_LOSS (R531). -/
  | vddTollLoss
  /-- VDD_TOLL_GOOD (R531). -/
  | vddTollGood
  /-- TOLL_SELF_TEST_DONE (R399). -/
  | tollSelfTestDone (logicOk : Bool) (procOk : Bool)
  /-- SUPPLY_WARNING (R530). -/
  | supplyWarning (supply : Fin 4)
  /-- REF_JUDGE_WINDOW (R41). -/
  | refJudgeWindow (count : Nat)
  /-- REF_JUDGE_TIMEOUT (R42). -/
  | refJudgeTimeout
  /-- PLL_LOCK (R44). -/
  | pllLock
  /-- PLL_LOSS_OF_LOCK (R44). -/
  | pllLossOfLock
  /-- CLOCK_RETURN (R44). -/
  | clockReturn (priv : Bool)
  /-- CLEAR_FAULT (R66). -/
  | clearFault (priv : Bool)
  /-- LOGIC_CLOCK_STOP (R398). -/
  | logicClockStop
  /-- CLK_GATE_WRITE (R49). -/
  | clkGateWrite (via : Via) (v : Word)
  /-- GATE_TAKES_EFFECT (R49). -/
  | gateTakesEffect (blk : Fin 29)
  /-- UNGATE_COMPLETE (R53). -/
  | ungateComplete (blk : Fin 29)
  /-- GATED_BLOCK_ACCESS (R50). -/
  | gatedBlockAccess (blk : Fin 29) (write : Bool)
  /-- BRIDGE_PEER_RESET (R54). -/
  | bridgePeerReset (bridge : Fin 12)
  /-- BRIDGE_RELINK_DONE (R55). -/
  | bridgeRelinkDone (bridge : Fin 12)
  /-- TB_NS_READ (R58). -/
  | tbNsRead
  /-- TB_ADJ_WRITE (R60). -/
  | tbAdjWrite (priv : Bool) (v : Word)
  /-- TB_ADJ_SEC_WRITE (R62). -/
  | tbAdjSecWrite (priv : Bool) (v : Word)
  /-- TB_TRIM_WRITE (R56). -/
  | tbTrimWrite (via : Via) (v : Word)
  /-- TIME_SET (R62). -/
  | timeSet (role : Role) (sec : Nat) (ns : Nat)
  /-- ACCEPT_STEP (R61). -/
  | acceptStep (via : Via) (v : Nat)
  /-- SLEW_COMPLETE (R60). -/
  | slewComplete
  /-- AGEING_DAY_ELAPSED (R59). -/
  | ageingDayElapsed
  /-- LEDGER_DECISION (R97). -/
  | ledgerDecision (logicInTime : Bool) (procInTime : Bool)
  /-- ROW_SELECT_EDGE (R75). -/
  | rowSelectEdge
  /-- MONITOR_SLOT_START (R315). -/
  | monitorSlotStart
  /-- NOMINAL_FIRE_EDGE (R11). -/
  | nominalFireEdge
  /-- START_EDGE (R89). -/
  | startEdge (convoy : Fin 16) (input : Fin 2) (n : Nat) (q : Fin 64)
  /-- START_WINDOW_CLOSE (R90). -/
  | startWindowClose
  /-- MONITOR_ENERGY_DELIVERED (R315). -/
  | monitorEnergyDelivered (base : Nat) (code : Nat) (et : List Nat)
  /-- RET_RISING_EDGE (R164). -/
  | retRisingEdge (ch : Fin 512) (n : Nat) (q : Fin 64)
  /-- RET_FALLING_EDGE (R165). -/
  | retFallingEdge (ch : Fin 512) (n : Nat) (q : Fin 64)
  /-- OUTRIDER_INJECT (R184). -/
  | outriderInject
  /-- SHOT_END (R10). -/
  | shotEnd
  /-- STAGE_TICK (R22). -/
  | stageTick
  /-- FRAME_TICK (R22). -/
  | frameTick
  /-- FRAME_SYNC_OUT_END (R385). -/
  | frameSyncOutEnd
  /-- FRAME_SYNC_IN_EDGE (R546). -/
  | frameSyncInEdge (t : Nat)
  /-- SCHEDULE_INSTANT (R386). -/
  | scheduleInstant
  /-- STAGE_LOCK_START (R371). -/
  | stageLockStart
  /-- TICK_TIMEOUT (R371). -/
  | tickTimeout
  /-- SEEDER_TAKE (R217). -/
  | seederTake
  /-- ECHO_RECORD_DONE (R250). -/
  | echoRecordDone (ch : Fin 512)
  /-- STAGE_BLOCK_DONE (R284). -/
  | stageBlockDone
  /-- BALE_CODED (R292). -/
  | baleCoded (stream : Fin 2)
  /-- DATAGRAM_LAUNCH (R388). -/
  | datagramLaunch (port : Fin 2) (t : Nat)
  /-- LEDGER_HOLDOFF_END (R102). -/
  | ledgerHoldoffEnd
  /-- ARM_HIGH_CHECK_EXPIRY (R424). -/
  | armHighCheckExpiry (stayedHigh : Bool)
  /-- ARM_LOW_CHECK_EXPIRY (R424). -/
  | armLowCheckExpiry (low : Bool)
  /-- ARM_SETTLE_EXPIRY (R108). -/
  | armSettleExpiry
  /-- EM_ARM_READBACK (R425). -/
  | emArmReadback (high : Bool)
  /-- EM_FAULT_REGISTERED (R110). -/
  | emFaultRegistered
  /-- EM_FAULT_RELEASE (R110). -/
  | emFaultRelease
  /-- CONTROL_TICK (R123). -/
  | controlTick
  /-- DROVER_SENSE_START (R124). -/
  | droverSenseStart
  /-- DROVER_MEASURE_DONE (R129). -/
  | droverMeasureDone (samples : List (List Word))
  /-- DRIVE_OUTPUT_UPDATE (R126). -/
  | driveOutputUpdate
  /-- DRVSPI_TRANSFER_DONE (R128). -/
  | drvspiTransferDone
  /-- DRV_CTRL_WRITE (R140). -/
  | drvCtrlWrite (via : Via) (v : Word)
  /-- DRV_CLEAR_FAULTS (R149). -/
  | drvClearFaults (priv : Bool)
  /-- DRV_TICK_WRITE (R123). -/
  | drvTickWrite (via : Via) (v : Word)
  /-- DRV_SETPOINT_WRITE (R137). -/
  | drvSetpointWrite (via : Via) (v : Word)
  /-- DRV_TEST_START (R147). -/
  | drvTestStart (via : Via) (v : Word)
  /-- DRV_TEST_END (R147). -/
  | drvTestEnd
  /-- ADC_TIMER_EXPIRY (R312). -/
  | adcTimerExpiry (conv : Fin 2)
  /-- ADC_SEQ_START (R312). -/
  | adcSeqStart (via : Via) (conv : Fin 2) (m : Fin 4)
  /-- ADC_SEQ_BEGIN (R313). -/
  | adcSeqBegin (conv : Fin 2) (m : Fin 4)
  /-- ADC_SEQ_END (R312). -/
  | adcSeqEnd (conv : Fin 2) (m : Fin 4) (samples : List (List Word))
  /-- ACQ_ARM (R327). -/
  | acqArm (via : Via) (unit : Fin 4)
  /-- ACQ_DISARM (R328). -/
  | acqDisarm (via : Via) (unit : Fin 4)
  /-- ACQ_FORCE (R321). -/
  | acqForce (via : Via) (unit : Fin 4)
  /-- ACQ_TRIGGER (R321). -/
  | acqTrigger (unit : Fin 4) (bits : Nat)
  /-- ACQ_POST_WINDOW_END (R322). -/
  | acqPostWindowEnd (unit : Fin 4)
  /-- ACQ_REARM (R323). -/
  | acqRearm (unit : Fin 4)
  /-- ACQ_FIFO_DRAIN (R325). -/
  | acqFifoDrain (unit : Fin 4) (n : Nat)
  /-- INTERP_LOCK (R175). -/
  | interpLock (convoy : Fin 16)
  /-- INTERP_UNLOCK (R176). -/
  | interpUnlock (convoy : Fin 16)
  /-- CAL_START (R177). -/
  | calStart (via : Via) (convoy : Fin 16)
  /-- CAL_DONE (R180). -/
  | calDone (convoy : Fin 16) (hits : List Nat) (outr : List (List (Int × Nat)))
  /-- TIS_START (R192). -/
  | tisStart (convoy : Fin 16) (priv : Bool) (v : Word)
  /-- TIS_RUN_DONE (R192). -/
  | tisRunDone (convoy : Fin 16)
  /-- TIS_TIMEOUT (R192). -/
  | tisTimeout (convoy : Fin 16)
  /-- RANGING_REST_WRITE (R509). -/
  | rangingRestWrite (role : Role) (v : Nat)
  /-- RECAL_PERIOD_EXPIRY (R510). -/
  | recalPeriodExpiry
  /-- THERMAL_READING (R490). -/
  | thermalReading (r : List Int)
  /-- THROTTLE_EVAL (R493). -/
  | throttleEval
  /-- SUBSTITUTE_TIMEOUT (R494). -/
  | substituteTimeout
  /-- RETIREMENT_STORE_WRITE (R486). -/
  | retirementStoreWrite (ok : Bool)
  /-- CLEAR_RETIREMENT (R487). -/
  | clearRetirement (role : Role) (v : Nat)
  /-- SCRUB_PASS (R340). -/
  | scrubPass (mem : MemKind) (addr : Nat) (word : Bytes)
  /-- ECC_WRITEBACK (R339). -/
  | eccWriteback (mem : MemKind) (addr : Nat)
  /-- CONSERVATION_CHECK (R488). -/
  | conservationCheck
  /-- INCIDENT_IN_EDGE (R346). -/
  | incidentInEdge (t : Nat) (width : Nat)
  /-- RECORDER_TRIGGER (R346). -/
  | recorderTrigger (role : Role) (v : Nat)
  /-- POST_WINDOW_CLOSE (R347). -/
  | postWindowClose
  /-- DRIVE_INSERTED (R353). -/
  | driveInserted
  /-- DRIVE_READY (R353). -/
  | driveReady (fmt4k : Bool) (space : DriveSpace) (sb0 : Bytes) (sb1 : Bytes)
  /-- DRIVE_REMOVED (R353). -/
  | driveRemoved
  /-- RECORDER_EJECT (R353). -/
  | recorderEject (role : Role) (v : Nat)
  /-- RECORDER_FORMAT (R353). -/
  | recorderFormat (role : Role) (v : Nat)
  /-- RECORDER_PROTECT (R356). -/
  | recorderProtect (role : Role) (v : Nat)
  /-- STATE_REQUEST (R31). -/
  | stateRequest (via : Via) (code : Nat)
  /-- FIRMWARE_HANDOVER (R505). -/
  | firmwareHandover (role : Role) (v : Nat)
  /-- HANDOVER_READY (R505). -/
  | handoverReady
  /-- HANDOVER_TIMEOUT (R505). -/
  | handoverTimeout
  /-- FIRMWARE_CONFIRM (R506). -/
  | firmwareConfirm (role : Role) (v : Nat)
  /-- CONFIRM_TIME_EXPIRY (R506). -/
  | confirmTimeExpiry
  /-- STEWARD_WATCHDOG_EXPIRY (R507). -/
  | stewardWatchdogExpiry
  /-- STEWARD_CHECKPOINT (R507). -/
  | stewardCheckpoint
  /-- TOLL_RELOAD (R508). -/
  | tollReload (role : Role) (v : Nat)
  /-- CONFIG_SAVE (R497). -/
  | configSave (role : Role) (v : Nat)
  /-- CONFIG_SAVE_DONE (R497). -/
  | configSaveDone
  /-- BLOW_FUSE (R476). -/
  | blowFuse (role : Role) (v : Nat) (confirmed : Nat)
  /-- FLEFEN_READ (R449). -/
  | flefenRead (hdr : ReqHdr) (idx : Nat) (sub : Nat)
  /-- FLEFEN_WRITE (R458). -/
  | flefenWrite (hdr : ReqHdr) (idx : Nat) (sub : Nat) (ty : Nat) (val : Bytes)
  /-- WRITE_GROUP (R459). -/
  | writeGroup (hdr : ReqHdr) (ws : List (Nat × Nat × Nat × Bytes))
  /-- DOMAIN_OPEN (R463). -/
  | domainOpen (hdr : ReqHdr) (idx : Nat) (sub : Nat) (dir : Nat) (total : Nat) (crc : Option Nat)
  /-- DOMAIN_SEGMENT (R464). -/
  | domainSegment (hdr : ReqHdr) (off : Nat) (body : Bytes)
  /-- DOMAIN_CLOSE (R465). -/
  | domainClose (hdr : ReqHdr) (action : Nat)
  /-- TRANSFER_IDLE_TIMEOUT (R465). -/
  | transferIdleTimeout (owner : Nat)
  /-- HELLO (R453). -/
  | hello (hdr : ReqHdr) (role : Nat) (nc : Bytes)
  /-- PROVE (R453). -/
  | prove (hdr : ReqHdr) (proof : Bytes)
  /-- HELLO_LOCKOUT_END (R453). -/
  | helloLockoutEnd (role : Nat)
  /-- END (R455). -/
  | endSession (hdr : ReqHdr)
  /-- SESSION_TIMEOUT (R455). -/
  | sessionTimeout (id : Nat)
  /-- FLEFEN_REG_READ (R449). -/
  | flefenRegRead (hdr : ReqHdr) (addr : Nat) (count : Nat)
  /-- FLEFEN_REG_WRITE (R449). -/
  | flefenRegWrite (hdr : ReqHdr) (addr : Nat) (val : Nat) (mask : Nat)
  /-- EVENT_MESSAGE (R473). -/
  | eventMessage (g : Fin 13) (src : Fin 24)
  /-- SPI_STATUS (R446). -/
  | spiStatus
  /-- SPI_REG_READ (R446). -/
  | spiRegRead (addr : Nat) (count : Nat)
  /-- SPI_REG_WRITE (R447). -/
  | spiRegWrite (addr : Nat) (words : List Word)
  /-- FRAME_IN (R446). -/
  | frameIn (frame : Bytes)
  /-- FRAME_OUT (R446). -/
  | frameOut
  /-- EVT_STATUS_CLEAR (R472). -/
  | evtStatusClear (via : Via) (g : Fin 13) (v : Nat)
  /-- TBL_WIN_START (R470). -/
  | tblWinStart (priv : Bool) (v : Word)
  /-- TBL_WIN_COMMIT (R470). -/
  | tblWinCommit (priv : Bool) (v : Word)
  /-- TBL_WIN_ABORT (R470). -/
  | tblWinAbort (priv : Bool) (v : Word)
  /-- SAFETY_CLEAR_FAULTS (R444). -/
  | safetyClearFaults (role : Role) (v : Nat)
  /-- REGISTER_WRITE (R467). -/
  | registerWrite (priv : Bool) (addr : Nat) (v : Word) (mask : Word)
  /-- ARP_REQUEST_RX (R377). -/
  | arpRequestRx (f : RxFrame) (senderIp : Nat) (targetIp : Nat)
  /-- ARP_REPLY_RX (R377). -/
  | arpReplyRx (f : RxFrame) (senderIp : Nat)
  /-- ARP_RETRY (R378). -/
  | arpRetry (ip : Nat)
  /-- ARP_CACHE_EXPIRY (R377). -/
  | arpCacheExpiry (ip : Nat)
  /-- ICMP_ECHO_RX (R377). -/
  | icmpEchoRx (f : RxFrame) (srcIp : Nat) (body : Bytes)
  /-- ETH_FRAME_DISCARDED (R377). -/
  | ethFrameDiscarded (f : RxFrame)
  /-- LEAD_FLEFEN_FORWARD (R375). -/
  | leadFlefenForward (f : RxFrame) (udpPort : Nat) (srcIp : Nat) (srcPort : Nat) (there : Bool) (frame : Bytes)
  /-- ETH_LINK_CHANGE (R376). -/
  | ethLinkChange (port : Fin 2) (up : Bool) (speed : Nat) (fec : Nat)
  /-- ETH_LINK_RESTART (R391). -/
  | ethLinkRestart (priv : Bool) (port : Fin 2)
  /-- PRP_SUPERVISION_TX (R380). -/
  | prpSupervisionTx
  /-- PRP_SUPERVISION_RX (R380). -/
  | prpSupervisionRx (f : RxFrame) (node : Nat)
  /-- PRP_NODE_EXPIRY (R380). -/
  | prpNodeExpiry (mac : Nat)
  /-- LAN_MISSING_TIMEOUT (R380). -/
  | lanMissingTimeout (port : Fin 2)
  /-- PTP_SYNC_RX (R383). -/
  | ptpSyncRx (port : Fin 2) (m : PtpMsg)
  /-- PTP_FOLLOW_UP_RX (R382). -/
  | ptpFollowUpRx (port : Fin 2) (m : PtpMsg)
  /-- PTP_DELAY_RESP_RX (R381). -/
  | ptpDelayRespRx (port : Fin 2) (m : PtpMsg)
  /-- PTP_ANNOUNCE_RX (R381). -/
  | ptpAnnounceRx (port : Fin 2) (m : PtpMsg)
  /-- PTP_SYNC_TX (R381). -/
  | ptpSyncTx
  /-- PTP_HOLDOVER_TIMEOUT (R384). -/
  | ptpHoldoverTimeout (announce : Bool)
  /-- PPS_IN_EDGE (R385). -/
  | ppsInEdge (t : Nat)
  /-- PPS_OUT_SECOND (R385). -/
  | ppsOutSecond
  /-- PPS_OUT_WIDTH_END (R385). -/
  | ppsOutWidthEnd
  /-- BX_BLOCK_LOCK (R359). -/
  | bxBlockLock (lane : Fin 4)
  /-- BX_LOCK_LOSS (R359). -/
  | bxLockLoss (lane : Fin 4)
  /-- BX_PORT_RESTART (R392). -/
  | bxPortRestart (priv : Bool) (port : Fin 2)
  /-- BX_BRINGUP_TIMEOUT (R360). -/
  | bxBringupTimeout (port : Fin 2)
  /-- BX_RESTART_DELAY_END (R360). -/
  | bxRestartDelayEnd (port : Fin 2)
  /-- BX_SPEED_COUNTDOWN_END (R360). -/
  | bxSpeedCountdownEnd (port : Fin 2)
  /-- BX_ALIGN_RX (R363). -/
  | bxAlignRx (lane : Fin 4) (blk : BitVec 64)
  /-- BX_ALIGN_TX (R363). -/
  | bxAlignTx (port : Fin 2)
  /-- BX_CREDIT_RX (R367). -/
  | bxCreditRx (port : Fin 2) (blk : BitVec 64)
  /-- BX_CREDIT_TX (R367). -/
  | bxCreditTx (port : Fin 2)
  /-- BX_TRAIN_CAPABILITY_RX (R360). -/
  | bxTrainCapabilityRx (port : Fin 2) (blk : BitVec 64)
  /-- BX_TRAIN_UPDATE_RX (R362). -/
  | bxTrainUpdateRx (lane : Fin 4) (blk : BitVec 64) (ready : Bool)
  /-- BX_TRAIN_STATUS_RX (R362). -/
  | bxTrainStatusRx (lane : Fin 4) (blk : BitVec 64)
  /-- BX_TRAIN_STEP_RX (R360). -/
  | bxTrainStepRx (port : Fin 2) (blk : BitVec 64)
  /-- BX_TICK_RX (R371). -/
  | bxTickRx (port : Fin 2) (blk : BitVec 64)
  /-- BX_TIME_RX (R370). -/
  | bxTimeRx (port : Fin 2) (blk : BitVec 64) (t : Nat)
  /-- BX_TIME_SEC_RX (R370). -/
  | bxTimeSecRx (port : Fin 2) (blk : BitVec 64)
  /-- BX_TIME_TX (R370). -/
  | bxTimeTx
  /-- BX_TIME_SEC_TX (R370). -/
  | bxTimeSecTx
  /-- BX_DELAY_REQ_TX (R368). -/
  | bxDelayReqTx (port : Fin 2)
  /-- BX_DELAY_REQ_RX (R368). -/
  | bxDelayReqRx (port : Fin 2) (blk : BitVec 64) (t : Nat) (turn : Nat)
  /-- BX_DELAY_RESP_RX (R368). -/
  | bxDelayRespRx (port : Fin 2) (blk : BitVec 64) (t : Nat)
  /-- BX_DELAY_RESP_TIMEOUT (R368). -/
  | bxDelayRespTimeout (port : Fin 2)
  /-- BX_FLEFEN_FRAME_RX (R364). -/
  | bxFlefenFrameRx (port : Fin 2) (src : Fin 4) (dst : Fin 4) (data : Bytes) (term : Option (BitVec 48))
  /-- BX_FORWARD_FRAME_RX (R373). -/
  | bxForwardFrameRx (port : Fin 2) (src : Fin 4) (data : Bytes) (term : Option (BitVec 48))
  /-- BX_STATUS_FRAME_RX (R364). -/
  | bxStatusFrameRx (port : Fin 2) (src : Fin 4) (data : Bytes) (term : Option (BitVec 48))
  /-- SAFE_INPUT_SAMPLE (R404). -/
  | safeInputSample (ch : TollChan) (levels : Nat) (t : Nat)
  /-- TP_WINDOW_START (R403). -/
  | tpWindowStart (ch : TollChan) (t : Nat)
  /-- OUTPUT_READBACK (R419). -/
  | outputReadback (ch : TollChan) (rb : Nat)
  /-- OFF_PULSE_START (R420). -/
  | offPulseStart (pair : Fin 4) (sw : Fin 2)
  /-- OFF_PULSE_CHECK (R421). -/
  | offPulseCheck (pair : Fin 4) (sw : Fin 2) (high : Bool)
  /-- OFF_PULSE_END (R420). -/
  | offPulseEnd (pair : Fin 4) (sw : Fin 2)
  /-- MAILBOX_EXCHANGE (R397). -/
  | mailboxExchange (logicDev : Int) (procDev : Int)
  /-- MAILBOX_MISSING_TIMEOUT (R397). -/
  | mailboxMissingTimeout
  /-- LOGIC_RAY_DECISION (R410). -/
  | logicRayDecision (ch : Fin 512)
  /-- PROC_RAY_DECISION (R411). -/
  | procRayDecision (ch : Fin 512)
  /-- TELEGRAM_TX_PERIOD (R431). -/
  | telegramTxPeriod (t : Nat) (matched : Bool)
  /-- TELEGRAM_CHANGE_TX (R431). -/
  | telegramChangeTx (t : Nat) (matched : Bool)
  /-- SAFE_TELEGRAM_RX (R432). -/
  | safeTelegramRx (f : RxFrame) (srcIp : Nat) (srcPort : Nat) (dstPort : Nat) (bytes : Bytes)
  /-- COMPARE_WINDOW_END (R433). -/
  | compareWindowEnd (t : Nat)
  /-- TELEGRAM_WATCHDOG (R435). -/
  | telegramWatchdog
  /-- POWER_ON_RESET_HOLD (R530). -/
  | powerOnResetHold
  /-- BOOT_COMPLETE (R501). -/
  | bootComplete
  /-- TP_LOW_END (R403). -/
  | tpLowEnd (ch : TollChan)
  /-- PTP_DELAY_REQ_TX (R381). -/
  | ptpDelayReqTx
  /-- PTP_DELAY_REQ_RX (R381). -/
  | ptpDelayReqRx (port : Fin 2) (m : PtpMsg)
  /-- PTP_ANNOUNCE_TX (R381). -/
  | ptpAnnounceTx
  /-- STEWARD_RELOAD_DONE (R507). -/
  | stewardReloadDone (steward : Fin 2)
  deriving DecidableEq, Repr

end Sys2Proof
end

