-- ==== Sys2Proof/Config.lean ====
section
/-! DEFINITION. What an implementation fixes and the values the spec leaves open. An opaque constant has no body: nothing
in Lean can evaluate it, so a statement that holds of it holds for every value. -/

namespace Sys2Proof.Config

/-- Free value number `n` (log 4): a result the spec states no value for. -/
opaque freeValue : Nat → Nat

/-- Byte `i` of fresh nonce number `n` of the on-chip random source (R453; log 4). -/
opaque nonceByte : Nat → Nat → Byte

/-- Detector confidence where its divisor is 0 (R233 states none; log 4). -/
opaque openConfidence : Nat

/-- Ratio E_meas / E_L of a fired shot whose E_L is 0, by its E_meas in 2^-16 pJ (R96 states none; log 4). -/
opaque openRatio : Nat → Nat

/-- Which of the two integers beside the exact value a Cartesian coordinate takes: by range code, azimuth, elevation and axis
(R281 fixes it within 1 unit; log 4). -/
opaque cartRound : Nat → Int → Int → Nat → Nat

/-- Which of the two Q8.24 values beside AMP × sin(2π φ / 2^32) a test signal takes: by AMP and φ (R147 states no rounding; log 4). -/
opaque sineRound : Int → Nat → Nat

/-- The PRBS bit that gives +AMP; the other gives −AMP (R147 does not say which; log 4). -/
opaque prbsHigh : Bool

end Sys2Proof.Config
end

