-- ==== Sys2Proof/Machine/Tab.lean ====
section
/-! DEFINITION. Sparse tables: lists of pairs of key and value in one canonical form, keys strictly rising. -/

namespace Sys2Proof.Machine

namespace Tab

/-- The value listed at a key. -/
def find {α : Type} : Tab α → Nat → Option α
  | [], _ => none
  | (j, v) :: t, k => if j = k then some v else if k < j then none else find t k

/-- The value at a key, with what an unlisted key reads as. -/
def getD {α : Type} (t : Tab α) (k : Nat) (d : α) : α := (find t k).getD d

/-- Lists a value at a key. -/
def put {α : Type} : Tab α → Nat → α → Tab α
  | [], k, v => [(k, v)]
  | (j, w) :: t, k, v =>
    if j = k then (k, v) :: t else if k < j then (k, v) :: (j, w) :: t else (j, w) :: put t k v

/-- Removes a key. -/
def del {α : Type} : Tab α → Nat → Tab α
  | [], _ => []
  | (j, w) :: t, k => if j = k then t else if k < j then (j, w) :: t else (j, w) :: del t k

/-- The keys are strictly rising. -/
abbrev wf {α : Type} (t : Tab α) : Prop := (t.map Prod.fst).Pairwise (· < ·)

/-- Every key from 0 to `n - 1` listed with its value under `f`. -/
def ofFn {α : Type} (n : Nat) (f : Nat → α) : Tab α := (List.range n).map fun k => (k, f k)

/-- Changes every listed value. -/
def mapVal {α β : Type} (f : α → β) (t : Tab α) : Tab β := t.map fun e => (e.1, f e.2)

/-- A table of numbers in which an unlisted key reads as 0: stores 0 by removing the key. -/
def putNat (t : Tab Nat) (k v : Nat) : Tab Nat := if v = 0 then del t k else put t k v

/-- A table of numbers is canonical: keys strictly rising and no entry 0, which is what an unlisted key reads as. -/
abbrev canon (t : Tab Nat) : Prop := wf t ∧ ∀ e ∈ t, e.2 ≠ 0

end Tab

end Sys2Proof.Machine
end

