-- ==== Sys2Proof/Machine/Bits.lean ====
section
/-! DEFINITION. Bit fields, signed values, byte strings and the checksums of frames, tables and blocks. -/

namespace Sys2Proof.Machine

/-- Bits [lo + w - 1 : lo] of a value. -/
def bits (v lo w : Nat) : Nat := v / 2 ^ lo % 2 ^ w

/-- Bit i of a value. -/
def bitAt (v i : Nat) : Bool := v / 2 ^ i % 2 = 1

/-- Bit i of a value set or cleared. -/
def setBit (v i : Nat) (b : Bool) : Nat :=
  if bitAt v i = b then v else if b then v + 2 ^ i else v - 2 ^ i

/-- 1 for true, 0 for false. -/
def nat (b : Bool) : Nat := if b then 1 else 0

/-- A value of `w` bits read as two's complement. -/
def sgn (w v : Nat) : Int := if v % 2 ^ w < 2 ^ (w - 1) then (v % 2 ^ w : Nat) else (v % 2 ^ w : Nat) - (2 ^ w : Nat)

/-- The `w`-bit two's complement pattern of a signed value. -/
def uns (w : Nat) (v : Int) : Nat := (v % (2 ^ w : Nat)).toNat

/-- A signed value clamped to `w` bits. -/
def satS (w : Nat) (v : Int) : Int := max (-(2 ^ (w - 1) : Nat)) (min v ((2 ^ (w - 1) : Nat) - 1))

/-- A value clamped between two bounds. -/
def clampI (v lo hi : Int) : Int := max lo (min v hi)

/-- Floor division of integers (the divisor is positive wherever it is used). -/
def fdiv (a : Int) (b : Nat) : Int := a.fdiv b

/-- Quotient rounded half up: ⌊a / b + 1/2⌋. -/
def rhu (a : Int) (b : Nat) : Int := (2 * a + b).fdiv (2 * b)

/-- Ceiling of a quotient of naturals. -/
def cdiv (a b : Nat) : Nat := (a + b - 1) / b

/-- Number of bits set below bit n. -/
def popCount (n v : Nat) : Nat := (List.range n).countP (bitAt v)

/-- Bits below n that are set, in ascending order. -/
def bitList (n v : Nat) : List Nat := (List.range n).filter (bitAt v)

/-- Replaces item i of a list. -/
def upd {α : Type} (l : List α) (i : Nat) (f : α → α) : List α := l.modify i f

/-- Item i of a list, with a default. -/
def at' {α : Type} (l : List α) (i : Nat) (d : α) : α := l.getD i d

/-- The bytes of a value, `n` of them, most significant first (network byte order, R3). -/
def be (n v : Nat) : Bytes := (List.range n).map fun i => BitVec.ofNat 8 (v / 256 ^ (n - 1 - i))

/-- The value of a byte string, most significant byte first. -/
def ofBe (bs : Bytes) : Nat := bs.foldl (fun a b => 256 * a + b.toNat) 0

/-- The `n` bytes at an offset as a value. -/
def rd (n : Nat) (bs : Bytes) (off : Nat) : Nat := ofBe ((bs.drop off).take n)

/-- The same read as a signed value. -/
def rdS (n : Nat) (bs : Bytes) (off : Nat) : Int := sgn (8 * n) (rd n bs off)

/-- A byte string with other bytes written at an offset. -/
def patch (bs : Bytes) (off : Nat) (new : Bytes) : Bytes := bs.take off ++ new ++ bs.drop (off + new.length)

/-- A string of `n` zero bytes. -/
def zeros (n : Nat) : Bytes := List.replicate n 0

/-- The characters of a text as bytes. -/
def ascii (s : String) : Bytes := s.toList.map fun c => BitVec.ofNat 8 c.toNat

/-- Bitwise exclusive or of naturals. -/
def nxor (a b : Nat) : Nat := Nat.xor a b

/-- One bit of a reflected CRC with polynomial `poly`. -/
def crcStep (poly : Nat) (c : Nat) : Nat := if c % 2 = 1 then Nat.xor (c / 2) poly else c / 2

/-- One byte of a reflected CRC. -/
def crcByte (poly : Nat) (c : Nat) (b : Byte) : Nat :=
  (crcStep poly ∘ crcStep poly ∘ crcStep poly ∘ crcStep poly ∘ crcStep poly ∘ crcStep poly ∘ crcStep poly ∘
    crcStep poly) (Nat.xor c b.toNat)

/-- CRC-32C of R291: reflected polynomial 0x82F6_3B78, initial value and final exclusive or 0xFFFF_FFFF. -/
def crc32c (bs : Bytes) : Nat := Nat.xor (bs.foldl (crcByte 0x82F63B78) 0xFFFFFFFF) 0xFFFFFFFF

end Sys2Proof.Machine
end

