-- ==== Sys2Proof/Machine/Regs.lean ====
section
/-! DEFINITION. The register space (R466): every register field as a key, the access and commit point of each field,
and the reset value of each field, from the register tables of the chapters. -/

namespace Sys2Proof.Machine

/-- A register field, packed: `(32 * offset + lowest bit) * 64 + width`. Dictionary entries that no register holds
have offsets from 0x1000_0000, outside the register space. -/
abbrev Fld := Nat

/-- Packs a field. -/
def Fld.mk (addr lo w : Nat) : Fld := (addr * 32 + lo) * 64 + w

/-- Width of a field. -/
def Fld.width (f : Fld) : Nat := f % 64

/-- Lowest bit of a field in its register. -/
def Fld.lo (f : Fld) : Nat := f / 64 % 32

/-- Offset of a field's register. -/
def Fld.addr (f : Fld) : Nat := f / 2048

/-- When a written value takes effect (R7, and the points the registers name). -/
inductive Commit where
  | immediate | stage | frame | stateChange | control
  deriving DecidableEq, Repr

/-- Register access codes (R4); the codes ro and ro-s differ only in what clears the field. -/
inductive RAcc where
  | ro | rwp | wo | w1c
  deriving DecidableEq, Repr

/-- One field of a register. -/
structure FieldDesc where
  lo : Nat
  w : Nat
  acc : RAcc
  commit : Commit
  deriving DecidableEq, Repr

/-- A register, or an array of `count` registers `stride` apart. -/
structure RegDesc where
  base : Nat
  count : Nat
  stride : Nat
  fields : List FieldDesc
  deriving DecidableEq, Repr

namespace F

/-- DEV_ID[31:0] (R468). -/
abbrev DEV_ID.ID : Fld := 32
/-- DEV_REV[15:8] (R468). -/
abbrev DEV_REV.MAJOR : Fld := 8712
/-- DEV_REV[7:0] (R468). -/
abbrev DEV_REV.MINOR : Fld := 8200
/-- DEV_SERIAL_LO[31:0] (R468). -/
abbrev DEV_SERIAL_LO : Fld := 16416
/-- DEV_SERIAL_HI[31:0] (R468). -/
abbrev DEV_SERIAL_HI : Fld := 24608
/-- DEV_STATE[15:12] (R38). -/
abbrev DEV_STATE.LAST_REJECT : Fld := 33540
/-- DEV_STATE[9:8] (R38). -/
abbrev DEV_STATE.SERVICE : Fld := 33282
/-- DEV_STATE[6:4] (R38). -/
abbrev DEV_STATE.REQUEST : Fld := 33027
/-- DEV_STATE[2:0] (R38). -/
abbrev DEV_STATE.STATE : Fld := 32771
/-- COMMIT_REPORT[31:0] (R28). -/
abbrev COMMIT_REPORT : Fld := 40992
/-- BUS_STATUS[1:1] (R469). -/
abbrev BUS_STATUS.VIEW_IGNORED : Fld := 65601
/-- BUS_STATUS[0:0] (R469). -/
abbrev BUS_STATUS.UNMAPPED : Fld := 65537
/-- BOOT_STATUS[12:12] (R516). -/
abbrev BOOT_STATUS.UNSECURED : Fld := 99073
/-- BOOT_STATUS[11:11] (R516). -/
abbrev BOOT_STATUS.TOLL_PENDING : Fld := 99009
/-- BOOT_STATUS[10:10] (R516). -/
abbrev BOOT_STATUS.CONFIRMED : Fld := 98945
/-- BOOT_STATUS[9:9] (R516). -/
abbrev BOOT_STATUS.RECOVERY : Fld := 98881
/-- BOOT_STATUS[8:8] (R516). -/
abbrev BOOT_STATUS.SLOT : Fld := 98817
/-- BOOT_STATUS[7:0] (R516). -/
abbrev BOOT_STATUS.RESULT : Fld := 98312
/-- BOOT_CTRL[0:0] (R516). -/
abbrev BOOT_CTRL.RUN : Fld := 106497
/-- STEWARD_STATUS[5:5] (R516). -/
abbrev STEWARD_STATUS.HANDOVER_ACTIVE : Fld := 115009
/-- STEWARD_STATUS[4:4] (R516). -/
abbrev STEWARD_STATUS.B_RETIRED : Fld := 114945
/-- STEWARD_STATUS[3:3] (R516). -/
abbrev STEWARD_STATUS.A_RETIRED : Fld := 114881
/-- STEWARD_STATUS[2:2] (R516). -/
abbrev STEWARD_STATUS.STANDBY_READY : Fld := 114817
/-- STEWARD_STATUS[1:0] (R516). -/
abbrev STEWARD_STATUS.SERVING : Fld := 114690
/-- TBL_WIN[31:24] (R470). -/
abbrev TBL_WIN.RESULT : Fld := 132616
/-- TBL_WIN[19:19] (R470). -/
abbrev TBL_WIN.BUSY : Fld := 132289
/-- TBL_WIN[18:18] (R470). -/
abbrev TBL_WIN.OPEN : Fld := 132225
/-- TBL_WIN[17:17] (R470). -/
abbrev TBL_WIN.ABORT : Fld := 132161
/-- TBL_WIN[16:16] (R470). -/
abbrev TBL_WIN.COMMIT : Fld := 132097
/-- TBL_WIN[15:15] (R470). -/
abbrev TBL_WIN.START : Fld := 132033
/-- TBL_WIN[11:0] (R470). -/
abbrev TBL_WIN.SELECT : Fld := 131084
/-- TBL_WIN_LEN[31:0] (R470). -/
abbrev TBL_WIN_LEN : Fld := 139296
/-- TBL_WIN_CRC[31:0] (R470). -/
abbrev TBL_WIN_CRC : Fld := 147488
/-- CLK_STATUS[31:16] (R65). -/
abbrev CLK_STATUS.LAST_COUNT : Fld := 134218768
/-- CLK_STATUS[15:12] (R65). -/
abbrev CLK_STATUS.STABLE_RUN : Fld := 134218500
/-- CLK_STATUS[5:5] (R65). -/
abbrev CLK_STATUS.CLOCK_FAULT : Fld := 134218049
/-- CLK_STATUS[4:4] (R65). -/
abbrev CLK_STATUS.PLL_LOCK : Fld := 134217985
/-- CLK_STATUS[3:3] (R65). -/
abbrev CLK_STATUS.REF_STABLE : Fld := 134217921
/-- CLK_STATUS[2:2] (R65). -/
abbrev CLK_STATUS.FALLBACK : Fld := 134217857
/-- CLK_STATUS[0:0] (R65). -/
abbrev CLK_STATUS.REF_IN_USE : Fld := 134217729
/-- CLK_CTRL[8:8] (R66). -/
abbrev CLK_CTRL.CLEAR_FAULT : Fld := 134226433
/-- CLK_CTRL[4:4] (R66). -/
abbrev CLK_CTRL.RETURN : Fld := 134226177
/-- CLK_CTRL[0:0] (R66). -/
abbrev CLK_CTRL.REF_SELECT : Fld := 134225921
/-- CLK_GATE[28:16] (R67). -/
abbrev CLK_GATE.BLOCK_EN : Fld := 134251533
/-- CLK_GATE[15:0] (R67). -/
abbrev CLK_GATE.CONVOY_EN : Fld := 134250512
/-- GATE_STATE[31:31] (R68). -/
abbrev GATE_STATE.GATE_REFUSED : Fld := 134260673
/-- GATE_STATE[30:30] (R68). -/
abbrev GATE_STATE.GATE_PENDING : Fld := 134260609
/-- GATE_STATE[28:0] (R68). -/
abbrev GATE_STATE.RUNNING : Fld := 134258717
/-- GATED_ACCESS[28:0] (R69). -/
abbrev GATED_ACCESS.HIT : Fld := 134266909
/-- BRIDGE_STATUS[27:16] (R70). -/
abbrev BRIDGE_STATUS.LINK_UP : Fld := 134284300
/-- BRIDGE_STATUS[11:0] (R70). -/
abbrev BRIDGE_STATUS.PEER_RESET : Fld := 134283276
/-- RESET_CAUSE[31:16] (R514). -/
abbrev RESET_CAUSE.STEWARD_RESETS : Fld := 134349840
/-- RESET_CAUSE[2:0] (R514). -/
abbrev RESET_CAUSE.LAST : Fld := 134348803
/-- TB_CTRL[31:8] (R71). -/
abbrev TB_CTRL.STEP_THRESHOLD : Fld := 268435992
/-- TB_CTRL[1:1] (R71). -/
abbrev TB_CTRL.ACCEPT_STEP : Fld := 268435521
/-- TB_CTRL[0:0] (R71). -/
abbrev TB_CTRL.RUN : Fld := 268435457
/-- TB_NS[31:0] (R72). -/
abbrev TB_NS : Fld := 268443680
/-- TB_SEC_LO[31:0] (R72). -/
abbrev TB_SEC_LO : Fld := 268451872
/-- TB_SEC_HI[15:0] (R72). -/
abbrev TB_SEC_HI : Fld := 268460048
/-- TB_TRIM[31:0] (R72). -/
abbrev TB_TRIM : Fld := 268468256
/-- TB_AGEING[31:0] (R72). -/
abbrev TB_AGEING : Fld := 268476448
/-- TB_ADJ[31:0] (R72). -/
abbrev TB_ADJ : Fld := 268484640
/-- TB_FREQ[31:0] (R72). -/
abbrev TB_FREQ : Fld := 268492832
/-- TB_STATUS[4:4] (R73). -/
abbrev TB_STATUS.TRIM_SAT : Fld := 268501249
/-- TB_STATUS[3:3] (R73). -/
abbrev TB_STATUS.STEP_REFUSED : Fld := 268501185
/-- TB_STATUS[2:2] (R73). -/
abbrev TB_STATUS.STEP_PENDING : Fld := 268501121
/-- TB_STATUS[1:1] (R73). -/
abbrev TB_STATUS.SLEWING : Fld := 268501057
/-- TB_STATUS[0:0] (R73). -/
abbrev TB_STATUS.VALID : Fld := 268500993
/-- TB_SOURCE[8:8] (R394). -/
abbrev TB_SOURCE.SCHED_FALLBACK : Fld := 268509697
/-- TB_SOURCE[1:0] (R394). -/
abbrev TB_SOURCE.SOURCE : Fld := 268509186
/-- TB_SCHED_PERIOD[31:0] (R394). -/
abbrev TB_SCHED_PERIOD : Fld := 268517408
/-- TB_SCHED_STAGGER[31:0] (R394). -/
abbrev TB_SCHED_STAGGER : Fld := 268525600
/-- TB_PPS[9:0] (R394). -/
abbrev TB_PPS.WIDTH : Fld := 268533770
/-- TB_ADJ_SEC[31:0] (R72). -/
abbrev TB_ADJ_SEC : Fld := 268541984
/-- CVY_CTRL[16:16] of instance n (R196). -/
abbrev CVY_CTRL.OUTRIDER_EN (n : Nat) : Fld := 2147484673 + 134217728 * n
/-- CVY_CTRL[8:8] of instance n (R196). -/
abbrev CVY_CTRL.ADAPT_EN (n : Nat) : Fld := 2147484161 + 134217728 * n
/-- CVY_CTRL[6:0] of instance n (R196). -/
abbrev CVY_CTRL.DEAD_TIME (n : Nat) : Fld := 2147483655 + 134217728 * n
/-- CVY_TOT[31:24] of instance n (R197). -/
abbrev CVY_TOT.TOT_SLOPE (n : Nat) : Fld := 2147493384 + 134217728 * n
/-- CVY_TOT[19:10] of instance n (R197). -/
abbrev CVY_TOT.TOT_MAX (n : Nat) : Fld := 2147492490 + 134217728 * n
/-- CVY_TOT[9:0] of instance n (R197). -/
abbrev CVY_TOT.TOT_BASE (n : Nat) : Fld := 2147491850 + 134217728 * n
/-- CVY_STATUS[9:9] of instance n (R198). -/
abbrev CVY_STATUS.SKEW_BANK (n : Nat) : Fld := 2147500609 + 134217728 * n
/-- CVY_STATUS[8:8] of instance n (R198). -/
abbrev CVY_STATUS.NL_BANK (n : Nat) : Fld := 2147500545 + 134217728 * n
/-- CVY_STATUS[5:5] of instance n (R198). -/
abbrev CVY_STATUS.UNLOCK_SEEN (n : Nat) : Fld := 2147500353 + 134217728 * n
/-- CVY_STATUS[4:4] of instance n (R198). -/
abbrev CVY_STATUS.CAL_FAIL (n : Nat) : Fld := 2147500289 + 134217728 * n
/-- CVY_STATUS[3:3] of instance n (R198). -/
abbrev CVY_STATUS.CAL_BUSY (n : Nat) : Fld := 2147500225 + 134217728 * n
/-- CVY_STATUS[2:2] of instance n (R198). -/
abbrev CVY_STATUS.RETIRED (n : Nat) : Fld := 2147500161 + 134217728 * n
/-- CVY_STATUS[1:1] of instance n (R198). -/
abbrev CVY_STATUS.RESTING (n : Nat) : Fld := 2147500097 + 134217728 * n
/-- CVY_STATUS[0:0] of instance n (R198). -/
abbrev CVY_STATUS.LOCKED (n : Nat) : Fld := 2147500033 + 134217728 * n
/-- CVY_DLL[31:16] of instance n (R199). -/
abbrev CVY_DLL.CTRL_CODE (n : Nat) : Fld := 2147509264 + 134217728 * n
/-- CVY_DLL[15:0] of instance n (R199). -/
abbrev CVY_DLL.PHASE_ERR (n : Nat) : Fld := 2147508240 + 134217728 * n
/-- CVY_CAL[8:8] of instance n (R200). -/
abbrev CVY_CAL.START (n : Nat) : Fld := 2147516929 + 134217728 * n
/-- CVY_CAL[4:0] of instance n (R200). -/
abbrev CVY_CAL.HITS_LOG2 (n : Nat) : Fld := 2147516421 + 134217728 * n
/-- CVY_CAL_RESULT[31:16] of instance n (R201). -/
abbrev CVY_CAL_RESULT.WIDEST (n : Nat) : Fld := 2147525648 + 134217728 * n
/-- CVY_CAL_RESULT[15:0] of instance n (R201). -/
abbrev CVY_CAL_RESULT.NARROWEST (n : Nat) : Fld := 2147524624 + 134217728 * n
/-- CVY_DRIFT_LIM[15:0] of instance n (R202). -/
abbrev CVY_DRIFT_LIM.DRIFT_LIM (n : Nat) : Fld := 2147532816 + 134217728 * n
/-- CVY_UNLOCKS[31:0] of instance n (R205). -/
abbrev CVY_UNLOCKS (n : Nat) : Fld := 2147549216 + 134217728 * n
/-- CVY_PRESTART[31:0] of instance n (R205). -/
abbrev CVY_PRESTART (n : Nat) : Fld := 2147557408 + 134217728 * n
/-- TIS_CTRL[31:31] of instance n (R203). -/
abbrev TIS_CTRL.START (n : Nat) : Fld := 2147616705 + 134217728 * n
/-- TIS_CTRL[27:26] of instance n (R203). -/
abbrev TIS_CTRL.SOURCE (n : Nat) : Fld := 2147616386 + 134217728 * n
/-- TIS_CTRL[24:24] of instance n (R203). -/
abbrev TIS_CTRL.GATE_EN (n : Nat) : Fld := 2147616257 + 134217728 * n
/-- TIS_CTRL[20:16] of instance n (R203). -/
abbrev TIS_CTRL.CHANNEL (n : Nat) : Fld := 2147615749 + 134217728 * n
/-- TIS_CTRL[15:12] of instance n (R203). -/
abbrev TIS_CTRL.STOP_INDEX (n : Nat) : Fld := 2147615492 + 134217728 * n
/-- TIS_N[19:0] of instance n (R205). -/
abbrev TIS_N (n : Nat) : Fld := 2147622932 + 134217728 * n
/-- TIS_GATE_LO[31:0] of instance n (R205). -/
abbrev TIS_GATE_LO (n : Nat) : Fld := 2147631136 + 134217728 * n
/-- TIS_GATE_HI[31:0] of instance n (R205). -/
abbrev TIS_GATE_HI (n : Nat) : Fld := 2147639328 + 134217728 * n
/-- TIS_TIMEOUT[15:0] of instance n (R205). -/
abbrev TIS_TIMEOUT (n : Nat) : Fld := 2147647504 + 134217728 * n
/-- TIS_STATUS[31:12] of instance n (R204). -/
abbrev TIS_STATUS.COUNT (n : Nat) : Fld := 2147656468 + 134217728 * n
/-- TIS_STATUS[3:3] of instance n (R204). -/
abbrev TIS_STATUS.ABORTED (n : Nat) : Fld := 2147655873 + 134217728 * n
/-- TIS_STATUS[2:2] of instance n (R204). -/
abbrev TIS_STATUS.PARTIAL (n : Nat) : Fld := 2147655809 + 134217728 * n
/-- TIS_STATUS[1:1] of instance n (R204). -/
abbrev TIS_STATUS.DONE (n : Nat) : Fld := 2147655745 + 134217728 * n
/-- TIS_STATUS[0:0] of instance n (R204). -/
abbrev TIS_STATUS.BUSY (n : Nat) : Fld := 2147655681 + 134217728 * n
/-- TIS_MEAN[31:0] of instance n (R205). -/
abbrev TIS_MEAN (n : Nat) : Fld := 2147663904 + 134217728 * n
/-- TIS_DEV[31:0] of instance n (R205). -/
abbrev TIS_DEV (n : Nat) : Fld := 2147672096 + 134217728 * n
/-- TIS_MIN[31:0] of instance n (R205). -/
abbrev TIS_MIN (n : Nat) : Fld := 2147680288 + 134217728 * n
/-- TIS_MAX[31:0] of instance n (R205). -/
abbrev TIS_MAX (n : Nat) : Fld := 2147688480 + 134217728 * n
/-- TIS_REJECTED[31:0] of instance n (R205). -/
abbrev TIS_REJECTED (n : Nat) : Fld := 2147696672 + 134217728 * n
/-- TALLY_CTRL[17:16] (R239). -/
abbrev TALLY_CTRL.FLOOR_MODE : Fld := 4294968322
/-- TALLY_CTRL[12:12] (R239). -/
abbrev TALLY_CTRL.SEED_EXCL : Fld := 4294968065
/-- TALLY_CTRL[10:8] (R239). -/
abbrev TALLY_CTRL.ZOOM_DEFAULT : Fld := 4294967811
/-- TALLY_CTRL[7:4] (R239). -/
abbrev TALLY_CTRL.ZOOM_N : Fld := 4294967556
/-- TALLY_CTRL[1:0] (R239). -/
abbrev TALLY_CTRL.BIN_WIDTH : Fld := 4294967298
/-- CFAR_CFG[19:16] (R240). -/
abbrev CFAR_CFG.MIN_SEP : Fld := 4294976516
/-- CFAR_CFG[11:8] (R240). -/
abbrev CFAR_CFG.GUARD : Fld := 4294976004
/-- CFAR_CFG[5:0] (R240). -/
abbrev CFAR_CFG.REF : Fld := 4294975494
/-- CFAR_LEVEL[31:16] (R241). -/
abbrev CFAR_LEVEL.BETA : Fld := 4294984720
/-- CFAR_LEVEL[15:0] (R241). -/
abbrev CFAR_LEVEL.ALPHA : Fld := 4294983696
/-- FLOOR_CFG[15:0] (R242). -/
abbrev FLOOR_CFG.Q_FRAC : Fld := 4294991888
/-- ZOOM_CFG[15:8] (R242). -/
abbrev ZOOM_CFG.SEED_CONF : Fld := 4295000584
/-- ZOOM_CFG[3:0] (R242). -/
abbrev ZOOM_CFG.ZOOM_HALF : Fld := 4295000068
/-- FILT_BANK[31:16] (R243). -/
abbrev FILT_BANK.PENDING : Fld := 4295009296
/-- FILT_BANK[15:0] (R243). -/
abbrev FILT_BANK.ACTIVE : Fld := 4295008272
/-- TALLY_STATUS[31:16] (R244). -/
abbrev TALLY_STATUS.SPARE_USED : Fld := 4295017488
/-- TALLY_STATUS[3:3] (R244). -/
abbrev TALLY_STATUS.SEED_STORE_ERR : Fld := 4295016641
/-- TALLY_STATUS[2:2] (R244). -/
abbrev TALLY_STATUS.ECC_UNCORR : Fld := 4295016577
/-- TALLY_STATUS[1:1] (R244). -/
abbrev TALLY_STATUS.ECC_CORR : Fld := 4295016513
/-- TALLY_STATUS[0:0] (R244). -/
abbrev TALLY_STATUS.OVERRUN : Fld := 4295016449
/-- TALLY_OVERRUN_RECORDS[31:0] (R247). -/
abbrev TALLY_OVERRUN_RECORDS : Fld := 4295032864
/-- TALLY_SAT_ECHOES[31:0] (R247). -/
abbrev TALLY_SAT_ECHOES : Fld := 4295041056
/-- TALLY_COARSE_ONLY[31:0] (R247). -/
abbrev TALLY_COARSE_ONLY : Fld := 4295049248
/-- TALLY_ECC_CORR[31:0] (R247). -/
abbrev TALLY_ECC_CORR : Fld := 4295057440
/-- TALLY_ECC_UNCORR[31:0] (R247). -/
abbrev TALLY_ECC_UNCORR : Fld := 4295065632
/-- TALLY_SEEDS_LATE[31:0] (R247). -/
abbrev TALLY_SEEDS_LATE : Fld := 4295073824
/-- SNAP_CTRL[16:16] (R246). -/
abbrev SNAP_CTRL.DONE : Fld := 4295083009
/-- SNAP_CTRL[9:9] (R246). -/
abbrev SNAP_CTRL.ARM : Fld := 4295082561
/-- SNAP_CTRL[8:0] (R246). -/
abbrev SNAP_CTRL.CHANNEL : Fld := 4295081993
/-- SPARE_MAP[5:5] of instance n (R245). -/
abbrev SPARE_MAP.IN_USE (n : Nat) : Fld := 4295098689 + 8192 * n
/-- SPARE_MAP[4:0] of instance n (R245). -/
abbrev SPARE_MAP.CHANNEL (n : Nat) : Fld := 4295098373 + 8192 * n
/-- CLUT_SEED[22:22] (R271). -/
abbrev CLUT_SEED.SEED_PENDING : Fld := 4295492993
/-- CLUT_SEED[21:16] (R271). -/
abbrev CLUT_SEED.PAIR_GAP : Fld := 4295492614
/-- CLUT_SEED[15:0] (R271). -/
abbrev CLUT_SEED.SEED : Fld := 4295491600
/-- CLUT_STATUS[1:1] (R272). -/
abbrev CLUT_STATUS.BANK_READY : Fld := 4295499841
/-- CLUT_STATUS[0:0] (R272). -/
abbrev CLUT_STATUS.ACTIVE_BANK : Fld := 4295499777
/-- CLUT_LFSR[30:0] (R273). -/
abbrev CLUT_LFSR.STATE : Fld := 4295507999
/-- CLUT_SUN_BLINDED[31:0] (R274). -/
abbrev CLUT_SUN_BLINDED : Fld := 4295524384
/-- CLUT_RAIN_SUSPECT[31:0] (R274). -/
abbrev CLUT_RAIN_SUSPECT : Fld := 4295532576
/-- CLUT_FOREIGN_SUSPECT[31:0] (R274). -/
abbrev CLUT_FOREIGN_SUSPECT : Fld := 4295540768
/-- CLUT_ZOOM_UNSTABLE[31:0] (R274). -/
abbrev CLUT_ZOOM_UNSTABLE : Fld := 4295548960
/-- CLUT_DROPPED_NEAR[31:0] (R274). -/
abbrev CLUT_DROPPED_NEAR : Fld := 4295557152
/-- CLUT_DROPPED_RAIN[31:0] (R274). -/
abbrev CLUT_DROPPED_RAIN : Fld := 4295565344
/-- CLUT_DROPPED_FOREIGN[31:0] (R274). -/
abbrev CLUT_DROPPED_FOREIGN : Fld := 4295573536
/-- SUN_BLIND[31:0] of instance n (R275). -/
abbrev SUN_BLIND.BLINDED (n : Nat) : Fld := 4295622688 + 8192 * n
/-- EM_CTRL[11:10] (R111). -/
abbrev EM_CTRL.DRIVE : Fld := 6442451586
/-- EM_CTRL[9:9] (R111). -/
abbrev EM_CTRL.COL_POL : Fld := 6442451521
/-- EM_CTRL[8:8] (R111). -/
abbrev EM_CTRL.ROW_POL : Fld := 6442451457
/-- EM_CTRL[4:4] (R111). -/
abbrev EM_CTRL.START1_EN : Fld := 6442451201
/-- EM_CTRL[3:3] (R111). -/
abbrev EM_CTRL.START0_EN : Fld := 6442451137
/-- EM_CTRL[0:0] (R111). -/
abbrev EM_CTRL.SWAP_SRC : Fld := 6442450945
/-- EM_STATUS[15:15] (R112). -/
abbrev EM_STATUS.WRITE_REFUSED : Fld := 6442460097
/-- EM_STATUS[11:11] (R112). -/
abbrev EM_STATUS.BANK_READY : Fld := 6442459841
/-- EM_STATUS[10:10] (R112). -/
abbrev EM_STATUS.ACTIVE_BANK : Fld := 6442459777
/-- EM_STATUS[9:9] (R112). -/
abbrev EM_STATUS.EM_FAULT : Fld := 6442459713
/-- EM_STATUS[8:8] (R112). -/
abbrev EM_STATUS.ARMED : Fld := 6442459649
/-- EM_STATUS[7:7] (R112). -/
abbrev EM_STATUS.ROW_VALID : Fld := 6442459585
/-- EM_STATUS[5:0] (R112). -/
abbrev EM_STATUS.ROW : Fld := 6442459142
/-- EM_TIMING[22:16] (R113). -/
abbrev EM_TIMING.START_WIN : Fld := 6442468359
/-- EM_TIMING[9:0] (R113). -/
abbrev EM_TIMING.ROW_LEAD : Fld := 6442467338
/-- EM_START_MISSING[31:0] (R114). -/
abbrev EM_START_MISSING : Fld := 6442483744
/-- EM_FAULT_COUNT[31:0] (R114). -/
abbrev EM_FAULT_COUNT : Fld := 6442491936
/-- LEDGER_STATUS[10:8] (R115). -/
abbrev LEDGER_STATUS.CAUSE : Fld := 6979322371
/-- LEDGER_STATUS[4:4] (R115). -/
abbrev LEDGER_STATUS.DISAGREE : Fld := 6979322113
/-- LEDGER_STATUS[3:3] (R115). -/
abbrev LEDGER_STATUS.HOLDOFF : Fld := 6979322049
/-- LEDGER_STATUS[2:2] (R115). -/
abbrev LEDGER_STATUS.PROC_OK : Fld := 6979321985
/-- LEDGER_STATUS[1:1] (R115). -/
abbrev LEDGER_STATUS.LOGIC_OK : Fld := 6979321921
/-- LEDGER_STATUS[0:0] (R115). -/
abbrev LEDGER_STATUS.ARM_PERMIT : Fld := 6979321857
/-- LEDGER_LAST_REFUSAL[15:14] (R116). -/
abbrev LEDGER_LAST_REFUSAL.CHANNELS : Fld := 6979330946
/-- LEDGER_LAST_REFUSAL[13:12] (R116). -/
abbrev LEDGER_LAST_REFUSAL.WINDOW : Fld := 6979330818
/-- LEDGER_LAST_REFUSAL[11:0] (R116). -/
abbrev LEDGER_LAST_REFUSAL.CELL : Fld := 6979330060
/-- LEDGER_LOGIC_DEBITS[31:0] (R117). -/
abbrev LEDGER_LOGIC_DEBITS : Fld := 6979354656
/-- LEDGER_LOGIC_REFUNDS[31:0] (R117). -/
abbrev LEDGER_LOGIC_REFUNDS : Fld := 6979362848
/-- LEDGER_PROC_DEBITS[31:0] (R117). -/
abbrev LEDGER_PROC_DEBITS : Fld := 6979371040
/-- LEDGER_PROC_REFUNDS[31:0] (R117). -/
abbrev LEDGER_PROC_REFUNDS : Fld := 6979379232
/-- LEDGER_SHOTS_FIRED[31:0] (R117). -/
abbrev LEDGER_SHOTS_FIRED : Fld := 6979387424
/-- REFUSED_ONE_SIDED[31:0] (R117). -/
abbrev REFUSED_ONE_SIDED : Fld := 6979395616
/-- REFUSED_BOTH[31:0] (R117). -/
abbrev REFUSED_BOTH : Fld := 6979403808
/-- DRV_CTRL[15:15] (R149). -/
abbrev DRV_CTRL.CLEAR_FAULTS : Fld := 7516193729
/-- DRV_CTRL[13:12] (R149). -/
abbrev DRV_CTRL.TARGET_LEAD : Fld := 7516193538
/-- DRV_CTRL[10:8] (R149). -/
abbrev DRV_CTRL.FORCE_SET : Fld := 7516193283
/-- DRV_CTRL[7:7] (R149). -/
abbrev DRV_CTRL.SCHED : Fld := 7516193217
/-- DRV_CTRL[4:4] (R149). -/
abbrev DRV_CTRL.TARGET_SRC : Fld := 7516193025
/-- DRV_CTRL[3:2] (R149). -/
abbrev DRV_CTRL.MODE : Fld := 7516192898
/-- DRV_CTRL[1:0] (R149). -/
abbrev DRV_CTRL.AXES : Fld := 7516192770
/-- DRV_STATUS[19:19] (R150). -/
abbrev DRV_STATUS.WRITE_REFUSED : Fld := 7516202177
/-- DRV_STATUS[18:18] (R150). -/
abbrev DRV_STATUS.BANK : Fld := 7516202113
/-- DRV_STATUS[17:17] (R150). -/
abbrev DRV_STATUS.TEST_DONE : Fld := 7516202049
/-- DRV_STATUS[16:16] (R150). -/
abbrev DRV_STATUS.TEST_RUN : Fld := 7516201985
/-- DRV_STATUS[15:15] (R150). -/
abbrev DRV_STATUS.INNOV_FAULT : Fld := 7516201921
/-- DRV_STATUS[14:14] (R150). -/
abbrev DRV_STATUS.SENSOR_FAULT : Fld := 7516201857
/-- DRV_STATUS[13:13] (R150). -/
abbrev DRV_STATUS.CFG_ERR : Fld := 7516201793
/-- DRV_STATUS[12:12] (R150). -/
abbrev DRV_STATUS.NUM_SAT : Fld := 7516201729
/-- DRV_STATUS[11:10] (R150). -/
abbrev DRV_STATUS.SAT : Fld := 7516201602
/-- DRV_STATUS[9:8] (R150). -/
abbrev DRV_STATUS.EST : Fld := 7516201474
/-- DRV_STATUS[7:7] (R150). -/
abbrev DRV_STATUS.RESIDUE : Fld := 7516201409
/-- DRV_STATUS[6:4] (R150). -/
abbrev DRV_STATUS.SET : Fld := 7516201219
/-- DRV_STATUS[3:2] (R150). -/
abbrev DRV_STATUS.MODE_ACTIVE : Fld := 7516201090
/-- DRV_STATUS[0:0] (R150). -/
abbrev DRV_STATUS.LOCKED : Fld := 7516200961
/-- DRV_TICK[27:16] (R151). -/
abbrev DRV_TICK.SENSE_DELAY : Fld := 7516210188
/-- DRV_TICK[15:0] (R151). -/
abbrev DRV_TICK.PERIOD : Fld := 7516209168
/-- DRV_MEAS[14:13] of instance n (R152). -/
abbrev DRV_MEAS.OW_CURRENT (n : Nat) : Fld := 7516226370 + 8192 * n
/-- DRV_MEAS[12:12] of instance n (R152). -/
abbrev DRV_MEAS.OW_EN (n : Nat) : Fld := 7516226305 + 8192 * n
/-- DRV_MEAS[11:8] of instance n (R152). -/
abbrev DRV_MEAS.OVS (n : Nat) : Fld := 7516226052 + 8192 * n
/-- DRV_MEAS[6:5] of instance n (R152). -/
abbrev DRV_MEAS.GAIN (n : Nat) : Fld := 7516225858 + 8192 * n
/-- DRV_MEAS[4:0] of instance n (R152). -/
abbrev DRV_MEAS.INPUT (n : Nat) : Fld := 7516225541 + 8192 * n
/-- DRV_OUTMAP[15:0] (R153). -/
abbrev DRV_OUTMAP.MAP : Fld := 7516258320
/-- DRVSPI_CFG[24:24] (R154). -/
abbrev DRVSPI_CFG.EN : Fld := 7516268033
/-- DRVSPI_CFG[23:8] (R154). -/
abbrev DRVSPI_CFG.ADDR : Fld := 7516267024
/-- DRVSPI_CFG[7:4] (R154). -/
abbrev DRVSPI_CFG.CMD : Fld := 7516266756
/-- DRVSPI_CFG[3:0] (R154). -/
abbrev DRVSPI_CFG.DIV : Fld := 7516266500
/-- DRV_MANUAL0[31:0] (R156). -/
abbrev DRV_MANUAL0 : Fld := 7516291104
/-- DRV_MANUAL1[31:0] (R156). -/
abbrev DRV_MANUAL1 : Fld := 7516299296
/-- DRV_ANGLE[31:16] (R156). -/
abbrev DRV_ANGLE.AXIS1 : Fld := 7516324880
/-- DRV_ANGLE[15:0] (R156). -/
abbrev DRV_ANGLE.AXIS0 : Fld := 7516323856
/-- DRV_OUTPUT[31:16] (R156). -/
abbrev DRV_OUTPUT.U1 : Fld := 7516333072
/-- DRV_OUTPUT[15:0] (R156). -/
abbrev DRV_OUTPUT.U0 : Fld := 7516332048
/-- DRV_SETPOINT[31:16] (R156). -/
abbrev DRV_SETPOINT.AXIS1 : Fld := 7516341264
/-- DRV_SETPOINT[15:0] (R156). -/
abbrev DRV_SETPOINT.AXIS0 : Fld := 7516340240
/-- DRV_TEST_CTRL[15:8] (R155). -/
abbrev DRV_TEST_CTRL.HOLD : Fld := 7516357128
/-- DRV_TEST_CTRL[3:3] (R155). -/
abbrev DRV_TEST_CTRL.AXIS : Fld := 7516356801
/-- DRV_TEST_CTRL[2:2] (R155). -/
abbrev DRV_TEST_CTRL.POINT : Fld := 7516356737
/-- DRV_TEST_CTRL[1:0] (R155). -/
abbrev DRV_TEST_CTRL.WAVE : Fld := 7516356610
/-- DRV_TEST_AMP[31:0] (R156). -/
abbrev DRV_TEST_AMP : Fld := 7516364832
/-- DRV_TEST_F0[31:0] (R156). -/
abbrev DRV_TEST_F0 : Fld := 7516373024
/-- DRV_TEST_F1[31:0] (R156). -/
abbrev DRV_TEST_F1 : Fld := 7516381216
/-- DRV_TEST_LEN[31:0] (R156). -/
abbrev DRV_TEST_LEN : Fld := 7516389408
/-- ADC_CTRL[1:1] of instance n (R330). -/
abbrev ADC_CTRL.PD (n : Nat) : Fld := 8589934657 + 524288 * n
/-- ADC_CTRL[0:0] of instance n (R330). -/
abbrev ADC_CTRL.EN (n : Nat) : Fld := 8589934593 + 524288 * n
/-- ADC_STATUS[23:0] of instance n (R330). -/
abbrev ADC_STATUS.OPEN (n : Nat) : Fld := 8589942808 + 524288 * n
/-- ADC_TIMER[19:0] of instance n (R330). -/
abbrev ADC_TIMER (n : Nat) : Fld := 8589950996 + 524288 * n
/-- ADC_SEQ0[31:31] of instance n (R331). -/
abbrev ADC_SEQ0.START (n : Nat) : Fld := 8589969345 + 524288 * n
/-- ADC_SEQ0[30:28] of instance n (R331). -/
abbrev ADC_SEQ0.SRC (n : Nat) : Fld := 8589969155 + 524288 * n
/-- ADC_SEQ0[25:24] of instance n (R331). -/
abbrev ADC_SEQ0.OW_CURRENT (n : Nat) : Fld := 8589968898 + 524288 * n
/-- ADC_SEQ0[23:23] of instance n (R331). -/
abbrev ADC_SEQ0.OW_EN (n : Nat) : Fld := 8589968833 + 524288 * n
/-- ADC_SEQ0[22:21] of instance n (R331). -/
abbrev ADC_SEQ0.GAIN (n : Nat) : Fld := 8589968706 + 524288 * n
/-- ADC_SEQ0[20:16] of instance n (R331). -/
abbrev ADC_SEQ0.INPUT (n : Nat) : Fld := 8589968389 + 524288 * n
/-- ADC_SEQ0[15:0] of instance n (R331). -/
abbrev ADC_SEQ0.COUNT (n : Nat) : Fld := 8589967376 + 524288 * n
/-- ADC_SEQDLY0[15:0] of instance n (R331). -/
abbrev ADC_SEQDLY0.DELAY (n : Nat) : Fld := 8589975568 + 524288 * n
/-- ADC_SEQ1[31:31] of instance n (R331). -/
abbrev ADC_SEQ1.START (n : Nat) : Fld := 8589985729 + 524288 * n
/-- ADC_SEQ1[30:28] of instance n (R331). -/
abbrev ADC_SEQ1.SRC (n : Nat) : Fld := 8589985539 + 524288 * n
/-- ADC_SEQ1[25:24] of instance n (R331). -/
abbrev ADC_SEQ1.OW_CURRENT (n : Nat) : Fld := 8589985282 + 524288 * n
/-- ADC_SEQ1[23:23] of instance n (R331). -/
abbrev ADC_SEQ1.OW_EN (n : Nat) : Fld := 8589985217 + 524288 * n
/-- ADC_SEQ1[22:21] of instance n (R331). -/
abbrev ADC_SEQ1.GAIN (n : Nat) : Fld := 8589985090 + 524288 * n
/-- ADC_SEQ1[20:16] of instance n (R331). -/
abbrev ADC_SEQ1.INPUT (n : Nat) : Fld := 8589984773 + 524288 * n
/-- ADC_SEQ1[15:0] of instance n (R331). -/
abbrev ADC_SEQ1.COUNT (n : Nat) : Fld := 8589983760 + 524288 * n
/-- ADC_SEQDLY1[15:0] of instance n (R331). -/
abbrev ADC_SEQDLY1.DELAY (n : Nat) : Fld := 8589991952 + 524288 * n
/-- ADC_SEQ2[31:31] of instance n (R331). -/
abbrev ADC_SEQ2.START (n : Nat) : Fld := 8590002113 + 524288 * n
/-- ADC_SEQ2[30:28] of instance n (R331). -/
abbrev ADC_SEQ2.SRC (n : Nat) : Fld := 8590001923 + 524288 * n
/-- ADC_SEQ2[25:24] of instance n (R331). -/
abbrev ADC_SEQ2.OW_CURRENT (n : Nat) : Fld := 8590001666 + 524288 * n
/-- ADC_SEQ2[23:23] of instance n (R331). -/
abbrev ADC_SEQ2.OW_EN (n : Nat) : Fld := 8590001601 + 524288 * n
/-- ADC_SEQ2[22:21] of instance n (R331). -/
abbrev ADC_SEQ2.GAIN (n : Nat) : Fld := 8590001474 + 524288 * n
/-- ADC_SEQ2[20:16] of instance n (R331). -/
abbrev ADC_SEQ2.INPUT (n : Nat) : Fld := 8590001157 + 524288 * n
/-- ADC_SEQ2[15:0] of instance n (R331). -/
abbrev ADC_SEQ2.COUNT (n : Nat) : Fld := 8590000144 + 524288 * n
/-- ADC_SEQDLY2[15:0] of instance n (R331). -/
abbrev ADC_SEQDLY2.DELAY (n : Nat) : Fld := 8590008336 + 524288 * n
/-- ADC_SEQ3[31:31] of instance n (R331). -/
abbrev ADC_SEQ3.START (n : Nat) : Fld := 8590018497 + 524288 * n
/-- ADC_SEQ3[30:28] of instance n (R331). -/
abbrev ADC_SEQ3.SRC (n : Nat) : Fld := 8590018307 + 524288 * n
/-- ADC_SEQ3[25:24] of instance n (R331). -/
abbrev ADC_SEQ3.OW_CURRENT (n : Nat) : Fld := 8590018050 + 524288 * n
/-- ADC_SEQ3[23:23] of instance n (R331). -/
abbrev ADC_SEQ3.OW_EN (n : Nat) : Fld := 8590017985 + 524288 * n
/-- ADC_SEQ3[22:21] of instance n (R331). -/
abbrev ADC_SEQ3.GAIN (n : Nat) : Fld := 8590017858 + 524288 * n
/-- ADC_SEQ3[20:16] of instance n (R331). -/
abbrev ADC_SEQ3.INPUT (n : Nat) : Fld := 8590017541 + 524288 * n
/-- ADC_SEQ3[15:0] of instance n (R331). -/
abbrev ADC_SEQ3.COUNT (n : Nat) : Fld := 8590016528 + 524288 * n
/-- ADC_SEQDLY3[15:0] of instance n (R331). -/
abbrev ADC_SEQDLY3.DELAY (n : Nat) : Fld := 8590024720 + 524288 * n
/-- ADC_MON[23:16] (R330). -/
abbrev ADC_MON.MON_WIN : Fld := 8590066696
/-- ADC_MON[9:8] (R330). -/
abbrev ADC_MON.GAIN : Fld := 8590066178
/-- ADC_MON[0:0] (R330). -/
abbrev ADC_MON.EN : Fld := 8590065665
/-- ADC_PREEMPT[31:0] of instance n (R330). -/
abbrev ADC_PREEMPT (n : Nat) : Fld := 8590098464 + 524288 * n
/-- ADC_BLOCKED[31:0] of instance n (R330). -/
abbrev ADC_BLOCKED (n : Nat) : Fld := 8590106656 + 524288 * n
/-- ACQ_CTRL[31:31] of instance n (R332). -/
abbrev ACQ_CTRL.FORCE (n : Nat) : Fld := 8592033729 + 131072 * n
/-- ACQ_CTRL[30:30] of instance n (R332). -/
abbrev ACQ_CTRL.ARM (n : Nat) : Fld := 8592033665 + 131072 * n
/-- ACQ_CTRL[29:29] of instance n (R332). -/
abbrev ACQ_CTRL.DISARM (n : Nat) : Fld := 8592033601 + 131072 * n
/-- ACQ_CTRL[26:26] of instance n (R332). -/
abbrev ACQ_CTRL.FIR_EN (n : Nat) : Fld := 8592033409 + 131072 * n
/-- ACQ_CTRL[25:25] of instance n (R332). -/
abbrev ACQ_CTRL.SPILL (n : Nat) : Fld := 8592033345 + 131072 * n
/-- ACQ_CTRL[24:24] of instance n (R332). -/
abbrev ACQ_CTRL.HOLD_MODE (n : Nat) : Fld := 8592033281 + 131072 * n
/-- ACQ_CTRL[23:20] of instance n (R332). -/
abbrev ACQ_CTRL.DEC (n : Nat) : Fld := 8592033028 + 131072 * n
/-- ACQ_CTRL[19:17] of instance n (R332). -/
abbrev ACQ_CTRL.MEAS_WORD (n : Nat) : Fld := 8592032835 + 131072 * n
/-- ACQ_CTRL[16:16] of instance n (R332). -/
abbrev ACQ_CTRL.ALL_INPUTS (n : Nat) : Fld := 8592032769 + 131072 * n
/-- ACQ_CTRL[15:11] of instance n (R332). -/
abbrev ACQ_CTRL.INPUT (n : Nat) : Fld := 8592032453 + 131072 * n
/-- ACQ_CTRL[10:8] of instance n (R332). -/
abbrev ACQ_CTRL.SOURCE (n : Nat) : Fld := 8592032259 + 131072 * n
/-- ACQ_CTRL[0:0] of instance n (R332). -/
abbrev ACQ_CTRL.MODE (n : Nat) : Fld := 8592031745 + 131072 * n
/-- ACQ_TRIGMASK[20:0] of instance n (R333). -/
abbrev ACQ_TRIGMASK (n : Nat) : Fld := 8592039957 + 131072 * n
/-- ACQ_PRE[23:0] of instance n (R333). -/
abbrev ACQ_PRE (n : Nat) : Fld := 8592048152 + 131072 * n
/-- ACQ_POST[31:0] of instance n (R333). -/
abbrev ACQ_POST (n : Nat) : Fld := 8592056352 + 131072 * n
/-- ACQ_HOLD[31:0] of instance n (R333). -/
abbrev ACQ_HOLD (n : Nat) : Fld := 8592064544 + 131072 * n
/-- ACQ_BUFBASE[31:0] of instance n (R333). -/
abbrev ACQ_BUFBASE (n : Nat) : Fld := 8592072736 + 131072 * n
/-- ACQ_BUFSIZE[31:0] of instance n (R333). -/
abbrev ACQ_BUFSIZE (n : Nat) : Fld := 8592080928 + 131072 * n
/-- ACQ_STATUS[5:5] of instance n (R333). -/
abbrev ACQ_STATUS.SPILLING (n : Nat) : Fld := 8592089409 + 131072 * n
/-- ACQ_STATUS[4:4] of instance n (R333). -/
abbrev ACQ_STATUS.ARM_REFUSED (n : Nat) : Fld := 8592089345 + 131072 * n
/-- ACQ_STATUS[3:3] of instance n (R333). -/
abbrev ACQ_STATUS.HOLDOFF (n : Nat) : Fld := 8592089281 + 131072 * n
/-- ACQ_STATUS[2:2] of instance n (R333). -/
abbrev ACQ_STATUS.CAPTURING (n : Nat) : Fld := 8592089217 + 131072 * n
/-- ACQ_STATUS[1:1] of instance n (R333). -/
abbrev ACQ_STATUS.ARMED (n : Nat) : Fld := 8592089153 + 131072 * n
/-- ACQ_STATUS[0:0] of instance n (R333). -/
abbrev ACQ_STATUS.RECORD_READY (n : Nat) : Fld := 8592089089 + 131072 * n
/-- ACQ_ET[23:16] of instance n (R333). -/
abbrev ACQ_ET.ET_START (n : Nat) : Fld := 8592098312 + 131072 * n
/-- ACQ_ET[15:12] of instance n (R333). -/
abbrev ACQ_ET.ET_SAMPLES (n : Nat) : Fld := 8592098052 + 131072 * n
/-- ACQ_ET[9:0] of instance n (R333). -/
abbrev ACQ_ET.ET_MANIFEST (n : Nat) : Fld := 8592097290 + 131072 * n
/-- ACQ_DEAD[31:0] of instance n (R333). -/
abbrev ACQ_DEAD (n : Nat) : Fld := 8592105504 + 131072 * n
/-- ACQ_OVERLAP[31:0] of instance n (R333). -/
abbrev ACQ_OVERLAP (n : Nat) : Fld := 8592113696 + 131072 * n
/-- ACQ_GAPS[31:0] of instance n (R333). -/
abbrev ACQ_GAPS (n : Nat) : Fld := 8592121888 + 131072 * n
/-- ACQ_RECORDS[31:0] of instance n (R333). -/
abbrev ACQ_RECORDS (n : Nat) : Fld := 8592130080 + 131072 * n
/-- TRIG_CFG[28:26] of instance n (R334). -/
abbrev TRIG_CFG.MODE (n : Nat) : Fld := 8594130563 + 16384 * n
/-- TRIG_CFG[25:24] of instance n (R334). -/
abbrev TRIG_CFG.SRC (n : Nat) : Fld := 8594130434 + 16384 * n
/-- TRIG_CFG[23:19] of instance n (R334). -/
abbrev TRIG_CFG.INPUT (n : Nat) : Fld := 8594130117 + 16384 * n
/-- TRIG_CFG[11:0] of instance n (R334). -/
abbrev TRIG_CFG.HYST (n : Nat) : Fld := 8594128908 + 16384 * n
/-- TRIG_LEVEL[27:16] of instance n (R334). -/
abbrev TRIG_LEVEL.LEVEL_HI (n : Nat) : Fld := 8594138124 + 16384 * n
/-- TRIG_LEVEL[11:0] of instance n (R334). -/
abbrev TRIG_LEVEL.LEVEL (n : Nat) : Fld := 8594137100 + 16384 * n
/-- OUT_CTRL[1:0] (R306). -/
abbrev OUT_CTRL.RECORD_STREAM : Fld := 10737418242
/-- OUT_STATUS[9:9] (R305). -/
abbrev OUT_STATUS.TABLE_READY : Fld := 10737427009
/-- OUT_STATUS[8:8] (R305). -/
abbrev OUT_STATUS.TABLE_BANK : Fld := 10737426945
/-- OUT_STATUS[2:2] (R305). -/
abbrev OUT_STATUS.STATE_ERR : Fld := 10737426561
/-- OUT_STATUS[1:1] (R305). -/
abbrev OUT_STATUS.NOSHRINK : Fld := 10737426497
/-- OUT_STATUS[0:0] (R305). -/
abbrev OUT_STATUS.PB_OVERRUN : Fld := 10737426433
/-- OUT_SCFG[11:8] of instance n (R304). -/
abbrev OUT_SCFG.MAX_ECHOES (n : Nat) : Fld := 10737451524 + 65536 * n
/-- OUT_SCFG[7:6] of instance n (R304). -/
abbrev OUT_SCFG.HISTORY_RESET (n : Nat) : Fld := 10737451394 + 65536 * n
/-- OUT_SCFG[5:4] of instance n (R304). -/
abbrev OUT_SCFG.PORT (n : Nat) : Fld := 10737451266 + 65536 * n
/-- OUT_SCFG[3:3] of instance n (R304). -/
abbrev OUT_SCFG.OMIT_EMPTY (n : Nat) : Fld := 10737451201 + 65536 * n
/-- OUT_SCFG[2:2] of instance n (R304). -/
abbrev OUT_SCFG.COMPRESS (n : Nat) : Fld := 10737451137 + 65536 * n
/-- OUT_SCFG[1:1] of instance n (R304). -/
abbrev OUT_SCFG.FORMAT (n : Nat) : Fld := 10737451073 + 65536 * n
/-- OUT_SCFG[0:0] of instance n (R304). -/
abbrev OUT_SCFG.EN (n : Nat) : Fld := 10737451009 + 65536 * n
/-- OUT_SDST[31:0] of instance n (R306). -/
abbrev OUT_SDST (n : Nat) : Fld := 10737459232 + 65536 * n
/-- OUT_SPORT[31:16] of instance n (R306). -/
abbrev OUT_SPORT.SRC (n : Nat) : Fld := 10737468432 + 65536 * n
/-- OUT_SPORT[15:0] of instance n (R306). -/
abbrev OUT_SPORT.DST (n : Nat) : Fld := 10737467408 + 65536 * n
/-- OUT_SRATE[15:0] of instance n (R306). -/
abbrev OUT_SRATE.RATE (n : Nat) : Fld := 10737475600 + 65536 * n
/-- OUT_SLAUNCH[19:0] of instance n (R306). -/
abbrev OUT_SLAUNCH.OFFSET (n : Nat) : Fld := 10737483796 + 65536 * n
/-- OUT_SVLAN[15:15] of instance n (R306). -/
abbrev OUT_SVLAN.TAG (n : Nat) : Fld := 10737492929 + 65536 * n
/-- OUT_SVLAN[14:12] of instance n (R306). -/
abbrev OUT_SVLAN.PCP (n : Nat) : Fld := 10737492739 + 65536 * n
/-- OUT_SVLAN[11:0] of instance n (R306). -/
abbrev OUT_SVLAN.VID (n : Nat) : Fld := 10737491980 + 65536 * n
/-- OUT_SMTU[13:0] of instance n (R306). -/
abbrev OUT_SMTU.MTU (n : Nat) : Fld := 10737500174 + 65536 * n
/-- OUT_TRUNC_ECHOES[31:0] (R306). -/
abbrev OUT_TRUNC_ECHOES : Fld := 10737680416
/-- OUT_PB_OVERRUN[31:0] (R306). -/
abbrev OUT_PB_OVERRUN : Fld := 10737688608
/-- OUT_DGRAMS[31:0] of instance n (R306). -/
abbrev OUT_DGRAMS (n : Nat) : Fld := 10737942560 + 32768 * n
/-- OUT_ORIG_BYTES[31:0] of instance n (R306). -/
abbrev OUT_ORIG_BYTES (n : Nat) : Fld := 10737950752 + 32768 * n
/-- OUT_SENT_BYTES[31:0] of instance n (R306). -/
abbrev OUT_SENT_BYTES (n : Nat) : Fld := 10737958944 + 32768 * n
/-- OUT_NOSHRINK[31:0] of instance n (R306). -/
abbrev OUT_NOSHRINK (n : Nat) : Fld := 10737967136 + 32768 * n
/-- MEM_STATUS[31:16] (R354). -/
abbrev MEM_STATUS.FITTED_GIB : Fld := 12884902928
/-- MEM_STATUS[1:1] (R354). -/
abbrev MEM_STATUS.UNCORR : Fld := 12884901953
/-- MEM_STATUS[0:0] (R354). -/
abbrev MEM_STATUS.CORR : Fld := 12884901889
/-- MEM_SCRUB[4:0] (R355). -/
abbrev MEM_SCRUB.HOURS : Fld := 12884910085
/-- MEM_CORR[31:0] (R355). -/
abbrev MEM_CORR : Fld := 12884918304
/-- MEM_UNCORR[31:0] (R355). -/
abbrev MEM_UNCORR : Fld := 12884926496
/-- MEM_LAST_ADDR[31:0] (R355). -/
abbrev MEM_LAST_ADDR : Fld := 12884934688
/-- REC_STATUS[3:0] (R355). -/
abbrev REC_STATUS.STATE : Fld := 13019119620
/-- REC_INCIDENTS[31:0] (R355). -/
abbrev REC_INCIDENTS : Fld := 13019136032
/-- REC_LOST[31:0] (R355). -/
abbrev REC_LOST : Fld := 13019144224
/-- REC_RING_LOST[31:0] (R355). -/
abbrev REC_RING_LOST : Fld := 13019152416
/-- TRIGGERS_DROPPED[31:0] (R355). -/
abbrev TRIGGERS_DROPPED : Fld := 13019160608
/-- ETH_CTRL[9:9] of instance n (R391). -/
abbrev ETH_CTRL.RESTART (n : Nat) : Fld := 15032386113 + 524288 * n
/-- ETH_CTRL[8:8] of instance n (R391). -/
abbrev ETH_CTRL.BASER_FEC (n : Nat) : Fld := 15032386049 + 524288 * n
/-- ETH_CTRL[7:7] of instance n (R391). -/
abbrev ETH_CTRL.RS_FEC (n : Nat) : Fld := 15032385985 + 524288 * n
/-- ETH_CTRL[6:4] of instance n (R391). -/
abbrev ETH_CTRL.ADVERTISE (n : Nat) : Fld := 15032385795 + 524288 * n
/-- ETH_CTRL[3:1] of instance n (R391). -/
abbrev ETH_CTRL.MODE (n : Nat) : Fld := 15032385603 + 524288 * n
/-- ETH_CTRL[0:0] of instance n (R391). -/
abbrev ETH_CTRL.EN (n : Nat) : Fld := 15032385537 + 524288 * n
/-- ETH_STATUS[8:8] of instance n (R394). -/
abbrev ETH_STATUS.LAN_MISSING (n : Nat) : Fld := 15032394241 + 524288 * n
/-- ETH_STATUS[7:7] of instance n (R394). -/
abbrev ETH_STATUS.AN_DONE (n : Nat) : Fld := 15032394177 + 524288 * n
/-- ETH_STATUS[6:6] of instance n (R394). -/
abbrev ETH_STATUS.TRAINING (n : Nat) : Fld := 15032394113 + 524288 * n
/-- ETH_STATUS[5:5] of instance n (R394). -/
abbrev ETH_STATUS.BLOCK_LOCK (n : Nat) : Fld := 15032394049 + 524288 * n
/-- ETH_STATUS[4:3] of instance n (R394). -/
abbrev ETH_STATUS.FEC (n : Nat) : Fld := 15032393922 + 524288 * n
/-- ETH_STATUS[2:1] of instance n (R394). -/
abbrev ETH_STATUS.SPEED (n : Nat) : Fld := 15032393794 + 524288 * n
/-- ETH_STATUS[0:0] of instance n (R394). -/
abbrev ETH_STATUS.LINK (n : Nat) : Fld := 15032393729 + 524288 * n
/-- ETH_LAT[31:16] of instance n (R394). -/
abbrev ETH_LAT.EGRESS (n : Nat) : Fld := 15032402960 + 524288 * n
/-- ETH_LAT[15:0] of instance n (R394). -/
abbrev ETH_LAT.INGRESS (n : Nat) : Fld := 15032401936 + 524288 * n
/-- ETH_RX_DISCARD[31:0] of instance n (R394). -/
abbrev ETH_RX_DISCARD (n : Nat) : Fld := 15032516640 + 524288 * n
/-- ETH_ARP_MISS[31:0] of instance n (R394). -/
abbrev ETH_ARP_MISS (n : Nat) : Fld := 15032524832 + 524288 * n
/-- ETH_LATE_SENT[31:0] of instance n (R394). -/
abbrev ETH_LATE_SENT (n : Nat) : Fld := 15032533024 + 524288 * n
/-- ETH_LATE_DROPPED[31:0] of instance n (R394). -/
abbrev ETH_LATE_DROPPED (n : Nat) : Fld := 15032541216 + 524288 * n
/-- ETH_QOVF[31:0] of instance n (R394). -/
abbrev ETH_QOVF (n : Nat) : Fld := 15032549408 + 524288 * n
/-- NET_MAC_HI[15:0] (R394). -/
abbrev NET_MAC_HI : Fld := 15033434128
/-- NET_MAC_LO[31:0] (R394). -/
abbrev NET_MAC_LO : Fld := 15033442336
/-- NET_IP[31:0] (R394). -/
abbrev NET_IP : Fld := 15033450528
/-- NET_MASK[31:0] (R394). -/
abbrev NET_MASK : Fld := 15033458720
/-- NET_GW[31:0] (R394). -/
abbrev NET_GW : Fld := 15033466912
/-- NET_VLAN[16:16] (R394). -/
abbrev NET_VLAN.ACCEPT_UNTAGGED : Fld := 15033476097
/-- NET_VLAN[15:15] (R394). -/
abbrev NET_VLAN.TAG : Fld := 15033476033
/-- NET_VLAN[14:12] (R394). -/
abbrev NET_VLAN.PCP : Fld := 15033475843
/-- NET_VLAN[11:0] (R394). -/
abbrev NET_VLAN.VID : Fld := 15033475084
/-- NET_PRP[0:0] (R394). -/
abbrev NET_PRP.EN : Fld := 15033483265
/-- NET_LAUNCH[31:16] (R394). -/
abbrev NET_LAUNCH.LATE_TOL : Fld := 15033492496
/-- NET_LAUNCH[2:2] (R394). -/
abbrev NET_LAUNCH.DROP_Q4 : Fld := 15033491585
/-- NET_LAUNCH[1:1] (R394). -/
abbrev NET_LAUNCH.DROP_Q3 : Fld := 15033491521
/-- NET_LAUNCH[0:0] (R394). -/
abbrev NET_LAUNCH.DROP_Q2 : Fld := 15033491457
/-- PRP_DUP[31:0] (R394). -/
abbrev PRP_DUP : Fld := 15033499680
/-- PRP_WRONG_LAN[31:0] (R394). -/
abbrev PRP_WRONG_LAN : Fld := 15033507872
/-- PTP_CTRL[31:24] (R394). -/
abbrev PTP_CTRL.PRIORITY2 : Fld := 15033959944
/-- PTP_CTRL[23:16] (R394). -/
abbrev PTP_CTRL.PRIORITY1 : Fld := 15033959432
/-- PTP_CTRL[15:8] (R394). -/
abbrev PTP_CTRL.DOMAIN : Fld := 15033958920
/-- PTP_CTRL[4:3] (R394). -/
abbrev PTP_CTRL.PORT_SELECT : Fld := 15033958594
/-- PTP_CTRL[2:2] (R394). -/
abbrev PTP_CTRL.SLAVE_ONLY : Fld := 15033958529
/-- PTP_CTRL[1:0] (R394). -/
abbrev PTP_CTRL.PROFILE : Fld := 15033958402
/-- PTP_INTERVAL[23:16] (R394). -/
abbrev PTP_INTERVAL.ANNOUNCE : Fld := 15033967624
/-- PTP_INTERVAL[15:8] (R394). -/
abbrev PTP_INTERVAL.DELAY_REQ : Fld := 15033967112
/-- PTP_INTERVAL[7:0] (R394). -/
abbrev PTP_INTERVAL.SYNC : Fld := 15033966600
/-- SERVO_GAIN[31:16] (R394). -/
abbrev SERVO_GAIN.KI : Fld := 15033975824
/-- SERVO_GAIN[15:0] (R394). -/
abbrev SERVO_GAIN.KP : Fld := 15033974800
/-- SERVO_FMAX[31:0] (R394). -/
abbrev SERVO_FMAX : Fld := 15033983008
/-- SERVO_LIM[31:16] (R394). -/
abbrev SERVO_LIM.UNLOCK_NS : Fld := 15033992208
/-- SERVO_LIM[15:0] (R394). -/
abbrev SERVO_LIM.LOCK_NS : Fld := 15033991184
/-- SERVO_PHASE[31:0] (R394). -/
abbrev SERVO_PHASE : Fld := 15033999392
/-- PTP_OFFSET[31:0] (R394). -/
abbrev PTP_OFFSET : Fld := 15034007584
/-- PTP_PATH[31:0] (R394). -/
abbrev PTP_PATH : Fld := 15034015776
/-- PTP_STATUS[2:2] (R394). -/
abbrev PTP_STATUS.ACTIVE_PORT : Fld := 15034024065
/-- PTP_STATUS[1:1] (R394). -/
abbrev PTP_STATUS.HOLDOVER : Fld := 15034024001
/-- PTP_STATUS[0:0] (R394). -/
abbrev PTP_STATUS.LOCKED : Fld := 15034023937
/-- BX_CTRL[5:5] of instance n (R392). -/
abbrev BX_CTRL.RESTART (n : Nat) : Fld := 16106127681 + 524288 * n
/-- BX_CTRL[4:3] of instance n (R392). -/
abbrev BX_CTRL.LANE_EN (n : Nat) : Fld := 16106127554 + 524288 * n
/-- BX_CTRL[2:1] of instance n (R392). -/
abbrev BX_CTRL.MAX_SPEED (n : Nat) : Fld := 16106127426 + 524288 * n
/-- BX_CTRL[0:0] of instance n (R392). -/
abbrev BX_CTRL.EN (n : Nat) : Fld := 16106127361 + 524288 * n
/-- BX_STATUS[10:10] of instance n (R394). -/
abbrev BX_STATUS.FALLBACK (n : Nat) : Fld := 16106136193 + 524288 * n
/-- BX_STATUS[9:8] of instance n (R394). -/
abbrev BX_STATUS.PEER_POSITION (n : Nat) : Fld := 16106136066 + 524288 * n
/-- BX_STATUS[7:6] of instance n (R394). -/
abbrev BX_STATUS.PEER_ROLE (n : Nat) : Fld := 16106135938 + 524288 * n
/-- BX_STATUS[5:5] of instance n (R394). -/
abbrev BX_STATUS.TRAINING (n : Nat) : Fld := 16106135873 + 524288 * n
/-- BX_STATUS[4:3] of instance n (R394). -/
abbrev BX_STATUS.LANES_ACTIVE (n : Nat) : Fld := 16106135746 + 524288 * n
/-- BX_STATUS[2:1] of instance n (R394). -/
abbrev BX_STATUS.SPEED (n : Nat) : Fld := 16106135618 + 524288 * n
/-- BX_STATUS[0:0] of instance n (R394). -/
abbrev BX_STATUS.LINK_UP (n : Nat) : Fld := 16106135553 + 524288 * n
/-- BX_DELAY[31:0] of instance n (R394). -/
abbrev BX_DELAY (n : Nat) : Fld := 16106143776 + 524288 * n
/-- BX_ASYM[31:0] of instance n (R394). -/
abbrev BX_ASYM (n : Nat) : Fld := 16106151968 + 524288 * n
/-- BX_LOCK_LOSS[31:0] of instance n (R394). -/
abbrev BX_LOCK_LOSS (n : Nat) : Fld := 16106258464 + 524288 * n
/-- BX_FRAME_ERR[31:0] of instance n (R394). -/
abbrev BX_FRAME_ERR (n : Nat) : Fld := 16106266656 + 524288 * n
/-- BX_CTRL_ERR[31:0] of instance n (R394). -/
abbrev BX_CTRL_ERR (n : Nat) : Fld := 16106274848 + 524288 * n
/-- BX_STRING[31:16] (R393). -/
abbrev BX_STRING.LATENCY : Fld := 16107176976
/-- BX_STRING[8:8] (R393). -/
abbrev BX_STRING.TICK_LOCKED : Fld := 16107176449
/-- BX_STRING[7:7] (R393). -/
abbrev BX_STRING.POSITIONED : Fld := 16107176385
/-- BX_STRING[6:6] (R393). -/
abbrev BX_STRING.FORWARD : Fld := 16107176321
/-- BX_STRING[5:4] (R393). -/
abbrev BX_STRING.LOCK_MODE : Fld := 16107176194
/-- BX_STRING[3:2] (R393). -/
abbrev BX_STRING.POSITION : Fld := 16107176066
/-- BX_STRING[1:0] (R393). -/
abbrev BX_STRING.ROLE : Fld := 16107175938
/-- BX_STRING2[31:16] (R394). -/
abbrev BX_STRING2.TIMEOUT : Fld := 16107185168
/-- BX_STRING2[15:0] (R394). -/
abbrev BX_STRING2.SLIP_LIM : Fld := 16107184144
/-- BX_FWD[31:16] (R394). -/
abbrev BX_FWD.FWD_RATE : Fld := 16107193360
/-- BX_FWD[15:0] (R394). -/
abbrev BX_FWD.FWD_DELAY : Fld := 16107192336
/-- BX_SLIPS[31:0] (R394). -/
abbrev BX_SLIPS : Fld := 16107307040
/-- BX_SKIPS[31:0] (R394). -/
abbrev BX_SKIPS : Fld := 16107315232
/-- BX_FWD_DROPPED[31:0] (R394). -/
abbrev BX_FWD_DROPPED : Fld := 16107323424
/-- TOLL_STATUS[11:11] (R441). -/
abbrev TOLL_STATUS.TG_CONNECTED : Fld := 17179869889
/-- TOLL_STATUS[10:10] (R441). -/
abbrev TOLL_STATUS.ZONE_BANK : Fld := 17179869825
/-- TOLL_STATUS[9:9] (R441). -/
abbrev TOLL_STATUS.CONFIG_VALID : Fld := 17179869761
/-- TOLL_STATUS[8:8] (R441). -/
abbrev TOLL_STATUS.HEALTHY : Fld := 17179869697
/-- TOLL_STATUS[7:4] (R441). -/
abbrev TOLL_STATUS.CH_FAULT_CAUSE : Fld := 17179869444
/-- TOLL_STATUS[3:3] (R441). -/
abbrev TOLL_STATUS.SAFE_STATE : Fld := 17179869377
/-- TOLL_STATUS[2:2] (R441). -/
abbrev TOLL_STATUS.HOLD_DEMAND : Fld := 17179869313
/-- TOLL_STATUS[1:1] (R441). -/
abbrev TOLL_STATUS.PROC_RUN : Fld := 17179869249
/-- TOLL_STATUS[0:0] (R441). -/
abbrev TOLL_STATUS.LOGIC_RUN : Fld := 17179869185
/-- TOLL_DEMAND[24:0] (R443). -/
abbrev TOLL_DEMAND : Fld := 17179877401
/-- TOLL_FAULT[24:0] (R443). -/
abbrev TOLL_FAULT : Fld := 17179885593
/-- TOLL_SO[15:12] (R442). -/
abbrev TOLL_SO.FAULT : Fld := 17179894532
/-- TOLL_SO[11:8] (R442). -/
abbrev TOLL_SO.TESTING : Fld := 17179894276
/-- TOLL_SO[7:4] (R442). -/
abbrev TOLL_SO.READBACK : Fld := 17179894020
/-- TOLL_SO[3:0] (R442). -/
abbrev TOLL_SO.ENERGISED : Fld := 17179893764
/-- TOLL_SI_RAW[15:0] (R443). -/
abbrev TOLL_SI_RAW : Fld := 17179901968
/-- TOLL_FIELD_MUTE[15:0] (R443). -/
abbrev TOLL_FIELD_MUTE : Fld := 17179910160
/-- TOLL_TG_SEQ[31:0] (R443). -/
abbrev TOLL_TG_SEQ : Fld := 17179918368
/-- TG_ACCEPTED[31:0] (R443). -/
abbrev TG_ACCEPTED : Fld := 17180000288
/-- TG_REJECTED[31:0] (R443). -/
abbrev TG_REJECTED : Fld := 17180008480
/-- TG_COPY_MISMATCH[31:0] (R443). -/
abbrev TG_COPY_MISMATCH : Fld := 17180016672
/-- TG_SINGLE[31:0] (R443). -/
abbrev TG_SINGLE : Fld := 17180024864
/-- TG_LOST[31:0] (R443). -/
abbrev TG_LOST : Fld := 17180033056
/-- FIELD_DISAGREE[31:0] (R443). -/
abbrev FIELD_DISAGREE : Fld := 17180041248
/-- SO_TESTS[31:0] (R443). -/
abbrev SO_TESTS : Fld := 17180049440
/-- SO_TEST_FAILS[31:0] (R443). -/
abbrev SO_TEST_FAILS : Fld := 17180057632
/-- THERM_STATUS[31:16] (R515). -/
abbrev THERM_STATUS.TJ : Fld := 19327353872
/-- THERM_STATUS[10:8] (R515). -/
abbrev THERM_STATUS.LEVEL : Fld := 19327353347
/-- THERM_STATUS[4:4] (R515). -/
abbrev THERM_STATUS.SUBST : Fld := 19327353089
/-- THERM_STATUS[3:3] (R515). -/
abbrev THERM_STATUS.COVERAGE_LOST : Fld := 19327353025
/-- THERM_STATUS[2:2] (R515). -/
abbrev THERM_STATUS.SHUTDOWN : Fld := 19327352961
/-- THERM_STATUS[1:1] (R515). -/
abbrev THERM_STATUS.THROTTLE : Fld := 19327352897
/-- THERM_STATUS[0:0] (R515). -/
abbrev THERM_STATUS.WARNING : Fld := 19327352833
/-- THERM_FAILED[23:0] (R516). -/
abbrev THERM_FAILED : Fld := 19327361048
/-- THERM_TS[31:31] of instance n (R516). -/
abbrev THERM_TS.VALID (n : Nat) : Fld := 19327879105 + 8192 * n
/-- THERM_TS[30:30] of instance n (R516). -/
abbrev THERM_TS.SUBST (n : Nat) : Fld := 19327879041 + 8192 * n
/-- THERM_TS[15:0] of instance n (R516). -/
abbrev THERM_TS.READING (n : Nat) : Fld := 19327877136 + 8192 * n
/-- EVT_STATUS[23:0] of instance n (R474). -/
abbrev EVT_STATUS (n : Nat) : Fld := 21474836504 + 32768 * n
/-- EVT_ENABLE[23:0] of instance n (R474). -/
abbrev EVT_ENABLE (n : Nat) : Fld := 21474844696 + 32768 * n
/-- EVT_ROUTE_LO[31:0] of instance n (R474). -/
abbrev EVT_ROUTE_LO (n : Nat) : Fld := 21474852896 + 32768 * n
/-- EVT_ROUTE_HI[15:0] of instance n (R474). -/
abbrev EVT_ROUTE_HI (n : Nat) : Fld := 21474861072 + 32768 * n
/-- EVT_PENDING[17:17] (R474). -/
abbrev EVT_PENDING.IRQP : Fld := 21475361857
/-- EVT_PENDING[16:16] (R474). -/
abbrev EVT_PENDING.IRQ : Fld := 21475361793
/-- EVT_PENDING[12:0] (R474). -/
abbrev EVT_PENDING.GROUP : Fld := 21475360781
/-- FUSE_STATUS[8:8] (R477). -/
abbrev FUSE_STATUS.LOCAL_MAINT : Fld := 23622320641
/-- FUSE_STATUS[3:3] (R477). -/
abbrev FUSE_STATUS.BSCAN_LOCK : Fld := 23622320321
/-- FUSE_STATUS[2:2] (R477). -/
abbrev FUSE_STATUS.TEST_LOCK : Fld := 23622320257
/-- FUSE_STATUS[1:1] (R477). -/
abbrev FUSE_STATUS.LOCAL_LOCK : Fld := 23622320193
/-- FUSE_STATUS[0:0] (R477). -/
abbrev FUSE_STATUS.FIELD_LOCK : Fld := 23622320129
/-- Dictionary entry 0x2100.01, held by no register (R36). -/
abbrev P.mode : Fld := 554185000968
/-- Dictionary entry 0x2100.02, held by no register (R37). -/
abbrev P.shotPeriod : Fld := 554185003024
/-- Dictionary entry 0x2100.03, held by no register (R37). -/
abbrev P.shotsPerStage : Fld := 554185005072
/-- Dictionary entry 0x2100.04, held by no register (R37). -/
abbrev P.ditherEnable : Fld := 554185007105
/-- Dictionary entry 0x2100.05, held by no register (R37). -/
abbrev P.stagesPerFrame : Fld := 554185009168
/-- Dictionary entry 0x2100.06, held by no register (R37). -/
abbrev P.framePacing : Fld := 554185011208
/-- Dictionary entry 0x2200.04, held by no register (R120). -/
abbrev P.armSettle : Fld := 554319224848
/-- Dictionary entry 0x2500.01, held by no register (R356). -/
abbrev P.preWindow : Fld := 554721871904
/-- Dictionary entry 0x2500.02, held by no register (R356). -/
abbrev P.postWindow : Fld := 554721873952
/-- Dictionary entry 0x2500.03, held by no register (R356). -/
abbrev P.ringSize : Fld := 554721876000
/-- Dictionary entry 0x2500.08, held by no register (R356). -/
abbrev P.readSelect : Fld := 554721886240
/-- Dictionary entry 0x1200.03, held by no register (R479). -/
abbrev P.sessionTimeout : Fld := 552171739152
/-- Dictionary entry 0x1200.09, held by no register (R479). -/
abbrev P.udpPort : Fld := 552171751440
/-- Dictionary entry 0x1400.06, held by no register (R517). -/
abbrev P.confirmTime : Fld := 552440180752
/-- Dictionary entry 0x1500.01, held by no register (R517). -/
abbrev P.repeatCount : Fld := 552574388232
/-- Dictionary entry 0x1500.02, held by no register (R517). -/
abbrev P.repeatWindow : Fld := 552574390288
/-- Dictionary entry 0x1500.03, held by no register (R517). -/
abbrev P.linkWindow : Fld := 552574392336
/-- Dictionary entry 0x4100.0A, held by no register (R517). -/
abbrev P.recalPeriod : Fld := 558479986720
/-- Dictionary entry 0x4100.09, held by no register (R517). -/
abbrev P.rest : Fld := 558479984656
/-- Dictionary entry 0x2500.06, held by no register (R356). -/
abbrev P.protect : Fld := 554721882144
/-- Dictionary entry 0x42FF.01, held by no register (R82). -/
abbrev P.rowLeadReg : Fld := 558747879425

end F

/-- Registers of the space, part 0 (rules: R28, R38, R65, R66, R67, R468, R469, R470, R516). -/
def regTable0 : List RegDesc :=
  [⟨0x0, 1, 4, [⟨0, 32, .ro, .immediate⟩]⟩,
   ⟨0x4, 1, 4, [⟨8, 8, .ro, .immediate⟩, ⟨0, 8, .ro, .immediate⟩]⟩,
   ⟨0x8, 1, 4, [⟨0, 32, .ro, .immediate⟩]⟩,
   ⟨0xC, 1, 4, [⟨0, 32, .ro, .immediate⟩]⟩,
   ⟨0x10, 1, 4, [⟨12, 4, .ro, .immediate⟩, ⟨8, 2, .ro, .immediate⟩, ⟨4, 3, .rwp, .immediate⟩, ⟨0, 3, .ro, .immediate⟩]⟩,
   ⟨0x14, 1, 4, [⟨0, 32, .ro, .immediate⟩]⟩,
   ⟨0x20, 1, 4, [⟨1, 1, .w1c, .immediate⟩, ⟨0, 1, .w1c, .immediate⟩]⟩,
   ⟨0x30, 1, 4, [⟨12, 1, .ro, .immediate⟩, ⟨11, 1, .ro, .immediate⟩, ⟨10, 1, .ro, .immediate⟩, ⟨9, 1, .ro, .immediate⟩, ⟨8, 1, .ro, .immediate⟩, ⟨0, 8, .ro, .immediate⟩]⟩,
   ⟨0x34, 1, 4, [⟨0, 1, .wo, .immediate⟩]⟩,
   ⟨0x38, 1, 4, [⟨5, 1, .ro, .immediate⟩, ⟨4, 1, .ro, .immediate⟩, ⟨3, 1, .ro, .immediate⟩, ⟨2, 1, .ro, .immediate⟩, ⟨0, 2, .ro, .immediate⟩]⟩,
   ⟨0x40, 1, 4, [⟨24, 8, .ro, .immediate⟩, ⟨19, 1, .ro, .immediate⟩, ⟨18, 1, .ro, .immediate⟩, ⟨17, 1, .wo, .immediate⟩, ⟨16, 1, .wo, .immediate⟩, ⟨15, 1, .wo, .immediate⟩, ⟨0, 12, .rwp, .immediate⟩]⟩,
   ⟨0x44, 1, 4, [⟨0, 32, .rwp, .immediate⟩]⟩,
   ⟨0x48, 1, 4, [⟨0, 32, .rwp, .immediate⟩]⟩,
   ⟨0x10000, 1, 4, [⟨16, 16, .ro, .immediate⟩, ⟨12, 4, .ro, .immediate⟩, ⟨5, 1, .ro, .immediate⟩, ⟨4, 1, .ro, .immediate⟩, ⟨3, 1, .ro, .immediate⟩, ⟨2, 1, .ro, .immediate⟩, ⟨0, 1, .ro, .immediate⟩]⟩,
   ⟨0x10004, 1, 4, [⟨8, 1, .wo, .immediate⟩, ⟨4, 1, .wo, .immediate⟩, ⟨0, 1, .rwp, .immediate⟩]⟩,
   ⟨0x10010, 1, 4, [⟨16, 13, .rwp, .immediate⟩, ⟨0, 16, .rwp, .immediate⟩]⟩]

/-- Registers of the space, part 1 (rules: R68, R69, R70, R71, R72, R73, R394, R514). -/
def regTable1 : List RegDesc :=
  [⟨0x10014, 1, 4, [⟨31, 1, .w1c, .immediate⟩, ⟨30, 1, .ro, .immediate⟩, ⟨0, 29, .ro, .immediate⟩]⟩,
   ⟨0x10018, 1, 4, [⟨0, 29, .w1c, .immediate⟩]⟩,
   ⟨0x10020, 1, 4, [⟨16, 12, .ro, .immediate⟩, ⟨0, 12, .ro, .immediate⟩]⟩,
   ⟨0x10040, 1, 4, [⟨16, 16, .ro, .immediate⟩, ⟨0, 3, .ro, .immediate⟩]⟩,
   ⟨0x20000, 1, 4, [⟨8, 24, .rwp, .immediate⟩, ⟨1, 1, .wo, .immediate⟩, ⟨0, 1, .rwp, .immediate⟩]⟩,
   ⟨0x20004, 1, 4, [⟨0, 32, .ro, .immediate⟩]⟩,
   ⟨0x20008, 1, 4, [⟨0, 32, .ro, .immediate⟩]⟩,
   ⟨0x2000C, 1, 4, [⟨0, 16, .ro, .immediate⟩]⟩,
   ⟨0x20010, 1, 4, [⟨0, 32, .rwp, .immediate⟩]⟩,
   ⟨0x20014, 1, 4, [⟨0, 32, .rwp, .immediate⟩]⟩,
   ⟨0x20018, 1, 4, [⟨0, 32, .wo, .immediate⟩]⟩,
   ⟨0x2001C, 1, 4, [⟨0, 32, .ro, .immediate⟩]⟩,
   ⟨0x20020, 1, 4, [⟨4, 1, .ro, .immediate⟩, ⟨3, 1, .ro, .immediate⟩, ⟨2, 1, .ro, .immediate⟩, ⟨1, 1, .ro, .immediate⟩, ⟨0, 1, .ro, .immediate⟩]⟩,
   ⟨0x20024, 1, 4, [⟨8, 1, .ro, .stateChange⟩, ⟨0, 2, .rwp, .stateChange⟩]⟩,
   ⟨0x20028, 1, 4, [⟨0, 32, .rwp, .frame⟩]⟩,
   ⟨0x2002C, 1, 4, [⟨0, 32, .rwp, .frame⟩]⟩]

/-- Registers of the space, part 2 (rules: R72, R196, R197, R198, R199, R200, R201, R202, R203, R205, R394). -/
def regTable2 : List RegDesc :=
  [⟨0x20030, 1, 4, [⟨0, 10, .rwp, .immediate⟩]⟩,
   ⟨0x20034, 1, 4, [⟨0, 32, .wo, .immediate⟩]⟩,
   ⟨0x100000, 16, 65536, [⟨16, 1, .rwp, .stage⟩, ⟨8, 1, .rwp, .stage⟩, ⟨0, 7, .rwp, .stage⟩]⟩,
   ⟨0x100004, 16, 65536, [⟨24, 8, .rwp, .stage⟩, ⟨10, 10, .rwp, .stage⟩, ⟨0, 10, .rwp, .stage⟩]⟩,
   ⟨0x100008, 16, 65536, [⟨9, 1, .ro, .immediate⟩, ⟨8, 1, .ro, .immediate⟩, ⟨5, 1, .w1c, .immediate⟩, ⟨4, 1, .w1c, .immediate⟩, ⟨3, 1, .ro, .immediate⟩, ⟨2, 1, .ro, .immediate⟩, ⟨1, 1, .ro, .immediate⟩, ⟨0, 1, .ro, .immediate⟩]⟩,
   ⟨0x10000C, 16, 65536, [⟨16, 16, .ro, .immediate⟩, ⟨0, 16, .ro, .immediate⟩]⟩,
   ⟨0x100010, 16, 65536, [⟨8, 1, .wo, .immediate⟩, ⟨0, 5, .rwp, .immediate⟩]⟩,
   ⟨0x100014, 16, 65536, [⟨16, 16, .ro, .immediate⟩, ⟨0, 16, .ro, .immediate⟩]⟩,
   ⟨0x100018, 16, 65536, [⟨0, 16, .rwp, .stage⟩]⟩,
   ⟨0x100020, 16, 65536, [⟨0, 32, .ro, .immediate⟩]⟩,
   ⟨0x100024, 16, 65536, [⟨0, 32, .ro, .immediate⟩]⟩,
   ⟨0x100040, 16, 65536, [⟨31, 1, .wo, .immediate⟩, ⟨26, 2, .rwp, .immediate⟩, ⟨24, 1, .rwp, .immediate⟩, ⟨16, 5, .rwp, .immediate⟩, ⟨12, 4, .rwp, .immediate⟩]⟩,
   ⟨0x100044, 16, 65536, [⟨0, 20, .rwp, .immediate⟩]⟩,
   ⟨0x100048, 16, 65536, [⟨0, 32, .rwp, .immediate⟩]⟩,
   ⟨0x10004C, 16, 65536, [⟨0, 32, .rwp, .immediate⟩]⟩,
   ⟨0x100050, 16, 65536, [⟨0, 16, .rwp, .immediate⟩]⟩]

/-- Registers of the space, part 3 (rules: R204, R205, R239, R240, R241, R242, R243, R244, R247). -/
def regTable3 : List RegDesc :=
  [⟨0x100054, 16, 65536, [⟨12, 20, .ro, .immediate⟩, ⟨3, 1, .ro, .immediate⟩, ⟨2, 1, .ro, .immediate⟩, ⟨1, 1, .ro, .immediate⟩, ⟨0, 1, .ro, .immediate⟩]⟩,
   ⟨0x100058, 16, 65536, [⟨0, 32, .ro, .immediate⟩]⟩,
   ⟨0x10005C, 16, 65536, [⟨0, 32, .ro, .immediate⟩]⟩,
   ⟨0x100060, 16, 65536, [⟨0, 32, .ro, .immediate⟩]⟩,
   ⟨0x100064, 16, 65536, [⟨0, 32, .ro, .immediate⟩]⟩,
   ⟨0x100068, 16, 65536, [⟨0, 32, .ro, .immediate⟩]⟩,
   ⟨0x200000, 1, 4, [⟨16, 2, .rwp, .frame⟩, ⟨12, 1, .rwp, .frame⟩, ⟨8, 3, .rwp, .frame⟩, ⟨4, 4, .rwp, .frame⟩, ⟨0, 2, .rwp, .frame⟩]⟩,
   ⟨0x200004, 1, 4, [⟨16, 4, .rwp, .frame⟩, ⟨8, 4, .rwp, .frame⟩, ⟨0, 6, .rwp, .frame⟩]⟩,
   ⟨0x200008, 1, 4, [⟨16, 16, .rwp, .frame⟩, ⟨0, 16, .rwp, .frame⟩]⟩,
   ⟨0x20000C, 1, 4, [⟨0, 16, .rwp, .frame⟩]⟩,
   ⟨0x200010, 1, 4, [⟨8, 8, .rwp, .frame⟩, ⟨0, 4, .rwp, .frame⟩]⟩,
   ⟨0x200014, 1, 4, [⟨16, 16, .ro, .immediate⟩, ⟨0, 16, .ro, .immediate⟩]⟩,
   ⟨0x200018, 1, 4, [⟨16, 16, .ro, .immediate⟩, ⟨3, 1, .w1c, .immediate⟩, ⟨2, 1, .w1c, .immediate⟩, ⟨1, 1, .w1c, .immediate⟩, ⟨0, 1, .w1c, .immediate⟩]⟩,
   ⟨0x200020, 1, 4, [⟨0, 32, .ro, .immediate⟩]⟩,
   ⟨0x200024, 1, 4, [⟨0, 32, .ro, .immediate⟩]⟩,
   ⟨0x200028, 1, 4, [⟨0, 32, .ro, .immediate⟩]⟩]

/-- Registers of the space, part 4 (rules: R245, R246, R247, R271, R272, R273, R274, R275). -/
def regTable4 : List RegDesc :=
  [⟨0x20002C, 1, 4, [⟨0, 32, .ro, .immediate⟩]⟩,
   ⟨0x200030, 1, 4, [⟨0, 32, .ro, .immediate⟩]⟩,
   ⟨0x200034, 1, 4, [⟨0, 32, .ro, .immediate⟩]⟩,
   ⟨0x200038, 1, 4, [⟨16, 1, .ro, .immediate⟩, ⟨9, 1, .wo, .immediate⟩, ⟨0, 9, .rwp, .immediate⟩]⟩,
   ⟨0x200040, 16, 4, [⟨5, 1, .ro, .immediate⟩, ⟨0, 5, .ro, .immediate⟩]⟩,
   ⟨0x200100, 1, 4, [⟨22, 1, .ro, .frame⟩, ⟨16, 6, .ro, .frame⟩, ⟨0, 16, .rwp, .frame⟩]⟩,
   ⟨0x200104, 1, 4, [⟨1, 1, .ro, .immediate⟩, ⟨0, 1, .ro, .immediate⟩]⟩,
   ⟨0x200108, 1, 4, [⟨0, 31, .ro, .immediate⟩]⟩,
   ⟨0x200110, 1, 4, [⟨0, 32, .ro, .immediate⟩]⟩,
   ⟨0x200114, 1, 4, [⟨0, 32, .ro, .immediate⟩]⟩,
   ⟨0x200118, 1, 4, [⟨0, 32, .ro, .immediate⟩]⟩,
   ⟨0x20011C, 1, 4, [⟨0, 32, .ro, .immediate⟩]⟩,
   ⟨0x200120, 1, 4, [⟨0, 32, .ro, .immediate⟩]⟩,
   ⟨0x200124, 1, 4, [⟨0, 32, .ro, .immediate⟩]⟩,
   ⟨0x200128, 1, 4, [⟨0, 32, .ro, .immediate⟩]⟩,
   ⟨0x200140, 16, 4, [⟨0, 32, .ro, .immediate⟩]⟩]

/-- Registers of the space, part 5 (rules: R111, R112, R113, R114, R115, R116, R117, R149, R150). -/
def regTable5 : List RegDesc :=
  [⟨0x300000, 1, 4, [⟨10, 2, .rwp, .immediate⟩, ⟨9, 1, .rwp, .immediate⟩, ⟨8, 1, .rwp, .immediate⟩, ⟨4, 1, .rwp, .immediate⟩, ⟨3, 1, .rwp, .immediate⟩, ⟨0, 1, .rwp, .immediate⟩]⟩,
   ⟨0x300004, 1, 4, [⟨15, 1, .w1c, .immediate⟩, ⟨11, 1, .ro, .immediate⟩, ⟨10, 1, .ro, .immediate⟩, ⟨9, 1, .ro, .immediate⟩, ⟨8, 1, .ro, .immediate⟩, ⟨7, 1, .ro, .immediate⟩, ⟨0, 6, .ro, .immediate⟩]⟩,
   ⟨0x300008, 1, 4, [⟨16, 7, .rwp, .frame⟩, ⟨0, 10, .rwp, .frame⟩]⟩,
   ⟨0x300010, 1, 4, [⟨0, 32, .ro, .immediate⟩]⟩,
   ⟨0x300014, 1, 4, [⟨0, 32, .ro, .immediate⟩]⟩,
   ⟨0x340000, 1, 4, [⟨8, 3, .ro, .immediate⟩, ⟨4, 1, .ro, .immediate⟩, ⟨3, 1, .ro, .immediate⟩, ⟨2, 1, .ro, .immediate⟩, ⟨1, 1, .ro, .immediate⟩, ⟨0, 1, .ro, .immediate⟩]⟩,
   ⟨0x340004, 1, 4, [⟨14, 2, .ro, .immediate⟩, ⟨12, 2, .ro, .immediate⟩, ⟨0, 12, .ro, .immediate⟩]⟩,
   ⟨0x340010, 1, 4, [⟨0, 32, .ro, .immediate⟩]⟩,
   ⟨0x340014, 1, 4, [⟨0, 32, .ro, .immediate⟩]⟩,
   ⟨0x340018, 1, 4, [⟨0, 32, .ro, .immediate⟩]⟩,
   ⟨0x34001C, 1, 4, [⟨0, 32, .ro, .immediate⟩]⟩,
   ⟨0x340020, 1, 4, [⟨0, 32, .ro, .immediate⟩]⟩,
   ⟨0x340024, 1, 4, [⟨0, 32, .ro, .immediate⟩]⟩,
   ⟨0x340028, 1, 4, [⟨0, 32, .ro, .immediate⟩]⟩,
   ⟨0x380000, 1, 4, [⟨15, 1, .wo, .control⟩, ⟨12, 2, .rwp, .control⟩, ⟨8, 3, .rwp, .control⟩, ⟨7, 1, .rwp, .control⟩, ⟨4, 1, .rwp, .control⟩, ⟨2, 2, .rwp, .control⟩, ⟨0, 2, .rwp, .control⟩]⟩,
   ⟨0x380004, 1, 4, [⟨19, 1, .w1c, .immediate⟩, ⟨18, 1, .ro, .immediate⟩, ⟨17, 1, .ro, .immediate⟩, ⟨16, 1, .ro, .immediate⟩, ⟨15, 1, .ro, .immediate⟩, ⟨14, 1, .ro, .immediate⟩, ⟨13, 1, .ro, .immediate⟩, ⟨12, 1, .ro, .immediate⟩, ⟨10, 2, .ro, .immediate⟩, ⟨8, 2, .ro, .immediate⟩, ⟨7, 1, .ro, .immediate⟩, ⟨4, 3, .ro, .immediate⟩, ⟨2, 2, .ro, .immediate⟩, ⟨0, 1, .ro, .immediate⟩]⟩]

/-- Registers of the space, part 6 (rules: R151, R152, R153, R154, R155, R156, R330). -/
def regTable6 : List RegDesc :=
  [⟨0x380008, 1, 4, [⟨16, 12, .rwp, .control⟩, ⟨0, 16, .rwp, .control⟩]⟩,
   ⟨0x380010, 4, 4, [⟨13, 2, .rwp, .immediate⟩, ⟨12, 1, .rwp, .immediate⟩, ⟨8, 4, .rwp, .immediate⟩, ⟨5, 2, .rwp, .immediate⟩, ⟨0, 5, .rwp, .immediate⟩]⟩,
   ⟨0x380020, 1, 4, [⟨0, 16, .rwp, .immediate⟩]⟩,
   ⟨0x380024, 1, 4, [⟨24, 1, .rwp, .immediate⟩, ⟨8, 16, .rwp, .immediate⟩, ⟨4, 4, .rwp, .immediate⟩, ⟨0, 4, .rwp, .immediate⟩]⟩,
   ⟨0x380030, 1, 4, [⟨0, 32, .rwp, .immediate⟩]⟩,
   ⟨0x380034, 1, 4, [⟨0, 32, .rwp, .immediate⟩]⟩,
   ⟨0x380040, 1, 4, [⟨16, 16, .ro, .immediate⟩, ⟨0, 16, .ro, .immediate⟩]⟩,
   ⟨0x380044, 1, 4, [⟨16, 16, .ro, .immediate⟩, ⟨0, 16, .ro, .immediate⟩]⟩,
   ⟨0x380048, 1, 4, [⟨16, 16, .rwp, .immediate⟩, ⟨0, 16, .rwp, .immediate⟩]⟩,
   ⟨0x380050, 1, 4, [⟨8, 8, .rwp, .immediate⟩, ⟨3, 1, .rwp, .immediate⟩, ⟨2, 1, .rwp, .immediate⟩, ⟨0, 2, .rwp, .immediate⟩]⟩,
   ⟨0x380054, 1, 4, [⟨0, 32, .rwp, .immediate⟩]⟩,
   ⟨0x380058, 1, 4, [⟨0, 32, .rwp, .immediate⟩]⟩,
   ⟨0x38005C, 1, 4, [⟨0, 32, .rwp, .immediate⟩]⟩,
   ⟨0x380060, 1, 4, [⟨0, 32, .rwp, .immediate⟩]⟩,
   ⟨0x400000, 2, 256, [⟨1, 1, .rwp, .immediate⟩, ⟨0, 1, .rwp, .immediate⟩]⟩,
   ⟨0x400004, 2, 256, [⟨0, 24, .ro, .immediate⟩]⟩]

/-- Registers of the space, part 7 (rules: R330, R331, R332, R333). -/
def regTable7 : List RegDesc :=
  [⟨0x400008, 2, 256, [⟨0, 20, .rwp, .immediate⟩]⟩,
   ⟨0x400010, 2, 256, [⟨31, 1, .wo, .immediate⟩, ⟨28, 3, .rwp, .immediate⟩, ⟨24, 2, .rwp, .immediate⟩, ⟨23, 1, .rwp, .immediate⟩, ⟨21, 2, .rwp, .immediate⟩, ⟨16, 5, .rwp, .immediate⟩, ⟨0, 16, .rwp, .immediate⟩]⟩,
   ⟨0x400014, 2, 256, [⟨0, 16, .rwp, .immediate⟩]⟩,
   ⟨0x400018, 2, 256, [⟨31, 1, .wo, .immediate⟩, ⟨28, 3, .rwp, .immediate⟩, ⟨24, 2, .rwp, .immediate⟩, ⟨23, 1, .rwp, .immediate⟩, ⟨21, 2, .rwp, .immediate⟩, ⟨16, 5, .rwp, .immediate⟩, ⟨0, 16, .rwp, .immediate⟩]⟩,
   ⟨0x40001C, 2, 256, [⟨0, 16, .rwp, .immediate⟩]⟩,
   ⟨0x400020, 2, 256, [⟨31, 1, .wo, .immediate⟩, ⟨28, 3, .rwp, .immediate⟩, ⟨24, 2, .rwp, .immediate⟩, ⟨23, 1, .rwp, .immediate⟩, ⟨21, 2, .rwp, .immediate⟩, ⟨16, 5, .rwp, .immediate⟩, ⟨0, 16, .rwp, .immediate⟩]⟩,
   ⟨0x400024, 2, 256, [⟨0, 16, .rwp, .immediate⟩]⟩,
   ⟨0x400028, 2, 256, [⟨31, 1, .wo, .immediate⟩, ⟨28, 3, .rwp, .immediate⟩, ⟨24, 2, .rwp, .immediate⟩, ⟨23, 1, .rwp, .immediate⟩, ⟨21, 2, .rwp, .immediate⟩, ⟨16, 5, .rwp, .immediate⟩, ⟨0, 16, .rwp, .immediate⟩]⟩,
   ⟨0x40002C, 2, 256, [⟨0, 16, .rwp, .immediate⟩]⟩,
   ⟨0x400040, 1, 4, [⟨16, 8, .rwp, .immediate⟩, ⟨8, 2, .rwp, .immediate⟩, ⟨0, 1, .rwp, .immediate⟩]⟩,
   ⟨0x400050, 2, 256, [⟨0, 32, .ro, .immediate⟩]⟩,
   ⟨0x400054, 2, 256, [⟨0, 32, .ro, .immediate⟩]⟩,
   ⟨0x400400, 4, 64, [⟨31, 1, .wo, .immediate⟩, ⟨30, 1, .wo, .immediate⟩, ⟨29, 1, .wo, .immediate⟩, ⟨26, 1, .rwp, .immediate⟩, ⟨25, 1, .rwp, .immediate⟩, ⟨24, 1, .rwp, .immediate⟩, ⟨20, 4, .rwp, .immediate⟩, ⟨17, 3, .rwp, .immediate⟩, ⟨16, 1, .rwp, .immediate⟩, ⟨11, 5, .rwp, .immediate⟩, ⟨8, 3, .rwp, .immediate⟩, ⟨0, 1, .rwp, .immediate⟩]⟩,
   ⟨0x400404, 4, 64, [⟨0, 21, .rwp, .immediate⟩]⟩,
   ⟨0x400408, 4, 64, [⟨0, 24, .rwp, .immediate⟩]⟩,
   ⟨0x40040C, 4, 64, [⟨0, 32, .rwp, .immediate⟩]⟩]

/-- Registers of the space, part 8 (rules: R304, R305, R306, R333, R334). -/
def regTable8 : List RegDesc :=
  [⟨0x400410, 4, 64, [⟨0, 32, .rwp, .immediate⟩]⟩,
   ⟨0x400414, 4, 64, [⟨0, 32, .rwp, .immediate⟩]⟩,
   ⟨0x400418, 4, 64, [⟨0, 32, .rwp, .immediate⟩]⟩,
   ⟨0x40041C, 4, 64, [⟨5, 1, .ro, .immediate⟩, ⟨4, 1, .w1c, .immediate⟩, ⟨3, 1, .ro, .immediate⟩, ⟨2, 1, .ro, .immediate⟩, ⟨1, 1, .ro, .immediate⟩, ⟨0, 1, .ro, .immediate⟩]⟩,
   ⟨0x400420, 4, 64, [⟨16, 8, .rwp, .immediate⟩, ⟨12, 4, .rwp, .immediate⟩, ⟨0, 10, .rwp, .immediate⟩]⟩,
   ⟨0x400424, 4, 64, [⟨0, 32, .ro, .immediate⟩]⟩,
   ⟨0x400428, 4, 64, [⟨0, 32, .ro, .immediate⟩]⟩,
   ⟨0x40042C, 4, 64, [⟨0, 32, .ro, .immediate⟩]⟩,
   ⟨0x400430, 4, 64, [⟨0, 32, .ro, .immediate⟩]⟩,
   ⟨0x400800, 16, 8, [⟨26, 3, .rwp, .immediate⟩, ⟨24, 2, .rwp, .immediate⟩, ⟨19, 5, .rwp, .immediate⟩, ⟨0, 12, .rwp, .immediate⟩]⟩,
   ⟨0x400804, 16, 8, [⟨16, 12, .rwp, .immediate⟩, ⟨0, 12, .rwp, .immediate⟩]⟩,
   ⟨0x500000, 1, 4, [⟨0, 2, .rwp, .frame⟩]⟩,
   ⟨0x500004, 1, 4, [⟨9, 1, .ro, .immediate⟩, ⟨8, 1, .ro, .immediate⟩, ⟨2, 1, .w1c, .immediate⟩, ⟨1, 1, .w1c, .immediate⟩, ⟨0, 1, .w1c, .immediate⟩]⟩,
   ⟨0x500010, 2, 32, [⟨8, 4, .rwp, .frame⟩, ⟨6, 2, .rwp, .frame⟩, ⟨4, 2, .rwp, .frame⟩, ⟨3, 1, .rwp, .frame⟩, ⟨2, 1, .rwp, .frame⟩, ⟨1, 1, .rwp, .frame⟩, ⟨0, 1, .rwp, .frame⟩]⟩,
   ⟨0x500014, 2, 32, [⟨0, 32, .rwp, .frame⟩]⟩,
   ⟨0x500018, 2, 32, [⟨16, 16, .rwp, .frame⟩, ⟨0, 16, .rwp, .frame⟩]⟩]

/-- Registers of the space, part 9 (rules: R306, R354, R355). -/
def regTable9 : List RegDesc :=
  [⟨0x50001C, 2, 32, [⟨0, 16, .rwp, .frame⟩]⟩,
   ⟨0x500020, 2, 32, [⟨0, 20, .rwp, .frame⟩]⟩,
   ⟨0x500024, 2, 32, [⟨15, 1, .rwp, .frame⟩, ⟨12, 3, .rwp, .frame⟩, ⟨0, 12, .rwp, .frame⟩]⟩,
   ⟨0x500028, 2, 32, [⟨0, 14, .rwp, .frame⟩]⟩,
   ⟨0x500080, 1, 4, [⟨0, 32, .ro, .immediate⟩]⟩,
   ⟨0x500084, 1, 4, [⟨0, 32, .ro, .immediate⟩]⟩,
   ⟨0x500100, 2, 16, [⟨0, 32, .ro, .immediate⟩]⟩,
   ⟨0x500104, 2, 16, [⟨0, 32, .ro, .immediate⟩]⟩,
   ⟨0x500108, 2, 16, [⟨0, 32, .ro, .immediate⟩]⟩,
   ⟨0x50010C, 2, 16, [⟨0, 32, .ro, .immediate⟩]⟩,
   ⟨0x600000, 1, 4, [⟨16, 16, .ro, .immediate⟩, ⟨1, 1, .w1c, .immediate⟩, ⟨0, 1, .w1c, .immediate⟩]⟩,
   ⟨0x600004, 1, 4, [⟨0, 5, .rwp, .immediate⟩]⟩,
   ⟨0x600008, 1, 4, [⟨0, 32, .ro, .immediate⟩]⟩,
   ⟨0x60000C, 1, 4, [⟨0, 32, .ro, .immediate⟩]⟩,
   ⟨0x600010, 1, 4, [⟨0, 32, .ro, .immediate⟩]⟩,
   ⟨0x610000, 1, 4, [⟨0, 4, .ro, .immediate⟩]⟩]

/-- Registers of the space, part 10 (rules: R355, R391, R394). -/
def regTable10 : List RegDesc :=
  [⟨0x610008, 1, 4, [⟨0, 32, .ro, .immediate⟩]⟩,
   ⟨0x61000C, 1, 4, [⟨0, 32, .ro, .immediate⟩]⟩,
   ⟨0x610010, 1, 4, [⟨0, 32, .ro, .immediate⟩]⟩,
   ⟨0x610014, 1, 4, [⟨0, 32, .ro, .immediate⟩]⟩,
   ⟨0x700000, 2, 256, [⟨9, 1, .wo, .immediate⟩, ⟨8, 1, .rwp, .immediate⟩, ⟨7, 1, .rwp, .immediate⟩, ⟨4, 3, .rwp, .immediate⟩, ⟨1, 3, .rwp, .immediate⟩, ⟨0, 1, .rwp, .immediate⟩]⟩,
   ⟨0x700004, 2, 256, [⟨8, 1, .ro, .immediate⟩, ⟨7, 1, .ro, .immediate⟩, ⟨6, 1, .ro, .immediate⟩, ⟨5, 1, .ro, .immediate⟩, ⟨3, 2, .ro, .immediate⟩, ⟨1, 2, .ro, .immediate⟩, ⟨0, 1, .ro, .immediate⟩]⟩,
   ⟨0x700008, 2, 256, [⟨16, 16, .rwp, .immediate⟩, ⟨0, 16, .rwp, .immediate⟩]⟩,
   ⟨0x700040, 2, 256, [⟨0, 32, .ro, .immediate⟩]⟩,
   ⟨0x700044, 2, 256, [⟨0, 32, .ro, .immediate⟩]⟩,
   ⟨0x700048, 2, 256, [⟨0, 32, .ro, .immediate⟩]⟩,
   ⟨0x70004C, 2, 256, [⟨0, 32, .ro, .immediate⟩]⟩,
   ⟨0x700050, 2, 256, [⟨0, 32, .ro, .immediate⟩]⟩,
   ⟨0x700200, 1, 4, [⟨0, 16, .ro, .immediate⟩]⟩,
   ⟨0x700204, 1, 4, [⟨0, 32, .ro, .immediate⟩]⟩,
   ⟨0x700208, 1, 4, [⟨0, 32, .rwp, .stateChange⟩]⟩,
   ⟨0x70020C, 1, 4, [⟨0, 32, .rwp, .stateChange⟩]⟩]

/-- Registers of the space, part 11 (rules: R392, R394). -/
def regTable11 : List RegDesc :=
  [⟨0x700210, 1, 4, [⟨0, 32, .rwp, .stateChange⟩]⟩,
   ⟨0x700214, 1, 4, [⟨16, 1, .rwp, .stateChange⟩, ⟨15, 1, .rwp, .stateChange⟩, ⟨12, 3, .rwp, .stateChange⟩, ⟨0, 12, .rwp, .stateChange⟩]⟩,
   ⟨0x700218, 1, 4, [⟨0, 1, .rwp, .stateChange⟩]⟩,
   ⟨0x70021C, 1, 4, [⟨16, 16, .rwp, .frame⟩, ⟨2, 1, .rwp, .frame⟩, ⟨1, 1, .rwp, .frame⟩, ⟨0, 1, .rwp, .frame⟩]⟩,
   ⟨0x700220, 1, 4, [⟨0, 32, .ro, .immediate⟩]⟩,
   ⟨0x700224, 1, 4, [⟨0, 32, .ro, .immediate⟩]⟩,
   ⟨0x700300, 1, 4, [⟨24, 8, .rwp, .immediate⟩, ⟨16, 8, .rwp, .immediate⟩, ⟨8, 8, .rwp, .stateChange⟩, ⟨3, 2, .rwp, .immediate⟩, ⟨2, 1, .rwp, .stateChange⟩, ⟨0, 2, .rwp, .stateChange⟩]⟩,
   ⟨0x700304, 1, 4, [⟨16, 8, .rwp, .stateChange⟩, ⟨8, 8, .rwp, .stateChange⟩, ⟨0, 8, .rwp, .stateChange⟩]⟩,
   ⟨0x700308, 1, 4, [⟨16, 16, .rwp, .immediate⟩, ⟨0, 16, .rwp, .immediate⟩]⟩,
   ⟨0x70030C, 1, 4, [⟨0, 32, .rwp, .immediate⟩]⟩,
   ⟨0x700310, 1, 4, [⟨16, 16, .rwp, .immediate⟩, ⟨0, 16, .rwp, .immediate⟩]⟩,
   ⟨0x700314, 1, 4, [⟨0, 32, .rwp, .immediate⟩]⟩,
   ⟨0x700318, 1, 4, [⟨0, 32, .ro, .immediate⟩]⟩,
   ⟨0x70031C, 1, 4, [⟨0, 32, .ro, .immediate⟩]⟩,
   ⟨0x700320, 1, 4, [⟨2, 1, .ro, .immediate⟩, ⟨1, 1, .ro, .immediate⟩, ⟨0, 1, .ro, .immediate⟩]⟩,
   ⟨0x780000, 2, 256, [⟨5, 1, .wo, .immediate⟩, ⟨3, 2, .rwp, .immediate⟩, ⟨1, 2, .rwp, .immediate⟩, ⟨0, 1, .rwp, .immediate⟩]⟩]

/-- Registers of the space, part 12 (rules: R393, R394, R441, R442, R443). -/
def regTable12 : List RegDesc :=
  [⟨0x780004, 2, 256, [⟨10, 1, .ro, .immediate⟩, ⟨8, 2, .ro, .immediate⟩, ⟨6, 2, .ro, .immediate⟩, ⟨5, 1, .ro, .immediate⟩, ⟨3, 2, .ro, .immediate⟩, ⟨1, 2, .ro, .immediate⟩, ⟨0, 1, .ro, .immediate⟩]⟩,
   ⟨0x780008, 2, 256, [⟨0, 32, .ro, .immediate⟩]⟩,
   ⟨0x78000C, 2, 256, [⟨0, 32, .rwp, .immediate⟩]⟩,
   ⟨0x780040, 2, 256, [⟨0, 32, .ro, .immediate⟩]⟩,
   ⟨0x780044, 2, 256, [⟨0, 32, .ro, .immediate⟩]⟩,
   ⟨0x780048, 2, 256, [⟨0, 32, .ro, .immediate⟩]⟩,
   ⟨0x780200, 1, 4, [⟨16, 16, .rwp, .stateChange⟩, ⟨8, 1, .ro, .stateChange⟩, ⟨7, 1, .ro, .stateChange⟩, ⟨6, 1, .rwp, .stateChange⟩, ⟨4, 2, .rwp, .stateChange⟩, ⟨2, 2, .ro, .stateChange⟩, ⟨0, 2, .rwp, .stateChange⟩]⟩,
   ⟨0x780204, 1, 4, [⟨16, 16, .rwp, .stateChange⟩, ⟨0, 16, .rwp, .stateChange⟩]⟩,
   ⟨0x780208, 1, 4, [⟨16, 16, .rwp, .stateChange⟩, ⟨0, 16, .rwp, .stateChange⟩]⟩,
   ⟨0x780240, 1, 4, [⟨0, 32, .ro, .immediate⟩]⟩,
   ⟨0x780244, 1, 4, [⟨0, 32, .ro, .immediate⟩]⟩,
   ⟨0x780248, 1, 4, [⟨0, 32, .ro, .immediate⟩]⟩,
   ⟨0x800000, 1, 4, [⟨11, 1, .ro, .immediate⟩, ⟨10, 1, .ro, .immediate⟩, ⟨9, 1, .ro, .immediate⟩, ⟨8, 1, .ro, .immediate⟩, ⟨4, 4, .ro, .immediate⟩, ⟨3, 1, .ro, .immediate⟩, ⟨2, 1, .ro, .immediate⟩, ⟨1, 1, .ro, .immediate⟩, ⟨0, 1, .ro, .immediate⟩]⟩,
   ⟨0x800004, 1, 4, [⟨0, 25, .ro, .immediate⟩]⟩,
   ⟨0x800008, 1, 4, [⟨0, 25, .ro, .immediate⟩]⟩,
   ⟨0x80000C, 1, 4, [⟨12, 4, .ro, .immediate⟩, ⟨8, 4, .ro, .immediate⟩, ⟨4, 4, .ro, .immediate⟩, ⟨0, 4, .ro, .immediate⟩]⟩]

/-- Registers of the space, part 13 (rules: R443, R474, R515, R516). -/
def regTable13 : List RegDesc :=
  [⟨0x800010, 1, 4, [⟨0, 16, .ro, .immediate⟩]⟩,
   ⟨0x800014, 1, 4, [⟨0, 16, .ro, .immediate⟩]⟩,
   ⟨0x800018, 1, 4, [⟨0, 32, .ro, .immediate⟩]⟩,
   ⟨0x800040, 1, 4, [⟨0, 32, .ro, .immediate⟩]⟩,
   ⟨0x800044, 1, 4, [⟨0, 32, .ro, .immediate⟩]⟩,
   ⟨0x800048, 1, 4, [⟨0, 32, .ro, .immediate⟩]⟩,
   ⟨0x80004C, 1, 4, [⟨0, 32, .ro, .immediate⟩]⟩,
   ⟨0x800050, 1, 4, [⟨0, 32, .ro, .immediate⟩]⟩,
   ⟨0x800054, 1, 4, [⟨0, 32, .ro, .immediate⟩]⟩,
   ⟨0x800058, 1, 4, [⟨0, 32, .ro, .immediate⟩]⟩,
   ⟨0x80005C, 1, 4, [⟨0, 32, .ro, .immediate⟩]⟩,
   ⟨0x900000, 1, 4, [⟨16, 16, .ro, .immediate⟩, ⟨8, 3, .ro, .immediate⟩, ⟨4, 1, .ro, .immediate⟩, ⟨3, 1, .ro, .immediate⟩, ⟨2, 1, .ro, .immediate⟩, ⟨1, 1, .ro, .immediate⟩, ⟨0, 1, .ro, .immediate⟩]⟩,
   ⟨0x900004, 1, 4, [⟨0, 24, .ro, .immediate⟩]⟩,
   ⟨0x900100, 24, 4, [⟨31, 1, .ro, .immediate⟩, ⟨30, 1, .ro, .immediate⟩, ⟨0, 16, .ro, .immediate⟩]⟩,
   ⟨0xA00000, 13, 16, [⟨0, 24, .w1c, .immediate⟩]⟩,
   ⟨0xA00004, 13, 16, [⟨0, 24, .rwp, .immediate⟩]⟩]

/-- Registers of the space, part 14 (rules: R474, R477). -/
def regTable14 : List RegDesc :=
  [⟨0xA00008, 13, 16, [⟨0, 32, .rwp, .immediate⟩]⟩,
   ⟨0xA0000C, 13, 16, [⟨0, 16, .rwp, .immediate⟩]⟩,
   ⟨0xA00100, 1, 4, [⟨17, 1, .ro, .immediate⟩, ⟨16, 1, .ro, .immediate⟩, ⟨0, 13, .ro, .immediate⟩]⟩,
   ⟨0xB00000, 1, 4, [⟨8, 1, .ro, .immediate⟩, ⟨3, 1, .ro, .immediate⟩, ⟨2, 1, .ro, .immediate⟩, ⟨1, 1, .ro, .immediate⟩, ⟨0, 1, .ro, .immediate⟩]⟩]

/-- Every register of the space (R466). -/
def regTable : List RegDesc :=
  regTable0 ++ regTable1 ++ regTable2 ++ regTable3 ++ regTable4 ++ regTable5 ++ regTable6 ++ regTable7 ++ regTable8 ++ regTable9 ++ regTable10 ++ regTable11 ++ regTable12 ++ regTable13 ++ regTable14

/-- Reset cells of the identity, clock and time base blocks (R65-R72, R394, R468). -/
def resetLow : Tab Nat :=
  [(32, 1361051649), (134217857, 1), (134250512, 65535), (134251533, 8191), (134258717, 536870911), (134348803, 1), (268435457, 1), (268435992, 100), (268517408, 100000), (268533770, 100)]

/-- Reset cells of convoy n (R196-R205). -/
def resetConvoy (n : Nat) : Tab Nat :=
  [(2147483655 + 134217728 * n, 4), (2147484161 + 134217728 * n, 1), (2147484673 + 134217728 * n, 1), (2147491850 + 134217728 * n, 64), (2147492490 + 134217728 * n, 320), (2147493384 + 134217728 * n, 16), (2147516421 + 134217728 * n, 20), (2147532816 + 134217728 * n, 48), (2147622932 + 134217728 * n, 1024)]

/-- Reset cells of the blocks from 0x0020_0000 up, part 0. -/
def resetHigh0 : Tab Nat :=
  [(4294967556, 8), (4294967811, 3), (4294968065, 1), (4294968322, 2), (4294975494, 16), (4294976004, 2), (4294976516, 3), (4294983696, 12288), (4294984720, 512), (4294991888, 16384), (4295000068, 8), (4295000584, 32), (6442451137, 1), (6442451586, 1), (6442467338, 200), (6442468359, 64), (6979322049, 1), (7516209168, 10000), (7516357128, 1), (8589934593, 1)]

/-- Reset cells of the blocks from 0x0020_0000 up, part 1. -/
def resetHigh1 : Tab Nat :=
  [(8590065665, 1), (8590066696, 128), (8590458881, 1), (8592033028, 1), (8592164100, 1), (8592295172, 1), (8592426244, 1), (10737418242, 1), (10737451137, 1), (10737451394, 1), (10737451524, 8), (10737467408, 24690), (10737468432, 24690), (10737475600, 800), (10737483796, 2000), (10737500174, 1500), (10737516673, 1), (10737516930, 1), (10737517060, 8), (10737532944, 24691)]

/-- Reset cells of the blocks from 0x0020_0000 up, part 2. -/
def resetHigh2 : Tab Nat :=
  [(10737533968, 24691), (10737541136, 800), (10737549332, 2000), (10737565710, 1500), (12884910085, 4), (15032385537, 1), (15032385795, 7), (15032385985, 1), (15032386049, 1), (15032909825, 1), (15032910083, 7), (15032910273, 1), (15032910337, 1), (15033483265, 1), (15033492496, 10), (15033958529, 1), (15033958594, 2), (15033959432, 128), (15033959944, 128), (15033974800, 179)]

/-- Reset cells of the blocks from 0x0020_0000 up, part 3. -/
def resetHigh3 : Tab Nat :=
  [(15033975824, 26), (15033983008, 200000), (15033991184, 100), (15033992208, 1000), (15033999392, 1000), (16106127361, 1), (16106127426, 3), (16106127554, 3), (16106651649, 1), (16106651714, 3), (16106651842, 3), (16107176976, 2000), (16107184144, 100), (16107185168, 1000), (16107192336, 10), (17179869377, 1), (19327353025, 1)]

/-- Defaults of the dictionary entries that no register holds (R37, R120, R356, R479, R517). -/
def resetParams : Tab Nat :=
  [(552171739152, 60), (552171751440, 24680), (552440180752, 300), (552574388232, 3), (552574390288, 16), (552574392336, 10000), (554185003024, 2048), (554185005072, 8), (554185007105, 1), (554185009168, 1024), (554319224848, 100), (554721871904, 10000), (554721873952, 5000), (554721876000, 4096)]

/-- Every register field whose reset value is not 0. -/
def resetCells : Tab Nat :=
  resetLow ++ (List.range 16).flatMap resetConvoy ++ resetHigh0 ++ resetHigh1 ++ resetHigh2 ++ resetHigh3 ++ resetParams

end Sys2Proof.Machine
end

