-- ==== Sys2Proof/Machine/State.lean ====
section
/-! DEFINITION. The state of the block as plain data: every register field, FIFO, buffer, counter, mode and pin the spec
gives it, and the queue of waiting commands. Each field's docstring names the rule that gives it. -/

namespace Sys2Proof.Machine

/-- Device states (R30). -/
inductive DevState where
  | boot | standby | scan | ranging | degraded | safeHold | faultStop
  deriving DecidableEq, Repr

/-- Causes that lead to SAFE_HOLD (R31). -/
inductive HoldCause where
  | safetyDemand | thermal | ledger | service | clockFault
  deriving DecidableEq, Repr

/-- A write accepted and waiting for its commit point (R7, R460). -/
structure Due where
  /-- Packed register field the write falls due on (R460). -/
  key : Nat := 0
  /-- Value that takes effect (R7). -/
  val : Nat := 0
  /-- Commit point (R7). -/
  point : Commit := .frame
  /-- Fixed at a preparation point for the coming tick (R22). -/
  fixed : Bool := false
  deriving DecidableEq, Repr

/-- A double-banked table: both banks as the bytes of its domain object (R24, R462). -/
structure Bank where
  /-- Active bank, 0 or 1 (R24). -/
  active : Nat := 0
  /-- Bytes of bank 0 (empty: as its reset rule gives) (R462). -/
  b0 : Bytes := []
  /-- Bytes of bank 1 (R462). -/
  b1 : Bytes := []
  /-- Inactive bank committed as complete and checksum-valid (R25). -/
  committed : Bool := false
  /-- Fixed at a preparation point to swap at the coming tick (R22). -/
  fixed : Bool := false
  /-- Previous bank still in use: stage ticks still to pass (R23). -/
  prevBusy : Nat := 0
  /-- Bank 0 holds an uncorrectable word (R339). -/
  bad0 : Bool := false
  /-- Bank 1 holds an uncorrectable word (R339). -/
  bad1 : Bool := false
  deriving DecidableEq, Repr

/-- An open segmented transfer (R463). -/
structure Transfer where
  /-- Requester: session number, or 65536 + source of a SESSION 0 request (R463). -/
  owner : Nat := 0
  /-- Object index (R463). -/
  idx : Nat := 0
  /-- Object subindex (R462). -/
  sub : Nat := 0
  /-- Direction (R463). -/
  write : Bool := false
  /-- Total length (R463). -/
  total : Nat := 0
  /-- Checksum given at opening (R465). -/
  crc : Nat := 0
  /-- Bytes received, or the snapshot read (R464). -/
  data : Bytes := []
  /-- Uptime of the last request of the transfer (R465). -/
  t : Nat := 0
  deriving DecidableEq, Repr

/-- A domain-crossing bridge (R54, R55). -/
structure Bridge where
  /-- Transactions outstanding, each holding one credit of the initial grant (R54). -/
  outstanding : Nat := 0
  /-- Link requests sent: bit 0 near side, bit 1 far side (R55). -/
  req : Nat := 0
  /-- Link acknowledges received: bit 0 near side, bit 1 far side (R55). -/
  ack : Nat := 0
  /-- Transactions completed with an error response since reset (R54). -/
  errs : Nat := 0
  deriving DecidableEq, Repr

/-- Reference judging and clock selection (R40-R44). -/
structure Clk where
  /-- Windows since judging began (R42). -/
  windows : Nat := 0
  /-- A judging is under way (from reset, or after RETURN) (R41, R44). -/
  judging : Bool := true
  /-- Reference of the judging under way: true CLK_IN (R40, R66). -/
  refSel : Bool := false
  /-- Clk_tdc count at the latest divider release (R46). -/
  relCyc : Nat := 0
  /-- Blocks whose gating waits for an idle bus interface (R49). -/
  gateReq : Nat := 0
  /-- The Toll logic's clock runs (R398). -/
  logicClk : Bool := true
  /-- Bridges 0-11 of R70 (R54). -/
  bridges : List Bridge := [{},{},{},{},{},{},{},{},{},{},{},{}]
  deriving DecidableEq, Repr

/-- The time base (R56-R62). -/
structure TimeBase where
  /-- Device time since the IEEE 1588 epoch, in 2^-40 ns (R56, R57). -/
  t40 : Nat := 0
  /-- Part of the offset not yet absorbed by the slew, 2^-40 ns (R60). -/
  rem : Int := 0
  /-- Ageing term, 2^-40 ns per cycle (R59). -/
  ageing : Int := 0
  /-- Counted device-time advance, 2^-40 ns (R59). -/
  counted : Nat := 0
  /-- Multiples of 86,400 s already counted (R59). -/
  days : Nat := 0
  /-- Pending step, ns (R60). -/
  step : Option Int := none
  /-- The pending step has been accepted (R61). -/
  accepted : Bool := false
  /-- Seconds shadow latched by a read of TB_NS (R58). -/
  shadow : Nat := 0
  /-- The shadow is what the next seconds reads return (R58). -/
  shadowOn : Bool := false
  /-- Whole seconds of the next offset request (R62). -/
  adjSec : Int := 0
  /-- Time.set written since reset (R62). -/
  setOnce : Bool := false
  deriving DecidableEq, Repr

/-- A timed return event of the shot in progress (R165, R171). -/
structure Ev where
  /-- Corrected stamp of the rising edge, 15.625 ps (R172). -/
  tRise : Int := 0
  /-- Corrected stamp of the falling edge (R172). -/
  tFall : Int := 0
  /-- Truncated at the end of the shot (R165). -/
  trunc : Bool := false
  /-- The outrider pulse's own event (R184). -/
  own : Bool := false
  /-- Accepted while the outrider pulse masks the input (R184). -/
  masked : Bool := false
  /-- Outrider offset, 2^-10 ns (R186). -/
  dev : Int := 0
  deriving DecidableEq, Repr

/-- A stop list entry (R169). -/
structure Stop where
  /-- Interval from the start stamp, 15.625 ps (R169). -/
  delta : Int := 0
  /-- Time over threshold, 62.5 ps, at most 255 (R169). -/
  tot : Nat := 0
  /-- Truncated (R169). -/
  trunc : Bool := false
  deriving DecidableEq, Repr

/-- A channel status table entry, for the stage just ended (R194). -/
structure ChanStat where
  /-- 0 active, 1 resting, 2 retired, 3 faulted (R194). -/
  state : Nat := 0
  /-- DRIFT_LIMIT (R188). -/
  driftLimit : Bool := false
  /-- Ambient count of the last stage (R194). -/
  ambient : Nat := 0
  /-- DRIFT (R194). -/
  drift : Int := 0
  /-- TOT_MIN of the last stage (R194). -/
  totMin : Nat := 0
  /-- Shots with a missing outrider (R194). -/
  orMiss : Nat := 0
  /-- Stops beyond the eighth (R194). -/
  stopOvf : Nat := 0
  /-- Stops of the last stage (R194). -/
  stops : Nat := 0
  deriving DecidableEq, Repr

/-- A return channel (R160-R189). -/
structure Chan where
  /-- Ambient count of the stage in progress (R163). -/
  amb : Nat := 0
  /-- Arrival of the previous counted edge, from the current fire edge, 2^-10 ns (R163). -/
  lastAmb : Option Int := none
  /-- Arrival of the previous accepted rising edge (R164). -/
  lastAcc : Option Int := none
  /-- Accepted rising edge whose falling edge is awaited (R165). -/
  openEv : Option Ev := none
  /-- Closed events that wait for the convoy's start stamp (R167). -/
  held : List Ev := []
  /-- Events whose corrected stamps place them in the next shot (R170). -/
  carry : List Ev := []
  /-- Stop list of the shot (R168). -/
  stops : List Stop := []
  /-- Stops of the stage (R194). -/
  nStops : Nat := 0
  /-- Stops of the stage beyond the eighth of a shot (R168). -/
  stopOvf : Nat := 0
  /-- NStops and stopOvf at the fire edge (R176). -/
  nMark : Nat := 0
  ovfMark : Nat := 0
  /-- The outrider's own event of this shot was accepted (R184). -/
  ownSeen : Bool := false
  /-- A valid outrider was seen in this shot (R185). -/
  ownOk : Bool := false
  /-- Sum of outrider offsets of the stage (R187). -/
  devSum : Int := 0
  /-- Valid outriders of the stage (R187). -/
  devCnt : Nat := 0
  /-- Shots of the stage with a missing outrider (R185). -/
  orMiss : Nat := 0
  /-- DRIFT, 2^-10 ns (R187). -/
  drift : Int := 0
  /-- DRIFT_LIMIT (R188). -/
  driftLimit : Bool := false
  /-- TOT_MIN, 15.625 ps (R166). -/
  totMin : Nat := 64
  /-- No valid outrider in the last stage (R189). -/
  faulted : Bool := false
  /-- Channel retired (R161). -/
  retired : Bool := false
  /-- Sun-blinded (R253). -/
  blinded : Bool := false
  /-- Counts in the convoy's spare bank (R237). -/
  spare : Bool := false
  /-- Ambient rate of the stage whose records are processed (R166). -/
  a16 : Nat := 0
  /-- Ambient count of the stage whose records are processed (R163). -/
  ambPrev : Nat := 0
  /-- Counting shots of the stage that hit, by protective field (R410). -/
  zoneHits : Tab Nat := []
  /-- The same for the stage that ended (R410). -/
  rayHits : Tab Nat := []
  /-- N_c of the stage that ended (R410). -/
  rayNc : Nat := 0
  /-- Resting, retired or faulted in the stage that ended (R410). -/
  rayBlind : Bool := false
  /-- The logic has not yet decided the ray of the stage that ended (R410). -/
  rayDue : Bool := false
  /-- Channel status table entry (R194). -/
  stat : ChanStat := {}
  deriving DecidableEq, Repr

/-- A convoy's statistics run (R190-R192). -/
structure Tis where
  /-- Samples taken (R191). -/
  n : Nat := 0
  /-- Exact sum (R191). -/
  sum : Int := 0
  /-- Exact sum of squares (R191). -/
  sumSq : Int := 0
  /-- Smallest sample (R191). -/
  minV : Int := 0
  /-- Largest sample (R191). -/
  maxV : Int := 0
  /-- Stage ticks passed (R192). -/
  ticks : Nat := 0
  /-- SOURCE of the run (R203). -/
  src : Nat := 0
  /-- GATE_EN of the run (R203). -/
  gate : Bool := false
  /-- CHANNEL of the run (R203). -/
  chan : Nat := 0
  /-- STOP_INDEX of the run (R203). -/
  stopIdx : Nat := 0
  /-- TIS_N of the run (R190). -/
  target : Nat := 0
  deriving DecidableEq, Repr

/-- A convoy (R160, R175-R180). -/
structure Convoy where
  /-- Start stamp of the shot, 15.625 ps (R172). -/
  start : Option Int := none
  /-- The interpolator was unlocked in the stage in progress (R176). -/
  unlocked : Bool := false
  /-- Records carry channel-absent until the first stage tick after relock (R176). -/
  absent : Bool := true
  /-- The calibration was started during a rest (R177). -/
  calWasResting : Bool := false
  /-- Ranging.rest bit (R509). -/
  restWant : Bool := false
  /-- The present rest is a recalibration turn (R510). -/
  recalTurn : Bool := false
  /-- A cleared retirement waits for its calibration (R487). -/
  returning : Bool := false
  /-- Statistics run (R190). -/
  tis : Tis := {}
  /-- The run, TIS_REJECTED and CVY_PRESTART at the fire edge (R176). -/
  tisMark : Tis := {}
  rejMark : Nat := 0
  preMark : Nat := 0
  /-- The loop has run since reset (R199). -/
  dllRan : Bool := false
  deriving DecidableEq, Repr

/-- A tally buffer (R207). -/
structure Buf where
  /-- OVF, 24 bits (R207). -/
  ovf : Nat := 0
  /-- ZOVF, 24 bits (R207). -/
  zovf : Nat := 0
  /-- N_c (R207). -/
  nc : Nat := 0
  /-- Stops passed to the buffer (R210). -/
  passed : Nat := 0
  /-- Coarse bins, 12-bit (R207). -/
  coarse : Tab Nat := []
  /-- Fine bins by 64 z + f, 16-bit (R207). -/
  zoom : Tab Nat := []
  /-- Zoom window starts (seed file) (R207). -/
  starts : List Nat := []
  /-- Words found uncorrectable (R236). -/
  poison : List Nat := []
  deriving DecidableEq, Repr

/-- An echo (R234). -/
structure Echo where
  /-- Position on the delta axis, 15.625 ps (R232). -/
  pos : Int := 0
  /-- Range code (R173). -/
  rho : Int := 0
  /-- Intensity (R231). -/
  inten : Nat := 0
  /-- Width (R231). -/
  width : Nat := 0
  /-- Reported confidence (R267). -/
  conf : Nat := 0
  /-- Echo flags by number (R234). -/
  flags : Nat := 0
  /-- Lies in the near-field gate (R256). -/
  near : Bool := false
  deriving DecidableEq, Repr

/-- A channel record (R234, R282). -/
structure Rec where
  /-- Record flags by number (R282). -/
  flags : Nat := 0
  /-- Echoes in ascending position (R234). -/
  echoes : List Echo := []
  /-- Echoes after step 7, as the Toll processor tests them (R411). -/
  tested : List Echo := []
  /-- The echo engine finished the record (R250). -/
  done : Bool := false
  /-- The Toll processor has decided its ray (R411). -/
  ray : Bool := false
  deriving DecidableEq, Repr

/-- What the pipeline keeps of a stage whose records are processed (R23, R284). -/
structure StageInfo where
  /-- Waybill index (R284). -/
  index : Nat := 0
  /-- Frame number (R295). -/
  frame : Nat := 0
  /-- Device time of the stage tick that started it, 2^-40 ns (R64). -/
  stamp40 : Nat := 0
  /-- Clk_tdc count at its start (R145). -/
  startCyc : Nat := 0
  /-- STAGE_LEN, clk_tdc cycles (R284). -/
  len : Nat := 0
  /-- WRAP (R284). -/
  wrap : Nat := 0
  /-- IDLE_SHOTS (R284). -/
  idle : Nat := 0
  /-- T_listen, ns (R163). -/
  listen : Nat := 0
  /-- Stage angle of axis 0 (R145). -/
  ang0 : Int := 0
  /-- Stage angle of axis 1 (R145). -/
  ang1 : Int := 0
  /-- A bracketing angle was estimated (R145). -/
  interp : Bool := false
  /-- Last stage of its frame (R297). -/
  last : Bool := false
  /-- Its frame ended short (R21). -/
  short : Bool := false
  /-- Stage 0 of its frame (R297). -/
  firstOfFrame : Bool := false
  /-- Device time of its frame's tick, 2^-40 ns (R287). -/
  frameStamp : Nat := 0
  /-- A pending step was applied at its frame's tick (R287). -/
  stepAt : Bool := false
  /-- Holds a stage (R23). -/
  valid : Bool := false
  /-- Every counting shot used PAIR (R265). -/
  allPair : Bool := false
  /-- Register fields in effect when the stage began (R23). -/
  regs : Tab Nat := []
  /-- Active tables when the stage began (R23). -/
  tabs : Tab Bytes := []
  deriving DecidableEq, Repr

/-- The shot slot in progress (R10-R14). -/
structure Shot where
  /-- Idle shot (R13). -/
  idle : Bool := true
  /-- Index of the shot in its stage (R81). -/
  j : Nat := 0
  /-- Manifest entry (R81). -/
  mIdx : Nat := 0
  /-- Clk_tdc count of the nominal fire edge (R11). -/
  start : Nat := 0
  /-- Length T_p + d, ns (R10). -/
  len : Nat := 0
  /-- Emitter row (R83). -/
  row : Nat := 0
  /-- Receive map index (R83). -/
  rxMap : Nat := 0
  /-- Start input (R83). -/
  startSel : Nat := 0
  /-- Pair shot (R264). -/
  pair : Bool := false
  /-- Dark shot (R83). -/
  dark : Bool := false
  /-- A ledger channel refused the shot, or its pulses were suppressed (R14, R98). -/
  refused : Bool := false
  /-- Its column pulses went out (R98). -/
  fired : Bool := false
  /-- AZIMUTH of its stage (R80). -/
  azimuth : Int := 0
  /-- Its start window closed with no start edge (R90). -/
  missing : Bool := false
  /-- The outrider pulses were injected (R184). -/
  orInj : Bool := false
  /-- Some convoy stamped the start input (R89). -/
  startSeen : Bool := false
  /-- Commanded energy, pJ (R95). -/
  eL : Nat := 0
  /-- Predicted energy, pJ (R96). -/
  ePred : Nat := 0
  /-- Ledger cell of the logic (R92). -/
  cellL : Nat := 0
  /-- Ledger cell of the processor (R92). -/
  cellP : Nat := 0
  /-- Buckets the processor debited, W1 to W3 (R100). -/
  bktP : List Nat := []
  /-- Its monitor energy was delivered (R100). -/
  toppedUp : Bool := false
  /-- Column, edge offset from the fire edge in 15.625 ps, width code (R77). -/
  pulses : List (Nat × Nat × Nat) := []
  deriving DecidableEq, Repr

/-- The ledger decision for the coming shot (R97). -/
structure Decision where
  /-- The decision deadline has passed (R97). -/
  made : Bool := false
  /-- The logic permitted and debited (R97). -/
  logicOk : Bool := false
  /-- The processor permitted and debited (R97). -/
  procOk : Bool := false
  /-- The shot was one the channels decide (R97). -/
  decided : Bool := false
  /-- EM_FAULT_N was registered low at the deadline (R110). -/
  faultLow : Bool := false
  /-- Commanded energy, pJ (R95). -/
  eL : Nat := 0
  /-- Predicted energy, pJ (R96). -/
  ePred : Nat := 0
  /-- Cell of the logic (R92). -/
  cellL : Nat := 0
  /-- Cell of the processor (R92). -/
  cellP : Nat := 0
  /-- Buckets debited by the logic (R97). -/
  bktL : List Nat := []
  /-- Buckets debited by the processor (R97). -/
  bktP : List Nat := []
  deriving DecidableEq, Repr

/-- The shot sequencer (R9-R22). -/
structure Seq where
  /-- Shot slot in progress (R11). -/
  shot : Option Shot := none
  /-- Next real shot of the stage (R81). -/
  j : Nat := 0
  /-- Waybill index of the stage in progress (R18). -/
  stage : Nat := 0
  /-- Frames since entry to RANGING (R295). -/
  frame : Nat := 0
  /-- Ledger decision of the coming shot (R97). -/
  dec : Decision := {}
  /-- The preparation point of the coming tick has passed (R22). -/
  prep : Bool := false
  /-- The coming tick was fixed to be a frame tick (R22). -/
  prepFrame : Bool := false
  /-- The slot that ended was the last of its stage; the stage tick is due (R15). -/
  stageDue : Bool := false
  /-- A stage tick that is a frame tick has run steps 1 and 2 (R22). -/
  frameDue : Bool := false
  /-- Idle shots of the stage (R284). -/
  idleCnt : Nat := 0
  /-- Throttle accumulator (R493). -/
  acc : Nat := 0
  /-- T_listen so far (R163). -/
  listen : Nat := 0
  /-- Counting shots of the stage (R265). -/
  counting : Nat := 0
  /-- Every counting shot so far used PAIR (R265). -/
  allPair : Bool := true
  /-- Register fields in effect when the stage in progress began (R23). -/
  stRegs : Tab Nat := []
  /-- Active tables when it began (R23). -/
  stTabs : Tab Bytes := []
  /-- Clk_tdc count of the stage's start (R284). -/
  stageStart : Nat := 0
  /-- Device time of the stage tick that started it (R64). -/
  stageStamp : Nat := 0
  /-- Clk_tdc count of the frame's start (R284). -/
  frameStart : Nat := 0
  /-- Device time of the frame tick (R64). -/
  frameStamp : Nat := 0
  /-- A pending step was applied at the frame tick (R287). -/
  stepAtFrame : Bool := false
  /-- The frame in progress ends short (R21). -/
  shortFrame : Bool := false
  /-- The pacing event has arrived (R20). -/
  pace : Bool := false
  /-- Uptime of the last accepted FRAME_SYNC_IN edge (R546). -/
  lastSyncIn : Option Nat := none
  /-- A FRAME_SYNC_IN edge waits for the next stage tick (R87). -/
  syncSwap : Bool := false
  /-- EM_FAULT_N was registered low at a stage tick and still is: no emitter row works (R110). -/
  emLoss : Bool := false
  /-- That edge came before the preparation point (R22). -/
  syncFixed : Bool := false
  /-- Stages of records the Toll processor evaluated in the frame (R414). -/
  procStages : Nat := 0
  /-- The stage whose records are processed (R209). -/
  info : StageInfo := {}
  /-- An access to the F store failed in the stage: it supplies no candidates (R218). -/
  fFail : Bool := false
  /-- Frame for which bale-not-shrunk was raised last (R292). -/
  shrinkAt : Option Nat := none
  /-- A foreign-suspect echo was found in the stage (R268). -/
  foreignSeen : Bool := false
  /-- Foreign-suspect was raised in this frame (R268). -/
  foreignRaised : Bool := false
  /-- Retirements that wait for the next stage tick: kind, unit, group, source (R485). -/
  retireDue : List (Nat × Nat × Nat × Nat) := []
  /-- The follower waits for T + L before its first fire edge (R371). -/
  stageLock : Bool := false
  /-- Which of a bank's two buffers counts (R207, R209). -/
  side : Nat := 0
  /-- The counting buffers at the fire edge (R176). -/
  cntMark : Tab Buf := []
  deriving DecidableEq, Repr

/-- A debit that a refund may take back (R99). -/
structure Debit where
  /-- Cell (R99). -/
  cell : Nat := 0
  /-- Buckets debited, W1 to W3 (R99). -/
  bkts : List Nat := []
  /-- Energy (R99). -/
  e : Nat := 0
  deriving DecidableEq, Repr

/-- One ledger channel (R93, R97). -/
structure LedgerCh where
  /-- By 3 x cell + window: (bucket, pJ), newest first (R93). -/
  sums : Tab (List (Nat × Nat)) := []
  /-- Cell sums as of the last stage tick, by 3 x cell + window (R120). -/
  tick : Tab Nat := []
  /-- Debits of suppressed shots pending refund (R99). -/
  refunds : List Debit := []
  /-- Net energy of the stage (R104). -/
  stageE : Int := 0
  /-- Arm enable (R108). -/
  enable : Bool := false
  /-- Sector used in the stage (R92). -/
  sector : Nat := 0
  deriving DecidableEq, Repr

/-- The light ledger (R92-R106). -/
structure Ledger where
  /-- The Toll logic's ledger (R97). -/
  logic : LedgerCh := {}
  /-- The Toll processor's ledger (R97). -/
  proc : LedgerCh := {}
  /-- Clk_tdc count at which the bank became active (R102). -/
  actCyc : Option Nat := none
  /-- By emitter row: (E_meas, E_L) of the last 256 fired shots, newest first (R96). -/
  kr : Tab (List (Nat × Nat)) := []
  /-- By emitter row: fired shots since the last restart of k_r, up to 256 (R96). -/
  krN : Tab Nat := []
  /-- Run of disagreeing stages (R104). -/
  run : Nat := 0
  /-- Arming sequence: 0 none, 1 logic enabled, 2 both enabled, 3 settling, 4 armed (R424). -/
  arming : Nat := 0
  /-- Uptime at which the logic turned its enable on, then at which EM_ARM_N went low (R424). -/
  armAt : Nat := 0
  deriving DecidableEq, Repr

/-- The settings of one mirror measurement (R152). -/
structure MeasSet where
  /-- ADC1 input. -/
  input : Nat := 0
  /-- Gain code. -/
  gain : Nat := 0
  /-- Samples summed, minus 1. -/
  ovs : Nat := 0
  /-- Open-wire detection enabled. -/
  ow : Bool := false
  deriving DecidableEq, Repr

/-- What a control tick fixes for its steps: entries take effect at the control tick after their commit (R152, R159). -/
structure DrvTick where
  /-- Configuration table (R158). -/
  cfg : Bytes := []
  /-- Axes configured (R121). -/
  axes : Nat := 0
  /-- SENSE_DELAY, ns (R123). -/
  delay : Nat := 0
  /-- Measurement settings (R152). -/
  meas : List MeasSet := []
  /-- Outputs of MANUAL: DRV_MANUALj, or PARK_OUTPUT_j while the axes are parked (R140, R144). -/
  manual : List Int := []
  /-- Point and axis of the test signal (R155). -/
  point : Nat := 0
  axis : Nat := 0
  /-- TARGET_SRC is 1 (R137). -/
  setpoint : Bool := false
  /-- TARGET_LEAD (R137). -/
  lead : Nat := 0
  deriving DecidableEq, Repr

/-- Drover's controller (R121-R147). -/
structure Drover where
  /-- Predicted state, Q8.24 (R129). -/
  xhat : List Int := [0,0,0,0,0,0,0,0]
  /-- Integrators (R129). -/
  z : List Int := [0,0]
  /-- Transfer residue d (R140). -/
  res : List Int := [0,0]
  /-- Clamped outputs (R129). -/
  u : List Int := [0,0]
  /-- Trajectory positions r_pos (R138). -/
  pos : List Int := [0,0]
  /-- Trajectory velocities r_vel (R138). -/
  vel : List Int := [0,0]
  /-- Targets in angle units (R137). -/
  target : List Int := [0,0]
  /-- Measurements (R125). -/
  y : List Int := [0,0,0,0]
  /-- Measurement invalid in the tick (R125). -/
  inval : List Bool := [false,false,false,false]
  /-- Consecutive invalid ticks (R142). -/
  invRun : List Nat := [0,0,0,0]
  /-- Consecutive ticks above INNOV_LIM (R142). -/
  innRun : List Nat := [0,0,0,0]
  /-- Consecutive clamped ticks (R142). -/
  satRun : List Nat := [0,0]
  /-- Consecutive ticks within LOCK_TOL (R141). -/
  lockRun : List Nat := [0,0]
  /-- Consecutive ticks above UNLOCK_TOL (R141). -/
  unlRun : List Nat := [0,0]
  /-- Axis locked (R141). -/
  axLock : List Bool := [false,false]
  /-- Angle band (R134). -/
  aband : Nat := 0
  /-- Temperature band (R134). -/
  tband : Nat := 0
  /-- Mode of the previous control tick (R140). -/
  prevMode : Nat := 0
  /-- The gain set bank has swapped since the latest control tick (R133, R136). -/
  xferDue : Bool := false
  /-- The law of this tick runs a bumpless transfer (R136, R140). -/
  xfer : Bool := false
  /-- Control ticks since the divider release (R148). -/
  ticks : Nat := 0
  /-- Clk_tdc count of the latest control tick (R123). -/
  tickCyc : Nat := 0
  /-- Positions used by the latest tick: measured, or estimated (R132). -/
  ypos : List Int := [0,0]
  /-- Measured angles of the latest tick (R145). -/
  ang : List Int := [0,0]
  /-- Dated angles since the stage before the one in progress, newest first: date, axis 0, axis 1, estimated (R145). -/
  hist : List (Nat × Int × Int × Bool) := []
  /-- Angle estimated at the latest tick (R132). -/
  est : List Bool := [false,false]
  /-- Drive output codes DRV0-DRV3 (R127). -/
  code : List Int := [0,0,0,0]
  /-- DRVSPI words of the transfer in progress (R128). -/
  spi : List Nat := []
  /-- Words of the last transfer, as latched by DRVSPI_LD_N (R128). -/
  spiLast : List Nat := []
  /-- Tick of the test run (R147). -/
  testI : Nat := 0
  /-- Test phase, 32 bits (R147). -/
  phi : Nat := 0
  /-- PRBS register, 9 bits (R147). -/
  prbs : Nat := 511
  /-- Injected value of this tick (R147). -/
  inj : Int := 0
  /-- Open-wire direction of each measurement: true pull-down next (R314). -/
  owDir : List Bool := [false,false,false,false]
  /-- What the latest control tick fixed (R159). -/
  tick : DrvTick := {}
  /-- Step of the tick: 0 none, 1 started, 2 measures, 3 law done, 4 DRVSPI transfer (R124, R126, R128). -/
  phase : Nat := 0
  deriving DecidableEq, Repr

/-- A packer context (R289). -/
structure Ctx where
  /-- A (R289). -/
  a : Nat := 8
  /-- N (R289). -/
  n : Nat := 2
  deriving DecidableEq, Repr

/-- A packer plane entry of one channel (R289). -/
structure Plane where
  /-- HDR (R289). -/
  hdr : Nat := 0
  /-- RANGE (R289). -/
  range : Nat := 0
  /-- INTENSITY (R289). -/
  inten : Nat := 0
  /-- WIDTH (R289). -/
  width : Nat := 0
  /-- FLAGS (R289). -/
  flags : Nat := 0
  deriving DecidableEq, Repr

/-- An output stream (R289-R300). -/
structure Stream where
  /-- Started (R299). -/
  run : Bool := false
  /-- Frame of the run of frames in which the stream started: FRAME counts from it (R295). -/
  frame : Nat := 0
  /-- SEQUENCE (R295). -/
  seq : Nat := 0
  /-- BALE_SEQ (R291). -/
  baleSeq : Nat := 0
  /-- Contexts (R289). -/
  ctxs : List Ctx := [{},{},{},{},{},{},{}]
  /-- Planes by channel (R289). -/
  planes : Tab Plane := []
  /-- The next bale is marked RESET (R293). -/
  resetNext : Bool := true
  /-- A state was written under R294 (R299). -/
  written : Bool := false
  /-- Stage block built and not yet coded (R284). -/
  block : Option Bytes := none
  /-- Its records as the packer codes them: record flags, echoes kept (R289). -/
  blockRecs : List (Nat × List Echo) := []
  /-- Echoes of its records that were not kept (R283). -/
  blockCut : Nat := 0
  /-- A record of it carries overrun (R287). -/
  blockOver : Bool := false
  /-- Finished unit of the stage: KIND, FLAGS, bytes (R295). -/
  unit : Option (Nat × Nat × Bytes) := none
  /-- Launch time of the last datagram, ns (R297). -/
  lastL : Nat := 0
  /-- Wire size of the last datagram (R297). -/
  lastW : Nat := 0
  /-- Frame that the counts below belong to (R287). -/
  cntFrame : Option Nat := none
  /-- Stage blocks of the frame sent (R287). -/
  sent : Nat := 0
  /-- ORIGINAL bales of the frame (R287). -/
  orig : Nat := 0
  /-- Echoes truncated in the frame (R287). -/
  trunc : Nat := 0
  /-- Blocks of the frame with an overrun record (R287). -/
  overrun : Nat := 0
  /-- The stream is no longer enabled: it ends with the last unit of the frame that ended (R300). -/
  ending : Bool := false
  /-- The state object as it stood at the latest stage tick, while a bale coded since waits for its own (R294). -/
  held : Option Bytes := none
  deriving DecidableEq, Repr

/-- A queued frame or datagram (R388). -/
structure QEnt where
  /-- Launch time, ns; none: eligible at once (R388). -/
  launch : Option Nat := none
  /-- Unit it belongs to (discarded together) (R389). -/
  unit : Nat := 0
  /-- Stream number, or 2 forwarded, 3 other (R388). -/
  stream : Nat := 0
  /-- Destination IPv4 address (R378). -/
  dst : Nat := 0
  /-- Payload (R295). -/
  data : Bytes := []
  /-- Bytes it holds in the queue (R388). -/
  size : Nat := 0
  /-- Carries a redundancy trailer (R379). -/
  prp : Bool := false
  /-- Redundancy sequence number (R379). -/
  prpSeq : Nat := 0
  /-- Kind of frame, for frames that are no stream datagram (R388). -/
  what : String := ""
  /-- Destination MAC address, where the frame itself gives it (R377, R378). -/
  mac : Option Nat := none
  /-- UDP ports: source x 2^16 + destination (R306). -/
  ports : Nat := 0
  /-- VLAN tag: priority x 2^13 + VLAN ID (R378). -/
  tag : Option Nat := none
  /-- The other copy of this datagram has left, and its bytes are counted (R306). -/
  counted : Bool := false
  deriving DecidableEq, Repr

/-- A redundancy control trailer (R379). -/
structure Rct where
  /-- Sequence number of the node. -/
  seq : Nat := 0
  /-- LanId: 0xA on A, 0xB on B. -/
  lan : Nat := 0
  /-- LSDU size. -/
  size : Nat := 0
  /-- Suffix. -/
  suffix : Nat := 0x88FB
  deriving DecidableEq, Repr

/-- A frame that an Ethernet port has started (R296, R378, R379, R388). -/
structure Sent where
  /-- Ethernet port (R388). -/
  port : Nat := 0
  /-- Kind of frame (R388). -/
  what : String := ""
  /-- Destination MAC address (R378). -/
  mac : Nat := 0
  /-- Destination IPv4 address, 0 for frames without (R378). -/
  ip : Nat := 0
  /-- UDP ports: source x 2^16 + destination (R306). -/
  ports : Nat := 0
  /-- VLAN tag (R378). -/
  tag : Option Nat := none
  /-- Payload (R388). -/
  data : Bytes := []
  /-- IPv4 don't-fragment bit (R296). -/
  df : Bool := false
  /-- Redundancy trailer (R379). -/
  trailer : Option Rct := none
  deriving DecidableEq, Repr

/-- A master heard on a port (R381). -/
structure PtpMaster where
  /-- Priority1, quality, priority2, grandmaster identity, steps removed (R381). -/
  rank : List Nat := []
  /-- Port identity of the sender (R381). -/
  source : Nat := 0
  deriving DecidableEq, Repr

/-- An Ethernet port (R376-R390). -/
structure Port where
  /-- Launch-time queues Q0-Q5 (R388). -/
  queues : List (List QEnt) := [[],[],[],[],[],[]]
  /-- Units whose rest is discarded, a full queue having cost them a datagram (R390). -/
  droppedUnit : List Nat := []
  /-- Units whose rest is discarded as late (R389). -/
  lateUnit : List Nat := []
  /-- ETH_CTRL fields in effect since the last link restart (R391). -/
  cfg : Nat := 0x1F1
  /-- Uptime of the last frame received with a trailer (R380). -/
  lastTrailer : Option Nat := none
  /-- Two-step Sync that waits for its Follow_Up (R382). -/
  syncSeq : Option Nat := none
  /-- Receive stamp of that Sync, 1/16 ns (R382). -/
  syncRx : Int := 0
  /-- Correction of that Sync, 2^-16 ns (R382). -/
  syncCorr : Int := 0
  /-- Departure stamp of the delay request in flight, 1/16 ns (R381). -/
  reqT1 : Option Int := none
  /-- Sequence number of the last delay request (R381). -/
  reqSeq : Nat := 0
  /-- Last Sync: its arrival less its origin and corrections, 2^-16 ns (R381). -/
  reqMaster : Option Int := none
  /-- Peer delay response that waits for its follow-up: its arrival less corrections, and the receipt of the request, 2^-16 ns (R381). -/
  pdResp : Option (Int × Int) := none
  /-- Mean path delay, 2^-16 ns (R381). -/
  path : Int := 0
  /-- Best master heard on the port (R381). -/
  master : Option PtpMaster := none
  /-- Announce messages sent (R381). -/
  annSeq : Nat := 0
  deriving DecidableEq, Repr

/-- A PRP peer (R380). -/
structure Node where
  /-- MAC address (R380). -/
  mac : Nat := 0
  /-- Uptime at which it was last seen (R380). -/
  seen : Nat := 0
  deriving DecidableEq, Repr

/-- A duplicate discard entry (R379). -/
structure Dup where
  /-- Source MAC (R379). -/
  mac : Nat := 0
  /-- Sequence number (R379). -/
  seq : Nat := 0
  /-- Port of the first copy (R379). -/
  port : Nat := 0
  /-- Uptime of the first copy (R379). -/
  time : Nat := 0
  deriving DecidableEq, Repr

/-- An ARP cache entry (R377). -/
structure Arp where
  /-- IPv4 address (R377). -/
  ip : Nat := 0
  /-- MAC address (R377). -/
  mac : Nat := 0
  /-- Uptime of the reply (R377). -/
  time : Nat := 0
  deriving DecidableEq, Repr

/-- The Ethernet side and network time (R376-R390). -/
structure Net where
  /-- Ethernet A and B (R376). -/
  ports : List Port := [{},{}]
  /-- ARP cache, newest first, 16 entries (R377). -/
  arp : List Arp := []
  /-- Destinations unresolved: IPv4 address of the hop, port, uptime of the last request (R378). -/
  arpWait : List (Nat × Nat × Nat) := []
  /-- PRP node table (R380). -/
  nodes : List Node := []
  /-- Duplicate discard table (R379). -/
  dups : List Dup := []
  /-- Redundancy sequence number (R379). -/
  prpSeq : Nat := 0
  /-- Units queued (R389). -/
  unitNo : Nat := 0
  /-- Units of forwarded datagrams by 2 x source + stream: KIND, FRAME and STAGE of the latest, and its number (R390). -/
  fwdUnits : Tab (Nat × Nat) := []
  /-- Frames started, oldest first (R388). -/
  sent : List Sent := []
  /-- Start of the frame in which late-datagram was last raised (R389). -/
  lateAt : Option Nat := none
  /-- PRP supervision frames sent (R380). -/
  supSeq : Nat := 0
  /-- Integrator I of the time servo, ppb (R383). -/
  servoI : Rat := 0
  /-- Consecutive updates within LOCK_NS (R384). -/
  lockRun : Nat := 0
  /-- Consecutive updates above UNLOCK_NS (R384). -/
  unlRun : Nat := 0
  /-- Master under the best master clock algorithm (R381). -/
  isMaster : Bool := false
  /-- Sync messages sent as master (R381). -/
  syncSeqTx : Nat := 0
  /-- PPS_OUT is high since this uptime (R385). -/
  ppsRise : Option Nat := none
  /-- FRAME_SYNC_OUT level (R385). -/
  fsoHigh : Bool := false
  /-- Next schedule instant, ns of device time (R386). -/
  nextT : Option Nat := none
  deriving DecidableEq, Repr

/-- A Basxiop frame (R364). -/
structure BxFrame where
  /-- KIND (R364). -/
  kind : Nat := 0
  /-- SRC position (R364). -/
  src : Nat := 0
  /-- DST position (R364). -/
  dst : Nat := 0
  /-- SEQ of its VC (R364). -/
  seq : Nat := 0
  /-- Data (R364). -/
  data : Bytes := []
  deriving DecidableEq, Repr

/-- A block as it went out on a lane (R358). -/
structure BxBlock where
  /-- Lane of the port (R361). -/
  lane : Nat := 0
  /-- Sync header: 1 data, 2 control (R358). -/
  hdr : Nat := 0
  /-- The 64 payload bits, scrambled; bit 0 is sent first (R358). -/
  word : Nat := 0
  deriving DecidableEq, Repr

/-- The line side of a Basxiop port (R358, R361). -/
structure BxLine where
  /-- Blocks of the link sent: block i goes on lane i mod 2 (R361). -/
  n : Nat := 0
  /-- Scrambler by lane: the last 58 bits sent, the newest in bit 0 (R358). -/
  scr : List Nat := [0,0]
  /-- Blocks sent, oldest first (R358). -/
  out : List BxBlock := []
  deriving DecidableEq, Repr

/-- A Basxiop port (R358-R368). -/
structure BxPort where
  /-- Bring-up step: 1 the 100 ms before a restart, 2 block lock, 3 alignment, 4 capability, 5 training, 6 speed step, 8 up (R360). -/
  step : Nat := 2
  /-- Block lock by lane (R359). -/
  lanesLock : List Bool := [false,false]
  /-- ALIGN received by lane since block lock (R360). -/
  alignSeen : List Bool := [false,false]
  /-- Speed code of the line (R360). -/
  speed : Nat := 0
  /-- Far end's maximum speed (R363). -/
  peerMax : Nat := 0
  /-- Far end's lane mask (R363). -/
  peerLanes : Nat := 3
  /-- Lane retired (R361). -/
  laneRetired : List Bool := [false,false]
  /-- Transmitter taps c-1, c0, c+1 by lane (R362). -/
  taps : List (List Nat) := [[0,63,0],[0,63,0]]
  /-- READY sent by lane (R362). -/
  rdyTx : List Bool := [false,false]
  /-- READY received by lane (R362). -/
  rdyRx : List Bool := [false,false]
  /-- Tap status that the far transmitter last answered, by lane: bits [43:38] of its status block (R362). -/
  tapStat : List Nat := [0,0]
  /-- Tap request last sent to the far transmitter, by lane: bits [43:37] of its update block (R362). -/
  asked : List Nat := [0,0]
  /-- Speed step countdown, blocks (R360). -/
  countdown : Option Nat := none
  /-- Speed code the countdown leads to (R360). -/
  target : Nat := 0
  /-- A higher speed failed: the link comes up at this one (R360). -/
  fell : Bool := false
  /-- VC0 credits consumed as a sender, mod 2^16 (R367). -/
  cons0 : Nat := 0
  /-- VC1 credits consumed as a sender (R367). -/
  cons1 : Nat := 0
  /-- VC0 freed count last received (R367). -/
  freedRx0 : Nat := 0
  /-- VC1 freed count last received (R367). -/
  freedRx1 : Nat := 0
  /-- Own VC0 freed count (R367). -/
  freed0 : Nat := 0
  /-- Own VC1 freed count (R367). -/
  freed1 : Nat := 0
  /-- DELAY_REQ sequence (R368). -/
  delaySeq : Nat := 0
  /-- Request in flight: departure stamp, 1/16 ns, and uptime (R368). -/
  delayT1 : Option (Int × Nat) := none
  /-- Last 16 measurements, newest first, 1/32 ns (R368). -/
  delays : List Int := []
  /-- Frame SEQ on VC0 (R364). -/
  seqTx0 : Nat := 0
  /-- Frame SEQ on VC1 (R364). -/
  seqTx1 : Nat := 0
  /-- Frames that wait for VC0 credits (R367). -/
  wait0 : List BxFrame := []
  /-- Own datagrams that wait for VC1 credits (R373). -/
  waitOwn : List BxFrame := []
  /-- Relayed datagrams that wait for VC1 credits (R373). -/
  waitRelay : List BxFrame := []
  /-- The next frame on VC1 is a relayed one (R373). -/
  relayNext : Bool := false
  /-- Control blocks sent: TYPE and payload, oldest first (R363). -/
  tx : List (Nat × Nat) := []
  /-- Frames sent, oldest first (R364). -/
  frames : List BxFrame := []
  /-- Its lanes as blocks went out on them (R358). -/
  line : BxLine := {}
  /-- BX_CTRL fields in effect since the last link restart (R392). -/
  cfg : Nat := 0x1F
  /-- Uptime of the last frame-error event (R480). -/
  frErrAt : Option Nat := none
  deriving DecidableEq, Repr

/-- A Flefen request that a lead has forwarded (R375). -/
structure BxFwd where
  /-- Position (R375). -/
  pos : Nat := 0
  /-- SESSION (R375). -/
  session : Nat := 0
  /-- TAG (R375). -/
  tag : Nat := 0
  /-- Requester's address (R375). -/
  ip : Nat := 0
  /-- Requester's UDP port (R375). -/
  udp : Nat := 0
  /-- Ethernet port of arrival (R375). -/
  port : Nat := 0
  deriving DecidableEq, Repr

/-- Basxiop and the string (R357-R375). -/
structure Basx where
  /-- East and west (R360). -/
  ports : List BxPort := [{},{}]
  /-- Seconds last received in TIME_SEC (R370). -/
  timeSec : Option Nat := none
  /-- Time of the last TICK, ns (R371). -/
  tickT : Nat := 0
  /-- STAGE of the last TICK (R371). -/
  tickStage : Nat := 0
  /-- FRAME of the last TICK (R371). -/
  tickFrame : Bool := false
  /-- A TICK has arrived that no stage has used (R371). -/
  tickNew : Bool := false
  /-- Tick lock was lost by a timeout (R371). -/
  tickLost : Bool := false
  /-- Uptime of the follower's last stage tick (R371). -/
  tickDue : Nat := 0
  /-- Last string status by position (R364). -/
  status : Tab Bytes := []
  /-- Flefen requests that have arrived, oldest first (R375). -/
  inbox : List Bytes := []
  /-- Forwarded requests that wait for their answer (R375). -/
  fwd : List BxFwd := []
  deriving DecidableEq, Repr

/-- A user sequence's run (R312-R314). -/
structure SeqRun where
  /-- Runs (R312). -/
  running : Bool := false
  /-- Waits for another sequence (R313). -/
  waiting : Bool := false
  /-- COUNT of the run (R312). -/
  left : Nat := 0
  /-- Continuous (R312). -/
  cont : Bool := false
  /-- Input of the run (R331). -/
  input : Nat := 0
  /-- Gain of the run (R331). -/
  gain : Nat := 0
  /-- Open-wire run (R314). -/
  ow : Bool := false
  /-- Pull-down on the next run (R314). -/
  owDown : Bool := false
  /-- Start event plus DELAY, clk_tdc cycle (R312). -/
  due : Nat := 0
  /-- First sampling instant of the run, clk_tdc cycle (R311, R312). -/
  first : Nat := 0
  /-- Next sampling instant whose code is not yet known, clk_tdc cycle. -/
  next : Nat := 0
  /-- First instant after the run; a preemption does not move it (R313). -/
  stop : Nat := 0
  /-- The converter powers up for the run (R311). -/
  fresh : Bool := false
  /-- Sum of the valid codes of an open-wire run so far (R314). -/
  vSum : Nat := 0
  /-- Their number (R314). -/
  vCnt : Nat := 0
  deriving DecidableEq, Repr

/-- How a sample follows the instant before it (R310, R313). -/
inductive NextStart where
  /-- In turn. -/
  | inTurn
  /-- First of a sequence that resumes after a slot. -/
  | resumed
  /-- First after the converter has powered up. -/
  | powerUp
  deriving DecidableEq, Repr

/-- A sample of a converter whose code is known (R308, R309). -/
structure CSample where
  /-- Sampling instant, clk_tdc cycle. -/
  t : Nat
  /-- Input. -/
  input : Nat
  /-- Gain. -/
  gain : Nat
  /-- The input was reported open (R314). -/
  opn : Bool
  /-- Result. -/
  code : Nat
  /-- How it follows. -/
  how : NextStart := .inTurn
  deriving DecidableEq, Repr

/-- A converter (R308-R317). -/
structure Conv where
  /-- User sequences 0-3 (R312). -/
  seqs : List SeqRun := [{},{},{},{}]
  /-- The reserved slot holds the converter (R312). -/
  slot : Bool := false
  /-- First sampling instant of the slot, clk_tdc cycle (R312). -/
  slotFrom : Nat := 0
  /-- Last sampling instant of the slot, clk_tdc cycle (R312). -/
  slotTo : Nat := 0
  /-- Input that the slot starts with (R315). -/
  slotIn : Nat := 0
  /-- Gain that the slot starts with (R315). -/
  slotGain : Nat := 0
  /-- The converter powers up for the slot (R311). -/
  slotFresh : Bool := false
  /-- Samples that wait for earlier ones whose codes are not yet known, in time order (R313, R318). -/
  queue : List CSample := []
  /-- Next sampling instant to reach the acquisition engine, clk_tdc cycle (R308). -/
  t : Nat := 0
  /-- Direction of the last run that did not find an input open, by input: 1 pull-up, 2 pull-down (R314). -/
  owClean : Tab Nat := []
  /-- Input of the last sampling instant (R310). -/
  lastIn : Nat := 0
  /-- Gain of the last sampling instant (R310). -/
  lastGain : Nat := 0
  /-- Samples since the last change (R309). -/
  age : Nat := 255
  /-- Powered (R311). -/
  powered : Bool := true
  /-- Samples still to mark INVALID (R310). -/
  settle : Nat := 0
  deriving DecidableEq, Repr

/-- A capture unit (R318-R329). -/
structure CapUnit where
  /-- Armed (R322). -/
  armed : Bool := false
  /-- A record is being captured (R322). -/
  capturing : Bool := false
  /-- Pre-trigger entries with the instants that each stands for, oldest first (R322). -/
  ring : List (Nat × List Nat) := []
  /-- Post-trigger entries with the instants that each stands for (R322). -/
  post : List (Nat × List Nat) := []
  /-- Instants left of the post-trigger window (R322). -/
  postLeft : Nat := 0
  /-- Trigger instant, device time ns (R321). -/
  trigT : Nat := 0
  /-- Lowest-numbered trigger bit (R321). -/
  trigNo : Nat := 0
  /-- Every trigger bit met at the instant (R328). -/
  trigBits : Nat := 0
  /-- Words of the pre-trigger window (R328). -/
  preStored : Nat := 0
  /-- The record has closed and waits for re-arm (R323). -/
  closed : Bool := false
  /-- Device time of the close, ns (R323). -/
  closeT : Nat := 0
  /-- Selected triggers since the close (R323). -/
  holdCnt : Nat := 0
  /-- Device time of the trigger that brought the count to ACQ_HOLD, or of the close, ns (R323). -/
  holdT : Nat := 0
  /-- Sampling instants since the close (R323). -/
  after : Nat := 0
  /-- Device time of the instant PRE instants after the close, ns (R323). -/
  freeT : Option Nat := none
  /-- clk_tdc cycle of the arming (R322). -/
  armC : Nat := 0
  /-- Triggers that wait for the unit's next sampling instant: clk_tdc cycle and bits (R321). -/
  pend : List (Nat × Nat) := []
  /-- Overlapped triggers of the record (R324). -/
  overl : Nat := 0
  /-- RFLAGS (R328). -/
  rflags : Nat := 0
  /-- Last 64 triggers: ns, bit, kind, oldest first (R335). -/
  log : List (Nat × Nat × Nat) := []
  /-- Instants of the pending gap (R325). -/
  gap : Nat := 0
  /-- Entries in the FIFO (R325). -/
  fifo : Nat := 0
  /-- Instants not stored since the last stored entry (R318). -/
  skip : Nat := 0
  /-- Instants of spilled entries that the recorder could not take, not yet written as a gap word (R327). -/
  spillGap : Nat := 0
  /-- Complete records, oldest first (R335). -/
  recs : List Bytes := []
  /-- RECORD (R328). -/
  recNo : Nat := 0
  /-- Coefficients of the active filter bank (R319). -/
  fir : List Int := []
  /-- Filter delay line, newest first (R319). -/
  dline : List Nat := []
  /-- An instant without an entry has passed since the filter's last one (R319). -/
  brk : Bool := false
  /-- Outputs still to mark INVALID (R319). -/
  marks : Nat := 0
  /-- Decimation phase (R319). -/
  decCnt : Nat := 0
  /-- Equivalent-time step j (R326). -/
  etJ : Nat := 0
  /-- Equivalent-time samples by index (R326). -/
  et : List (Nat × Nat) := []
  deriving DecidableEq, Repr

/-- A trigger comparator (R320). -/
structure Comp where
  /-- Last valid entry (R320). -/
  prev : Option Int := none
  /-- May fire again (R320). -/
  ready : Bool := true
  /-- Last value lay in the window (R320). -/
  inside : Bool := false
  deriving DecidableEq, Repr

/-- The acquisition engine. -/
structure Acq where
  /-- Capture units (R318). -/
  units : List CapUnit := [{},{},{},{}]
  /-- Comparators (R320). -/
  comps : List Comp := [{},{},{},{},{},{},{},{},{},{},{},{},{},{},{},{}]
  /-- The unit that the round robin serves next (R325). -/
  turn : Nat := 0
  deriving DecidableEq, Repr

/-- An incident (R346-R350). -/
structure Incident where
  /-- INCIDENT (R350). -/
  no : Nat := 0
  /-- Cause number (R346). -/
  cause : Nat := 0
  /-- Trigger time, ns of device time (R346). -/
  t : Nat := 0
  /-- End of the post window, ns (R347). -/
  endT : Nat := 0
  /-- Trigger list: time, cause (R347). -/
  trigs : List (Nat × Nat) := []
  /-- PRE, ms (R350). -/
  pre : Nat := 0
  /-- POST, ms (R350). -/
  postMs : Nat := 0
  /-- Protected (R351). -/
  prot : Bool := false
  /-- Length in blocks (R356). -/
  blocks : Nat := 0
  /-- ENDED code; 0xFF incomplete (R350). -/
  ended : Nat := 0xFF
  /-- Bytes lost (R350). -/
  lost : Nat := 0
  /-- Bytes in the staging area (R348). -/
  staged : Nat := 0
  /-- Data bytes (R350). -/
  data : Bytes := []
  deriving DecidableEq, Repr

/-- A ring entry (R345). -/
structure RingEnt where
  /-- KIND: 1 datagram, 2 acquisition entries, 3 gap (R345). -/
  kind : Nat := 0
  /-- SOURCE (R345). -/
  source : Nat := 0
  /-- Time of the entry, ns of device time (R345). -/
  t : Nat := 0
  /-- Bytes that follow the entry header (R345). -/
  data : Bytes := []
  deriving DecidableEq, Repr

/-- A block of the pre-event ring (R344). -/
structure RingBlk where
  /-- Descriptor: 0 filling, 1 used, 2 held (R344). -/
  state : Nat := 0
  /-- Bytes in the block (R344). -/
  size : Nat := 0
  /-- Entries, oldest first (R345). -/
  ents : List RingEnt := []
  deriving DecidableEq, Repr

/-- A command that the recorder's host issues to the drive (R349, R352, R353). -/
inductive NvmeCmd where
  /-- Identify. -/
  | identify
  /-- Create I/O Completion Queue and Create I/O Submission Queue of pair `q`. -/
  | createQueues (q : Nat)
  /-- Read of blocks. -/
  | read (lba n : Nat)
  /-- Write of blocks, with force-unit-access or without. -/
  | write (lba n : Nat) (fua : Bool)
  /-- Flush. -/
  | flush
  /-- Dataset Management that deallocates the namespace. -/
  | deallocate
  deriving DecidableEq, Repr

/-- A corrected word that waits for its write-back (R339). -/
structure EccBack where
  /-- Memory. -/
  m : MemKind
  /-- Address in it. -/
  addr : Nat
  /-- The corrected word: 16 data bytes and 3 check bytes. -/
  word : Bytes
  /-- What the word's place held when it was read: a new write to it comes first. -/
  seen : List Nat
  deriving DecidableEq, Repr

/-- The recorder (R344-R353). -/
structure Rcd where
  /-- Blocks of the pre-event ring that take entries, 64 KiB each: the ring less the staging area (R343, R344, R348). -/
  total : Nat := 61440
  /-- Free ring blocks (R344). -/
  free : Nat := 61440
  /-- Filling, used and held blocks, oldest first (R344). -/
  blocks : List RingBlk := []
  /-- Incident in progress (R346). -/
  cur : Option Incident := none
  /-- Triggers beyond the 120 s limit (R347). -/
  queued : List (Nat × Nat) := []
  /-- Incidents on the drive, oldest first (R349). -/
  done : List Incident := []
  /-- Drive ready (R353). -/
  ready : Bool := false
  /-- Drive present (R353). -/
  present : Bool := false
  /-- N of the drive's ring (R349). -/
  nBlocks : Nat := 0
  /-- HEAD (R349). -/
  head : Nat := 0
  /-- TAIL (R349). -/
  tail : Nat := 0
  /-- NEXT_INCIDENT (R349). -/
  next : Nat := 0
  /-- SEQ of the valid superblock (R349). -/
  superSeq : Nat := 0
  /-- Recorder link width (R352). -/
  width : Nat := 4
  /-- Corrected words that wait for write-back (R339). -/
  writeback : List EccBack := []
  /-- Data of the last word that a read delivered (R339). -/
  delivered : Bytes := []
  /-- Words as they were last written back (R339). -/
  rewritten : List ((MemKind × Nat) × Bytes) := []
  /-- The copies of the superblock in LBA 0 and LBA 1 (R349). -/
  sb0 : Bytes := []
  sb1 : Bytes := []
  /-- An incident at HEAD of the drive that has no end block (R350, R353). -/
  torn : Option Incident := none
  /-- The device has reset since that incident was cut (R513). -/
  openAtReset : Bool := false
  /-- Commands issued to the drive, oldest first (R352). -/
  nvme : List NvmeCmd := []
  deriving DecidableEq, Repr

/-- A safe input pair of one channel (R404-R408). -/
structure Pair where
  /-- Pair in demand (R404). -/
  demand : Bool := false
  /-- Discrepancy counter (R404). -/
  cnt : Nat := 0
  /-- Discrepancy fault latched (R405). -/
  disc : Bool := false
  /-- Input-test fault latched (R403). -/
  test : Bool := false
  /-- Consecutive samples at which only the A input reads 0 (R404). -/
  filtA : Nat := 0
  /-- The same for the B input (R404). -/
  filtB : Nat := 0
  /-- Uptime of the first sample of the run at 1, 1 of a reset pair (R408). -/
  resetAt : Option Nat := none
  deriving DecidableEq, Repr

/-- One Toll channel's evaluation (R396-R422). -/
structure TollCh where
  /-- Safe input pairs (R404). -/
  pairs : List Pair := [{},{},{},{},{},{},{},{}]
  /-- Hit rays of the frame by field (R413). -/
  hCur : List Nat := [0,0,0,0,0,0,0,0,0,0,0,0,0,0,0,0]
  /-- Blind rays of the frame (R413). -/
  bCur : List Nat := [0,0,0,0,0,0,0,0,0,0,0,0,0,0,0,0]
  /-- Hit rays of the frame before (R413). -/
  hPrev : List Nat := [0,0,0,0,0,0,0,0,0,0,0,0,0,0,0,0]
  /-- Blind rays of the frame before (R413). -/
  bPrev : List Nat := [0,0,0,0,0,0,0,0,0,0,0,0,0,0,0,0]
  /-- Rays evaluated in the frame (R414). -/
  rays : List Nat := [0,0,0,0,0,0,0,0,0,0,0,0,0,0,0,0]
  /-- Frame ticks each field is still held occupied (R414, R415). -/
  hold : List Nat := [0,0,0,0,0,0,0,0,0,0,0,0,0,0,0,0]
  /-- Closed switches of the channel, bit p (R418). -/
  switch : Nat := 0
  /-- Test output low in its test window (R403). -/
  tpLow : Bool := false
  /-- Pairs for which a reset has occurred since they last de-energised (R408, R418). -/
  reset : Nat := 0
  /-- Uptime at which the test window started (R403). -/
  tpStart : Option Nat := none
  /-- Consecutive windows with a clock deviation (R397). -/
  clockBad : Nat := 0
  /-- Self-test passed (R399). -/
  selfOk : Bool := false
  /-- Self-test runs (R399). -/
  testing : Bool := true
  /-- Consecutive disagreeing readbacks by pair (R419). -/
  rbBad : List Nat := [0,0,0,0]
  deriving DecidableEq, Repr

/-- A telegram copy in a comparison window (R433). -/
structure Copy where
  /-- 64 bytes (R433). -/
  bytes : Bytes := []
  /-- Port it came on (R433). -/
  port : Nat := 0
  /-- Uptime of its arrival (R433). -/
  t : Nat := 0
  deriving DecidableEq, Repr

/-- The Toll island (R396-R444). -/
structure Toll where
  /-- Toll logic (R396). -/
  logic : TollCh := {}
  /-- Toll processor (R396). -/
  proc : TollCh := {}
  /-- Safety configuration table in effect (R438). -/
  cfg : Bytes := []
  /-- Accepted since the island's reset (R401). -/
  cfgOk : Bool := false
  /-- VDD_TOLL at or above 90 % (R531). -/
  vddOk : Bool := true
  /-- CH_FAULT_CAUSE (R397). -/
  fault : Nat := 0
  /-- Latched output faults by pair (R419). -/
  outFault : Nat := 0
  /-- Latched field faults (R415). -/
  fieldFault : Nat := 0
  /-- Consecutive disagreeing frames by field (R415). -/
  disRun : List Nat := [0,0,0,0,0,0,0,0,0,0,0,0,0,0,0,0]
  /-- TOLL_DEMAND at the last evaluation (R480). -/
  demand : Nat := 0
  /-- Consecutive mailbox exchanges in which the pair state differed between the channels, by pair (R407). -/
  mbxRun : List Nat := [0,0,0,0,0,0,0,0]
  /-- Pairs whose conditions held in both channels at the last evaluation (R418). -/
  energised : Nat := 0
  /-- Off-pulses of A switches in progress (R420). -/
  testA : Nat := 0
  /-- Off-pulses of B switches in progress (R420). -/
  testB : Nat := 0
  /-- Off-pulses in progress whose readback was low: bit 2p for switch A of pair p, bit 2p + 1 for B (R421, R422). -/
  testPass : Nat := 0
  /-- Last readbacks, bit 2p A, bit 2p+1 B (R419). -/
  readback : Nat := 0
  /-- Connection held (R435). -/
  conn : Bool := false
  /-- One telegram accepted under the ECHO_SEQ rule (R435). -/
  echoOk : Bool := false
  /-- The connection counts as lost (R435). -/
  lost : Bool := true
  /-- REMOTE_DEMAND in effect (R434). -/
  remote : Bool := false
  /-- FIELD_MUTE in effect (R434). -/
  mute : Nat := 0
  /-- Last accepted SEQ (R432). -/
  rxSeq : Nat := 0
  /-- Uptime of the last accepted telegram (R435). -/
  rxLast : Nat := 0
  /-- SEQ of the last status telegram sent (R431). -/
  txSeq : Nat := 0
  /-- Uptime of the last status telegram (R431). -/
  txLast : Option Nat := none
  /-- DEMANDS, FAULTS, OUTPUTS last reported (R431). -/
  txSaid : List Nat := [0,0,0]
  /-- SEQ of the last 8 status telegrams (R432). -/
  txSeqs : List Nat := []
  /-- Open comparison windows, oldest first (R433). -/
  wins : List Copy := []
  /-- SEQ of the comparison windows decided last, newest first (R433). -/
  closed : List Nat := []
  /-- Uptime of the last copy mismatch (R433). -/
  mism : Option Nat := none
  /-- Uptimes of composition mismatches (R430). -/
  comp : List Nat := []
  /-- Safety.clear_faults written since the last frame tick (R415). -/
  clearReq : Bool := false
  /-- Corrected words of the Toll memories (R339). -/
  eccCorr : Nat := 0
  deriving DecidableEq, Repr

/-- A Flefen session or one that waits for PROVE (R453). -/
structure Session where
  /-- SESSION (R453). -/
  id : Nat := 0
  /-- 1 operator, 2 engineer (R452). -/
  role : Nat := 0
  /-- PROVE succeeded (R453). -/
  opened : Bool := false
  /-- Nonce N_c (R453). -/
  nc : Bytes := []
  /-- Nonce N_d (R453). -/
  nd : Bytes := []
  /-- Uptime of HELLO, then of the last accepted frame (R455). -/
  t : Nat := 0
  /-- Session key K_s (R453). -/
  key : Bytes := []
  /-- Last accepted SEQ (R454). -/
  seq : Nat := 0
  /-- Opened over host SPI (R447). -/
  spi : Bool := false
  deriving DecidableEq, Repr

/-- A kept response (R451). -/
structure Kept where
  /-- Source of the request (R451). -/
  src : Nat := 0
  /-- Request frame (R451). -/
  req : Bytes := []
  /-- Uptime (R451). -/
  t : Nat := 0
  /-- Response frame (R451). -/
  resp : Bytes := []
  deriving DecidableEq, Repr

/-- Flefen sessions, transfers and mailbox (R445-R470). -/
structure Flefen where
  /-- Sessions open and pending (R455). -/
  sessions : List Session := []
  /-- Responses kept, newest first (R451). -/
  kept : List Kept := []
  /-- Wrong proofs: role, uptime (R453). -/
  wrong : List (Nat × Nat) := []
  /-- Roles whose HELLO is locked out, and since when (uptime) (R453). -/
  lock : List (Nat × Nat) := []
  /-- Session.rejected (R454). -/
  rejected : Nat := 0
  /-- Open transfers (R463). -/
  transfers : List Transfer := []
  /-- Uptime of the last access that used the open table window (R465). -/
  winAt : Nat := 0
  /-- Table window: index of the table it is open for (R470). -/
  winOpen : Option Nat := none
  /-- Host SPI outbox, 8 frames (R446). -/
  outbox : List Bytes := []
  /-- Host SPI inbox (R446). -/
  inbox : Option Bytes := none
  /-- Last answer sent (Flefen frame, or words of an SPI command) (R449). -/
  answer : Bytes := []
  /-- Status code of the last dictionary operation (R450), kept for the commands that stand for one (R450). -/
  status : Nat := 0
  /-- Events.subscribers: address, port (R479). -/
  subs : List (Nat × Nat) := []
  /-- Operator key (flash configuration); empty: all zero (R456). -/
  opKey : Bytes := []
  /-- Engineer key (one-time-programmable); empty: all zero (R456). -/
  engKey : Bytes := []
  /-- Engineer key programmed (R456). -/
  engKeySet : Bool := false
  /-- Tally snapshot object (R249). -/
  snap : Bytes := []
  /-- A snapshot is armed (R246). -/
  snapArm : Bool := false
  /-- The channel that the arming write named (R246). -/
  snapCh : Nat := 0
  deriving DecidableEq, Repr

/-- An event log entry (R471). -/
structure LogEnt where
  /-- Group (R479). -/
  g : Nat := 0
  /-- Source (R479). -/
  s : Nat := 0
  /-- Occurrences merged (R471). -/
  cnt : Nat := 0
  /-- Device time of the latest occurrence, ns (R479). -/
  t : Nat := 0
  /-- Uptime at which the entry was opened (R471). -/
  opened : Nat := 0
  deriving DecidableEq, Repr

/-- The event controller (R471-R474). -/
structure Evt where
  /-- Event log, newest first, 256 entries (R479). -/
  log : List LogEnt := []
  /-- By 24 g + s: occurrences since the last message and time of the latest (R473). -/
  due : Tab (Nat × Nat) := []
  /-- By 24 g + s: uptime of the last message (R473). -/
  lastMsg : Tab Nat := []
  /-- Event messages sent, oldest first (R473). -/
  msgs : List Bytes := []
  deriving DecidableEq, Repr

/-- A temperature sensor (R489-R495). -/
structure Sensor where
  /-- Reading, 1/16 degree (R489). -/
  reading : Int := 0
  /-- Failed (R490). -/
  failed : Bool := false
  /-- Consecutive readings that passed while failed (R490). -/
  okRun : Nat := 0
  /-- Last valid reading (R494). -/
  lastGood : Int := 0
  deriving DecidableEq, Repr

/-- Thermal control (R489-R495). -/
structure Therm where
  /-- TS00-TS23 (empty: none read yet) (R489). -/
  sens : List Sensor := []
  /-- Throttle level evaluated (R493). -/
  level : Nat := 0
  /-- A new level waits for the next stage tick (R493). -/
  levelDue : Bool := false
  /-- Throttle level in effect (R493). -/
  inEffect : Nat := 0
  /-- Sensors substituted: sensor, its last valid reading plus 10 °C, the 60 s have passed (R494). -/
  subst : List (Nat × Int × Bool) := []
  /-- Sensor that gave T_j (R494). -/
  hottest : Nat := 0
  deriving DecidableEq, Repr

/-- A retirement table entry (R486). -/
structure Retired where
  /-- KIND (R486). -/
  kind : Nat := 0
  /-- UNIT (R486). -/
  unit : Nat := 0
  /-- Event group (R486). -/
  g : Nat := 0
  /-- Event source (R486). -/
  s : Nat := 0
  /-- Device time, ns (R486). -/
  t : Nat := 0
  /-- Written to flash (R486). -/
  stored : Bool := false
  /-- Its write to flash failed (R486). -/
  lost : Bool := false
  deriving DecidableEq, Repr

/-- A counted fault (R483). -/
structure FaultRec where
  /-- Unit kind (R483). -/
  kind : Nat := 0
  /-- Unit (R483). -/
  unit : Nat := 0
  /-- 24 x group + source of the fault (R483). -/
  src : Nat := 0
  /-- Stage tick count, or ms of uptime for lanes, ports and stewards (R483). -/
  tick : Nat := 0
  deriving DecidableEq, Repr

/-- A stored configuration record (R497). -/
structure Saved where
  /-- Index (R497). -/
  idx : Nat := 0
  /-- Subindex (R497). -/
  sub : Nat := 0
  /-- Type code (R497). -/
  ty : Nat := 0
  /-- Value (R497). -/
  val : Bytes := []
  deriving DecidableEq, Repr

/-- States of the test access port's controller, IEEE 1149.1 (R548). -/
inductive TapState where
  | testLogicReset | runTestIdle
  | selectDr | captureDr | shiftDr | exit1Dr | pauseDr | exit2Dr | updateDr
  | selectIr | captureIr | shiftIr | exit1Ir | pauseIr | exit2Ir | updateIr
  deriving DecidableEq, Repr

/-- Instructions of the test access port, by what the spec tells apart (R475, R548). -/
inductive TapInstr where
  /-- BYPASS. -/
  | bypass
  /-- IDCODE. -/
  | idcode
  /-- Boundary scan, IEEE 1149.1. -/
  | boundary
  /-- AC boundary scan of the serial lanes, IEEE 1149.6. -/
  | acBoundary
  /-- Debug access to the stewards. -/
  | debug
  /-- Internal scan. -/
  | internalScan
  deriving DecidableEq, Repr

/-- The test access port (R548). -/
structure Tap where
  /-- TRST_N is low: its pull-down holds the port in reset while the pin is open (R548). -/
  trstLow : Bool := true
  /-- Controller state (R548). -/
  ctl : TapState := .testLogicReset
  /-- Instruction in effect (R475). -/
  ir : TapInstr := .idcode
  /-- Bypass register. -/
  bit : Bool := false
  deriving DecidableEq, Repr

/-- Two copies of one flash area, as their bytes; none written: empty (R496). -/
structure FlashPair where
  /-- First copy. -/
  a : Bytes := []
  /-- Second copy. -/
  b : Bytes := []
  deriving DecidableEq, Repr

/-- The areas of the boot flash that hold two copies (R496). -/
structure Flash where
  /-- Boot record, at 0x0000_0000 and 0x0000_1000. -/
  boot : FlashPair := {}
  /-- Retirement table, at 0x0001_0000 and 0x0001_8000. -/
  ret : FlashPair := {}
  /-- Configuration store, at 0x0002_0000 and 0x0011_0000. -/
  cfg : FlashPair := {}
  deriving DecidableEq, Repr

/-- Boot, stewards, flash and life in service (R480-R517). -/
structure Life where
  /-- Boot step, 0 held in reset, 6 done (R501). -/
  boot : Nat := 0
  /-- Image slot A (R496). -/
  slotA : Bytes := []
  /-- Image slot B (R496). -/
  slotB : Bytes := []
  /-- Recovery load buffer (R502). -/
  loadBuf : Bytes := []
  /-- A recovery image runs (R502). -/
  recImage : Bool := false
  /-- A boot record copy is valid (R500). -/
  bootValid : Bool := false
  /-- ACTIVE of the boot record (R500). -/
  active : Nat := 0
  /-- CONFIRMED (R500). -/
  confirmed : Bool := false
  /-- TRIES (R500). -/
  tries : Nat := 0
  /-- Key hash in one-time-programmable memory; empty: all zero (R499). -/
  keyHash : Bytes := []
  /-- Rollback counter (R499). -/
  rollback : Nat := 0
  /-- Serial number in one-time-programmable memory (R468). -/
  serial : Nat := 0
  /-- External memory fitted, GiB (R341). -/
  fitted : Nat := 8
  /-- Fuses blown in the array (R476). -/
  fuses : Nat := 0
  /-- Configuration store (none: neither copy valid) (R497). -/
  store : Option (List Saved) := none
  /-- Configuration being stored (R497). -/
  saving : Option (List Saved) := none
  /-- STRAP_REF as last sampled (R527). -/
  strapRef : Bool := false
  /-- STRAP_RCV as last sampled (R527). -/
  strapRcv : Bool := false
  /-- LOCAL_MAINT as last sampled (R527). -/
  localMaint : Bool := false
  /-- 0 none, 1 loading, 2 ready, 3 unconfirmed (R505). -/
  handover : Nat := 0
  /-- TOLL_DIGEST of the running Toll firmware (R508). -/
  tollFw : Bytes := []
  /-- The island resets by firmware.toll_reload and its self-test is not done (R397, R508). -/
  tollReload : Bool := false
  /-- RESET_N is low (R512, R546). -/
  rstLow : Bool := false
  /-- Power-on reset holds (R530). -/
  por : Bool := false
  /-- Retirement table, in the order added (R486). -/
  retired : List Retired := []
  /-- Retirement table as it stands in flash (R486). -/
  flashRet : List Retired := []
  /-- Convoy whose recalibration turn came last (R510). -/
  recalLast : Nat := 15
  /-- Channels and banks that return at the next frame tick: kind, unit (R487). -/
  returns : List (Nat × Nat) := []
  /-- Faults counted towards permanence (R483). -/
  faults : List FaultRec := []
  /-- Stage ticks counted for the fault window (R483). -/
  ticks : Nat := 0
  /-- Uptime at which stage ticks stopped occurring (R483). -/
  tickBase : Nat := 0
  /-- Start input retired (R482). -/
  startRet : List Bool := [false,false]
  /-- Ethernet port retired (R482). -/
  portRet : List Bool := [false,false]
  /-- Steward runs (R507). -/
  stewRun : List Bool := [false,false]
  /-- Steward state of the latest checkpoint: fields (key, value) (R507). -/
  checkpoint : List (Nat × Nat) := []
  /-- Pending writes of the latest checkpoint (R507). -/
  ckptDues : List Due := []
  /-- Uptime of the latest checkpoint (R507). -/
  ckptUp : Nat := 0
  /-- The serving steward restarts from flash with no standby (R507). -/
  fwRestart : Bool := false
  /-- Lines written to UART_TX since the last whole-device reset, oldest first (R503). -/
  console : List String := []
  /-- Test access port (R548). -/
  tap : Tap := {}
  /-- Copies of the boot record, the retirement table and the configuration store (R496). -/
  flash : Flash := {}
  deriving DecidableEq, Repr

/-- Everything the block holds but the command queue. -/
structure Dev where
  /-- Device state (R30). -/
  st : DevState := .boot
  /-- Accepted transition that waits for lock, arming or a frame tick (R31). -/
  want : Option DevState := none
  /-- Transition that the preparation point has fixed for the coming tick (R22). -/
  wantFixed : Option DevState := none
  /-- Terms of R34 whose loss led to SAFE_HOLD (R31, R34). -/
  lostTerms : Nat := 0
  /-- Causes that led to SAFE_HOLD (R31). -/
  causes : List HoldCause := []
  /-- Uptime, ns since power-on reset released (R451, R453). -/
  up : Nat := 0
  /-- Clk_tdc cycles since the divider release (R46). -/
  cyc : Nat := 0
  /-- Free values taken (the model's own field). -/
  free : Nat := 0
  /-- The whole device is held in reset (R512, R530). -/
  held : Bool := true
  /-- Every register field by packed key (unlisted: 0) (R65). -/
  regs : Tab Nat := []
  /-- Writes that wait for their commit point, in order of acceptance (R460). -/
  dues : List Due := []
  /-- Double-banked tables by dictionary index (R24). -/
  tabs : Tab Bank := []
  /-- The clutter bank that waits to swap comes from basic writes (R270). -/
  clutBasic : Bool := false
  /-- Content of basic writes accepted after the preparation point, for the tick after it (R22, R270). -/
  clutLater : Bytes := []
  /-- Clocks, gating, bridges (R40). -/
  clk : Clk := {}
  /-- Time base (R56). -/
  tb : TimeBase := {}
  /-- Shot sequencer (R9). -/
  seq : Seq := {}
  /-- Return channels by number (unlisted: as after reset) (R160). -/
  chans : Tab Chan := []
  /-- Convoys by number (R160). -/
  cvys : Tab Convoy := []
  /-- Counting tally buffers by channel (R209). -/
  cnt : Tab Buf := []
  /-- Tally buffers held by the echo engines, by channel (R209). -/
  ech : Tab Buf := []
  /-- Records of the stage in the echo engines (R234). -/
  recs : Tab Rec := []
  /-- Zoom starts placed for the coming stage, by channel (R216). -/
  seeds : Tab (List Nat) := []
  /-- F store by 512 x waybill index + channel (unlisted: stale) (R218). -/
  fStore : Tab (List Nat) := []
  /-- Persistence store (unlisted: stale) (R259). -/
  pStore : Tab (List Nat) := []
  /-- Light ledger (R92). -/
  led : Ledger := {}
  /-- Drover (R121). -/
  drv : Drover := {}
  /-- Output streams (R299). -/
  streams : List Stream := [{},{}]
  /-- Ethernet and network time (R376). -/
  net : Net := {}
  /-- Basxiop and string (R357). -/
  bx : Basx := {}
  /-- Converters ADC0 and ADC1 (R308). -/
  conv : List Conv := [{},{}]
  /-- Acquisition engine (R318). -/
  acq : Acq := {}
  /-- Base sample and energy code of the monitor slot (R315). -/
  mon : Nat × Nat := (0, 0)
  /-- Recorder and memory protection (R344). -/
  rcd : Rcd := {}
  /-- Toll island (R396). -/
  toll : Toll := {}
  /-- Flefen (R445). -/
  flf : Flefen := {}
  /-- Event controller (R471). -/
  evt : Evt := {}
  /-- Thermal control (R489). -/
  therm : Therm := {}
  /-- Boot, stewards, flash, life in service (R496). -/
  life : Life := {}
  deriving DecidableEq, Repr

/-- The whole state: the queue of waiting commands, first in first out, and the block. -/
structure State where
  /-- Commands that wait, first in first out. -/
  pending : List Instr
  /-- Everything else. -/
  dev : Dev
  deriving DecidableEq, Repr

/-- What stops the machine. -/
inductive Fault where
  /-- RESET_N_ASSERT, for a low of 100 ns up to 1 us: R546 calls the outcome unspecified. Safe: the model stops where the
  hardware does one thing or the other. -/
  | resetPulseUnspecified
  deriving DecidableEq, Repr

/-- Why a command has no meaning here. -/
inductive Refusal where
  /-- A row of the command table that the model gives no meaning yet. Safe. -/
  | notModelled (mnemonic : String)
  deriving DecidableEq, Repr

/-- The block right after a whole-device reset by power-on (R512 code 1, R513): register fields at their reset values,
BOOT, every internal buffer empty. -/
def Dev.reset : Dev :=
  { regs := resetCells, held := false, life := { boot := 1 } }

/-- The machine right after reset: nothing waits. -/
def State.reset : State := { pending := [], dev := Dev.reset }

end Sys2Proof.Machine
end

