-- ==== Sys2Proof/Machine/Ops.lean ====
section
/-! DEFINITION. The named operations over the state: the register store, per-unit tables, time, free values, events and the
event log, and the result of a command. -/

namespace Sys2Proof.Machine

/-- The result of a command. -/
abbrev Out := Host.Outcome State Fault Refusal

/-- A command whose whole effect is a change of the block: the queue stays as it is. -/
def onDev (f : Dev → Dev) (s : State) : Out := .next { s with dev := f s.dev }

/-- Applies a change when a condition holds. -/
def Dev.when (d : Dev) (c : Bool) (f : Dev → Dev) : Dev := if c then f d else d

/-! ## Registers -/

/-- A register field. -/
def Dev.get (d : Dev) (f : Fld) : Nat := Tab.getD d.regs f 0

/-- Writes a register field: the value keeps the field's width, so a counter wraps. -/
def Dev.set (d : Dev) (f : Fld) (v : Nat) : Dev := { d with regs := Tab.putNat d.regs f (v % 2 ^ Fld.width f) }

/-- A one-bit field as a truth value. -/
def Dev.flag (d : Dev) (f : Fld) : Bool := d.get f ≠ 0

/-- Writes a one-bit field. -/
def Dev.setB (d : Dev) (f : Fld) (b : Bool) : Dev := d.set f (nat b)

/-- A field as a two's complement value. -/
def Dev.getS (d : Dev) (f : Fld) : Int := sgn (Fld.width f) (d.get f)

/-- Writes a field as a two's complement value. -/
def Dev.setS (d : Dev) (f : Fld) (v : Int) : Dev := d.set f (uns (Fld.width f) v)

/-- Counts one; the counters wrap (R114, R117, R205, R247, R274, R306, R333, R355, R394, R443). -/
def Dev.inc (d : Dev) (f : Fld) : Dev := d.set f (d.get f + 1)

/-- Adds to a counter. -/
def Dev.add (d : Dev) (f : Fld) (n : Nat) : Dev := d.set f (d.get f + n)

/-- Sets or clears bit i of a field. -/
def Dev.setBitOf (d : Dev) (f : Fld) (i : Nat) (b : Bool) : Dev := d.set f (setBit (d.get f) i b)

/-! ## Units held in sparse tables -/

/-- Return channel c. -/
def Dev.chan (d : Dev) (c : Nat) : Chan := Tab.getD d.chans c {}

/-- Replaces return channel c. -/
def Dev.modChan (d : Dev) (c : Nat) (f : Chan → Chan) : Dev := { d with chans := Tab.put d.chans c (f (d.chan c)) }

/-- Replaces every return channel. -/
def Dev.mapChans (d : Dev) (f : Nat → Chan → Chan) : Dev := { d with chans := Tab.ofFn 512 fun c => f c (d.chan c) }

/-- Convoy i. -/
def Dev.cvy (d : Dev) (i : Nat) : Convoy := Tab.getD d.cvys i {}

/-- Replaces convoy i. -/
def Dev.modCvy (d : Dev) (i : Nat) (f : Convoy → Convoy) : Dev := { d with cvys := Tab.put d.cvys i (f (d.cvy i)) }

/-- Repeats a change over a list of units. -/
def Dev.each (d : Dev) (l : List Nat) (f : Dev → Nat → Dev) : Dev := l.foldl f d

/-- Takes the next free value, below `2 ^ w` (the spec states none; log 4). -/
def Dev.takeFree (d : Dev) (w : Nat) : Nat × Dev := (Config.freeValue d.free % 2 ^ w, { d with free := d.free + 1 })

/-! ## Tables (R24, R462) -/

/-- The banks of the table with a dictionary index. -/
def Dev.bank (d : Dev) (idx : Nat) : Bank := Tab.getD d.tabs idx {}

/-- Replaces the banks of a table. -/
def Dev.modBank (d : Dev) (idx : Nat) (f : Bank → Bank) : Dev := { d with tabs := Tab.put d.tabs idx (f (d.bank idx)) }

/-- Bytes of the active bank. -/
def Bank.act (b : Bank) : Bytes := if b.active = 0 then b.b0 else b.b1

/-- Bytes of the inactive bank. -/
def Bank.inact (b : Bank) : Bytes := if b.active = 0 then b.b1 else b.b0

/-- The active bank holds an uncorrectable word (R339). -/
def Bank.actBad (b : Bank) : Bool := if b.active = 0 then b.bad0 else b.bad1

/-- The inactive bank holds an uncorrectable word (R339). -/
def Bank.inactBad (b : Bank) : Bool := if b.active = 0 then b.bad1 else b.bad0

/-- Writes the inactive bank. -/
def Bank.setInact (b : Bank) (v : Bytes) : Bank :=
  if b.active = 0 then { b with b1 := v, bad1 := false } else { b with b0 := v, bad0 := false }

/-- The swap: the committed inactive bank becomes the active one. -/
def Bank.swap (b : Bank) : Bank := { b with active := 1 - b.active, committed := false, fixed := false }

/-- Active bytes of a table. -/
def Dev.tab (d : Dev) (idx : Nat) : Bytes := (d.bank idx).act

/-! ## Clocks and time (R44, R56, R57, R60) -/

/-- The domains run from the locked root, not from the RC fall-back (R44, R47). -/
def Dev.rootRuns (d : Dev) : Bool := d.flag F.CLK_STATUS.PLL_LOCK && !d.flag F.CLK_STATUS.FALLBACK

/-- TB_STATUS.VALID: time has been set since reset, and the root runs (R73). -/
def Dev.timeValid (d : Dev) : Bool := d.flag F.TB_STATUS.VALID && d.rootRuns

/-- One ns in units of device time. -/
def one40 : Int := 1099511627776

/-- Servo term plus ageing term, before saturation (R56). -/
def Dev.trimBase (d : Dev) : Int := d.getS F.TB_TRIM + d.tb.ageing

/-- The slew term for a remainder (R60): 100 ppm with the sign of the offset, or the remainder itself in the last cycle. -/
def slewTerm (rem : Int) : Int := clampI rem (-109951163) 109951163

/-- The effective trim F (R56). -/
def Dev.trimEff (d : Dev) : Int := satS 32 (d.trimBase + slewTerm d.tb.rem)

/-- The sum of the trim terms leaves 32 bits (R56). -/
def Dev.trimSat (d : Dev) : Bool := decide (d.trimEff ≠ d.trimBase + slewTerm d.tb.rem)

/-- The room that saturation leaves a slew: how far F can move from the servo and ageing terms in the slew's direction (R56, R60). -/
def slewRoom (base rem : Int) : Nat :=
  (if rem < 0 then satS 32 base + 2 ^ 31 else 2 ^ 31 - 1 - satS 32 base).toNat

/-- How far the servo and ageing terms lie outside 32 bits on the side that the slew comes from: the part of the slew term that
saturation swallows (R56, R60). -/
def slewLack (base rem : Int) : Nat :=
  (if rem < 0 then base - satS 32 base else satS 32 base - base).toNat

/-- The part of a full slew term that acts in one cycle, as a magnitude (R60). -/
def slewCap (base rem : Int) : Nat := min (slewRoom base rem) (109951163 - slewLack base rem)

/-- What is left, as a magnitude, of a remainder `rem` after `n` cycles (R60): cycles of the full term, then cycles whose term is the
remainder itself. -/
def slewLeft (base rem : Int) (n : Nat) : Nat :=
  let m := rem.natAbs
  let cap := slewCap base rem
  let full := if m < 109951163 then 0 else if cap = 0 then n else min n ((m - 109951163) / cap + 1)
  let m1 := m - full * cap
  let lack := slewLack base rem
  if full = n then m1 else if lack = 0 then m1 - (n - full) * slewRoom base rem else min m1 lack

/-- What `n` cycles absorb of the offset being slewed (R60). -/
def Dev.slewPart (d : Dev) (n : Nat) : Int :=
  d.tb.rem.sign * ((d.tb.rem.natAbs : Int) - slewLeft d.trimBase d.tb.rem n)

/-- Cycles until the slew ends; none while saturation leaves no end to it (R60). -/
def Dev.slewCycles (d : Dev) : Option Nat :=
  let cap := slewCap d.trimBase d.tb.rem
  if d.tb.rem = 0 || cap = 0 || slewLack d.trimBase d.tb.rem ≠ 0 then none else some (cdiv d.tb.rem.natAbs cap)

/-- The time base counts (R71, R47). -/
def Dev.tbCounts (d : Dev) : Bool := d.flag F.TB_CTRL.RUN && d.rootRuns

/-- What `n` clk_tdc cycles add to device time, 2^-40 ns (R56, R60). -/
def Dev.timeIn (d : Dev) (n : Nat) : Int := (n : Int) * (one40 + satS 32 d.trimBase) + d.slewPart n

/-- The largest count below `2 ^ k` past `acc` whose value stays below `goal`, for a function that rises. -/
def lastBelow (f : Nat → Int) (goal : Int) : Nat → Nat → Nat
  | 0, acc => acc
  | k + 1, acc => lastBelow f goal k (if f (acc + 2 ^ k) < goal then acc + 2 ^ k else acc)

/-- Cycles until device time has advanced by `adv` 2^-40 ns (R56, R59, R60, R64). -/
def Dev.cyclesFor (d : Dev) (adv : Int) : Nat := if adv ≤ 0 then 0 else lastBelow d.timeIn adv 80 0 + 1

/-- Device time passes by `n` clk_tdc cycles (R56, R59, R60). -/
def Dev.countTime (d : Dev) (n : Nat) : Dev :=
  let part := d.slewPart n
  let delta := d.timeIn n
  { d with tb := { d.tb with
      t40 := (d.tb.t40 + delta).toNat, rem := d.tb.rem - part, counted := (d.tb.counted + delta).toNat } }

/-- `n` ns pass: the uptime, the clk_tdc cycles while the root runs, and device time while the time base counts. -/
def Dev.advance (d : Dev) (n : Nat) : Dev :=
  let d1 := { d with up := d.up + n, cyc := if d.rootRuns then d.cyc + n else d.cyc }
  if d1.tbCounts then d1.countTime n else d1

/-- Time passes until an uptime, when that lies ahead. -/
def Dev.advanceTo (d : Dev) (t : Nat) : Dev := d.advance (t - d.up)

/-- Time passes until a clk_tdc cycle count, when that lies ahead. -/
def Dev.cycleTo (d : Dev) (c : Nat) : Dev := d.advance (c - d.cyc)

/-- Device time in whole ns. -/
def Dev.nowNs (d : Dev) : Nat := d.tb.t40 / 1099511627776

/-- Seconds of device time (R57). -/
def Dev.nowSec (d : Dev) : Nat := d.nowNs / 1000000000

/-- A time of ns since the epoch as TIME80: 48-bit seconds and 32-bit nanoseconds (R57). -/
def time80 (ns : Nat) : Bytes := be 6 (ns / 1000000000) ++ be 4 (ns % 1000000000)

/-! ## Events (R471–R473) and the console (R503) -/

/-- Enable bit of a source. -/
def Dev.evtOn (d : Dev) (g s : Nat) : Bool := bitAt (d.get (F.EVT_ENABLE g)) s

/-- Route of a source (R474). -/
def Dev.evtRoute (d : Dev) (g s : Nat) : Nat :=
  if s < 16 then bits (d.get (F.EVT_ROUTE_LO g)) (2 * s) 2 else bits (d.get (F.EVT_ROUTE_HI g)) (2 * s - 32) 2

/-- Writes one line to UART_TX, with the device time when it is valid (R503); the text is the model's (log 7). -/
def Dev.print (d : Dev) (line : String) : Dev :=
  if d.life.boot < 2 then d else
    let stamp := if d.timeValid then toString (d.nowSec) ++ " " ++ toString (d.nowNs % 1000000000) ++ " " else ""
    { d with life := { d.life with console := d.life.console ++ [stamp ++ line ++ "\r\n"] } }

/-- The event log after an occurrence (R471). -/
def logAdd (up now g s : Nat) : List LogEnt → List LogEnt
  | e :: t =>
    if e.g = g ∧ e.s = s ∧ up < e.opened + 10000000 ∧ e.cnt < 65535 then { e with cnt := e.cnt + 1, t := now } :: t
    else ({ g := g, s := s, cnt := 1, t := now, opened := up } :: e :: t).take 256
  | [] => [{ g := g, s := s, cnt := 1, t := now, opened := up }]

/-- The event controller after an occurrence at uptime `up` and device time `now`: the event log, and with `msg` the message due on
route 3 (R471, R473). -/
def Evt.note (e : Evt) (up now g s : Nat) (msg : Bool) : Evt :=
  let k := 24 * g + s
  { e with
    log := logAdd up now g s e.log
    due := if msg then Tab.put e.due k (min 65535 ((Tab.getD e.due k (0, 0)).1 + 1), now) else e.due }

/-- An occurrence is recorded: its status bit, the event log and the message due (R471, R473). -/
def Dev.record (d : Dev) (g s : Nat) : Dev :=
  { d.setBitOf (F.EVT_STATUS g) s true with evt := d.evt.note d.up d.nowNs g s (d.evtOn g s && d.evtRoute g s = 3) }

/-- An occurrence of an event source (R471), with its console line where the source is routed (R503). -/
def Dev.raise (d : Dev) (g s : Nat) : Dev :=
  if d.evtRoute g s = 0 then d.record g s else (d.record g s).print ("event " ++ toString g ++ "." ++ toString s)

/-- Raises an event when a condition holds. -/
def Dev.raiseIf (d : Dev) (c : Bool) (g s : Nat) : Dev := if c then d.raise g s else d

/-- Records the status code that a dictionary write answers (R450). -/
def Dev.answer (d : Dev) (code : Nat) : Dev := { d with flf := { d.flf with status := code } }

end Sys2Proof.Machine
end

