-- ==== Sys2Proof/Machine/Pending.lean ====
section
/-! DEFINITION. Writes that wait for their commit point (R7, R22, R458–R461). -/

namespace Sys2Proof.Machine

/-- Stage and frame ticks occur in this state (R461). -/
def DevState.ticks : DevState → Bool
  | .scan | .ranging | .degraded => true
  | _ => false

/-- The state's laser is armed and records are sent (R30). -/
def DevState.armed : DevState → Bool
  | .ranging | .degraded => true
  | _ => false

/-- Writes that wait, without those of a field. -/
def dropKey (f : Fld) (l : List Due) : List Due := l.filter (·.key ≠ f)

/-- A field takes a value at once: every pending value of the field is withdrawn (R460). -/
def Dev.writeNow (d : Dev) (f : Fld) (v : Nat) : Dev := { d with dues := dropKey f d.dues }.set f v

/-- A write becomes pending. An earlier one of the same field never takes effect unless a preparation point has fixed it for
the coming tick; a write of the value in effect withdraws what is pending (R460). -/
def Dev.writeLater (d : Dev) (f : Fld) (v : Nat) (p : Commit) : Dev :=
  let l := d.dues.filter fun x => x.key ≠ f || x.fixed
  if d.get f = v && !l.any (·.key = f) then { d with dues := l }
  else { d with dues := l ++ [{ key := f, val := v, point := p }] }

/-- The point takes effect on acceptance: it is immediate, or a stage or frame tick while no ticks occur (R461). -/
def Dev.onAcceptance (d : Dev) (p : Commit) : Bool :=
  match p with
  | .immediate => true
  | .stage | .frame => !d.st.ticks
  | .stateChange | .control => false

/-- A write of a field with its commit point (R7, R458, R461). -/
def Dev.write (d : Dev) (f : Fld) (v : Nat) (p : Commit) : Dev :=
  let w := v % 2 ^ Fld.width f
  if d.onAcceptance p then d.writeNow f w else d.writeLater f w p

/-- The pending value of a field: the last one accepted. -/
def Dev.pendingOf (d : Dev) (f : Fld) : Option Nat := (d.dues.reverse.find? (·.key = f)).map (·.val)

/-- Works through the waiting writes in order of acceptance: those that fire take effect and withdraw the earlier ones of
their field (R460); the others stay. -/
def fireDues (fires : Due → Bool) : List Due → List Due → Dev → Dev
  | [], kept, d => { d with dues := kept }
  | x :: t, kept, d =>
    if fires x then fireDues fires t (dropKey x.key kept) (d.set x.key x.val) else fireDues fires t (kept ++ [x]) d

/-- Writes with this commit point take effect; `all` when no preparation point has fixed which fall due. -/
def Dev.commitPoint (d : Dev) (p : Commit) (all : Bool) : Dev :=
  fireDues (fun x => x.point = p && (all || x.fixed)) d.dues [] d

/-- A preparation point fixes the writes that fall due at the coming tick, those committed at state change for a transition that it
may bring (R22). -/
def Dev.fixDues (d : Dev) (frame : Bool) : Dev :=
  { d with dues := d.dues.map fun x =>
      if x.point = .stage || x.point = .stateChange || (frame && x.point = .frame) then { x with fixed := true } else x }

/-- After a tick no write is fixed any more: what the tick did not apply waits for its own point (R22). -/
def Dev.freeDues (d : Dev) : Dev := { d with dues := d.dues.map fun x => { x with fixed := false } }

/-- The configuration that the commit check evaluates: the one in effect, with every pending write and every committed bank
(R458). -/
def Dev.projected (d : Dev) : Dev :=
  let d1 := fireDues (fun _ => true) d.dues [] d
  { d1 with tabs := d1.tabs.map fun e => (e.1, if e.2.committed then e.2.swap else e.2) }

end Sys2Proof.Machine
end

