-- ==== Sys2Proof/Machine/Firing.lean ====
section
/-! DEFINITION. The firing tables, the energy of a shot and the terms of the commit check that judge them
(R76, R80–R95, R106, R118, R261–R264, R553, R554). -/

namespace Sys2Proof.Machine

/-! ## Table layouts -/

/-- Entry i of a waybill bank, 128 bits (R80). -/
def wbEntry (wb : Bytes) (i : Nat) : Nat := rd 16 wb (16 * i)

/-- Entries of a bank with 16-byte entries (R554). -/
def entries16 (bs : Bytes) : Nat := bs.length / 16

/-- Number of manifest indices an entry uses (R80). -/
def wbCount (e : Nat) : Nat := bits e 45 3 + 1

/-- Manifest index Mk (R80). -/
def wbM (e k : Nat) : Nat := bits e (48 + 10 * k) 10

/-- DITHER_POLICY (R80). -/
def wbDither (e : Nat) : Nat := bits e 42 3

/-- ZOOM_POLICY (R80). -/
def wbZoom (e : Nat) : Nat := bits e 39 3

/-- AZIMUTH (R80). -/
def wbAz (e : Nat) : Int := sgn 16 (bits e 16 16)

/-- AXIS1_TARGET (R80). -/
def wbAx1 (e : Nat) : Int := sgn 16 (bits e 0 16)

/-- Manifest index of shot j of a stage (R81). -/
def wbShot (e j : Nat) : Nat := wbM e (j % wbCount e)

/-- Entry m of a manifest bank (R83). -/
def mfEntry (man : Bytes) (m : Nat) : Nat := rd 16 man (16 * m)

/-- COL_MASK (R83). -/
def mfCols (e : Nat) : Nat := bits e 64 64
/-- ROW (R83). -/
def mfRow (e : Nat) : Nat := bits e 58 6
/-- WIDTH_CODE (R83). -/
def mfWidth (e : Nat) : Nat := bits e 48 10
/-- RX_MAP (R83). -/
def mfRx (e : Nat) : Nat := bits e 40 8
/-- LEDGER_ROW (R83). -/
def mfLedgerRow (e : Nat) : Nat := bits e 34 6
/-- START_SEL (R83). -/
def mfStart (e : Nat) : Nat := bits e 33 1
/-- PAIR (R83). -/
def mfPair (e : Nat) : Bool := bitAt e 32

/-- Channel c counts under receive map `rx` (R84): bit 511 is sent first. -/
def rxHas (maps : Bytes) (rx c : Nat) : Bool := bitAt ((at' maps (64 * rx + (511 - c) / 8) 0).toNat) (c % 8)

/-- Emitter trim entry (R85); 0 before a bank is first committed. -/
def trimEntry (trim : Bytes) (r c : Nat) : Nat := rd 4 trim (4 * (64 * r + c))
/-- CLASS (R85). -/
def trimClass (t : Nat) : Nat := bits t 16 4
/-- DELAY_TRIM (R85). -/
def trimDelay (t : Nat) : Int := sgn 8 (bits t 8 8)
/-- WIDTH_TRIM (R85). -/
def trimWidth (t : Nat) : Int := sgn 8 (bits t 0 8)

/-- WIDTH_GAIN of a class (R85); 1.0 before a bank is first committed. -/
def classGain (gain : Bytes) (k : Nat) : Nat := if gain = [] then 0x8000 else rd 4 gain (4 * k) % 65536

/-- The effective width code (R86). -/
def wEff (code gain : Nat) (trim : Int) : Nat :=
  if code = 0 then 0 else
    let w2 := ((code * gain + 16384) / 32768 : Nat) + trim
    if w2 ≤ 0 then 0 else if w2 < 64 then 64 else if w2 > 1023 then 1023 else w2.toNat

/-- The firing tables that a shot uses. -/
structure EmTabs where
  wb : Bytes
  man : Bytes
  rx : Bytes
  trim : Bytes
  gain : Bytes
  deriving DecidableEq, Repr

/-- The active firing tables. -/
def Dev.emTabs (d : Dev) : EmTabs :=
  { wb := d.tab 0x7000, man := d.tab 0x7001, rx := d.tab 0x7002, trim := d.tab 0x7003, gain := d.tab 0x7004 }

/-- Effective width code of emitter (r, c) with a width code (R86). -/
def EmTabs.width (t : EmTabs) (code r c : Nat) : Nat :=
  let e := trimEntry t.trim r c
  wEff code (classGain t.gain (trimClass e)) (trimWidth e)

/-- Columns that pulse in a shot of a manifest entry: column, edge in 15.625 ps after the nominal fire edge, effective width
(R77). -/
def EmTabs.pulses (t : EmTabs) (e : Nat) : List (Nat × Nat × Nat) :=
  (bitList 64 (mfCols e)).filterMap fun c =>
    let w := t.width (mfWidth e) (mfRow e) c
    if w = 0 then none else some (c, (128 + trimDelay (trimEntry t.trim (mfRow e) c)).toNat, w)

/-- A dark shot commands no column pulse (R83). -/
def EmTabs.dark (t : EmTabs) (e : Nat) : Bool := (t.pulses e).isEmpty

/-! ## The ledger limit bank (R118) -/

/-- Window length in ns: W1 in µs, W2 in ms, W3 in s. -/
def winLen (lim : Bytes) (k : Nat) : Nat :=
  if k = 0 then rd 2 lim 0 * 1000 else if k = 1 then rd 2 lim 2 * 1000000 else rd 1 lim 4 * 1000000000

/-- Bucket length B = ⌈W / 64⌉ (R93). -/
def bucketLen (lim : Bytes) (k : Nat) : Nat := cdiv (winLen lim k) 64

/-- ENERGY_TOL. -/
def limTol (lim : Bytes) : Nat := rd 1 lim 5
/-- DISAGREE_STAGES. -/
def limStages (lim : Bytes) : Nat := rd 1 lim 6
/-- ENERGY_FLOOR. -/
def limFloor (lim : Bytes) : Nat := rd 4 lim 8
/-- MON_SCALE. -/
def limMon (lim : Bytes) : Nat := rd 4 lim 12
/-- EPL of a class. -/
def limEpl (lim : Bytes) (k : Nat) : Nat := rd 4 lim (16 + 4 * k)
/-- Limit of a cell in window k. -/
def limOf (lim : Bytes) (cell k : Nat) : Nat := rd 8 lim (80 + 24 * cell + 8 * k)

/-- Energy of a shot by the Toll logic, pJ (R95). -/
def EmTabs.energy (t : EmTabs) (lim : Bytes) (e : Nat) : Nat :=
  let sum := (bitList 64 (mfCols e)).foldl (fun a c =>
    a + t.width (mfWidth e) (mfRow e) c * limEpl lim (trimClass (trimEntry t.trim (mfRow e) c))) 0
  cdiv ((1 + nat (mfPair e)) * sum) 256

/-- Sector of an angle (R92). -/
def sectorOf (angle : Int) : Nat := ((angle + 32768) / 1024).toNat

/-- Cell of a shot (R92). -/
def cellOf (e : Nat) (angle : Int) : Nat := 64 * mfLedgerRow e + sectorOf angle

/-! ## Dither and pulse pairs (R261–R264) -/

/-- The dither generator loaded from a seed (R261). -/
def ditherLoad (seed : Nat) : Nat := Nat.lor (seed * 32768) 0x5555

/-- One step of the generator: the state and the bit. -/
def ditherBit (s : Nat) : Nat × Nat :=
  let b := (bits s 30 1 + bits s 27 1) % 2
  ((2 * s + b) % 2147483648, b)

/-- Eight steps: the new state and the value drawn, first bit highest (R261). -/
def ditherNext (s : Nat) : Nat × Nat :=
  (List.range 8).foldl (fun (a : Nat × Nat) _ => let r := ditherBit a.1; (r.1, 2 * a.2 + r.2)) (s, 0)

/-- The pair gap G_pair in ns (R264). -/
def pairGap (seed : Nat) : Nat := 16 + Nat.xor (seed / 1024) seed % 64

/-! ## Parameters of the sequencer -/

/-- T_p (R10). -/
def Dev.tp (d : Dev) : Nat := d.get F.P.shotPeriod
/-- N_s (R15). -/
def Dev.ns (d : Dev) : Nat := d.get F.P.shotsPerStage
/-- S (R18). -/
def Dev.stages (d : Dev) : Nat := d.get F.P.stagesPerFrame

/-- Coarse bin width in units of 15.625 ps: 32, 64, 128 or 256 (0.5, 1, 2 or 4 ns; R211). -/
def Dev.binW (d : Dev) : Nat := 32 * 2 ^ d.get F.TALLY_CTRL.BIN_WIDTH

/-- Coarse bins of a shot period, ⌈T_p / w⌉. -/
def Dev.nBins (d : Dev) : Nat := cdiv (64 * d.tp) d.binW

/-- Manifest entries that the waybill's first S entries name (R80, R82). -/
def EmTabs.used (t : EmTabs) (s : Nat) : List Nat :=
  ((List.range (min s (entries16 t.wb))).flatMap fun i =>
    let e := wbEntry t.wb i
    (List.range (wbCount e)).map fun k => wbM e k).eraseDups

/-- Some entry that the waybill names fires pulse pairs. -/
def EmTabs.hasPair (t : EmTabs) (s : Nat) : Bool := (t.used s).any fun m => mfPair (mfEntry t.man m)

/-- ROW_LEAD as a register value is treated (R76). -/
def leadClamp (v : Nat) : Nat := max 200 (min v 1000)

/-- The largest ROW_LEAD that meets R82. -/
def leadMax (d : Dev) (t : EmTabs) : Nat :=
  d.tp - 32 - (if t.hasPair d.stages then pairGap (d.get F.CLUT_SEED.SEED) else 0)

/-- ROW_LEAD as the emitter outputs use it (R76, R82). -/
def Dev.rowLead (d : Dev) : Nat := min (leadClamp (d.get F.EM_TIMING.ROW_LEAD)) (leadMax d d.emTabs)

/-- START_WIN as used (R113). -/
def Dev.startWin (d : Dev) : Nat := max 16 (d.get F.EM_TIMING.START_WIN)

/-! ## Terms 1 and 5 of the commit check -/

/-- The firing tables against which the check evaluates the waybill (R88): with SWAP_SRC 1, both banks. `act` holds the
tables as they stand and `nxt` the tables with the committed banks swapped in. -/
def emChoices (swapSrc : Bool) (act nxt : EmTabs) : List EmTabs :=
  if swapSrc then
    [act.man, nxt.man].eraseDups.flatMap fun m =>
      [act.rx, nxt.rx].eraseDups.flatMap fun r =>
        [(act.trim, act.gain), (nxt.trim, nxt.gain)].eraseDups.map fun tg =>
          { wb := nxt.wb, man := m, rx := r, trim := tg.1, gain := tg.2 }
  else [nxt]

/-- A waybill entry meets R82 and R91. -/
def entryOk (d : Dev) (t : EmTabs) (e : Nat) : Bool :=
  wbDither e < 2 && bits e 32 7 = 0 &&
    (List.range (wbCount e)).all fun k =>
      let m := wbM e k
      let f := mfEntry t.man m
      m < entries16 t.man && mfRx f < t.rx.length / 64 &&
        (if mfStart f = 0 then d.flag F.EM_CTRL.START0_EN else d.flag F.EM_CTRL.START1_EN)

/-- Term 1 for one choice of firing tables (R27, R82, R91, R553). A row lead that came from a register write is judged after
the substitution, and so never makes the term fail. -/
def term1 (d : Dev) (t : EmTabs) : Bool :=
  let gap := if t.hasPair d.stages then pairGap (d.get F.CLUT_SEED.SEED) else 0
  1024 ≤ d.tp && d.tp ≤ 16384 && 1 ≤ d.ns && d.ns ≤ 256 && 1 ≤ d.stages && d.stages ≤ 16384 &&
    d.nBins ≤ 5120 && 2000 < d.ns * d.tp &&
    (t.wb = [] || (d.stages ≤ entries16 t.wb && (List.range d.stages).all fun i => entryOk d t (wbEntry t.wb i))) &&
    (d.flag F.P.rowLeadReg || d.get F.EM_TIMING.ROW_LEAD + gap + 32 ≤ d.tp)

/-- Fire edges of the waybill as it repeats back to back: time, cell and energy of each shot (R106). -/
def frameShots (d : Dev) (t : EmTabs) (lim : Bytes) : List (Nat × Nat × Nat) :=
  (List.range (min d.stages (entries16 t.wb))).flatMap fun i =>
    let e := wbEntry t.wb i
    (List.range d.ns).map fun j =>
      let f := mfEntry t.man (wbShot e j)
      ((i * d.ns + j) * d.tp, cellOf f (wbAz e), t.energy lim f)

/-- The largest energy in any span of a length, of edges that repeat with a period (R106). -/
def worstSpan (edges : List (Nat × Nat)) (period span : Nat) : Nat :=
  let total := edges.foldl (fun a x => a + x.2) 0
  let rest := span % period
  let part := edges.foldl (fun best k =>
    max best (edges.foldl (fun a m => if (m.1 + period - k.1) % period < rest then a + m.2 else a) 0)) 0
  span / period * total + part

/-- The first cell and window that term 5 finds over its limit (R106). -/
def term5 (d : Dev) (t : EmTabs) (lim : Bytes) : Option Nat :=
  if lim = [] then none else
    let shots := (frameShots d t lim).filter fun x => x.2.2 ≠ 0
    let period := d.stages * d.ns * d.tp
    (List.range 4096).find? fun cell =>
      let edges := (shots.filter fun x => x.2.1 = cell).map fun x => (x.1, x.2.2)
      !edges.isEmpty && (List.range 3).any fun k => limOf lim cell k < worstSpan edges period (65 * bucketLen lim k)

end Sys2Proof.Machine
end

