-- ==== Sys2Proof/Machine/Channels.lean ====
section
/-! DEFINITION. Return channels and interval timing: stamps, qualification, stops, the tally buffers that count them,
outriders and the statistics units (R160–R192, R207–R213). -/

namespace Sys2Proof.Machine

/-! ## Tables of a convoy -/

/-- NL_c[q] of the active nonlinearity table; the ideal tap centre before a bank is first committed (DESIGN CHOICE, log 8). -/
def Dev.nl (d : Dev) (c q : Nat) : Int :=
  let t := d.tab (0x7020 + c)
  if t = [] then 16 * q + 8 else rd 2 t (2 * q)

/-- SKEW_i of the active skew trim table (R182); 0 before a bank is first committed. -/
def Dev.skew (d : Dev) (ch : Nat) : Int := rdS 2 (d.tab (0x7010 + ch / 32)) (4 * (ch % 32) + 2)

/-- OR_REF_i (R182). -/
def Dev.orRef (d : Dev) (ch : Nat) : Int := rdS 2 (d.tab (0x7010 + ch / 32)) (4 * (ch % 32))

/-- SSKEW of a start input (R182). -/
def Dev.sskew (d : Dev) (c k : Nat) : Int := rdS 2 (d.tab (0x7010 + c)) (130 + 4 * k)

/-! ## Which channels work (R161, R162) -/

/-- The convoy rests. -/
def Dev.resting (d : Dev) (c : Nat) : Bool := d.flag (F.CVY_STATUS.RESTING c)

/-- The convoy is retired. -/
def Dev.cvyRetired (d : Dev) (c : Nat) : Bool := d.flag (F.CVY_STATUS.RETIRED c)

/-- The interpolator is locked (R175). -/
def Dev.locked (d : Dev) (c : Nat) : Bool := d.flag (F.CVY_STATUS.LOCKED c)

/-- The convoy's clock runs (R67). -/
def Dev.cvyRuns (d : Dev) (c : Nat) : Bool := bitAt (d.get F.GATE_STATE.RUNNING) c

/-- The channel is retired, alone or with its convoy (R161). -/
def Dev.chRetired (d : Dev) (ch : Nat) : Bool := (d.chan ch).retired || d.cvyRetired (ch / 32)

/-- The channel is active: neither resting nor retired (R161). -/
def Dev.active (d : Dev) (ch : Nat) : Bool := !d.chRetired ch && !d.resting (ch / 32)

/-- The channel stamps edges: it is active and its interpolator is locked (R161, R176). -/
def Dev.stamps (d : Dev) (ch : Nat) : Bool := d.active ch && d.locked (ch / 32) && d.cvyRuns (ch / 32) && d.rootRuns

/-- The shot counts for a channel as far as the shot, the ledger and the receive map decide it (R162). -/
def Dev.shotListens (d : Dev) (sh : Shot) (ch : Nat) : Bool :=
  !sh.idle && !sh.refused && !sh.missing && (sh.dark || sh.fired) && rxHas (d.tab 0x7002) sh.rxMap ch

/-- The start stamp that the channel subtracts: 0 in a dark shot (R162), the convoy's own stamp otherwise (R89). -/
def Dev.startStamp (d : Dev) (sh : Shot) (ch : Nat) : Option Int :=
  if sh.dark then some 0 else (d.cvy (ch / 32)).start

/-! ## Stamps (R171, R172) -/

/-- Arrival of an edge, without the SKEW and DRIFT terms, 2^-10 ns (R170). -/
def Dev.arrival (d : Dev) (ch n q : Nat) : Int := 1024 * n + d.nl (ch / 32) q

/-- Stamp of a channel edge, 2^-10 ns (R172). -/
def Dev.stamp (d : Dev) (ch n q : Nat) : Int := d.arrival ch n q + d.skew ch - (d.chan ch).drift

/-- Dead time in 2^-10 ns (R164, R196). -/
def Dev.deadTime (d : Dev) (c : Nat) : Int := 1024 * (max 2 (min 64 (d.get (F.CVY_CTRL.DEAD_TIME c))) : Nat)

/-! ## Tally buffers (R207–R213) -/

/-- Word of a buffer that holds coarse bin b (R207). -/
def coarseWord (b : Nat) : Nat := 1 + b / 10

/-- Word of a buffer that holds fine bin f of window z (R207). -/
def fineWord (z f : Nat) : Nat := 513 + 8 * z + f / 8

/-- Counts a stop into its coarse bin, or into OVF (R211, R236). -/
def Buf.countCoarse (b : Buf) (nb bin : Nat) : Buf :=
  let v := Tab.getD b.coarse bin 0
  if nb ≤ bin ∨ v = 4095 ∨ coarseWord bin ∈ b.poison then { b with passed := b.passed + 1, ovf := b.ovf + 1 }
  else { b with passed := b.passed + 1, coarse := Tab.put b.coarse bin (v + 1) }

/-- Counts a stop into window z when it lies over it (R213). -/
def Buf.countZoom (b : Buf) (delta : Int) (z : Nat) : Buf :=
  let s := at' b.starts z 0
  if (s : Int) ≤ delta ∧ delta < s + 256 then
    let f := (delta - s).toNat / 4
    let k := 64 * z + f
    let v := Tab.getD b.zoom k 0
    if fineWord z f ∈ b.poison then { b with ovf := b.ovf + 1 }
    else if v = 65535 then { b with zovf := b.zovf + 1 }
    else { b with zoom := Tab.put b.zoom k (v + 1) }
  else b

/-- Counts a stop passed to the tally store (R167, R211, R213). -/
def Buf.count (b : Buf) (nb w : Nat) (delta : Int) : Buf :=
  (List.range b.starts.length).foldl (fun a z => a.countZoom delta z) (b.countCoarse nb (delta.toNat / w))

/-- The counting buffer of a channel. -/
def Dev.buf (d : Dev) (ch : Nat) : Buf := Tab.getD d.cnt ch {}

/-- Changes the counting buffer of a channel. -/
def Dev.modBuf (d : Dev) (ch : Nat) (f : Buf → Buf) : Dev := { d with cnt := Tab.put d.cnt ch (f (d.buf ch)) }

/-! ## Statistics units (R190–R192) -/

/-- A run is in progress and takes samples of this source. -/
def Dev.tisTakes (d : Dev) (c src : Nat) : Bool :=
  let r := (d.cvy c).tis
  d.flag (F.TIS_STATUS.BUSY c) && r.src = src && r.n < r.target && d.locked c

/-- Offers a sample to the statistics unit of convoy c (R190). -/
def Dev.tisSample (d : Dev) (c : Nat) (x : Int) : Dev :=
  let r := (d.cvy c).tis
  if r.gate && (x < d.getS (F.TIS_GATE_LO c) || d.getS (F.TIS_GATE_HI c) ≤ x) then d.inc (F.TIS_REJECTED c)
  else
    let first := r.n = 0
    (d.modCvy c fun v => { v with tis := { r with
      n := r.n + 1, sum := r.sum + x, sumSq := r.sumSq + x * x
      minV := if first then x else min r.minV x, maxV := if first then x else max r.maxV x } }).set
      (F.TIS_STATUS.COUNT c) (r.n + 1)

/-- Offers a stop of a channel, the `k`-th of its shot, to the statistics unit (R190). -/
def Dev.tisStop (d : Dev) (ch k : Nat) (delta tot : Int) : Dev :=
  let c := ch / 32
  let r := (d.cvy c).tis
  if r.chan = ch % 32 && (r.stopIdx = 0 || r.stopIdx = k) then
    if d.tisTakes c 0 then d.tisSample c (16 * delta)
    else if d.tisTakes c 1 then d.tisSample c (16 * tot) else d
  else d

/-- Integer square root by bisection over `n` bits. -/
def isqrtBits (v : Nat) : Nat → Nat → Nat
  | 0, r => r
  | n + 1, r => if (r + 2 ^ n) * (r + 2 ^ n) ≤ v then isqrtBits v n (r + 2 ^ n) else isqrtBits v n r

/-- Integer square root of a value below 2^160. -/
def isqrt (v : Nat) : Nat := isqrtBits v 80 0

/-- Ends a run: its results, and the convoy-job event (R191–R193). -/
def Dev.tisEnd (d : Dev) (c : Nat) (how : Fld) : Dev :=
  let r := (d.cvy c).tis
  let n := r.n
  let dv := (n * r.sumSq - r.sum * r.sum).toNat
  let d1 := (d.setB (F.TIS_STATUS.BUSY c) false).setB how true
  let d2 := if n = 0 then d1 else
    (((d1.setS (F.TIS_MEAN c) (rhu (16 * r.sum) n)).set (F.TIS_DEV c) ((isqrt (1024 * dv) / n + 1) / 2)).setS
      (F.TIS_MIN c) r.minV).setS (F.TIS_MAX c) r.maxV
  d2.raise (3 + c / 8) (3 * (c % 8) + 2)

/-- Ends the run of a convoy that rests or is retired (R192). -/
def Dev.tisAbort (d : Dev) (c : Nat) : Dev :=
  if d.flag (F.TIS_STATUS.BUSY c) then d.tisEnd c (F.TIS_STATUS.ABORTED c) else d

/-! ## Stops (R165–R169) -/

/-- The stop list entry of a stop: its time over threshold in 62.5 ps units, truncated and saturating (R169). -/
def stopOf (delta tot : Int) (trunc : Bool) : Stop :=
  { delta := sgn 22 (uns 22 delta), tot := (min 255 (tot.tdiv 4)).toNat, trunc := trunc }

/-- A stop list entry as 32 bits: TRUNC, TOT, DELTA (R169). -/
def Stop.word (s : Stop) : Nat := nat s.trunc * 2 ^ 30 + s.tot % 256 * 2 ^ 22 + uns 22 s.delta

/-- A stop with a known start stamp: the stop list, the statistics unit and the tally store (R167, R168). -/
def Dev.countStop (d : Dev) (ch : Nat) (ev : Ev) (ts : Int) : Dev :=
  let c := d.chan ch
  let delta := ev.tRise - ts
  let tot := ev.tFall - ev.tRise
  let k := c.stops.length + 1
  let stop := stopOf delta tot ev.trunc
  let d1 := d.modChan ch fun c =>
    if c.stops.length < 8 then { c with stops := c.stops ++ [stop], nStops := c.nStops + 1 }
    else { c with nStops := c.nStops + 1, stopOvf := c.stopOvf + 1 }
  let d2 := d1.tisStop ch (if c.stops.length < 8 then k else 9) delta tot
  if delta < 0 then d2.inc (F.CVY_PRESTART (ch / 32))
  else if 0 ≤ ev.tRise ∧ ev.tRise < 64 * d.tp then d2.modBuf ch fun b => b.count d.nBins d.binW delta
  else d2

/-- A timed event that qualifies as a stop (R167). -/
def Dev.isStop (d : Dev) (ch : Nat) (ev : Ev) : Bool :=
  !ev.own && !ev.masked && ((d.chan ch).totMin : Int) ≤ ev.tFall - ev.tRise

/-- Hands a closed event to its shot: counted when the start stamp is known, kept while it can still come, and otherwise
dropped, since the shot does not count (R162, R167). -/
def Dev.deliver (d : Dev) (sh : Shot) (ch : Nat) (ev : Ev) : Dev :=
  if !d.isStop ch ev || !d.shotListens sh ch then d
  else match d.startStamp sh ch with
    | some ts => d.countStop ch ev ts
    | none => d.modChan ch fun c => { c with held := c.held ++ [ev] }

/-- Start of the outrider pulse, ns after the fire edge (R184). -/
def Shot.tInj (sh : Shot) : Nat := sh.len - 96

/-- A rising edge of a channel that stamps (R163, R164, R170, R184). The outrider window is judged by the corrected stamp: an edge that
arrives ahead of the pulse and whose stamp lies in the window counts as the pulse's. -/
def Dev.risingEdge (d : Dev) (sh : Shot) (ch n q : Nat) : Dev :=
  let c := d.chan ch
  let a := d.arrival ch n q
  let t := rhu (d.stamp ch n q) 16
  let accepted := c.openEv.isNone && (match c.lastAcc with | none => true | some p => p + d.deadTime (ch / 32) ≤ a)
  let orOn := (sh.orInj || a < 1024 * sh.tInj) && !sh.idle && d.flag (F.CVY_CTRL.OUTRIDER_EN (ch / 32))
  let inj : Int := 64 * sh.tInj
  let masked := accepted && orOn && inj ≤ t && t < inj + 512
  let own := masked && t < inj + 256 && !c.ownSeen
  let dv := 1024 * ((n : Int) - sh.tInj) + d.nl (ch / 32) q + d.skew ch - d.orRef ch
  let ambient := !sh.idle && !masked && a < 1024 * sh.len &&
    (match c.lastAmb with | none => true | some p => p + 1024 ≤ a)
  d.modChan ch fun c => { c with
    amb := if ambient then c.amb + 1 else c.amb
    lastAmb := if ambient then some a else c.lastAmb
    lastAcc := if accepted then some a else c.lastAcc
    ownSeen := c.ownSeen || own
    openEv := if accepted then some { tRise := t, own := own, masked := masked, dev := dv } else c.openEv }

/-- An outrider's own event has closed (R185, R186). -/
def Dev.outriderSeen (d : Dev) (ch : Nat) (ev : Ev) : Dev :=
  let tot := ev.tFall - ev.tRise
  if 384 ≤ tot ∧ tot < 640 then
    let d1 := d.modChan ch fun c => { c with ownOk := true, devSum := c.devSum + ev.dev, devCnt := c.devCnt + 1 }
    if (d.cvy (ch / 32)).tis.chan = ch % 32 && d.tisTakes (ch / 32) 3 then d1.tisSample (ch / 32) ev.dev else d1
  else d

/-- An event has closed: it belongs to the next shot when its corrected stamp lies at or past the end of this one (R170). -/
def Dev.closeEvent (d : Dev) (sh : Shot) (ch : Nat) (ev : Ev) : Dev :=
  let fin : Int := 64 * sh.len
  let d0 := d.modChan ch fun c => { c with openEv := none }
  if ev.own then d0.outriderSeen ch ev
  else if fin ≤ ev.tRise then
    d0.modChan ch fun c => { c with carry := c.carry ++ [{ ev with tRise := ev.tRise - fin, tFall := ev.tFall - fin }] }
  else d0.deliver sh ch (if fin ≤ ev.tFall then { ev with tFall := fin, trunc := true } else ev)

/-- A falling edge of a channel that stamps: the first after an accepted rising edge is timed (R165). -/
def Dev.fallingEdge (d : Dev) (sh : Shot) (ch n q : Nat) : Dev :=
  match (d.chan ch).openEv with
  | none => d
  | some ev => d.closeEvent sh ch { ev with tFall := rhu (d.stamp ch n q) 16 }

/-- The stops that waited for the convoy's start stamp are counted (R167). -/
def Dev.flushHeld (d : Dev) (ch : Nat) (ts : Int) : Dev :=
  let l := (d.chan ch).held
  l.foldl (fun d ev => d.countStop ch ev ts) (d.modChan ch fun c => { c with held := [] })

/-- Events that the shot before passed on to the one that now begins (R170). -/
def Dev.takeCarried (d : Dev) (sh : Shot) (ch : Nat) : Dev :=
  let l := (d.chan ch).carry
  l.foldl (fun d ev => d.deliver sh ch ev) (d.modChan ch fun c => { c with carry := [] })

/-- A shot ends for a channel: an open event of the shot is closed as truncated (R165), the shot is counted in N_c
(R212), a missing outrider is noted (R185), and arrivals are moved to the next fire edge. -/
def Dev.endShotChan (d : Dev) (sh : Shot) (ch : Nat) : Dev :=
  let fin : Int := 64 * sh.len
  let d1 := match (d.chan ch).openEv with
    | none => d
    | some ev => if fin ≤ ev.tRise then d else d.closeEvent sh ch { ev with tFall := fin, trunc := true }
  let d2 := if d1.shotListens sh ch && (d1.startStamp sh ch).isSome then
    d1.modBuf ch fun b => { b with nc := b.nc + 1 } else d1
  let missed := !sh.idle && d.flag (F.CVY_CTRL.OUTRIDER_EN (ch / 32)) && d.active ch && d.cvyRuns (ch / 32) && !(d2.chan ch).ownOk
  d2.modChan ch fun c => { c with
    orMiss := if missed then c.orMiss + 1 else c.orMiss
    ownSeen := false, ownOk := false, stops := [], held := []
    openEv := c.openEv.map fun ev => { ev with tRise := ev.tRise - fin }
    lastAmb := c.lastAmb.map (· - 1024 * sh.len)
    lastAcc := c.lastAcc.map (· - 1024 * sh.len) }

end Sys2Proof.Machine
end

