-- ==== Sys2Proof/Machine/Echo.lean ====
section
/-! DEFINITION. Tally store and echo extraction with the clutter logic: from the counts of a channel's stage to its record
(R214–R238, R250–R268). Rates and levels are exact rationals. -/

namespace Sys2Proof.Machine

/-- Floor of a rational. -/
def ratFloor (x : Rat) : Int := x.num.fdiv x.den

/-- A rational rounded half up: ⌊x + 1/2⌋. -/
def ratRhu (x : Rat) : Int := ratFloor (x + 1 / 2)

/-- A register field in effect when the stage began (R23). -/
def StageInfo.get (i : StageInfo) (f : Fld) : Nat := Tab.getD i.regs f 0

/-- A table that was active when the stage began (R23). -/
def StageInfo.tab (i : StageInfo) (idx : Nat) : Bytes := Tab.getD i.tabs idx []

/-- Sum of a list of rationals. -/
def ratSum (l : List Rat) : Rat := l.foldl (· + ·) 0

/-! ## The clutter table (R269) -/

/-- The default clutter table. -/
def clutterDefault : Bytes :=
  [3, 0, 0, 0, 0x06, 0x40, 0x1F, 0x40, 0x19, 0x00, 5, 64, 96, 32, 0, 48, 96, 16, 5, 5, 6, 160, 1, 64, 64, 12, 0, 0]

/-- The clutter table in effect. -/
def clutterOf (bs : Bytes) : Bytes := if bs = [] then clutterDefault else bs

/-- RAIN_DROP, FOREIGN_DROP, NEAR_DROP, ZS_FOREIGN are bits 0 to 3 of POLICY. -/
def clutPolicy (t : Bytes) (i : Nat) : Bool := bitAt (rd 1 t 1) i

/-! ## The echo filter (R220–R223) -/

/-- The filter bank both banks hold after reset (R222): L = 1, h[0] = 0x7FFF, D code 0, DEC_START 5,120. -/
def filterDefault : Bytes := [1, 0, 0x14, 0x00, 0x7F, 0xFF] ++ zeros 254

/-- A filter bank, with its reset content. -/
def filterOf (bs : Bytes) : Bytes := if bs = [] then filterDefault else bs

/-- L. -/
def filtL (f : Bytes) : Nat := rd 1 f 0
/-- D. -/
def filtD (f : Bytes) : Nat := 2 ^ rd 1 f 1
/-- DEC_START. -/
def filtStart (f : Bytes) : Nat := rd 2 f 2
/-- Coefficient h[t], with the symmetry of R221. -/
def filtH (f : Bytes) (t : Nat) : Int := rdS 2 f (4 + 2 * min t (filtL f - 1 - t))
/-- Group delay G. -/
def filtG (f : Bytes) : Nat := (filtL f - 1) / 2

/-- B_eff (R220). -/
def filtBeff (f : Bytes) (nb : Nat) : Nat :=
  if nb ≤ filtStart f ∨ filtD f = 1 then nb else filtStart f + cdiv (nb - filtStart f) (filtD f)

/-- The first `n` counts of a sparse table, in order. -/
def dense (t : Tab Nat) (n : Nat) : List Nat := (List.range n).map fun i => Tab.getD t i 0

/-- The filter's input sequence (R220). -/
def filtInput (f : Bytes) (x : Array Nat) (nb : Nat) : Array Int :=
  ((List.range (filtBeff f nb)).map fun i =>
    if i < filtStart f ∨ filtD f = 1 then ((x.getD i 0 : Nat) : Int)
    else (((List.range (filtD f)).foldl (fun a k => a + x.getD (filtStart f + (i - filtStart f) * filtD f + k) 0) 0 : Nat) : Int)).toArray

/-- Start of the span of input index i, 15.625 ps (R220). -/
def filtSpan (f : Bytes) (w i : Nat) : Nat :=
  if i < filtStart f then i * w else filtStart f * w + (i - filtStart f) * filtD f * w

/-- Width of input index i, 15.625 ps (R220). -/
def filtWidth (f : Bytes) (w i : Nat) : Nat := if i < filtStart f then w else filtD f * w

/-- The filter's output in 2^-8 counts (R221). -/
def filtOutput (f : Bytes) (x : Array Int) : Array Int :=
  ((List.range x.size).map fun i =>
    satS 32 (rhu ((List.range (filtL f)).foldl (fun a t =>
      if t ≤ i + filtG f then a + filtH f t * x.getD (i + filtG f - t) 0 else a) 0) 128)).toArray

/-- Σ h[t] as a number. -/
def filtGain (f : Bytes) : Rat := ((List.range (filtL f)).foldl (fun a t => a + filtH f t) 0 : Int) / 32768

/-! ## Floor, threshold and candidates (R226–R229) -/

/-- The numbers of a record's stage that extraction uses. -/
structure EchoIn where
  nb : Nat
  w : Nat
  nc : Nat
  ambient : Nat
  listen : Nat
  coarse : Array Nat
  zoom : Tab Nat
  starts : List Nat
  filt : Bytes
  info : StageInfo
  a16 : Nat
  offset : Int
  allPair : Bool
  stored : Option (List Nat)
  spare : Bool

/-- μ_q: the lower median of the sums of blocks of 64 bins, per bin (R226). -/
def floorQ (e : EchoIn) : Rat :=
  let blocks := cdiv e.nb 64
  let sums := (List.range blocks).map fun k => (List.range 64).foldl (fun a i =>
    if 64 * k + i < e.nb then a + e.coarse.getD (64 * k + i) 0 else a) 0
  ((sums.mergeSort (· ≤ ·)).getD ((blocks - 1) / 2) 0 : Nat) / 64

/-- μ_a: from the ambient count (R226, R235). -/
def floorA (e : EchoIn) : Rat :=
  if e.listen = 0 then 0 else
    ((e.ambient * e.w * e.nc * e.info.get F.FLOOR_CFG.Q_FRAC : Nat) : Rat) / ((64 * 65536 * e.listen : Nat) : Rat)

/-- The background floor μ per coarse bin (R226). -/
def floorMu (e : EchoIn) : Rat :=
  match e.info.get F.TALLY_CTRL.FLOOR_MODE with
  | 0 => floorQ e
  | 1 => floorA e
  | _ => max (floorQ e) (floorA e)

/-- A candidate of R228. -/
structure Cand where
  i : Nat
  y : Rat
  thr : Rat
  ref : Rat
  pc : Int
  flags : Nat

/-- The larger of the reference level and the filtered floor, m′, in counts (R227). -/
def refLevel (e : EchoIn) (mu : Rat) (y : Array Int) (i : Nat) : Rat :=
  let guard := e.info.get F.CFAR_CFG.GUARD
  let ref := max 4 (min 32 (e.info.get F.CFAR_CFG.REF))
  let below := (List.range ref).filterMap fun k => if guard + 1 + k ≤ i then y[i - (guard + 1 + k)]? else none
  let above := (List.range ref).filterMap fun k => y[i + guard + 1 + k]?
  let cells := below ++ above
  let m : Rat := if cells.isEmpty then 0 else (cells.foldl (· + ·) 0 : Int) / (256 * cells.length : Nat)
  max m (mu * filtWidth e.filt e.w i / e.w * filtGain e.filt)

/-- The coarse position of index i (R229). -/
def coarsePos (e : EchoIn) (y : Array Int) (i : Nat) : Int :=
  let c := y.getD i 0
  let a := if i = 0 then c else y.getD (i - 1) c
  let b := y.getD (i + 1) c
  let den := a - 2 * c + b
  let delta : Rat := if den = 0 then 0 else max (-1 / 2) (min (1 / 2) ((a - b : Int) / (2 * den : Int)))
  filtSpan e.filt e.w i + ratRhu ((1 / 2 + delta) * filtWidth e.filt e.w i)

/-- The threshold T (R227, R241). -/
def threshold (e : EchoIn) (m : Rat) : Rat :=
  ((max 0x1000 (e.info.get F.CFAR_LEVEL.ALPHA) : Nat) : Rat) / 4096 * m +
    ((max 1 (e.info.get F.CFAR_LEVEL.BETA) : Nat) : Rat) / 256

/-- Index i is a candidate (R228). -/
def isCand (y : Array Int) (thr : Rat) (i : Nat) : Bool :=
  let c := y.getD i 0
  thr < (c : Rat) / 256 && (i = 0 || y.getD (i - 1) c < c) && (match y[i + 1]? with | none => true | some b => b ≤ c)

/-- Keeps the larger of two candidates that lie within MIN_SEP indices (R228); the list holds the latest first. -/
def sepCand (minSep : Nat) (kept : List Cand) (c : Cand) : List Cand :=
  match kept with
  | [] => [c]
  | p :: t => if c.i ≤ p.i + minSep then (if p.y < c.y then c :: t else p :: t) else c :: p :: t

/-- The candidates of a record, at most 16, in ascending order (R228). -/
def candidates (e : EchoIn) (mu : Rat) : List Cand :=
  let y := filtOutput e.filt (filtInput e.filt e.coarse e.nb)
  let all := (List.range y.size).filterMap fun i =>
    let m := refLevel e mu y i
    let t := threshold e m
    if isCand y t i then
      some { i := i, y := (y.getD i 0 : Rat) / 256, thr := t, ref := m, pc := coarsePos e y i, flags := 0 : Cand } else none
  let kept := (all.foldl (sepCand (max 1 (e.info.get F.CFAR_CFG.MIN_SEP))) []).reverse
  let best := (kept.mergeSort fun a b => b.y - b.thr ≤ a.y - a.thr).take 16
  best.mergeSort fun a b => a.i ≤ b.i

/-! ## The clutter steps (R250, R256–R268) -/

/-- Step 2: companions of pulse pairs are removed and unpaired candidates are flagged foreign-suspect (R265). Candidates
stand in ascending p_c; the second list holds those already removed. -/
def pairCheck (gap tol lim : Int) : List Cand → List Nat → List Cand
  | [], _ => []
  | a :: t, gone =>
    if a.i ∈ gone then pairCheck gap tol lim t gone
    else
      let fits := t.filter fun b => b.i ∉ gone && (b.pc - a.pc - gap).natAbs ≤ tol.toNat
      match fits.mergeSort (fun b c => (b.pc - a.pc - gap).natAbs ≤ (c.pc - a.pc - gap).natAbs) with
      | b :: _ => a :: pairCheck gap tol lim t (b.i :: gone)
      | [] => (if lim ≤ a.pc + gap then a else { a with flags := setBit a.flags 12 true }) :: pairCheck gap tol lim t gone

/-- Length of the run of indices from `i` in steps of `dir` for which a test holds, over at most `n` indices. -/
def runLen (test : Int → Bool) (dir : Int) : Nat → Int → Nat
  | 0, _ => 0
  | n + 1, i => if test i then 1 + runLen test dir n (i + dir) else 0

/-- The zoom window that covers a coarse position (R219). -/
def coverWin (starts : List Nat) (pc : Int) : Option (Nat × Nat) :=
  ((List.range starts.length).map fun z => (z, at' starts z 0)).find? fun x => (x.2 : Int) ≤ pc - 64 && pc + 64 ≤ x.2 + 256

/-- An echo with its detector confidence, as step 3 forms it (R219, R230–R233), and the zoom flag of step 5 (R266). -/
def measure (e : EchoIn) (mu : Rat) (c : Cand) : Echo :=
  let clut := clutterOf (e.info.tab 0x7040)
  let half := max 1 (e.info.get F.ZOOM_CFG.ZOOM_HALF)
  let peak : Int := min ((c.pc).fdiv e.w) (e.nb - 1)
  let xAt : Int → Rat := fun b => if b < 0 ∨ (e.nb : Int) ≤ b then 0 else (e.coarse.getD b.toNat 0 : Nat)
  let inExt : Int → Bool := fun b => 0 ≤ b && b < e.nb && (xAt peak - mu) / 2 ≤ xAt b - mu
  let lo := runLen inExt (-1) e.nb (peak - 1)
  let hi := runLen inExt 1 e.nb (peak + 1)
  let ext := (List.range (lo + 1 + hi)).map fun (k : Nat) => xAt (peak - lo + k)
  let inten := min 4095 (ratRhu (16 * ratSum (ext.map fun x => max 0 (x - mu)) / e.nc)).toNat
  let satC := ext.any (4095 ≤ ·)
  let m := c.thr - c.ref
  let conf := if m = 0 then Config.openConfidence % 256 else (max 0 (min 255 (ratFloor (32 * (c.y - c.ref) / m)))).toNat
  let coarseEcho : Echo := { pos := c.pc, inten := inten, conf := conf
                             width := min 255 (rhu ((ext.length * e.w : Nat) : Int) 4).toNat
                             flags := setBit (setBit c.flags 8 true) 9 satC }
  match coverWin e.starts c.pc with
  | none => coarseEcho
  | some (z, s) =>
    let fc := (c.pc - s).fdiv 4
    let fs : List Nat := (List.range 64).filter fun (f : Nat) => fc - half ≤ (f : Int) && (f : Int) ≤ fc + half
    let cnt : Nat → Nat := fun f => Tab.getD e.zoom (64 * z + f) 0
    let cp : Nat → Rat := fun f => max 0 ((cnt f : Rat) - mu * 4 / e.w)
    let total := ratSum (fs.map cp)
    if total = 0 then coarseEcho
    else
      let cen := ratSum (fs.map fun (f : Nat) => (((f : Nat) : Rat) + 1 / 2) * cp f) / total
      let pz : Int := s + ratRhu (4 * cen)
      let best := fs.foldl (fun a f => if cp a < cp f then f else a) (fs.headD 0)
      let inW : Int → Bool := fun f => 0 ≤ f && f.toNat ∈ fs && cp best / 2 ≤ cp f.toNat
      let width := 1 + runLen inW (-1) 64 (best - 1) + runLen inW 1 64 (best + 1)
      let satZ := fs.any fun f => cnt f = 65535
      let var := ratSum (fs.map fun (f : Nat) => (((f : Nat) : Rat) + 1 / 2 - cen) * ((f : Rat) + 1 / 2 - cen) * cp f) / total
      let spread := rd 1 clut 0x18
      let unstable := (((spread * spread : Nat) : Rat) < 256 * var) || decide (4 * rd 1 clut 0x19 < (pz - c.pc).natAbs)
      let fl := setBit (setBit c.flags 9 (satC || satZ)) 13 unstable
      { pos := pz, inten := inten, conf := conf, width := min 255 width
        flags := if unstable && clutPolicy clut 3 then setBit fl 12 true else fl }

/-- The persistence term s_p (R258). -/
def persistTerm (stored : Option (List Nat)) (tol : Nat) (pos : Int) : Nat :=
  match stored with
  | none => 128
  | some l => if l.any fun q => (pos - sgn 32 q).natAbs ≤ 64 * tol then 0 else 255

/-- The rain score RS (R257). -/
def rainScore (t : Bytes) (sp : Nat) (e : Echo) : Nat :=
  let sw := min 255 ((e.width - rd 1 t 0x0C) * rd 1 t 0x0D / 16)
  let si := min 255 ((rd 2 t 0x0E - e.inten) * rd 1 t 0x10 / 16)
  min 255 ((rd 1 t 0x12 * sw + rd 1 t 0x13 * si + rd 1 t 0x14 * sp) / 16)

/-- The sun penalty P_sun (R255). -/
def sunPenalty (t : Bytes) (a16 : Nat) : Nat :=
  if a16 ≤ rd 2 t 4 then 0 else min 255 ((a16 - rd 2 t 4) / 2 ^ rd 1 t 0x0A)

/-- Steps 4, 6 and 7 for one echo (R256, R257, R267). -/
def scoreEcho (e : EchoIn) (x : Echo) : Echo :=
  let t := clutterOf (e.info.tab 0x7040)
  let rho := x.pos - e.offset
  let near := rd 2 t 2 ≠ 0 && rho < (64 * rd 2 t 2 : Nat)
  let rs := rainScore t (persistTerm e.stored (rd 1 t 0x11) x.pos) x
  let rain := near || rd 1 t 0x15 ≤ rs
  let foreign := bitAt x.flags 12
  let conf := x.conf - sunPenalty t e.a16 - rs / 4 - (if foreign then rd 1 t 0x17 else 0)
  let sun := rd 2 t 4 ≤ e.a16 && conf < rd 1 t 0x0B
  { x with rho := rho, near := near, conf := conf, flags := setBit (setBit x.flags 11 rain) 10 sun }

/-- Larger intensity first, lower position on equal intensity. -/
def stronger (a b : Echo) : Bool := b.inten < a.inten || (a.inten = b.inten && a.pos ≤ b.pos)

/-- Echo selection (R260). -/
def selectEchoes (mode : Nat) (l : List Echo) : List Echo :=
  let asc := l.mergeSort fun a b => a.pos ≤ b.pos
  if l.length ≤ 8 then asc else
    let kept := match mode with
      | 0 => asc.take 8
      | 1 => (l.mergeSort stronger).take 8
      | 2 => asc.reverse.take 8
      | _ => asc.take 1 ++ asc.reverse.take 1 ++ (((asc.drop 1).dropLast).mergeSort stronger).take 6
    kept.mergeSort fun a b => a.pos ≤ b.pos

/-- What a finished record leaves: the echoes as the Toll processor tests them, those reported, the persistence entry, and
how many fell to each drop policy. -/
structure Judged where
  tested : List Echo
  kept : List Echo
  persist : List Nat
  droppedNear : Nat
  droppedRain : Nat
  droppedForeign : Nat

/-- Steps 1 and 2: the candidates that remain after the pair check (R235, R250, R265). -/
def pairedCands (e : EchoIn) (mu : Rat) : List Cand :=
  let t := clutterOf (e.info.tab 0x7040)
  let cands := if e.nc = 0 then [] else candidates e mu
  let gap : Int := 64 * (pairGap (e.info.get F.CLUT_SEED.SEED) : Nat)
  if e.allPair then
    pairCheck gap ((rd 1 t 0x16 * e.w : Nat) : Int) ((e.nb * e.w : Nat) : Int) (cands.mergeSort fun a b => a.pc ≤ b.pc) []
  else cands

/-- Steps 8 to 10 on the echoes of a record (R250, R259, R260, R268). -/
def judgeScored (t : Bytes) (scored : List Echo) : Judged :=
  let dn := scored.filter fun x => x.near && clutPolicy t 2
  let r1 := scored.filter fun x => !(x.near && clutPolicy t 2)
  let dr := r1.filter fun x => bitAt x.flags 11 && clutPolicy t 0
  let r2 := r1.filter fun x => !(bitAt x.flags 11 && clutPolicy t 0)
  let df := r2.filter fun x => bitAt x.flags 12 && clutPolicy t 1
  let r3 := r2.filter fun x => !(bitAt x.flags 12 && clutPolicy t 1)
  { tested := scored, kept := selectEchoes (rd 1 t 0) r3, persist := ((scored.mergeSort stronger).take 8).map fun x => uns 32 x.pos
    droppedNear := dn.length, droppedRain := dr.length, droppedForeign := df.length }

/-- The record of a channel that is neither absent nor sun-blinded (R250). -/
def judge (e : EchoIn) : Judged :=
  let mu := floorMu e
  judgeScored (clutterOf (e.info.tab 0x7040)) ((pairedCands e mu).map fun c =>
    let x := scoreEcho e (measure e mu c)
    { x with flags := setBit x.flags 16 e.spare })

/-- An echo when its record is abandoned after step `n` of R250, from 3 on: it has the marks of the steps reached (R251). -/
def stepEcho (e : EchoIn) (mu : Rat) (n : Nat) (c : Cand) : Echo :=
  let x := measure e mu c
  let x5 := if 5 ≤ n then x else { x with flags := setBit (setBit x.flags 13 false) 12 (bitAt c.flags 12) }
  let y := scoreEcho e x5
  let z := if 7 ≤ n then y else
    { x5 with rho := y.rho, near := 4 ≤ n && y.near, flags := setBit x5.flags 11 ((4 ≤ n && y.near) || (6 ≤ n && bitAt y.flags 11)) }
  { z with flags := setBit z.flags 16 e.spare }

/-- The record that is abandoned after step `n` with the echoes of its first `k` candidates found (R29, R251): the drop policies and the
selection apply where they were reached. -/
def judgePart (e : EchoIn) (k n : Nat) : Judged :=
  let mu := floorMu e
  let found := ((pairedCands e mu).take k).map (stepEcho e mu n)
  let j := judgeScored (clutterOf (e.info.tab 0x7040)) found
  if 10 ≤ n then j
  else { j with kept := (found.mergeSort fun a b => a.pos ≤ b.pos).take 8, droppedNear := 0, droppedRain := 0, droppedForeign := 0 }

/-! ## Seeds (R214–R218) -/

/-- The positions that a record's echoes offer as seeds, best first (R215). -/
def seedCands (conf : Nat) (excl : Bool) (l : List Echo) : List Int :=
  ((l.filter fun x => conf ≤ x.conf && !(excl && (bitAt x.flags 11 || bitAt x.flags 12))).mergeSort fun a b =>
    b.conf < a.conf || (a.conf = b.conf && a.pos ≤ b.pos)).map (·.pos)

/-- Places windows on candidate positions (R216). -/
def placeWins (n tp : Nat) : List Int → List Nat → List Nat
  | [], ws => ws
  | p :: t, ws =>
    if n ≤ ws.length then ws
    else if ws.any fun w => (w : Int) ≤ p && p < w + 256 then placeWins n tp t ws
    else placeWins n tp t (ws ++ [(clampI (4 * (p - 128).fdiv 4) 0 (64 * tp - 256)).toNat])

/-- Seed sources of a policy: 0 S, 1 F, 2 N (R214). -/
def seedSources : Nat → List Nat
  | 1 => [0]
  | 2 => [1]
  | 3 => [0, 1]
  | 4 => [0, 2]
  | 5 => [0, 1, 2]
  | 6 => [1, 2]
  | _ => []

end Sys2Proof.Machine
end

