-- ==== Sys2Proof/Machine/Line.lean ====
section
/-! DEFINITION. What a Basxiop port sends on its lanes: control blocks, frames, the 64b/66b coding and the scrambler (R358,
R361, R363, R364). -/

namespace Sys2Proof.Machine

/-! ## Lanes (R361, R392) -/

/-- LANE_EN as it is treated: 0 is both lanes (R392). -/
def laneEnOf (v : Nat) : Nat := if v % 4 = 0 then 3 else v % 4

/-- LANE_EN in effect: 0 is treated as both (R392). -/
def BxPort.laneEn (b : BxPort) : Nat := laneEnOf (bits b.cfg 3 2)

/-- Lanes that the link uses (R361): enabled here and at the far end, not retired. -/
def BxPort.lanes (b : BxPort) : List Nat :=
  [0, 1].filter fun l => bitAt b.laneEn l && bitAt b.peerLanes l && !at' b.laneRetired l false

/-! ## Control blocks (R363) -/

/-- One bit of the CRC-8 with polynomial x^8 + x^2 + x + 1, most significant bit first. -/
def crc8Step (c : Nat) (b : Bool) : Nat :=
  let top := (128 ≤ c) != b
  let s := c * 2 % 256
  if top then Nat.xor s 7 else s

/-- CRC-8 of the 56 bits above the check field. -/
def crc8 (v : Nat) : Nat := (List.range 56).foldl (fun c i => crc8Step c (bitAt v (55 - i))) 0

/-- Types of control blocks. -/
def bxTypes : List Nat := [0x1E, 0x2D, 0x33, 0x4B, 0x55, 0x66, 0x69, 0x78, 0x87, 0x99, 0xAA]

/-- TYPE and payload of a control block; none where its CRC-8 is wrong or its TYPE unknown. -/
def bxParse (blk : BitVec 64) : Option (Nat × Nat) :=
  let v := blk.toNat / 256
  if crc8 v = blk.toNat % 256 && bxTypes.contains (v / 2 ^ 48) then some (v / 2 ^ 48, v % 2 ^ 48) else none

/-- A control block as it is sent. -/
def bxEncode (ty payload : Nat) : BitVec 64 :=
  let v := ty % 256 * 2 ^ 48 + payload % 2 ^ 48
  BitVec.ofNat 64 (v * 256 + crc8 v)

/-! ## The scrambler (R358) -/

/-- One bit scrambled with x^58 + x^39 + 1: the bit sent, and the last 58 bits sent, the newest in bit 0. -/
def scrambleBit (s : Nat) (b : Bool) : Bool × Nat :=
  let o := (b != bitAt s 38) != bitAt s 57
  (o, (2 * s + nat o) % 2 ^ 58)

/-- One bit unscrambled: the bit meant, and the last 58 bits received. -/
def unscrambleBit (s : Nat) (b : Bool) : Bool × Nat := ((b != bitAt s 38) != bitAt s 57, (2 * s + nat b) % 2 ^ 58)

/-- 64 payload bits pass a scrambler bit by bit, bit 0 first: the bits that come out, and the state after them. -/
def passBits (f : Nat → Bool → Bool × Nat) (s w : Nat) : Nat × Nat :=
  (List.range 64).foldl (fun a i => let r := f a.2 (bitAt w i); (a.1 + nat r.1 * 2 ^ i, r.2)) (0, s)

/-- The 64 payload bits as they are sent, and the scrambler after them. -/
def scramble (s w : Nat) : Nat × Nat := passBits scrambleBit s w

/-- The 64 payload bits that a receiver recovers, and its state after them. -/
def unscramble (s w : Nat) : Nat × Nat := passBits unscrambleBit s w

/-! ## Blocks on the lanes (R358, R361) -/

/-- Sync header of a data block, bit 0 first on the line. -/
def dataHeader : Nat := 1
/-- Sync header of a control block. -/
def ctrlHeader : Nat := 2

/-- A block goes out on a lane, scrambled with that lane's scrambler (R358). -/
def BxPort.code (b : BxPort) (lane hdr w : Nat) : BxPort :=
  let r := scramble (at' b.line.scr lane 0) w
  { b with line := { b.line with
      scr := upd b.line.scr lane fun _ => r.2, out := b.line.out ++ [{ lane := lane, hdr := hdr, word := r.1 }] } }

/-- The lane of the link's next block: block i goes on lane i mod 2, or on the one lane in use (R361; log 110). -/
def BxPort.nextLane (b : BxPort) : Nat := match b.lanes with | [l] => l | _ => b.line.n % 2

/-- The link's next block goes out. -/
def BxPort.block (b : BxPort) (hdr w : Nat) : BxPort :=
  let b1 := b.code b.nextLane hdr w
  { b1 with line := { b1.line with n := b1.line.n + 1 } }

/-- Sends a control block of the link (R363). -/
def BxPort.put (b : BxPort) (ty payload : Nat) : BxPort :=
  { b.block ctrlHeader (bxEncode ty payload).toNat with tx := b.tx ++ [(ty, payload)] }

/-- Sends a control block of one lane: ALIGN and the training of its equaliser (R361, R362; log 110). -/
def BxPort.putOn (b : BxPort) (lane ty payload : Nat) : BxPort :=
  { b.code lane ctrlHeader (bxEncode ty payload).toNat with tx := b.tx ++ [(ty, payload)] }

/-! ## Frames (R364, R365) -/

/-- Data blocks of a frame. -/
def bxLen (data : Bytes) : Nat := cdiv data.length 8

/-- VC of a frame (R364). -/
def BxFrame.vc (f : BxFrame) : Nat := if f.kind = 1 then 1 else 0

/-- Its length is legal (R364). -/
def BxFrame.lenOk (f : BxFrame) : Bool := 1 ≤ bxLen f.data && bxLen f.data ≤ (if f.vc = 0 then 512 else 1200)

/-- PAD: bytes of padding in the last data block. -/
def bxPad (data : Bytes) : Nat := 8 * bxLen data - data.length

/-- The LEN × 8 data bytes of a frame, padded with zeros (log 110). -/
def bxPadded (data : Bytes) : Bytes := data ++ zeros (bxPad data)

/-- Payload of the START block (R364). -/
def BxFrame.startPayload (f : BxFrame) : Nat :=
  f.vc * 2 ^ 46 + f.kind % 16 * 2 ^ 42 + f.src % 4 * 2 ^ 40 + f.dst % 4 * 2 ^ 38 + bxLen f.data % 2 ^ 11 * 2 ^ 27 + f.seq % 2 ^ 16 * 2 ^ 11

/-- Payload of the TERM block: the CRC-32C of the LEN × 8 data bytes, and PAD (R364). -/
def bxTerm (data : Bytes) : BitVec 48 := BitVec.ofNat 48 (crc32c (bxPadded data) * 2 ^ 16 + bxPad data)

/-- Data block i of a frame: its first byte in bits [7:0], which are sent first (log 110). -/
def bxWord (data : Bytes) (i : Nat) : Nat := ofBe (((bxPadded data).drop (8 * i)).take 8).reverse

/-- A frame goes out on the line: START, its data blocks, TERM (R364). -/
def BxPort.putFrame (b : BxPort) (f : BxFrame) : BxPort :=
  let b1 := b.block ctrlHeader (bxEncode 0x99 f.startPayload).toNat
  let b2 := (List.range (bxLen f.data)).foldl (fun b i => b.block dataHeader (bxWord f.data i)) b1
  { b2.block ctrlHeader (bxEncode 0xAA (bxTerm f.data).toNat).toNat with frames := b.frames ++ [f] }

/-- The TERM block that closed LEN data blocks is right: its CRC is that of the LEN × 8 data bytes. None: TERM did not follow exactly
LEN data blocks, or block lock was lost during the frame (R365). -/
def termOk (data : Bytes) (term : Option (BitVec 48)) : Bool :=
  term.any fun t => bits t.toNat 16 32 = crc32c data

/-- The frame within its LEN × 8 data bytes: without the PAD bytes of its last block. -/
def unpad (data : Bytes) (term : Option (BitVec 48)) : Bytes :=
  match term with
  | some t => data.take (data.length - bits t.toNat 0 3)
  | none => data

end Sys2Proof.Machine
end

