-- ==== Sys2Proof/Machine/Points.lean ====
section
/-! DEFINITION. Points, stage blocks, frame headers and bales, and the terms of the commit check that judge them
(R277–R302). -/

namespace Sys2Proof.Machine

/-! ## Directions and records (R277–R283) -/

/-- O_ch (R277); 0 before a bank is first committed. -/
def rangeOffset (t : Bytes) (ch : Nat) : Int := rdS 4 t (4 * ch)

/-- AZ0 and EL0 of a channel, µdeg (R277). -/
def dirOf (t : Bytes) (ch : Nat) : Int × Int := (rdS 4 t (8 * ch), rdS 4 t (8 * ch + 4))

/-- SPAN_j of a Drover configuration table, millidegrees. -/
def drvSpan (cfg : Bytes) (j : Nat) : Nat := rd 2 cfg (4 + 2 * j)

/-- The stage angle θ_j in µdeg (R278). -/
def theta (cfg : Bytes) (j : Nat) (angle : Int) : Int := rhu (angle * drvSpan cfg j * 1000) 65536

/-- RANGE of a point: ρ clamped to 0 (R279). -/
def rangeOf (rho : Int) : Nat := rho.toNat % 16777216

/-- FLAGS of a point or record, flag 8 in bit 0. -/
def flagField (flags : Nat) : Nat := flags / 256 % 4096

/-- Compact point record with echo index `e` and the record's own flags (R280, R282). -/
def compactPoint (recFlags e : Nat) (x : Echo) : Bytes :=
  be 8 (rangeOf x.rho * 2 ^ 40 + x.inten % 4096 * 2 ^ 28 + x.width % 256 * 2 ^ 20 +
    flagField (Nat.lor x.flags recFlags) * 2 ^ 8 + e % 8 * 32)

/-- Terms of a power series in fixed point with 64 fraction bits: the sum of `n` further terms from term `k`. -/
def trigSeries (x2 : Int) : Nat → Nat → Int → Int → Int
  | 0, _, _, acc => acc
  | n + 1, k, term, acc =>
    let t := -((term * x2).fdiv (2 ^ 64)).fdiv ((k + 1) * (k + 2))
    trigSeries x2 n (k + 2) t (acc + t)

/-- An angle of µdeg in radians, 64 fraction bits. -/
def radians (udeg : Int) : Int := (udeg * 57952155664616982739).fdiv 180000000

/-- Cosine of an angle of µdeg, 64 fraction bits. -/
def cosFix (udeg : Int) : Int := let x := radians udeg; trigSeries ((x * x).fdiv (2 ^ 64)) 24 0 (2 ^ 64) (2 ^ 64)

/-- Sine of an angle of µdeg, 64 fraction bits. -/
def sinFix (udeg : Int) : Int := let x := radians udeg; trigSeries ((x * x).fdiv (2 ^ 64)) 24 1 x x

/-- A coordinate in half-millimetres: one of the two integers beside the exact value (R281). -/
def cartesian (rho : Nat) (az el : Int) (axis : Nat) : Int :=
  let dir : Int := match axis with
    | 0 => (cosFix el * cosFix az).fdiv (2 ^ 64)
    | 1 => (cosFix el * sinFix az).fdiv (2 ^ 64)
    | _ => sinFix el
  ((4684257156 * rho : Nat) * dir).fdiv (10 ^ 9 * 2 ^ 64) + (Config.cartRound rho az el axis % 2 : Nat)

/-- Cartesian point record (R281). -/
def cartesianPoint (recFlags e : Nat) (az el : Int) (x : Echo) : Bytes :=
  let r := rangeOf x.rho
  be 16 (uns 24 (cartesian r az el 0) * 2 ^ 104 + uns 24 (cartesian r az el 1) * 2 ^ 80 +
    uns 24 (cartesian r az el 2) * 2 ^ 56 + x.inten % 4096 * 2 ^ 44 + x.width % 256 * 2 ^ 36 +
    flagField (Nat.lor x.flags recFlags) * 2 ^ 24 + e % 8 * 2 ^ 21 + x.conf % 256 * 2 ^ 13)

/-- Keeps `n` echoes by an echo selection mode (R283). -/
def limitEchoes (mode n : Nat) (l : List Echo) : List Echo :=
  if l.length ≤ n then l else
    let asc := l.mergeSort fun a b => a.pos ≤ b.pos
    let kept := match mode with
      | 0 => asc.take n
      | 1 => (l.mergeSort stronger).take n
      | 2 => asc.reverse.take n
      | _ => if n ≤ 1 then asc.take 1
        else asc.take 1 ++ asc.reverse.take 1 ++ (((asc.drop 1).dropLast).mergeSort stronger).take (n - 2)
    kept.mergeSort fun a b => a.pos ≤ b.pos

/-- Header of a channel record (R282). -/
def recHeader (ch count flags : Nat) : Bytes := be 4 (ch * 2 ^ 23 + count * 2 ^ 19 + flagField flags * 16)

/-! ## The packer (R289–R292) -/

/-- zz (R289). -/
def zz (x : Int) : Nat := if 0 ≤ x then 2 * x.toNat else 2 * (-x).toNat - 1

/-- med (R289). -/
def med (a b c : Int) : Int := if max a b ≤ c then min a b else if c ≤ min a b then max a b else a + b - c

/-- The smallest k from 0 to 24 with N × 2^k ≥ A (R290). -/
def codeK (c : Ctx) : Nat := ((List.range 24).find? fun k => c.a ≤ c.n * 2 ^ k).getD 24

/-- The low `n` bits of a value, most significant first. -/
def bitsMsb (n v : Nat) : List Bool := (List.range n).map fun i => bitAt v (n - 1 - i)

/-- The bits of a symbol (R290). -/
def codeBits (c : Ctx) (s : Nat) : List Bool :=
  let k := codeK c
  let q := s / 2 ^ k
  if q < 24 then List.replicate q true ++ [false] ++ bitsMsb k s else List.replicate 24 true ++ bitsMsb 32 s

/-- A context after a symbol (R290). -/
def codeNext (c : Ctx) (s : Nat) : Ctx :=
  if c.n + 1 = 64 then { a := (c.a + s) / 2, n := 32 } else { a := c.a + s, n := c.n + 1 }

/-- The packer's run over a block: contexts, planes, the bits so far (in reverse pieces) and the old range above. -/
structure Pack where
  ctxs : List Ctx
  planes : Tab Plane
  out : List (List Bool)
  above : Nat

/-- Codes a symbol in a context (R290). -/
def Pack.code (p : Pack) (ctx s : Nat) : Pack :=
  let c := at' p.ctxs ctx {}
  { p with ctxs := upd p.ctxs ctx (fun _ => codeNext c s), out := codeBits c s :: p.out }

/-- The four fields of a coded echo: range, intensity, width, flags. -/
def echoFields (recFlags : Nat) (x : Echo) : Nat × Nat × Nat × Nat :=
  (rangeOf x.rho, x.inten % 4096, x.width % 256, flagField (Nat.lor x.flags recFlags))

/-- Codes the echoes after the first (R289). -/
def Pack.rest (p : Pack) : List (Nat × Nat × Nat × Nat) → Pack
  | a :: b :: t =>
    Pack.rest ((((p.code 2 (b.1 - a.1)).code 4 (zz ((b.2.1 : Int) - a.2.1))).code 5 (zz ((b.2.2.1 : Int) - a.2.2.1))).code 6
      (nxor b.2.2.2 a.2.2.2)) (b :: t)
  | _ => p

/-- Codes one channel record (R289). -/
def Pack.record (p : Pack) (ch recFlags : Nat) (echoes : List Echo) : Pack :=
  let hdr := echoes.length * 4096 + flagField recFlags
  let pl := Tab.getD p.planes ch {}
  let p1 := p.code 0 (nxor hdr pl.hdr)
  let fs := echoes.map (echoFields recFlags)
  let b : Nat := if ch = 0 then 0 else (Tab.getD p.planes (ch - 1) {}).range
  let c : Nat := if ch = 0 then 0 else p.above
  let p2 := match fs with
    | [] => p1
    | f :: _ => Pack.rest ((((p1.code 1 (zz ((f.1 : Int) - med pl.range b c))).code 3 (zz ((f.2.1 : Int) - pl.inten))).code 5
        (zz ((f.2.2.1 : Int) - pl.width))).code 6 (nxor f.2.2.2 pl.flags)) fs
  let new : Plane := match fs with
    | [] => { pl with hdr := hdr }
    | f :: _ => { hdr := hdr, range := f.1, inten := f.2.1, width := f.2.2.1, flags := f.2.2.2 }
  { p2 with planes := Tab.put p2.planes ch new, above := pl.range }

/-- Bits as bytes, the last padded with zero bits (R290); `n` bounds the number of bytes. -/
def packBytes : Nat → List Bool → Bytes
  | 0, _ => []
  | n + 1, l =>
    if l = [] then [] else
      BitVec.ofNat 8 (((List.range 8).foldl (fun a i => 2 * a + nat (l.getD i false)) 0)) :: packBytes n (l.drop 8)

/-- Codes all 512 records of a block: the new state and the data (R289). -/
def packBlock (s : Stream) (recs : List (Nat × List Echo)) : Stream × Bytes :=
  let p0 : Pack := { ctxs := s.ctxs, planes := s.planes, out := [], above := 0 }
  let p := (List.range recs.length).foldl (fun p ch => let r := at' recs ch (0, []); p.record ch r.1 r.2) p0
  let bs := p.out.reverse.flatten
  ({ s with ctxs := p.ctxs, planes := p.planes }, packBytes (bs.length / 8 + 1) bs)

/-- A stream's coding state in the reset state (R289, R293). -/
def Stream.resetState (s : Stream) : Stream := { s with ctxs := List.replicate 7 {}, planes := [], resetNext := true }

/-- The coding state as the stream state object (R294). -/
def Stream.stateBytes (s : Stream) : Bytes :=
  be 4 s.baleSeq ++ zeros 4 ++ (s.ctxs.flatMap fun c => be 4 c.a ++ be 4 c.n) ++
    (List.range 512).flatMap fun ch =>
      let p := Tab.getD s.planes ch {}
      be 2 p.hdr ++ be 1 p.width ++ zeros 1 ++ be 4 p.range ++ be 2 p.inten ++ be 2 p.flags

/-- The stream state object as read: the state after the bale of the latest stage tick (R294). -/
def Stream.shown (s : Stream) : Bytes := s.held.getD s.stateBytes

/-- The stream state that a written object holds (R294). -/
def Stream.ofBytes (s : Stream) (bs : Bytes) : Stream :=
  { s with
    baleSeq := rd 4 bs 0
    ctxs := (List.range 7).map fun k => { a := rd 4 bs (8 + 8 * k), n := rd 4 bs (12 + 8 * k) }
    planes := Tab.ofFn 512 fun ch =>
      let o := 64 + 12 * ch
      { hdr := rd 2 bs o, width := rd 1 bs (o + 2), range := rd 4 bs (o + 4), inten := rd 2 bs (o + 8), flags := rd 2 bs (o + 10) }
    resetNext := false, written := true, held := none }

/-! ## Stream configuration (R283, R296, R304) -/

/-- A stream's registers as they apply: from the configuration of a frame (R288) or from those in effect. -/
structure SCfg where
  en : Bool
  cart : Bool
  bales : Bool
  e : Nat
  port : Nat
  omitEmpty : Bool
  hist : Nat
  rate : Nat
  mtu : Nat
  vlan : Bool
  prp : Bool
  /-- Destination address. -/
  dst : Nat
  /-- UDP ports: source × 2^16 + destination. -/
  ports : Nat
  /-- VLAN tag. -/
  tag : Option Nat
  /-- Its datagrams enter the recorder's ring (R298). -/
  record : Bool

/-- Reads a stream's configuration through a field reader. -/
def sCfg (get : Fld → Nat) (n : Nat) : SCfg :=
  let port := get (F.OUT_SCFG.PORT n)
  { en := get (F.OUT_SCFG.EN n) ≠ 0
    cart := get (F.OUT_SCFG.FORMAT n) ≠ 0
    bales := get (F.OUT_SCFG.COMPRESS n) ≠ 0 && get (F.OUT_SCFG.FORMAT n) = 0
    e := max 1 (min 8 (get (F.OUT_SCFG.MAX_ECHOES n)))
    port := if port = 3 then 0 else port
    omitEmpty := get (F.OUT_SCFG.OMIT_EMPTY n) ≠ 0
    hist := get (F.OUT_SCFG.HISTORY_RESET n)
    rate := get (F.OUT_SRATE.RATE n)
    mtu := max 576 (min 9000 (get (F.OUT_SMTU.MTU n)))
    vlan := get (F.OUT_SVLAN.TAG n) ≠ 0
    prp := (port = 0 || port = 3) && get F.NET_PRP.EN ≠ 0
    dst := get (F.OUT_SDST n)
    ports := get (F.OUT_SPORT.SRC n) * 65536 + get (F.OUT_SPORT.DST n)
    tag := if get (F.OUT_SVLAN.TAG n) ≠ 0 then some (get (F.OUT_SVLAN.PCP n) * 8192 + get (F.OUT_SVLAN.VID n)) else none
    record := get F.OUT_CTRL.RECORD_STREAM = n + 1 }

/-- Wire overhead o of a datagram (R297). -/
def SCfg.extra (c : SCfg) : Nat := 66 + (if c.vlan then 4 else 0) + (if c.prp then 6 else 0)

/-- Bytes per datagram P (R296). -/
def SCfg.frag (c : SCfg) : Nat := c.mtu - 52

/-! ## Terms 3 and 4 of the commit check (R301, R302, R374) -/

/-- U_n: the worst-case unit of a stream (R302). -/
def SCfg.worst (c : SCfg) : Nat := 24 + 2048 + 512 * c.e * (if c.cart then 16 else 8) + (if c.bales then 16 else 0)

/-- Term 3: the point builder's cycles C (R301). -/
def builderCycles (cs : List SCfg) : Nat :=
  64 + ((cs.filter (·.en)).map fun c => 512 * (2 + c.e * (if c.cart then 4 else 1)) + (if c.bales then cdiv c.worst 8 else 0)).sum

/-- W_n (R302). -/
def SCfg.wire (c : SCfg) : Nat := c.worst + cdiv c.worst c.frag * c.extra + 2 * (72 + c.extra)

/-- Line rate a port's configuration allows, Mb/s (R302). -/
def portRate (d : Dev) (p : Nat) : Nat :=
  if !d.flag (F.ETH_CTRL.EN p) then 0 else
    match d.get (F.ETH_CTRL.MODE p) with
    | 1 => 25000
    | 2 => 10000
    | 3 => 1000
    | _ => let a := d.get (F.ETH_CTRL.ADVERTISE p)
      if bitAt a 2 then 25000 else if bitAt a 1 then 10000 else if bitAt a 0 then 1000 else 0

/-- Data rate of the west Basxiop link, Mb/s (R374): of the link that is up, otherwise of its configuration. -/
def westRate (d : Dev) : Nat :=
  let up := d.flag (F.BX_STATUS.LINK_UP 1)
  let speed := if up then d.get (F.BX_STATUS.SPEED 1) else d.get (F.BX_CTRL.MAX_SPEED 1)
  let lanes := if up then d.get (F.BX_STATUS.LANES_ACTIVE 1) else laneEnOf (d.get (F.BX_CTRL.LANE_EN 1))
  let full := at' [6060, 12121, 24242, 50000] speed 0
  if lanes = 3 then full else full / 2

/-- A positioned follower forwards its streams (R373). -/
def Dev.forwards (d : Dev) : Bool := d.get F.BX_STRING.ROLE = 2 && d.flag F.BX_STRING.POSITIONED && d.flag F.BX_STRING.FORWARD

/-- PORT names a port (R304). -/
def SCfg.goes (c : SCfg) (p : Nat) : Bool := c.port = p + 1 || (c.port = 0 && (p = 0 || c.prp))

/-- The stream's datagrams go out of a port (R304). -/
def SCfg.uses (c : SCfg) (p : Nat) : Bool := c.en && c.goes p

/-- The first failing item of term 4 and its excess (R302, R374). -/
def term4 (d : Dev) : Option (Nat × Nat) :=
  let tmin := d.ns * d.tp
  let cs := [sCfg d.get 0, sCfg d.get 1]
  let stream := (List.range 2).findSome? fun n =>
    let c := at' cs n (sCfg d.get n)
    if c.en && c.rate * tmin < 8000 * c.wire then some (n, c.wire - c.rate * tmin / 8000) else none
  let port := if d.forwards then
      let r := ((cs.filter (·.en)).map (·.rate)).sum
      if westRate d < r then some (4, r - westRate d) else none
    else (List.range 2).findSome? fun p =>
      let own := ((cs.filter (·.uses p)).map (·.rate)).sum
      let fwd := if d.get F.BX_STRING.ROLE = 1 && cs.any (·.uses p) then d.get F.BX_FWD.FWD_RATE else 0
      if portRate d p < own + fwd then some (2 + p, own + fwd - portRate d p) else none
  stream.orElse fun _ => port

/-! ## Units (R284, R287, R291, R295) -/

/-- The angles of a stage as the point builder uses them (R278). -/
def stageAngles (i : StageInfo) : Int × Int := (i.ang0, i.ang1)

/-- A stage block before coding: its bytes, the records as the packer sees them, and the echoes not kept. -/
structure Block where
  bytes : Bytes
  recs : List (Nat × List Echo)
  cut : Nat
  overrun : Bool
  /-- Bytes of the full block, with the records that OMIT_EMPTY leaves out (R284, R306). -/
  full : Nat

/-- Builds a stage block of a stream from the records of a stage (R278–R284). -/
def buildBlock (i : StageInfo) (c : SCfg) (mode : Nat) (recs : Tab Rec) : Block :=
  let cfg := i.tab 0x7007
  let th0 := theta cfg 0 i.ang0
  let th1 := theta cfg 1 i.ang1
  let dir := i.tab 0x7050
  let extra := if i.interp then 2 ^ 17 else 0
  let all := (List.range 512).map fun ch =>
    let r := Tab.getD recs ch {}
    (Nat.lor r.flags extra, limitEchoes mode c.e r.echoes, r.echoes.length)
  let kept := all.map fun r => (r.1, r.2.1)
  let omits := c.omitEmpty && !c.bales
  let shown := (List.range 512).filter fun ch =>
    let r := at' kept ch (0, [])
    !(omits && r.2.isEmpty && r.1 = 0)
  let body := shown.flatMap fun ch =>
    let r := at' kept ch (0, [])
    let dv := dirOf dir ch
    recHeader ch r.2.length r.1 ++ ((List.range r.2.length).flatMap fun e =>
      let x := at' r.2 e {}
      if c.cart then cartesianPoint r.1 e (dv.1 + th0) (dv.2 + th1) x else compactPoint r.1 e x)
  let ovr := kept.any fun r => bitAt r.1 15
  let flags := nat ovr + 2 * nat i.interp + 4 * nat c.cart + 8 * nat (shown.length < 512)
  let echoes := (kept.map (·.2.length)).sum
  { full := 24 + body.length + 4 * (512 - shown.length)
    bytes := be 4 (i.stamp40 / 1099511627776 % 2 ^ 32) ++ be 2 i.index ++ be 1 i.wrap ++ be 1 flags ++
      be 2 (uns 16 i.ang0) ++ be 2 (uns 16 i.ang1) ++ be 4 (min i.len (2 ^ 32 - 1)) ++ be 2 shown.length ++ be 2 echoes ++
      be 2 (min i.idle 65535) ++ zeros 2 ++ body
    recs := kept
    cut := (all.map fun r => r.2.2 - r.2.1.length).sum
    overrun := ovr }

end Sys2Proof.Machine
end

