-- ==== Sys2Proof/Machine/Flags.lean ====
section
/-! DEFINITION. Status that follows from the rest of the state: the safety functions of the Toll island, the terms of the
service levels, the interrupt lines, and the register fields that show them (R33, R34, R38, R399, R400, R472). -/

namespace Sys2Proof.Machine

/-! ## The Toll island (R396–R426, R438) -/

/-- A Toll channel's evaluation. -/
def Dev.tollCh (d : Dev) : TollChan → TollCh
  | .logic => d.toll.logic
  | .proc => d.toll.proc

/-- Replaces a Toll channel's evaluation. -/
def Dev.modToll (d : Dev) (c : TollChan) (f : TollCh → TollCh) : Dev :=
  match c with
  | .logic => { d with toll := { d.toll with logic := f d.toll.logic } }
  | .proc => { d with toll := { d.toll with proc := f d.toll.proc } }

/-- FUNC of pair i. -/
def pairFunc (cfg : Bytes) (i : Nat) : Nat := rd 1 cfg (0x0C + 8 * i)
/-- FLAGS of pair i. -/
def pairFlags (cfg : Bytes) (i : Nat) : Nat := rd 1 cfg (0x0D + 8 * i)
/-- OUT_MASK of pair i. -/
def pairMask (cfg : Bytes) (i : Nat) : Nat := rd 1 cfg (0x0E + 8 * i)
/-- FILTER of pair i. -/
def pairFilter (cfg : Bytes) (i : Nat) : Nat := rd 1 cfg (0x0F + 8 * i)
/-- D of pair i. -/
def pairD (cfg : Bytes) (i : Nat) : Nat := rd 2 cfg (0x10 + 8 * i)

/-- Field f is enabled. -/
def fieldOn (cfg : Bytes) (f : Nat) : Bool := bitAt (rd 1 cfg (0x4C + 8 * f)) 0
/-- Field f is MUTABLE. -/
def fieldMutable (cfg : Bytes) (f : Nat) : Bool := bitAt (rd 1 cfg (0x4C + 8 * f)) 1
/-- OUT_MASK of field f. -/
def fieldMask (cfg : Bytes) (f : Nat) : Nat := rd 1 cfg (0x4D + 8 * f)
/-- HIT_SHOTS of field f. -/
def fieldHits (cfg : Bytes) (f : Nat) : Nat := rd 1 cfg (0x4E + 8 * f)
/-- OCC_MIN of field f. -/
def fieldOcc (cfg : Bytes) (f : Nat) : Nat := rd 1 cfg (0x4F + 8 * f)
/-- BLIND_MAX of field f. -/
def fieldBlind (cfg : Bytes) (f : Nat) : Nat := rd 2 cfg (0x50 + 8 * f)

/-- Safe telegrams are enabled (R438). -/
def tgOn (cfg : Bytes) : Bool := bitAt (rd 1 cfg 0xE8) 0

/-- The Toll logic is out of reset with its clock present (R441). -/
def Dev.logicRuns (d : Dev) : Bool := !d.life.rstLow && d.clk.logicClk

/-- The Toll processor is out of reset with its supply present (R441). -/
def Dev.procRuns (d : Dev) : Bool := !d.life.rstLow && d.toll.vddOk

/-- Field f is held occupied for a channel (R414, R415). -/
def Dev.fieldHeld (d : Dev) (c : TollChan) (f : Nat) : Bool := !d.st.armed || at' (d.tollCh c).hold f 0 ≠ 0

/-- Field f is occupied in a channel (R413). -/
def Dev.occupied (d : Dev) (c : TollChan) (f : Nat) : Bool :=
  let t := d.tollCh c
  let occ := fieldOcc d.toll.cfg f
  let blind := fieldBlind d.toll.cfg f
  d.fieldHeld c f || occ ≤ at' t.hCur f 0 || occ ≤ at' t.hPrev f 0 || blind ≤ at' t.bCur f 0 || blind ≤ at' t.bPrev f 0

/-- Fields muted (R417). -/
def Dev.muted (d : Dev) : Nat :=
  if !d.toll.conn then 0 else
    (List.range 16).foldl (fun a f => if bitAt d.toll.mute f && fieldMutable d.toll.cfg f then a + 2 ^ f else a) 0

/-- Safety function n is in demand in a channel (R400, R404, R405, R413, R415, R417, R434). -/
def Dev.fnDemand (d : Dev) (c : TollChan) (n : Nat) : Bool :=
  if !d.toll.cfgOk then false
  else if n < 8 then
    let p := at' (d.tollCh c).pairs n {}
    let func := pairFunc d.toll.cfg n
    func ≠ 0 && func ≠ 4 && (p.demand || p.disc || p.test)
  else if n < 24 then
    fieldOn d.toll.cfg (n - 8) && (bitAt d.toll.fieldFault (n - 8) || (d.occupied c (n - 8) && !bitAt d.muted (n - 8)))
  else tgOn d.toll.cfg && (d.toll.remote || d.toll.lost)

/-- OUT_MASK of function n. -/
def fnMask (cfg : Bytes) (n : Nat) : Nat :=
  if n < 8 then pairMask cfg n else if n < 24 then fieldMask cfg (n - 8) else rd 1 cfg 0xE9

/-- HOLD bit of function n (R400). -/
def fnHold (cfg : Bytes) (n : Nat) : Bool :=
  if n < 8 then bitAt (pairFlags cfg n) 3 else if n < 24 then false else bitAt (rd 1 cfg 0xE8) 2

/-- Function n is reported in demand: either channel finds it so (R400). -/
def Dev.inDemand (d : Dev) (n : Nat) : Bool := d.fnDemand .logic n || d.fnDemand .proc n

/-- A fault of function n is latched (R403, R405, R415). -/
def Dev.fnFault (d : Dev) (n : Nat) : Bool :=
  if n < 8 then
    let a := at' d.toll.logic.pairs n {}
    let b := at' d.toll.proc.pairs n {}
    a.disc || a.test || b.disc || b.test
  else if n < 24 then bitAt d.toll.fieldFault (n - 8) else false

/-- Bits below n for which a test holds. -/
def maskOf (n : Nat) (p : Nat → Bool) : Nat := (List.range n).foldl (fun a i => if p i then a + 2 ^ i else a) 0

/-- A HOLD demand is present: a safety demand in the sense of R31 (R400). -/
def Dev.holdDemand (d : Dev) : Bool := (List.range 25).any fun n => fnHold d.toll.cfg n && d.inDemand n

/-- The island is healthy (R399). -/
def Dev.healthy (d : Dev) : Bool :=
  d.logicRuns && d.procRuns && d.toll.logic.selfOk && d.toll.proc.selfOk && d.toll.fault = 0 && d.toll.cfgOk

/-- EM_ARM_N is low: both arm enables are on (R108). -/
def Dev.armed (d : Dev) : Bool := d.led.logic.enable && d.led.proc.enable

/-- SAFE_STATE_N is low (R426). -/
def Dev.safeStateLow (d : Dev) : Bool :=
  d.st = .boot || d.st = .safeHold || d.st = .faultStop || d.holdDemand || !d.healthy

/-- Both switches of pair p are closed (R418). -/
def Dev.pairOn (d : Dev) (p : Nat) : Bool := bitAt d.toll.logic.switch p && bitAt d.toll.proc.switch p

/-! ## Mirror and ledger -/

/-- Mirror axes configured; 3 is treated as 0 (R121, R149). -/
def Dev.axes (d : Dev) : Nat := if d.get F.DRV_CTRL.AXES = 3 then 0 else d.get F.DRV_CTRL.AXES

/-- Drover is locked (R141). -/
def Dev.droverLocked (d : Dev) : Bool := d.flag F.DRV_STATUS.LOCKED

/-- A valid ledger limit bank is active (R102, R118). -/
def Dev.ledgerBank (d : Dev) : Bool := d.led.actCyc.isSome

/-! ## Service levels (R33, R34) -/

/-- Diagnostic service is present (R33). Host SPI and the event controller always work. -/
def Dev.diagnostic (d : Dev) : Bool :=
  !d.held && 6 ≤ d.life.boot && (d.flag F.CLK_STATUS.PLL_LOCK || d.flag F.CLK_STATUS.FALLBACK) &&
    (d.life.stewRun.any id || d.flag F.STEWARD_STATUS.STANDBY_READY)

/-- A convoy has a locked interpolator and its tally banks (R34). The spec does not say how many banks that asks for: one channel of the
convoy that is not retired suffices, and a resting convoy counts (DESIGN CHOICE, log 108). -/
def Dev.convoyWorks (d : Dev) (c : Nat) : Bool :=
  d.locked c && !d.cvyRetired c && (List.range 32).any fun i => !(d.chan (32 * c + i)).retired

/-- At least one emitter row works (R90, R110): EM_FAULT_N does not stop them all, and some row that the waybill fires selects
only start inputs in service (log 9). -/
def Dev.rowWorks (d : Dev) : Bool :=
  let t := d.emTabs
  let used := (t.used d.stages).map fun m => let e := mfEntry t.man m; (mfRow e, mfStart e)
  !(if d.st.ticks then d.seq.emLoss else d.flag F.EM_STATUS.EM_FAULT) &&
    (if d.life.startRet = [false, false] then true
     else if used.isEmpty then d.life.startRet.any (!·)
     else used.any fun r => used.all fun x => x.1 ≠ r.1 || !at' d.life.startRet x.2 false)

/-! ## Levels of the emitter outputs (R75, R77, R79, R536) -/

/-- Emitter row r is selected (R75). -/
def Dev.rowActive (d : Dev) (r : Nat) : Bool := d.flag F.EM_STATUS.ROW_VALID && d.get F.EM_STATUS.ROW = r

/-- Level of row output r: low until boot step 4, then as ROW_POL gives it (R75, R79). -/
def Dev.rowPin (d : Dev) (r : Nat) : Bool := 4 ≤ d.life.boot && d.rowActive r != d.flag F.EM_CTRL.ROW_POL

/-- Column c pulses at a time after the nominal fire edge of the shot in progress, in 15.625 ps (R77). -/
def Dev.colActive (d : Dev) (c t : Nat) : Bool :=
  match d.seq.shot with
  | some sh => sh.pulses.any fun p => p.1 = c && p.2.1 ≤ t && t < p.2.1 + p.2.2
  | none => false

/-- Level of column output c at a time after the nominal fire edge: low until boot step 4, then as COL_POL gives it (R75, R79). -/
def Dev.colPin (d : Dev) (c t : Nat) : Bool := 4 ≤ d.life.boot && d.colActive c t != d.flag F.EM_CTRL.COL_POL

/-- The active bank of no table holds an uncorrectable word (R34, R339). -/
def Dev.tablesGood (d : Dev) : Bool := d.tabs.all fun e => !e.2.actBad

/-- The terms of R34, in its order. -/
def Dev.terms (d : Dev) : List Bool :=
  [d.rootRuns && d.flag F.CLK_STATUS.REF_STABLE, d.flag F.TB_CTRL.RUN, (List.range 16).any d.convoyWorks, d.rowWorks,
    d.tablesGood, d.healthy, !d.flag F.THERM_STATUS.COVERAGE_LOST, d.axes = 0 || d.droverLocked]

/-- The terms of R34 that do not hold, bit i for term i. -/
def Dev.missing (d : Dev) : Nat := maskOf 8 fun i => !at' d.terms i false

/-- Ranging service is present (R34). -/
def Dev.rangingOk (d : Dev) : Bool := d.diagnostic && d.terms.all id

/-- Service level: 0 none, 1 diagnostic, 2 ranging (R37, R38). -/
def Dev.service (d : Dev) : Nat := if !d.diagnostic then 0 else if d.rangingOk then 2 else 1

/-- Code of a device state (R30). -/
def DevState.code : DevState → Nat
  | .boot => 0 | .standby => 1 | .scan => 2 | .ranging => 3 | .degraded => 4 | .safeHold => 5 | .faultStop => 6

/-! ## Interrupt lines (R472) -/

/-- Some source of group g has status 1, enable 1 and this route. -/
def Dev.evtActive (d : Dev) (g route : Nat) : Bool :=
  (bitList 24 (d.get (F.EVT_STATUS g))).any fun s => d.evtOn g s && d.evtRoute g s = route

/-- IRQ_N is low. -/
def Dev.irq (d : Dev) : Bool := (List.range 13).any fun g => d.evtActive g 1

/-- IRQP_N is low. -/
def Dev.irqp (d : Dev) : Bool := (List.range 13).any fun g => d.evtActive g 2

/-! ## Table banks as status bits -/

/-- Bank number of a table. -/
def Dev.bankNo (d : Dev) (idx : Nat) : Nat := (d.bank idx).active

/-- The inactive bank of a table is committed and waits to swap. -/
def Dev.bankReady (d : Dev) (idx : Nat) : Bool := (d.bank idx).committed

/-- The retirement table has an entry for a unit, in force or not yet (R486). -/
def Dev.retiredUnit (d : Dev) (kind unit : Nat) : Bool := d.life.retired.any fun r => r.kind = kind && r.unit = unit

/-- Tally spare of a convoy is in use (R245). -/
def Dev.spareOf (d : Dev) (c : Nat) : Option Nat := (List.range 32).find? fun i => (d.chan (32 * c + i)).spare

end Sys2Proof.Machine
end

