-- ==== Sys2Proof/Machine/Recorder.lean ====
section
/-! DEFINITION. The pre-event ring and incidents (R344–R351). -/

namespace Sys2Proof.Machine

/-! ## The pre-event ring (R344, R345) -/

/-- Bytes of a ring entry with its header and padding (R345). -/
def RingEnt.bytes (e : RingEnt) : Bytes :=
  be 2 e.data.length ++ be 1 e.kind ++ be 1 e.source ++ time80 e.t ++ zeros 2 ++ e.data ++ zeros ((4 - e.data.length % 4) % 4)

/-- Replaces the first block in a state by nothing. -/
def dropUsed : List RingBlk → Option (List RingBlk)
  | [] => none
  | b :: t => if b.state = 1 then some t else (dropUsed t).map (b :: ·)

/-- A filling block becomes used. -/
def closeFilling (l : List RingBlk) : List RingBlk := l.map fun b => if b.state = 0 then { b with state := 1 } else b

/-- The ring takes a fresh block to fill: a free one, otherwise the oldest used one (R344). -/
def Rcd.freshBlock (r : Rcd) : Option Rcd :=
  if 0 < r.free then some { r with free := r.free - 1, blocks := closeFilling r.blocks ++ [{}] }
  else (dropUsed r.blocks).map fun l => { r with blocks := closeFilling l ++ [{}] }

/-- Writes an entry into the filling block. -/
def fillBlock (e : RingEnt) (n : Nat) (l : List RingBlk) : List RingBlk :=
  l.map fun b => if b.state = 0 then { b with size := b.size + n, ents := b.ents ++ [e] } else b

/-- The filling block has room for `n` bytes. -/
def Rcd.hasRoom (r : Rcd) (n : Nat) : Bool := r.blocks.any fun b => b.state = 0 && b.size + n ≤ 65536

/-- The ring with an entry written, when a block can take it (R344). -/
def Rcd.store (r : Rcd) (e : RingEnt) : Option Rcd :=
  let n := e.bytes.length
  (if r.hasRoom n then some r else r.freshBlock).map fun r => { r with blocks := fillBlock e n r.blocks }

/-- Bytes of the staging area (R348). -/
def stagingSize : Nat := 268435456

/-- Blocks of a pre-event ring of `mib` MiB that take entries: the staging area of 4,096 blocks lies inside the ring (R344, R348; log 109). -/
def ringBlocks (mib : Nat) : Nat := 16 * mib - 4096

/-- The entry lies in the post window of the incident in progress (R346). -/
def Rcd.inWindow (r : Rcd) (e : RingEnt) : Bool :=
  match r.cur with
  | none => false
  | some c => c.t ≤ e.t && e.t < c.endT

/-- Bytes appended to the data of the incident in progress, `staged` bytes then standing in the staging area. -/
def Rcd.append (r : Rcd) (bs : Bytes) (staged : Nat) : Rcd :=
  { r with cur := r.cur.map fun c => { c with data := c.data ++ bs, staged := staged } }

/-- Bytes that the incident in progress has lost (R350). -/
def Rcd.lose (r : Rcd) (n : Nat) : Rcd := { r with cur := r.cur.map fun c => { c with lost := c.lost + n } }

/-- Bytes that stand in the staging area at most: all written since it was last known. -/
def Rcd.staged (r : Rcd) : Nat :=
  match r.cur with
  | none => 0
  | some c => c.staged

/-- Blocks that written incidents take. -/
def takenBlocks (l : List Incident) : Nat := (l.map (·.blocks)).sum

/-- Releases the oldest incidents until the space is free; none when a protected one stands in the way (R351). -/
def releaseOld (n need : Nat) : List Incident → Option (List Incident)
  | [] => if need ≤ n then some [] else none
  | i :: t => if takenBlocks (i :: t) + need ≤ n then some (i :: t) else if i.prot then none else releaseOld n need t

/-- The drive's ring with space for an incident of `need` blocks (R351). -/
def Rcd.makeRoom (r : Rcd) (need : Nat) : Option Rcd :=
  (releaseOld r.nBlocks need r.done).map fun kept =>
    { r with done := kept, tail := (r.tail + (takenBlocks r.done - takenBlocks kept)) % max 1 r.nBlocks }

/-- Space for the incident in progress with `n` more bytes: the oldest incidents past TAIL make room for what an extended window adds to
the reserve (R347, R351; log 109). -/
def Rcd.roomFor (r : Rcd) (n : Nat) : Option Rcd := r.makeRoom (2 + cdiv ((r.cur.map (·.data.length)).getD 0 + n) 4096)

/-- The incident in progress takes an entry through the staging area, or not: where the bytes since the area was last known would
not all fit, what the drive has left in it is a free value (R348, log 80). -/
def Dev.stageIn (d : Dev) (e : RingEnt) : Dev × Bool :=
  let n := e.bytes.length
  let had := d.rcd.staged
  if had + n ≤ stagingSize then ({ d with rcd := d.rcd.append e.bytes (had + n) }, true)
  else
    let f := d.takeFree 29
    let left := f.1 % (had + 1)
    if left + n ≤ stagingSize then ({ f.2 with rcd := f.2.rcd.append e.bytes (left + n) }, true)
    else ({ f.2 with rcd := f.2.rcd.append [] left }, false)

/-- The incident in progress takes an entry of its post window where the drive's ring has room for it and for its gap entry (R348,
R351). -/
def Dev.stage (d : Dev) (e : RingEnt) : Dev × Bool :=
  if !d.rcd.inWindow e then (d, false)
  else match d.rcd.roomFor (e.bytes.length + 20) with
    | some r => { d with rcd := r }.stageIn e
    | none => (d, false)

/-- A gap entry in the place of an entry that the incident lost, with the count of its bytes, where the drive's ring has room for it
(R345, R348, R351). -/
def Dev.incidentGap (d : Dev) (e : RingEnt) : Dev :=
  let g : RingEnt := { e with kind := 3, data := be 4 e.bytes.length }
  let r := if (d.rcd.roomFor g.bytes.length).isSome then d.rcd.append g.bytes d.rcd.staged else d.rcd
  { d with rcd := r.lose e.bytes.length }.raise 9 5

/-- The incident in progress takes an entry of its post window (R346, R348). -/
def Dev.incidentEntry (d : Dev) (e : RingEnt) : Dev :=
  let r := d.stage e
  if d.rcd.inWindow e && !r.2 then r.1.incidentGap e else r.1

/-- An entry arrives at the ring: stored, or counted as lost (R344). -/
def Dev.ringPush (d : Dev) (e : RingEnt) : Dev :=
  match d.rcd.store e with
  | some r => { d with rcd := r }.incidentEntry e
  | none => d.inc F.REC_RING_LOST

/-! ## Incidents (R346, R347, R350, R351) -/

/-- Rate of the recorded stream in bytes per ms (R298, R351). -/
def Dev.recRate (d : Dev) : Nat :=
  match d.get F.OUT_CTRL.RECORD_STREAM with
  | 1 => if d.flag (F.OUT_SCFG.EN 0) then 125 * d.get (F.OUT_SRATE.RATE 0) else 0
  | 2 => if d.flag (F.OUT_SCFG.EN 1) then 125 * d.get (F.OUT_SRATE.RATE 1) else 0
  | _ => 0

/-- Blocks reserved before an incident is written (R351). -/
def Dev.reserve (d : Dev) : Nat := cdiv (d.recRate * (d.get F.P.preWindow + d.get F.P.postWindow)) 4096 + 2

/-- An incident is refused or a trigger is lost (R351, R353). -/
def Dev.incidentLost (d : Dev) : Dev := (d.inc F.REC_LOST).raise 9 6

/-- The blocks an incident holds at its trigger: used ones with entries in the pre window (R346). -/
def holdBlocks (lo hi : Nat) (l : List RingBlk) : List RingBlk :=
  (closeFilling l).map fun b => if b.state = 1 && b.ents.any (fun e => lo ≤ e.t && e.t < hi) then { b with state := 2 } else b

/-- Bytes of the ring's entries in a window that stand in blocks not held (R346). -/
def entriesIn (lo hi : Nat) (l : List RingBlk) : Bytes :=
  (l.filter (·.state ≠ 2)).flatMap fun b => (b.ents.filter fun e => lo ≤ e.t && e.t < hi).flatMap RingEnt.bytes

/-- Writes of `n` blocks from block `at_` of the drive's ring, which wraps after block N − 1 (R349). -/
def ringWrites (size at_ n : Nat) : List NvmeCmd :=
  if at_ + n ≤ size then [.write (256 + at_) n false] else [.write (256 + at_) (size - at_) false, .write 256 (at_ + n - size) false]

/-- Starts an incident for a trigger at time `t` (R346, R351): the held blocks, then entries of the post window that the ring has by
then. -/
def Dev.incidentStart (d : Dev) (t cause : Nat) : Dev :=
  match d.rcd.makeRoom d.reserve with
  | none => d.incidentLost
  | some r =>
    let held := holdBlocks (t - 1000000 * d.get F.P.preWindow) t r.blocks
    let fin := t + 1000000 * d.get F.P.postWindow
    let data := ((held.filter (·.state = 2)).flatMap fun b => b.ents.flatMap RingEnt.bytes) ++ entriesIn t fin held
    let inc : Incident :=
      { no := r.next, cause := cause, t := t, endT := fin, trigs := [(t, cause)]
        pre := d.get F.P.preWindow, postMs := d.get F.P.postWindow, data := data }
    { d with rcd := { r with blocks := held, cur := some inc, nvme := r.nvme ++ ringWrites r.nBlocks r.head 1 } }.set
      F.REC_STATUS.STATE 2

/-- A trigger within the post window of the incident in progress joins its list and extends its window; entries of the extension that the
ring has by then are written (R346, R347). -/
def Dev.incidentJoin (d : Dev) (c : Incident) (t cause : Nat) : Dev :=
  let fin := max c.endT (min (t + 1000000 * d.get F.P.postWindow) (c.t + 120000000000))
  { d with rcd := { d.rcd with cur := some { c with
      cause := if t = c.t then min c.cause cause else c.cause
      trigs := c.trigs ++ [(t, cause)], endT := fin, data := c.data ++ entriesIn c.endT fin d.rcd.blocks } } }

/-- An incident trigger at device time `t` (R346, R347, R353). -/
def Dev.triggerAt (d : Dev) (t cause : Nat) : Dev :=
  if !d.rcd.ready then d.inc F.REC_LOST
  else match d.rcd.cur with
    | none => d.incidentStart t cause
    | some c =>
      if c.endT ≤ t then { d with rcd := { d.rcd with queued := d.rcd.queued ++ [(t, cause)] } }
      else if 32 ≤ c.trigs.length then d.inc F.TRIGGERS_DROPPED
      else d.incidentJoin c t cause

/-- An incident trigger at the present instant. -/
def Dev.incidentTrigger (d : Dev) (cause : Nat) : Dev := d.triggerAt d.nowNs cause

/-- Held blocks return to used. -/
def unhold (l : List RingBlk) : List RingBlk := l.map fun b => if b.state = 2 then { b with state := 1 } else b

/-- The incident in progress is cut off without its end block, which leaves it incomplete on the drive (R350, R353). -/
def Rcd.tear (r : Rcd) : Option Incident :=
  match r.cur with
  | some c => some { c with ended := 0xFF, blocks := 1 + cdiv c.data.length 4096 }
  | none => r.torn

/-- The incident in progress ends without its end block: what it held returns to used, and the triggers that wait for its close are lost
(R353). -/
def Dev.incidentDrop (d : Dev) : Dev :=
  { d with rcd := { d.rcd with blocks := unhold d.rcd.blocks, cur := none, torn := d.rcd.tear, queued := [] } }.add F.REC_LOST
    d.rcd.queued.length

/-! ## The superblock (R349) -/

/-- A superblock copy is valid (R349). -/
def sbOk (sb : Bytes) : Bool := rd 4 sb 0 = 0x4E585342 && rd 4 sb 0xFFC = crc32c (sb.take 0xFFC)

/-- The valid superblock copy with the higher SEQ (R349). -/
def sbPick (a b : Bytes) : Option Bytes :=
  if sbOk a && (!sbOk b || rd 4 b 4 ≤ rd 4 a 4) then some a else if sbOk b then some b else none

/-- The bytes of a superblock copy for the recorder's present layout (R349). -/
def Rcd.superBytes (r : Rcd) : Bytes :=
  let bs := be 4 0x4E585342 ++ be 4 r.superSeq ++ be 8 r.nBlocks ++ be 8 r.head ++ be 8 r.tail ++ be 4 r.next ++ zeros 4056
  bs ++ be 4 (crc32c bs)

/-- The superblock is written to the copy with the lower SEQ, or to one that is not valid, with force-unit-access (R349). -/
def Rcd.superWrite (r : Rcd) : Rcd :=
  let r1 := { r with superSeq := (r.superSeq + 1) % 2 ^ 32 }
  if !sbOk r.sb0 || (sbOk r.sb1 && rd 4 r.sb0 4 ≤ rd 4 r.sb1 4) then
    { r1 with sb0 := r1.superBytes, nvme := r1.nvme ++ [.write 0 1 true] }
  else { r1 with sb1 := r1.superBytes, nvme := r1.nvme ++ [.write 1 1 true] }

/-- An incident stands on the drive at HEAD, complete or not: HEAD and NEXT_INCIDENT go on, and the superblock is written (R349, R350). -/
def Rcd.putIncident (r : Rcd) (i : Incident) : Rcd :=
  { r with
    done := r.done ++ [i], head := (r.head + i.blocks) % max 1 r.nBlocks, next := (r.next + 1) % 2 ^ 32
    nvme := r.nvme ++ ringWrites r.nBlocks ((r.head + 1) % max 1 r.nBlocks) (i.blocks - 1) }.superWrite

/-- HEAD as the headers of the incidents on the drive give it, from TAIL on (R349, R488). -/
def Rcd.headOf (r : Rcd) : Nat := (r.tail + (r.done.map Incident.blocks).sum) % max 1 r.nBlocks

/-- The check of the recorder's blocks at an incident close and when a drive becomes ready: written and free blocks that do not make up N
are a conservation fault, and HEAD is rebuilt from the incident headers (R351, R488). -/
def Dev.blockCheck (d : Dev) : Dev :=
  if d.rcd.head = d.rcd.headOf then d else { d with rcd := { d.rcd with head := d.rcd.headOf } }.raise 0 12

/-- The incident in progress gets its end block with an ENDED code (R349–R351). -/
def Dev.incidentClose (d : Dev) (ended : Nat) : Dev :=
  match d.rcd.cur with
  | none => d
  | some c =>
    let fin := { c with blocks := 2 + cdiv c.data.length 4096, ended := ended }
    let d1 := { d with rcd := { d.rcd with blocks := unhold d.rcd.blocks, cur := none }.putIncident fin }
    (((d1.set F.REC_STATUS.STATE 1).inc F.REC_INCIDENTS).raise 9 7).blockCheck

/-- The recorder's link goes down (R353). -/
def Dev.driveGone (d : Dev) : Dev :=
  let was := d.get F.REC_STATUS.STATE ≠ 0
  ({ d.incidentDrop with rcd := { d.incidentDrop.rcd with ready := false } }.set F.REC_STATUS.STATE 0).raiseIf was 10 4

/-- Triggers that came after the limit start a new incident when the one before has closed; those within its window join it (R347). -/
def Dev.incidentNext (d : Dev) : Dev :=
  d.rcd.queued.foldl (fun d q => d.triggerAt q.1 q.2) { d with rcd := { d.rcd with queued := [] } }

end Sys2Proof.Machine
end

