-- ==== Sys2Proof/Machine/Capture.lean ====
section
/-! DEFINITION. What a converter samples, instant by instant, and what the acquisition engine makes of it (R308–R329). A converter has
a sampling instant every 4 clk_tdc cycles. An instant reaches the engine when what the converter did in it is known: the codes of a
sequence come with the end of the sequence, those of a slot with the end of the slot, and an instant without either brings no
sample (log 107). -/

namespace Sys2Proof.Machine

/-! ## Converters (R308–R314) -/

/-- A converter. -/
def Dev.convN (d : Dev) (n : Nat) : Conv := at' d.conv n {}

/-- Replaces a converter. -/
def Dev.modConv (d : Dev) (n : Nat) (f : Conv → Conv) : Dev := { d with conv := upd d.conv n f }

/-- Changes user sequence m of a converter. -/
def Conv.modSeq (c : Conv) (m : Nat) (f : SeqRun → SeqRun) : Conv := { c with seqs := upd c.seqs m f }

/-- User sequence m of converter n. -/
def Dev.seqRun (d : Dev) (n m : Nat) : SeqRun := at' (d.convN n).seqs m {}

/-- The clock of a block of CLK_GATE runs (R68). -/
def Dev.runs (d : Dev) (blk : Nat) : Bool := bitAt (d.get F.GATE_STATE.RUNNING) blk

/-- A converter runs: on the root, its clock on (R47, R49). -/
def Dev.convRuns (d : Dev) (n : Nat) : Bool := d.rootRuns && d.runs (19 + n)

/-- The acquisition engine runs (R47, R49). -/
def Dev.acqRuns (d : Dev) : Bool := d.rootRuns && d.runs 21

/-- The first sampling instant at or after a cycle (R308). -/
def instantAt (c : Nat) : Nat := (c + 3) / 4 * 4

/-- The last sampling instant at or before a cycle (R308). -/
def instantBefore (c : Nat) : Nat := c / 4 * 4

/-- Device time in ns at a clk_tdc cycle, at the present rate of the time base (R56; log 107). -/
def Dev.stampAt (d : Dev) (c : Nat) : Nat :=
  if d.tbCounts then (fdiv ((d.tb.t40 : Int) + ((c : Int) - d.cyc) * (one40 + d.trimEff)) 1099511627776).toNat else d.nowNs

/-- A sample word (R309). -/
def sampleWord (invalid isOpen : Bool) (gain input age code : Nat) : Nat :=
  nat invalid * 2 ^ 29 + nat isOpen * 2 ^ 28 + nat (code = 0 || code = 4095) * 2 ^ 27 + gain * 2 ^ 25 + input * 2 ^ 20 +
    min 255 age * 2 ^ 12 + code

/-- CODE of a sample word. -/
def wCode (w : Nat) : Nat := bits w 0 12
/-- INPUT of a sample word. -/
def wInput (w : Nat) : Nat := bits w 20 5
/-- INVALID of a sample word. -/
def wInvalid (w : Nat) : Bool := bitAt w 29

/-- The converter takes a sample (R309, R310): a change of input or gain makes 4 samples invalid, and so does a return from a slot
(R313); a power-up makes none invalid. -/
def Conv.sample (c : Conv) (s : CSample) : Conv × Nat :=
  let same := c.lastIn = s.input && c.lastGain = s.gain
  let age := if same then c.age else 0
  let settle := match s.how with
    | .inTurn => if same then c.settle else 4
    | .resumed => 4
    | .powerUp => 0
  ({ c with lastIn := s.input, lastGain := s.gain, age := min 255 (age + 1), settle := settle - 1 },
    sampleWord (0 < settle) s.opn s.gain s.input age (s.code % 4096))

/-- The words of a run of samples, on a converter that stands as before the first. -/
def Conv.words (c : Conv) : List CSample → List Nat
  | [] => []
  | s :: t => let r := c.sample s; r.2 :: Conv.words r.1 t

/-- Codes of valid samples. -/
def validCodes (ws : List Nat) : List Nat := (ws.filter fun w => !wInvalid w).map wCode

/-- An open-wire run is judged on the mean of its valid samples, given by their sum and number (R314): pull-up at 4,032 or above,
pull-down at 63 or below. -/
def openFound (down : Bool) (sum n : Nat) : Bool := 0 < n && (if down then sum ≤ 63 * n else 4032 * n ≤ sum)

/-- An open-wire run on an input is judged (R314): found open, or not in this direction; the bit clears after a pull-up and a pull-down
run in succession that did not find it open. A run without a valid sample judges nothing. -/
def Dev.openJudge (d : Dev) (n input : Nat) (down : Bool) (sum cnt : Nat) : Dev :=
  if cnt = 0 then d
  else if openFound down sum cnt then
    ((d.modConv n fun c => { c with owClean := Tab.del c.owClean input }).setBitOf (F.ADC_STATUS.OPEN n) input true).raise 8 0
  else
    let d1 := d.modConv n fun c => { c with owClean := Tab.put c.owClean input (if down then 2 else 1) }
    if Tab.getD (d.convN n).owClean input 0 = (if down then 1 else 2) then d1.setBitOf (F.ADC_STATUS.OPEN n) input false else d1

/-! ## Capture units (R318–R325) -/

/-- A capture unit. -/
def Dev.unit (d : Dev) (u : Nat) : CapUnit := at' d.acq.units u {}

/-- Replaces a capture unit. -/
def Dev.modUnit (d : Dev) (u : Nat) (f : CapUnit → CapUnit) : Dev := { d with acq := { d.acq with units := upd d.acq.units u f } }

/-- SOURCE; 5 to 7 act as 0 (R332). -/
def Dev.acqSrc (d : Dev) (u : Nat) : Nat := if 5 ≤ d.get (F.ACQ_CTRL.SOURCE u) then 0 else d.get (F.ACQ_CTRL.SOURCE u)

/-- Decimation (R332). -/
def Dev.acqDec (d : Dev) (u : Nat) : Nat := if d.get (F.ACQ_CTRL.DEC u) = 0 then 16 else d.get (F.ACQ_CTRL.DEC u)

/-- Words of one entry (R318). -/
def srcWords (src : Nat) : Nat := if src = 2 then 8 else 1

/-- Shows the status bits of a unit (R333). -/
def Dev.acqShow (d : Dev) (u : Nat) : Dev :=
  let x := d.unit u
  (((d.setB (F.ACQ_STATUS.ARMED u) x.armed).setB (F.ACQ_STATUS.CAPTURING u) (x.armed && x.capturing)).setB
    (F.ACQ_STATUS.HOLDOFF u) (x.armed && x.closed)).setB (F.ACQ_STATUS.RECORD_READY u) (!x.recs.isEmpty)

/-- Words of the unit's buffer. -/
def Dev.acqBuf (d : Dev) (u : Nat) : Nat := 16 * d.get (F.ACQ_BUFSIZE u)

/-- Words a record needs (R327). -/
def Dev.acqNeed (d : Dev) (u : Nat) : Nat :=
  if d.acqSrc u = 4 then 256 * (d.get (F.ACQ_ET.ET_SAMPLES u) + 1) + 16
  else (d.get (F.ACQ_PRE u) + d.get (F.ACQ_POST u)) * srcWords (d.acqSrc u) + 16

/-- A record of the unit spills (R327). -/
def Dev.acqSpills (d : Dev) (u : Nat) : Bool := d.acqBuf u < d.acqNeed u

/-- Words of a record that the unit's buffer holds (R327). -/
def Dev.acqRoom (d : Dev) (u : Nat) : Nat := d.acqBuf u - 16

/-- A unit is ready for a trigger, its ring empty. The filter goes on (R319). -/
def CapUnit.ready (x : CapUnit) : CapUnit :=
  { x with
    armed := true, capturing := false, closed := false, ring := [], post := [], postLeft := 0, preStored := 0, after := 0, freeT := none
    overl := 0, rflags := 0, holdCnt := 0, gap := 0, skip := 0, spillGap := 0, decCnt := 0, etJ := 0, et := [] }

/-- Coefficients of the unit's filter bank; before one is committed the filter passes its input (log 12). -/
def Dev.firTaps (d : Dev) (u : Nat) : List Int :=
  let t := d.tab (0x7060 + u)
  if t = [] then [32768] else (List.range (rd 1 t 0)).map fun k => rdS 2 t (4 + 2 * k)

/-- A gap word (R318). -/
def gapWord (n : Nat) : Nat := 2 ^ 30 + n % 2 ^ 30

/-- A gap stored in a ring or a record, with its instants (R318). -/
def gapChunk (n : Nat) : Nat × List Nat := (n, [gapWord n])

/-- A stored entry is a gap word. -/
def isGap (c : Nat × List Nat) : Bool := c.2.length = 1 && bits (at' c.2 0 0) 30 2 = 1

/-- The words of stored entries. -/
def chunkWords (l : List (Nat × List Nat)) : List Nat := l.flatMap (·.2)

/-- The instants of stored entries. -/
def chunkSpan (l : List (Nat × List Nat)) : Nat := (l.map (·.1)).sum

/-- Drops the oldest instants of a ring: an entry stands for the instants up to its own, and a gap is shortened (R322). -/
def trimRing : Nat → List (Nat × List Nat) → List (Nat × List Nat)
  | _, [] => []
  | extra, c :: t =>
    if extra = 0 then c :: t
    else if c.1 ≤ extra then trimRing (extra - c.1) t
    else (if isGap c then gapChunk (c.1 - extra) else (c.1 - extra, c.2)) :: t

/-- Stores an entry of `k` instants in the ring before the trigger, which keeps PRE instants, or in the record after it (R322). -/
def CapUnit.put (x : CapUnit) (pre : Nat) (c : Nat × List Nat) : CapUnit :=
  if x.capturing then { x with post := x.post ++ [c] }
  else let r := x.ring ++ [c]; { x with ring := trimRing (chunkSpan r - pre) r }

/-- Spilled words of `n` sampling instants stream into the incident in progress; what the recorder cannot take becomes a gap word
before the next words it takes (R327). -/
def Dev.acqSpill (d : Dev) (u : Nat) (ws : List Nat) (n : Nat) : Dev :=
  let gone := (d.unit u).spillGap
  let words := if gone = 0 then ws else gapWord gone :: ws
  let r := d.stage { kind := 2, source := u, t := d.nowNs, data := words.flatMap (be 4) }
  if r.2 then (r.1.modUnit u fun x => { x with spillGap := 0 }).add (F.ACQ_GAPS u) (nat (0 < gone))
  else (r.1.modUnit u fun x => { x with spillGap := x.spillGap + n, rflags := setBit x.rflags 0 true }).raiseIf (gone = 0) 8 4

/-- A unit stores an entry: in its ring, in its record, or, beyond the buffer of a record that spills, in the incident (R322, R327). -/
def Dev.acqStore (d : Dev) (u : Nat) (c : Nat × List Nat) : Dev :=
  let x := d.unit u
  let d1 := d.modUnit u fun x => x.put (d.get (F.ACQ_PRE u)) c
  let beyond := c.2.drop (d.acqRoom u - ((chunkWords x.ring).length + (chunkWords x.post).length))
  if x.capturing && bitAt x.rflags 1 && beyond ≠ [] then d1.acqSpill u beyond c.1 else d1

/-- The instants without an entry that have passed are stored as one gap word (R318). -/
def Dev.acqFlush (d : Dev) (u : Nat) : Dev :=
  let n := (d.unit u).skip
  if n = 0 then d else ((d.modUnit u fun x => { x with skip := 0 }).acqStore u (gapChunk n)).inc (F.ACQ_GAPS u)

/-- The pending gap of a full FIFO is stored as one gap word (R325). -/
def Dev.acqGap (d : Dev) (u : Nat) : Dev :=
  let n := (d.unit u).gap
  if n = 0 then d
  else (((d.modUnit u fun x => { x with gap := 0, marks := x.fir.length - 1 }).acqStore u (gapChunk n)).inc (F.ACQ_GAPS u)).raise 8 3

/-- The filter's output for the newest word (R319); its delay line holds as many entries as the longest bank reads. -/
def CapUnit.fir1 (x : CapUnit) (w : Nat) : CapUnit × Nat :=
  let l := (w :: x.dline).take 31
  let sum := ((List.range x.fir.length).map fun t => at' x.fir t 0 * (wCode (at' l t 0) : Nat)).foldl (· + ·) 0
  let raw := rhu sum 32768
  let code := (clampI raw 0 4095).toNat
  let bad := 0 < x.marks || (l.take x.fir.length).any wInvalid
  let w1 := w / 4096 * 4096 + code
  let w2 := setBit w1 27 (bitAt w 27 || raw ≠ code)
  ({ x with dline := l, marks := x.marks - 1 }, setBit w2 29 bad)

/-- The post-trigger window counts one sampling instant (R322). -/
def CapUnit.instant (x : CapUnit) : CapUnit := if x.capturing then { x with postLeft := x.postLeft - 1 } else x

/-- `k` instants of the source pass without an entry of the unit's input (R318). -/
def CapUnit.skipped (x : CapUnit) (k : Nat) : CapUnit :=
  if !x.armed then x
  else if x.closed then { x with after := x.after + k, brk := true }
  else if x.capturing then { x with skip := x.skip + min k x.postLeft, postLeft := x.postLeft - k, brk := true }
  else { x with skip := x.skip + k, brk := true }

/-- The unit's filter takes the entry of a converter, where it is on; after a gap the next L − 1 outputs are invalid (R319). -/
def Dev.acqFilter (d : Dev) (u : Nat) (ws : List Nat) : CapUnit × List Nat :=
  let x := d.unit u
  let x1 := if x.brk then { x with marks := x.fir.length - 1, brk := false } else x
  if d.flag (F.ACQ_CTRL.FIR_EN u) && d.acqSrc u < 2 then let r := x1.fir1 (at' ws 0 0); (r.1, [r.2]) else (x1, ws)

/-- An entry arrives at a unit (R318, R319, R322, R325): stored, decimated away, or part of the pending gap of a full FIFO. In the dead
time it passes the filter only. -/
def Dev.acqEntry (d : Dev) (u : Nat) (ws : List Nat) : Dev :=
  let x := d.unit u
  let f := d.acqFilter u ws
  if !x.armed then d
  else if x.closed then d.modUnit u fun _ => { f.1 with after := x.after + 1 }
  else if x.capturing && x.postLeft = 0 then d
  else
    let dec := d.acqDec u
    let keep := x.decCnt + 1 = dec
    let x1 := { f.1.instant with decCnt := if keep then 0 else x.decCnt + 1 }
    if !keep then d.modUnit u fun _ => x1
    else if 256 ≤ x.fifo then d.modUnit u fun _ => { x1 with gap := x1.gap + x1.skip + dec, skip := 0 }
    else ((d.modUnit u fun _ => { x1 with fifo := x1.fifo + 1 }).acqFlush u).acqStore u (dec, f.2)

/-! ## Triggers (R320, R321, R324) -/

/-- Every bit of a list of triggers in the log of the last 64 (R321, R335). -/
def logTrigs (log : List (Nat × Nat × Nat)) (t : Nat) (bs : List Nat) (first other : Nat) : List (Nat × Nat × Nat) :=
  let l := log ++ (List.range bs.length).map fun i => (t, at' bs i 0, if i = 0 then first else other)
  l.drop (l.length - 64)

/-- The selected triggers among bits. -/
def Dev.acqSelect (d : Dev) (u bitsMet : Nat) : List Nat :=
  (bitList 21 bitsMet).filter fun i => bitAt (d.get (F.ACQ_TRIGMASK u)) i

/-- Selected triggers meet a unit at an instant stamped `t` (R321, R324): they start a record, or are overlapped. -/
def Dev.acqTriggers (d : Dev) (u bitsMet t : Nat) : Dev :=
  let x := d.unit u
  let bs := d.acqSelect u bitsMet
  let sel := maskOf 21 fun i => bs.contains i
  if !x.armed || bs = [] || d.acqSrc u = 4 then d
  else if !x.capturing && !x.closed then
    let spill := d.acqSpills u
    let d1 := (d.acqFlush u).modUnit u fun x =>
      let ring := trimRing (chunkSpan x.ring + x.decCnt - d.get (F.ACQ_PRE u)) x.ring
      { x with
        capturing := true, trigT := t, trigNo := at' bs 0 0, trigBits := sel, ring := ring, preStored := (chunkWords ring).length
        post := [], postLeft := d.get (F.ACQ_POST u), log := logTrigs x.log t bs 0 1, rflags := setBit x.rflags 1 spill }
    let d2 := if spill then (d1.incidentTrigger 3).setB (F.ACQ_STATUS.SPILLING u) true else d1
    d2.acqShow u
  else
    let hold := d.get (F.ACQ_HOLD u)
    let d1 := d.modUnit u fun x => { x with
      overl := x.overl + bs.length, holdT := if x.closed && x.holdCnt < hold then t else x.holdT
      holdCnt := if x.closed then x.holdCnt + bs.length else x.holdCnt, log := logTrigs x.log t bs 2 2 }
    (d1.add (F.ACQ_OVERLAP u) bs.length).raise 8 2

/-- An event that is not an entry of the unit's source waits for the unit's first sampling instant at or after it (R321). -/
def Dev.acqPend (d : Dev) (u c bitsMet : Nat) : Dev :=
  if (d.unit u).armed && d.acqSrc u ≠ 4 && d.acqSelect u bitsMet ≠ [] then
    d.modUnit u fun x => { x with pend := x.pend ++ [(c, bitsMet)] }
  else d

/-! ## Records (R322, R323, R328, R329) -/

/-- A sample of a record for its measurements: time in 1/64 ns from the record's start, code, whether it precedes the trigger,
and whether a gap lies before it. -/
structure MSample where
  t : Rat
  code : Nat
  pre : Bool
  cut : Bool

/-- The valid samples of a record; `step` is the sample interval in ns. -/
def mSamples (input : Option Nat) (step : Rat) (pre : Nat) : List Nat → Nat → Rat → Bool → List MSample
  | [], _, _, _ => []
  | w :: t, i, now, cut =>
    if bits w 30 2 = 1 then mSamples input step pre t (i + 1) (now + 4 * (bits w 0 30 : Nat)) true
    else if wInvalid w || (match input with | some k => wInput w ≠ k | none => false) then
      mSamples input step pre t (i + 1) (now + step) cut
    else { t := now, code := wCode w, pre := i < pre, cut := cut } :: mSamples input step pre t (i + 1) (now + step) false

/-- Instants of the rising crossings of a level (R329). -/
def risings (level : Rat) : List MSample → List Rat
  | a :: b :: t =>
    let rest := risings level (b :: t)
    if !b.cut && (a.code : Rat) < level && level ≤ (b.code : Rat) then
      (a.t + (level - a.code) / ((b.code : Rat) - a.code) * (b.t - a.t)) :: rest
    else rest
  | _ => []

/-- The measurements of a record: flags, baseline, amplitude, rise time, period, area (R329). -/
def measures (l : List MSample) (step : Rat) : Nat × Int × Nat × Nat × Nat × Int :=
  let pre := l.filter (·.pre)
  let post := l.filter fun s => !s.pre
  let mean : Rat := if pre = [] then 0 else ((pre.map (·.code)).sum : Rat) / pre.length
  let hi := l.foldl (fun a s => max a s.code) 0
  let lo := l.foldl (fun a s => min a s.code) 4095
  let amp := hi - lo
  let lev (k : Rat) : Rat := lo + k * amp
  let t90 := (risings (lev (9 / 10)) l).head?
  let t10 := t90.bind fun t => ((risings (lev (1 / 10)) l).filter (· < t)).getLast?
  let per := risings (lev (1 / 2)) post
  let rise := t90.bind fun b => t10.map fun a => (ratRhu ((b - a) * 1024)).toNat
  let period := if per.length < 2 then none
    else some (ratRhu ((per.getLast?.getD 0 - per.headD 0) / (per.length - 1 : Nat) * 1024)).toNat
  let area := ratSum (post.map fun s => ((s.code : Rat) - mean) * step)
  let noBase := pre = []
  let noAmp := l = []
  (nat noBase + 2 * nat noAmp + 4 * nat rise.isNone + 8 * nat period.isNone + 16 * nat (noBase || post = []),
    ratRhu (16 * mean), if noAmp then 0 else 16 * amp, rise.getD 0, period.getD 0,
    if noBase || post = [] then 0 else ratRhu area)

/-- The entries of a unit's record, spilled ones included. -/
def CapUnit.entries (x : CapUnit) (src n : Nat) : List Nat :=
  if src = 4 then ((List.range n).map fun i => Tab.getD x.et i 0) else chunkWords (x.ring ++ x.post)

/-- RFLAGS of a unit's record (R328): gaps and invalid entries are those that it holds, or that its spilled part lost. -/
def CapUnit.flags (x : CapUnit) (src : Nat) : Nat :=
  let l := x.ring ++ x.post
  setBit (setBit (setBit x.rflags 0 (bitAt x.rflags 0 || l.any isGap)) 3 (src = 4)) 4
    (src < 2 && l.any fun c => !isGap c && c.2.any wInvalid)

/-- The bytes of a unit's record with its dead time: the entries that its buffer holds, and the measurements over all (R327, R328). -/
def Dev.acqRecord (d : Dev) (u dead : Nat) : Bytes :=
  let x := d.unit u
  let src := d.acqSrc u
  let es := x.entries src (256 * (d.get (F.ACQ_ET.ET_SAMPLES u) + 1))
  let step : Rat := if src = 4 then 1 / 64 else 4 * d.acqDec u
  let input := if src = 4 then none else
    some (if x.trigNo < 16 then d.get (F.TRIG_CFG.INPUT x.trigNo) else min 23 (d.get (F.ACQ_CTRL.INPUT u)))
  let m := if src = 2 || src = 3 then (0x1F, 0, 0, 0, 0, 0)
    else measures (mSamples input step (if src = 4 then 0 else x.preStored) es 0 0 true) step
  let kept := if bitAt x.rflags 1 then es.take (d.acqRoom u) else es
  be 2 0x4143 ++ be 1 u ++ be 1 (x.flags src) ++ be 4 (x.recNo + 1) ++ time80 x.trigT ++ be 1 x.trigNo ++
    zeros 1 ++ be 4 x.trigBits ++ be 4 kept.length ++ be 4 (if src = 4 then 0 else x.preStored) ++ kept.flatMap (be 4) ++
    be 4 dead ++ be 2 x.overl ++ be 2 m.1 ++ be 4 (uns 32 m.2.1) ++ be 4 m.2.2.1 ++ be 4 m.2.2.2.1 ++ be 4 m.2.2.2.2.1 ++
    be 4 (uns 32 m.2.2.2.2.2) ++ zeros 4

/-- The unit's record is complete (R323, R335). -/
def Dev.acqComplete (d : Dev) (u dead : Nat) : Dev :=
  let r := d.acqRecord u dead
  ((d.modUnit u fun x => { x with recs := x.recs ++ [r], recNo := (x.recNo + 1) % 2 ^ 32 }).inc (F.ACQ_RECORDS u)).set
    (F.ACQ_DEAD u) dead

/-- The record closes at device time `t` (R322): gaps not yet stored belong to it (R325). -/
def Dev.acqClose (d : Dev) (u t : Nat) : Dev :=
  let d1 := (d.acqGap u).acqFlush u
  let d2 := if bitAt (d1.unit u).rflags 1 && 0 < (d1.unit u).spillGap then d1.acqSpill u [] 0 else d1
  ((d2.modUnit u fun x => { x with
    capturing := false, closed := true, closeT := t, holdT := t, postLeft := 0, spillGap := 0, after := 0, freeT := none }).setB
      (F.ACQ_STATUS.SPILLING u) false).acqShow u

/-- The re-arm instant of a closed unit whose record may complete, device time ns (R323). -/
def Dev.acqFree (d : Dev) (u : Nat) : Option Nat :=
  let x := d.unit u
  x.freeT.map fun f => max f (if d.flag (F.ACQ_CTRL.HOLD_MODE u) then x.holdT else x.trigT + d.get (F.ACQ_HOLD u))

/-- Whether a closed unit re-arms at device time `t` (R323). -/
def Dev.acqDue (d : Dev) (u t : Nat) : Bool :=
  match d.acqFree u with
  | some r => r ≤ t && (!d.flag (F.ACQ_CTRL.HOLD_MODE u) || d.get (F.ACQ_HOLD u) ≤ (d.unit u).holdCnt)
  | none => false

/-- The record completes and the unit re-arms, or becomes idle in single mode (R323). -/
def Dev.acqAgain (d : Dev) (u : Nat) : Dev :=
  let r := (d.acqFree u).getD 0
  let again := d.flag (F.ACQ_CTRL.MODE u)
  ((d.acqComplete u (r - (d.unit u).trigT)).modUnit u fun x => { x.ready with armed := again }).acqShow u

/-- What the unit does at device time `t` of itself: its window ends and its record closes, and it re-arms (R322, R323). -/
def Dev.acqSettle (d : Dev) (u t : Nat) : Dev :=
  let d1 := if (d.unit u).capturing && (d.unit u).postLeft = 0 then d.acqClose u t else d
  if !(d1.unit u).closed then d1
  else
    let d2 := if (d1.unit u).freeT.isNone && (d.acqSrc u = 4 || d.get (F.ACQ_PRE u) ≤ (d1.unit u).after) then
      d1.modUnit u fun x => { x with freeT := some t } else d1
    if d2.acqDue u t then d2.acqAgain u else d2

/-! ## The instants of a source (R318, R321) -/

/-- The unit takes part in an instant: it was armed by then, and its source has sampling instants (R318, R322). -/
def Dev.acqAt (d : Dev) (u c : Nat) : Bool := (d.unit u).armed && (d.unit u).armC ≤ c && d.acqSrc u ≠ 4

/-- A sampling instant of the unit's source at cycle `c`: what is due by then happens, and the triggers that met by then meet the unit
(R321–R323). -/
def Dev.unitMeet (d : Dev) (u c bitsMet : Nat) : Dev :=
  if !d.acqAt u c then d
  else
    let t := d.stampAt c
    let d1 := d.acqSettle u t
    let met := ((d1.unit u).pend.filter (·.1 ≤ c)).foldl (fun a p => Nat.lor a p.2) bitsMet
    ((d1.modUnit u fun x => { x with pend := x.pend.filter fun p => c < p.1 }).acqTriggers u met t).acqSettle u t

/-- A sampling instant of the unit's source, with its entry or without one for the unit (R318). -/
def Dev.unitInstant (d : Dev) (u c : Nat) (ws : Option (List Nat)) (bitsMet : Nat) : Dev :=
  if !d.acqAt u c then d
  else
    let d1 := d.unitMeet u c bitsMet
    match ws with
    | some w => d1.acqEntry u w
    | none => d1.modUnit u fun x => x.skipped 1

/-- The instants from cycle `c` in which nothing but their passing happens to the unit, at most `k` and at least one. -/
def Dev.unitQuiet (d : Dev) (u c k : Nat) : Nat :=
  let x := d.unit u
  let hold := x.trigT + d.get (F.ACQ_HOLD u)
  let n1 := x.pend.foldl (fun a p => min a ((p.1 - c + 3) / 4)) k
  let n2 :=
    if x.capturing then x.postLeft
    else if !x.closed then k
    else if x.after < d.get (F.ACQ_PRE u) then d.get (F.ACQ_PRE u) - x.after
    else if d.flag (F.ACQ_CTRL.HOLD_MODE u) then k
    else lastBelow (fun m => (d.stampAt (c + 4 * m) : Int)) hold 40 0 + 1
  max 1 (min k (min n1 n2))

/-- `k` instants of a converter source pass from cycle `c` without an entry. -/
def Dev.unitIdle (d : Dev) (u : Nat) : Nat → Nat → Nat → Dev
  | 0, _, _ => d
  | fuel + 1, c, k =>
    if k = 0 then d
    else
      let d1 := d.unitMeet u c 0
      let m := d1.unitQuiet u c k
      (d1.modUnit u fun x => x.skipped m).unitIdle u fuel (c + 4 * m) (k - m)

/-- The same for the unit's part of them: those since its arming. Each trigger that waits can start, close and re-arm once. -/
def Dev.unitPass (d : Dev) (u c k : Nat) : Dev :=
  let x := d.unit u
  let z := min k ((x.armC - c + 3) / 4)
  if x.armed then d.unitIdle u (5 * x.pend.length + 10) (c + 4 * z) (k - z) else d

/-- Whether a comparator fires on a value, and its state after it. -/
def Comp.next (c : Comp) (mode : Nat) (level hi hyst v : Int) : Comp × Bool :=
  let inside := level ≤ v && v < hi
  let was := c.prev.getD v
  let fired := match mode with
    | 1 => c.prev.isSome && c.ready && was < level && level ≤ v
    | 2 => c.prev.isSome && c.ready && level ≤ was && v < level
    | 3 => c.prev.isSome && !c.inside && inside
    | 4 => c.prev.isSome && c.inside && !inside
    | _ => false
  let ready := if fired then false else c.ready || (match mode with
    | 1 => v < level - hyst
    | 2 => level + hyst ≤ v
    | _ => false)
  ({ prev := some v, ready := ready, inside := inside }, fired)

/-- A valid entry of a source and input meets the comparators: the mask of those that fire (R320). -/
def Dev.compFeed (d : Dev) (src input : Nat) (v : Int) : Dev × Nat :=
  (List.range 16).foldl (fun (a : Dev × Nat) c =>
    if d.get (F.TRIG_CFG.SRC c) ≠ src || d.get (F.TRIG_CFG.INPUT c) ≠ input then a
    else
      let lev (f : Fld) : Int := if src = 2 then sgn 12 (d.get f) else d.get f
      let r := (at' a.1.acq.comps c {}).next (d.get (F.TRIG_CFG.MODE c)) (lev (F.TRIG_LEVEL.LEVEL c)) (lev (F.TRIG_LEVEL.LEVEL_HI c))
        (d.get (F.TRIG_CFG.HYST c)) v
      ({ a.1 with acq := { a.1.acq with comps := upd a.1.acq.comps c fun _ => r.1 } }, if r.2 then a.2 + 2 ^ c else a.2))
    (d, 0)

/-- A source's instant at cycle `c` reaches the units: those of the source take it, the others keep the comparators' triggers. -/
def Dev.sourceInstant (d : Dev) (src c bitsMet : Nat) (entry : Nat → Option (List Nat)) : Dev :=
  d.each [0, 1, 2, 3] fun d u =>
    if d.acqSrc u = src then d.unitInstant u c (entry u) bitsMet else d.acqPend u c bitsMet

/-- A sample word of a converter reaches the comparators and the units (R318–R321). -/
def Dev.feedSample (d : Dev) (n c w : Nat) : Dev :=
  if !d.acqRuns then d else
  let r := if wInvalid w then (d, 0) else d.compFeed n (wInput w) (wCode w)
  r.1.sourceInstant n c r.2 fun u =>
    if d.flag (F.ACQ_CTRL.ALL_INPUTS u) || min 23 (d.get (F.ACQ_CTRL.INPUT u)) = wInput w then some [w] else none

/-- A Drover tick record reaches the comparators and the units (R148, R318): 8 words, the tick count first. -/
def Dev.feedTick (d : Dev) (ws : List Int) : Dev :=
  if !d.acqRuns then d else
  let words := ((List.range 8).map fun i => if i = 0 then 2 ^ 31 + ((at' ws 0 0) % 2 ^ 30).toNat else uns 32 (at' ws i 0))
  let r := (List.range 8).foldl (fun (a : Dev × Nat) i =>
    let q := a.1.compFeed 2 i (fdiv (at' ws i 0) 1048576)
    (q.1, Nat.lor a.2 q.2)) (d, 0)
  r.1.sourceInstant 2 d.drv.tickCyc r.2 fun _ => some words

/-- The monitor energy of board k for the shot whose fire edge stood at cycle `c` reaches the comparators and the units (R318). -/
def Dev.feedEnergy (d : Dev) (k c code : Nat) : Dev :=
  if !d.acqRuns then d else
  let r := d.compFeed 3 k code
  r.1.sourceInstant 3 c r.2 fun _ => some [sampleWord false false (d.get F.ADC_MON.GAIN) k 0 code]

/-! ## The instants of a converter (R308, R312, R313) -/

/-- Instants of converter n before cycle `upto` pass without a sample. -/
def Dev.convIdle (d : Dev) (n upto : Nat) : Dev :=
  let c := (d.convN n).t
  let k := (upto - c + 3) / 4
  let d1 := if d.acqRuns then d.each [0, 1, 2, 3] fun d u => if d.acqSrc u = n then d.unitPass u c k else d else d
  d1.modConv n fun v => { v with t := v.t + 4 * k }

/-- A sample of converter n reaches the engine (R318). -/
def Dev.convSample (d : Dev) (n : Nat) (s : CSample) : Dev :=
  let d1 := d.convIdle n s.t
  let r := (d1.convN n).sample s
  (d1.modConv n fun _ => { r.1 with t := s.t + 4 }).feedSample n s.t r.2

/-- The first instant of a converter whose code is not yet known, at most `upto`. -/
def Conv.known (c : Conv) (upto : Nat) : Nat :=
  (c.seqs.filter (·.running)).foldl (fun a q => min a q.next) (if c.slot then min upto c.slotFrom else upto)

/-- The instants of converter n before cycle `upto` reach the engine as far as they are known. -/
def Dev.convPass (d : Dev) (n upto : Nat) : Dev :=
  if !d.convRuns n then d
  else
    let c := d.convN n
    let lim := c.known upto
    let d1 := d.modConv n fun c => { c with queue := c.queue.filter fun s => lim ≤ s.t }
    ((c.queue.filter fun s => s.t < lim).foldl (fun d s => d.convSample n s) d1).convIdle n lim

/-- Sampling instants begin anew with the clock of a converter (R47, R53). -/
def Dev.convResume (d : Dev) (n : Nat) : Dev := d.modConv n fun c => { c with t := max c.t (instantAt d.cyc) }

/-- A sample joins those that wait, in time order. -/
def queueIn (s : CSample) : List CSample → List CSample
  | [] => [s]
  | x :: t => if s.t < x.t then s :: x :: t else x :: queueIn s t

/-- ADC0 stays powered while the monitor slot is enabled; a converter with PD powers down when no slot or sequence runs on it and none
begins at the next instant (R311; log 107). -/
def Dev.convRest (d : Dev) (n : Nat) : Dev :=
  let c := d.convN n
  if n = 0 && d.flag F.ADC_MON.EN then d.modConv n fun c => { c with powered := true }
  else if d.flag (F.ADC_CTRL.PD n) && !c.slot && !(c.seqs.any fun q => q.running || (q.waiting && q.due ≤ d.cyc)) then
    d.modConv n fun c => { c with powered := false }
  else d

/-- Samples of `k` instants from cycle `c` whose codes nothing states (log 4). -/
def Dev.freeSamples (d : Dev) (input gain : Nat) (opn : Bool) : Nat → Nat → List CSample × Dev
  | _, 0 => ([], d)
  | c, k + 1 =>
    let r := d.takeFree 12
    let q := Dev.freeSamples r.2 input gain opn (c + 4) k
    ({ t := c, input := input, gain := gain, opn := opn, code := r.1 } :: q.1, q.2)

/-- The first sample of a slot for which the converter powered up. -/
def slotHow (fresh : Bool) : List CSample → List CSample
  | [] => []
  | s :: t => (if fresh then { s with how := .powerUp } else s) :: t

/-- The slot of converter n has ended and its codes are known (R312, R318). -/
def Dev.slotDone (d : Dev) (n : Nat) (l : List CSample) : Dev :=
  let d1 := d.modConv n fun c => { c with slot := false, queue := c.queue ++ slotHow c.slotFresh l }
  (d1.convRest n).convPass n (instantAt d.cyc)

/-- A slot ends of which no measurement is taken: its shot did not fire, or its tick ended (log 107). -/
def Dev.slotDrop (d : Dev) (n : Nat) : Dev :=
  let c := d.convN n
  if !c.slot then d
  else
    let r := d.freeSamples c.slotIn c.slotGain (bitAt (d.get (F.ADC_STATUS.OPEN n)) c.slotIn) c.slotFrom
      ((min (c.slotTo + 1) d.cyc - c.slotFrom + 3) / 4)
    r.2.slotDone n r.1

/-- A reserved slot takes converter n from its first sampling instant to its last: a running sequence is preempted (R312, R313). -/
def Dev.slotStart (d : Dev) (n a b input gain : Nat) : Dev :=
  let d1 := d.slotDrop n
  let hit := (d1.convN n).seqs.any fun q => q.running && (q.cont || a < q.stop)
  let d2 := d1.modConv n fun c => { c with
    slot := true, slotFrom := a, slotTo := b, slotIn := input, slotGain := gain, slotFresh := !c.powered, powered := true }
  (if hit then d2.inc (F.ADC_PREEMPT n) else d2).convPass n a

end Sys2Proof.Machine
end

