-- ==== Sys2Proof/Machine/Output.lean ====
section
/-! DEFINITION. Launch-time queues, units cut into datagrams, and the start and end of the output streams
(R287, R291–R299, R373, R388–R390). -/

namespace Sys2Proof.Machine

/-! ## Queues (R388–R390) -/

/-- Port p of the Ethernet side. -/
def Dev.port (d : Dev) (p : Nat) : Port := at' d.net.ports p {}

/-- Replaces a port. -/
def Dev.modPort (d : Dev) (p : Nat) (f : Port → Port) : Dev := { d with net := { d.net with ports := upd d.net.ports p f } }

/-- Whether an entry fits its queue: 512 KiB in Q2 to Q4, 64 frames in the others (R388). -/
def queueFits (q : Nat) (l : List QEnt) (e : QEnt) : Bool :=
  if 2 ≤ q ∧ q ≤ 4 then (l.map (·.size)).sum + e.size ≤ 524288 else l.length < 64

/-- An entry that arrives at queue q of a port enters it (R389, R390). -/
def Dev.enters (d : Dev) (p q : Nat) (e : QEnt) : Bool :=
  let pt := d.port p
  !pt.droppedUnit.contains e.unit && !pt.lateUnit.contains e.unit && queueFits q (at' pt.queues q []) e

/-- An entry arrives at queue q of a port: the rest of a unit that a full queue or a late head has cost is discarded (R389, R390). -/
def Dev.enqueue (d : Dev) (p q : Nat) (e : QEnt) : Dev :=
  let pt := d.port p
  if e.unit ∈ pt.lateUnit then d.inc (F.ETH_LATE_DROPPED p)
  else if e.unit ∈ pt.droppedUnit then d
  else if queueFits q (at' pt.queues q []) e then
    d.modPort p fun pt => { pt with queues := upd pt.queues q (· ++ [e]) }
  else ((d.modPort p fun pt => { pt with droppedUnit := e.unit :: pt.droppedUnit }).inc (F.ETH_QOVF p)).raise 10 11

/-- Redundancy trailers go out: the pair works as a PRP node (R379). -/
def Dev.prpOn (d : Dev) : Bool := d.flag F.NET_PRP.EN

/-- Tag of the management frames (R378). -/
def Dev.mgmtTag (d : Dev) : Option Nat :=
  if d.flag F.NET_VLAN.TAG then some (d.get F.NET_VLAN.PCP * 8192 + d.get F.NET_VLAN.VID) else none

/-- An entry enters queue q of a port as a unit of its own. -/
def Dev.sendFrame (d : Dev) (p q : Nat) (e : QEnt) : Dev :=
  let u := d.net.unitNo
  { d with net := { d.net with unitNo := u + 1 } }.enqueue p q { e with unit := u, stream := 3, size := e.data.length }

/-- An entry enters queue q: on both ports with one redundancy sequence number in PRP mode, otherwise on the port it belongs to
(R379). -/
def Dev.sendPair (d : Dev) (p q : Nat) (e : QEnt) : Dev :=
  if d.prpOn then
    let u := d.net.unitNo
    let s := d.net.prpSeq
    let e' : QEnt := { e with unit := u, stream := 3, size := e.data.length, prp := true, prpSeq := s }
    ({ d with net := { d.net with unitNo := u + 1, prpSeq := (s + 1) % 65536 } }.enqueue 0 q e').enqueue 1 q e'
  else d.sendFrame p q e

/-! ## Basxiop frames (R364, R367, R373) -/

/-- A Basxiop port. -/
def Dev.bxPort (d : Dev) (p : Nat) : BxPort := at' d.bx.ports p {}

/-- Replaces a Basxiop port. -/
def Dev.modBx (d : Dev) (p : Nat) (f : BxPort → BxPort) : Dev := { d with bx := { d.bx with ports := upd d.bx.ports p f } }

/-- Credits a sender holds on VC0 or VC1 (R367). -/
def BxPort.credits (b : BxPort) (vc : Nat) : Nat :=
  if vc = 0 then 64 - (b.cons0 + 65536 - b.freedRx0) % 65536 else 2048 - (b.cons1 + 65536 - b.freedRx1) % 65536

/-- Credits that a frame takes (R367). -/
def BxFrame.cost (f : BxFrame) : Nat := cdiv (bxLen f.data) 8

/-- The link of a Basxiop port is up. -/
def Dev.bxUp (d : Dev) (p : Nat) : Bool := d.flag (F.BX_STATUS.LINK_UP p)

/-- A frame starts: it takes its credits and its SEQ, and goes out. -/
def BxPort.start (b : BxPort) (f : BxFrame) : BxPort :=
  if f.vc = 1 then
    { b with cons1 := (b.cons1 + f.cost) % 65536, seqTx1 := (b.seqTx1 + 1) % 65536 }.putFrame { f with seq := b.seqTx1 }
  else
    { b with cons0 := (b.cons0 + f.cost) % 65536, seqTx0 := (b.seqTx0 + 1) % 65536 }.putFrame { f with seq := b.seqTx0 }

/-- Frames of VC0 start while the credits last. -/
def BxPort.drain0 (b : BxPort) : List BxFrame → BxPort
  | [] => { b with wait0 := [] }
  | f :: t => if f.cost ≤ b.credits 0 then BxPort.drain0 (b.start f) t else { b with wait0 := f :: t }

/-- Frames of VC1 start while the credits last, own and relayed ones in turn (R373). -/
def BxPort.drain1 : Nat → BxPort → BxPort
  | 0, b => b
  | n + 1, b =>
    let relay := (b.relayNext && b.waitRelay ≠ []) || b.waitOwn = []
    match (if relay then b.waitRelay else b.waitOwn) with
    | [] => b
    | f :: t =>
      if b.credits 1 < f.cost then b
      else
        let b1 := b.start f
        BxPort.drain1 n (if relay then { b1 with waitRelay := t, relayNext := false } else { b1 with waitOwn := t, relayNext := true })

/-- Waiting frames start while the credits last (R367). -/
def BxPort.drain (b : BxPort) : BxPort :=
  let b1 := b.drain0 b.wait0
  BxPort.drain1 (b1.waitOwn.length + b1.waitRelay.length) b1

/-- A frame enters the queue of its VC. -/
def BxPort.push (b : BxPort) (f : BxFrame) (relay : Bool) : BxPort :=
  if f.vc = 0 then { b with wait0 := b.wait0 ++ [f] }
  else if relay then { b with waitRelay := b.waitRelay ++ [f] } else { b with waitOwn := b.waitOwn ++ [f] }

/-- Datagrams that wait take at most 512 KiB, as in Q4 (R388; log 41). -/
def BxPort.room (b : BxPort) (f : BxFrame) : Bool :=
  f.vc = 0 || (((b.waitOwn ++ b.waitRelay).map (·.data.length)).sum + f.data.length ≤ 524288)

/-- Sends a frame on a port: it starts when its credits are held; a datagram that cannot be queued is dropped (R364, R367, R373). -/
def Dev.bxSend (d : Dev) (p : Nat) (f : BxFrame) (relay : Bool) : Dev :=
  if d.bxUp p && f.lenOk && (d.bxPort p).room f then d.modBx p fun b => (b.push f relay).drain
  else if f.kind = 1 then d.inc F.BX_FWD_DROPPED else d

/-- Forwards an own datagram west as a KIND 1 frame (R373). -/
def Dev.bxForward (d : Dev) (data : Bytes) : Dev :=
  d.bxSend 1 { kind := 1, src := d.get F.BX_STRING.POSITION, data := data } false

/-! ## Frame headers (R287) -/

/-- A table with its reset content of `n` zero bytes. -/
def orZeros (n : Nat) (bs : Bytes) : Bytes := if bs = [] then zeros n else bs

/-- What a frame header says of its frame. -/
structure FrameSrc where
  get : Fld → Nat
  tab : Nat → Bytes
  stamp40 : Nat
  stepAt : Bool

/-- A frame header of stream n (R287, R288): the counts are those of the closing header. -/
def frameHeader (src : FrameSrc) (n : Nat) (closing short aborted : Bool) (sent overrun orig trunc : Nat) : Bytes :=
  let cfg := src.tab 0x7007
  let axes := src.get F.DRV_CTRL.AXES
  let c (v : Nat) : Nat := if closing then v else 0
  time80 (src.stamp40 / 1099511627776) ++
    be 1 (c (nat short + 2 * nat aborted) + 4 * nat src.stepAt) ++ be 1 (src.get F.P.framePacing) ++
    be 2 (src.get F.P.stagesPerFrame) ++ be 2 (c sent) ++ be 2 (src.get F.P.shotPeriod) ++ be 2 (src.get F.P.shotsPerStage) ++
    be 1 (src.get F.TALLY_CTRL.BIN_WIDTH) ++ be 1 (sCfg src.get n).e ++ be 1 (if axes = 3 then 0 else axes) ++
    be 1 (src.get F.P.mode) ++ be 2 (drvSpan cfg 0) ++ be 2 (drvSpan cfg 1) ++
    be 4 (crc32c (orZeros 4096 (src.tab 0x7050) ++ orZeros 2048 (src.tab 0x7051))) ++
    be 2 (c overrun) ++ zeros 2 ++ be 4 (c orig) ++ be 4 (c trunc) ++ zeros 4

/-- The frame of the stage whose records are processed. -/
def StageInfo.src (i : StageInfo) : FrameSrc := { get := i.get, tab := i.tab, stamp40 := i.frameStamp, stepAt := i.stepAt }

/-! ## Datagrams (R295–R298) -/

/-- An output stream. -/
def Dev.stream (d : Dev) (n : Nat) : Stream := at' d.streams n {}

/-- Replaces an output stream. -/
def Dev.modStream (d : Dev) (n : Nat) (f : Stream → Stream) : Dev := { d with streams := upd d.streams n f }

/-- SOURCE of the stream header: the string position (R295). -/
def Dev.source (d : Dev) : Nat := if d.flag F.BX_STRING.POSITIONED then d.get F.BX_STRING.POSITION else 0

/-- Stream header (R295). -/
def streamHeader (kind n flags source frame stage frag frags len seq : Nat) : Bytes :=
  be 2 0x4E58 ++ be 1 1 ++ be 1 kind ++ be 1 n ++ be 1 flags ++ be 1 source ++ zeros 1 ++ be 4 frame ++ be 2 stage ++
    be 2 frag ++ be 2 frags ++ be 2 len ++ be 4 seq

/-- The queue entry of a stream's datagram (R297, R304, R388). -/
def Dev.datagram (d : Dev) (n : Nat) (c : SCfg) (unit launch : Nat) (data : Bytes) : QEnt :=
  { launch := some launch, unit := unit, stream := n, dst := c.dst, data := data, size := data.length
    prp := c.prp, prpSeq := if c.prp then d.net.prpSeq else 0, ports := c.ports, tag := c.tag }

/-- A datagram of stream n enters a launch queue: not where it is forwarded, and not where every queue discards it (R298, R373). -/
def Dev.queues (d : Dev) (n : Nat) (c : SCfg) (e : QEnt) : Bool :=
  !d.forwards && ((c.uses 0 && d.enters 0 (2 + n) e) || (c.uses 1 && d.enters 1 (2 + n) e))

/-- A datagram enters the queues of its ports, with one launch time, and with that the recorder's ring (R297, R298, R373, R388). -/
def Dev.putDatagram (d : Dev) (n : Nat) (c : SCfg) (unit launch : Nat) (data : Bytes) : Dev :=
  let e := d.datagram n c unit launch data
  let d0 := if c.record && d.queues n c e then d.ringPush { kind := 1, source := n, t := launch, data := data } else d
  if d0.forwards then d0.bxForward (be 1 n ++ zeros 3 ++ be 4 (launch % 2 ^ 32) ++ data)
  else
    let d1 := if c.prp then { d0 with net := { d0.net with prpSeq := (d0.net.prpSeq + 1) % 65536 } } else d0
    let d2 := if c.uses 0 then d1.enqueue 0 (2 + n) e else d1
    if c.uses 1 then d2.enqueue 1 (2 + n) e else d2

/-- Sends fragment i of a unit of stream n (R295–R297). -/
def Dev.putFragment (d : Dev) (n : Nat) (c : SCfg) (unit nominal kind flags frame stage : Nat) (bytes : Bytes) (frags i : Nat) :
    Dev :=
  let s := d.stream n
  let part := (bytes.drop (i * c.frag)).take c.frag
  let launch := max nominal (s.lastL + cdiv (8000 * s.lastW) (max 1 c.rate))
  let data := streamHeader kind n flags d.source frame stage i frags part.length s.seq ++ part
  let d1 := (d.putDatagram n c unit launch data).modStream n fun s =>
    { s with seq := (s.seq + 1) % 2 ^ 32, lastL := launch, lastW := part.length + 24 + c.extra }
  if d.forwards then (d1.add (F.OUT_SENT_BYTES n) part.length).inc (F.OUT_DGRAMS n)
  else if d.queues n c (d.datagram n c unit launch data) then d1.inc (F.OUT_DGRAMS n) else d1

/-- Sends a unit of stream n (R296). -/
def Dev.putUnit (d : Dev) (n : Nat) (c : SCfg) (nominal kind flags frame stage : Nat) (bytes : Bytes) : Dev :=
  let u := d.net.unitNo
  let frags := cdiv bytes.length c.frag
  let d1 := { d with net := { d.net with unitNo := u + 1 } }
  d1.each (List.range frags) fun d i => d.putFragment n c u nominal kind flags frame stage bytes frags i

/-! ## Stage blocks of a stream (R284, R292, R303) -/

/-- The configuration of stream n for the stage whose records are processed (R288). -/
def Dev.stageCfg (d : Dev) (n : Nat) : SCfg := sCfg d.seq.info.get n

/-- Stream n takes the stage whose records are processed. -/
def Dev.takesStage (d : Dev) (n : Nat) : Bool := d.seq.info.valid && (d.stageCfg n).en && (d.stream n).run

/-- A record that the echo engine has not reached: no echoes and the overrun flag (R29, R303). -/
def overrunRec (r : Rec) : Rec := if r.done then r else { r with flags := setBit r.flags 15 true, echoes := [], done := true }

/-- Counters of the frame begin with its opening header (R287). -/
def Stream.openFrame (s : Stream) (frame : Nat) : Stream :=
  if s.cntFrame = some frame then s
  else { s with cntFrame := some frame, sent := 0, orig := 0, trunc := 0, overrun := 0 }

/-- The point builder completes the block of stream n (R278–R284) from the records of the stage; a stream without bales has its unit. -/
def Dev.buildFor (d : Dev) (n : Nat) (recs : Tab Rec) : Dev :=
  let c := d.stageCfg n
  let i := d.seq.info
  let b := buildBlock i c (rd 1 (clutterOf (i.tab 0x7040)) 0) recs
  ((d.modStream n fun s => { s.openFrame i.frame with
      block := some b.bytes, blockRecs := b.recs, blockCut := b.cut, blockOver := b.overrun
      unit := if c.bales then none else some (if c.cart then 3 else 2, 0, b.bytes) }).add
    (F.OUT_ORIG_BYTES n) b.full).add F.OUT_TRUNC_ECHOES b.cut

/-- A bale with its header (R291). -/
def baleBytes (seq : Nat) (block data : Bytes) : Bytes :=
  be 4 seq ++ be 4 block.length ++ be 4 data.length ++ be 4 (crc32c block) ++ data

/-- The packer's state may be reset at the start of a frame (R293). -/
def Stream.atFrame (s : Stream) (hist : Nat) (first : Bool) : Stream := if first && hist ≠ 0 then s.resetState else s

/-- The packer codes the block of stream n; `late` when it has not finished in time (R292, R303). -/
def Dev.packFor (d : Dev) (n : Nat) (late : Bool) : Dev :=
  let c := d.stageCfg n
  match (d.stream n).block with
  | none => d
  | some block =>
    let s := (d.stream n).atFrame c.hist d.seq.info.firstOfFrame
    let r := packBlock s s.blockRecs
    let grown := block.length ≤ r.2.length
    let whole := late || grown
    let data := if whole then block else r.2
    let flags := nat s.resetNext + 2 * nat whole
    let d1 := d.modStream n fun _ => { r.1 with
      unit := some (4, flags, baleBytes s.baleSeq block data), baleSeq := (s.baleSeq + 1) % 2 ^ 32
      resetNext := false, written := false, orig := if whole then s.orig + 1 else s.orig
      held := some s.stateBytes }
    let d2 := if whole then d1.inc (F.OUT_NOSHRINK n) else d1
    if grown then
      ({ d2 with seq := { d2.seq with shrinkAt := some d.seq.info.frame } }.setB F.OUT_STATUS.NOSHRINK true).raiseIf
        (d.seq.shrinkAt ≠ some d.seq.info.frame) 9 0
    else d2

/-- At stage tick k+1: the units of stage k of stream n go out (R297). -/
def Dev.sendStage (d : Dev) (n tick : Nat) : Dev :=
  let i := d.seq.info
  let c := d.stageCfg n
  let frame := i.frame - (d.stream n).frame
  let nominal := tick + i.get (F.OUT_SLAUNCH.OFFSET n)
  let d1 := if i.firstOfFrame then d.putUnit n c nominal 0 0 frame 0 (frameHeader i.src n false false false 0 0 0 0) else d
  let d2 := match (d1.stream n).unit with
    | none => d1
    | some (kind, flags, bytes) => (d1.putUnit n c nominal kind flags frame i.index bytes).modStream n fun s => { s with
        sent := s.sent + 1, trunc := s.trunc + s.blockCut, overrun := s.overrun + nat s.blockOver
        block := none, blockRecs := [], unit := none, held := none }
  let s := d2.stream n
  if i.last then
    (d2.putUnit n c nominal 1 0 frame 0 (frameHeader i.src n true i.short false s.sent s.overrun s.orig s.trunc)).modStream n fun s =>
      if s.ending then { s with run := false, ending := false } else s
  else d2

/-- The point builder has not built the block of stream n. -/
def Dev.lateBlock (d : Dev) (n : Nat) : Bool := d.takesStage n && (d.stream n).block.isNone

/-- The packer has not coded the bale of stream n. -/
def Dev.lateBale (d : Dev) (n : Nat) : Bool := d.takesStage n && (d.stageCfg n).bales && (d.stream n).unit.isNone

/-- The records of a stage whose point builder reached the first `k` of them (R303). -/
def cutRecords (recs : Tab Rec) (k : Nat) : Tab Rec :=
  Tab.ofFn 512 fun ch =>
    let r := Tab.getD recs ch {}
    if ch < k then r else { r with flags := setBit r.flags 15 true, echoes := [] }

/-- Blocks that are late are finished without the records not reached; how many were is a free value (R303; log 4). -/
def Dev.finishBlocks (d : Dev) : Dev :=
  if d.lateBlock 0 || d.lateBlock 1 then
    let k := d.takeFree 10
    k.2.each [0, 1] fun d n => if d.lateBlock n then d.buildFor n (cutRecords d.recs k.1) else d
  else d

/-- At stage tick k+1 what is not ready of stage k is finished by force: one overrun for the stage, and late bales as ORIGINAL (R303). -/
def Dev.finishStage (d : Dev) : Dev :=
  let d1 := d.finishBlocks
  let late := d.lateBlock 0 || d.lateBlock 1 || d1.lateBale 0 || d1.lateBale 1
  let d2 := d1.each [0, 1] fun d n => if d.lateBale n then d.packFor n true else d
  if late then ((d2.inc F.OUT_PB_OVERRUN).setB F.OUT_STATUS.PB_OVERRUN true).raise 9 2 else d2

/-- The units of stage k go out at stage tick k+1 (R297). -/
def Dev.sendStages (d : Dev) (tick : Nat) : Dev := d.each [0, 1] fun d n => if d.takesStage n then d.sendStage n tick else d

/-! ## Start and end of the streams (R293, R299) -/

/-- A stream starts: SEQUENCE and BALE_SEQ at 0 and its state reset, unless a state was written (R299). -/
def Stream.start (s : Stream) (frame : Nat) : Stream :=
  let s1 := if s.written then s else { s.resetState with baleSeq := 0 }
  { s1 with run := true, frame := frame, seq := 0, lastL := 0, lastW := 0, cntFrame := none, block := none, unit := none
            ending := false, held := none }

/-- At a frame tick in RANGING or DEGRADED: enabled streams start, on entry all of them; disabled ones end with the units of the frame that
ended, and start anew when they are enabled again (R299, R300). -/
def Dev.startStreams (d : Dev) (entry : Bool) : Dev :=
  d.each [0, 1] fun d n =>
    let s := d.stream n
    if !d.flag (F.OUT_SCFG.EN n) then (if s.run then d.modStream n fun s => { s with ending := true } else d)
    else if entry || !s.run || s.ending then d.modStream n (·.start d.seq.frame) else d

/-- Streams that are not enabled no longer run once their last block has gone. -/
def Dev.stopStreams (d : Dev) : Dev :=
  d.each [0, 1] fun d n =>
    if d.flag (F.OUT_SCFG.EN n) && d.st.armed then d
    else d.modStream n fun s => { s with run := false, ending := false, block := none, unit := none, held := none }

/-- On entry to SAFE_HOLD or FAULT_STOP every unit not yet launched is discarded, and where Ethernet still runs one closing
header with ABORTED goes out for the frame in progress (R299). -/
def Dev.abortStreams (d : Dev) : Dev :=
  let purge (pt : Port) : Port := { pt with queues := upd (upd pt.queues 2 fun _ => []) 3 fun _ => [] }
  let d0 := ((d.modPort 0 purge).modPort 1 purge).modBx 1 fun b => { b with waitOwn := [] }
  d0.each [0, 1] fun d n =>
    let s := d.stream n
    if !s.run then d
    else
      let d1 := if d.rootRuns && !s.ending then
          let c := sCfg d.get n
          let own := s.cntFrame = some d.seq.frame
          let v (x : Nat) : Nat := if own then x else 0
          let src : FrameSrc := { get := fun f => Tab.getD d.seq.stRegs f 0, tab := fun i => Tab.getD d.seq.stTabs i []
                                  stamp40 := d.seq.frameStamp, stepAt := d.seq.stepAtFrame }
          d.putUnit n c d.nowNs 1 0 (d.seq.frame - s.frame) 0
            (frameHeader src n true d.seq.shortFrame true (v s.sent) (v s.overrun) (v s.orig) (v s.trunc))
        else d
      d1.modStream n fun s => { s with run := false, ending := false, block := none, unit := none, held := none }

end Sys2Proof.Machine
end

