-- ==== Sys2Proof/Machine/States.lean ====
section
/-! DEFINITION. Device states, table swaps, retirement, and what a change of state does to the rest of the block
(R22–R25, R31, R99–R109, R397–R401, R461, R482–R487, R509, R511). -/

namespace Sys2Proof.Machine

/-! ## Arming (R108, R109) -/

/-- EM_ARM_N goes high: both arm enables turn off, no row stays active (R75, R109). -/
def Dev.disarm (d : Dev) : Dev :=
  { d with led := { d.led with
      logic := { d.led.logic with enable := false }, proc := { d.led.proc with enable := false }, arming := 0 } }.setB
    F.EM_STATUS.ROW_VALID false

/-- Both channels open all their switches (R397, R418): every pair de-energises, and a reset counts no more. -/
def Dev.openSwitches (d : Dev) : Dev :=
  { d with toll := { d.toll with
      logic := { d.toll.logic with switch := 0, reset := 0 }, proc := { d.toll.proc with switch := 0, reset := 0 }
      energised := 0, testA := 0, testB := 0 } }

/-! ## The ledger's bank and the island's reset (R96, R102, R103, R399, R513) -/

/-- Sums start afresh: every window counts as at its limit until its buckets have passed (R102). The sums of the last stage tick stay
what they are read as (R120). -/
def Dev.ledgerHold (d : Dev) (act : Option Nat) : Dev :=
  { d with led := { d.led with
      actCyc := act, logic := { d.led.logic with sums := [] }, proc := { d.led.proc with sums := [] } } }.setB
    F.LEDGER_STATUS.HOLDOFF true

/-- No stage's energy is under way (R104). -/
def LedgerCh.noStage (c : LedgerCh) : LedgerCh := { c with stageE := 0 }

/-- A ledger limit bank becomes active: hold-off starts when it is the first since the island's reset or changes a window
(R102, R103). -/
def Dev.ledgerActivate (d : Dev) (old new : Bytes) : Dev :=
  if d.led.actCyc.isNone || (List.range 3).any (fun k => winLen old k ≠ winLen new k) then d.ledgerHold (some d.cyc) else d

/-- k_r restarts for every row (R96). -/
def Dev.krReset (d : Dev) : Dev := { d with led := { d.led with kr := [], krN := [] } }

/-- Register fields of the Toll mailbox block keep no value across a reset of the island (R443). -/
def tollRegs (d : Dev) : Tab Nat := d.regs.filter fun e => Fld.addr e.1 < 0x800000 || 0x900000 ≤ Fld.addr e.1

/-- No energy of a stage is under way in either channel (R104). -/
def Dev.clearStageE (d : Dev) : Dev :=
  { d with led := { d.led with logic := d.led.logic.noStage, proc := d.led.proc.noStage } }

/-- Before the first stage tick since the island's reset every cell sum reads 0 (R120). -/
def Dev.clearTickSums (d : Dev) : Dev :=
  { d with led := { d.led with logic := { d.led.logic with tick := [] }, proc := { d.led.proc with tick := [] } } }

/-- A reset of the Toll island: self-test, all switches open, telegram SEQ from 1, sums 0 and hold-off (R120, R399, R435, R513). -/
def Dev.tollReset (d : Dev) : Dev :=
  let d1 := { d with toll := { vddOk := d.toll.vddOk }, regs := tollRegs d }.clearStageE.clearTickSums
  (((d1.disarm.ledgerHold none).krReset.setB F.TOLL_STATUS.SAFE_STATE true).set (F.EVT_STATUS 12) 0)

/-! ## Refunds (R99) -/

/-- Takes energy from a bucket that still stands in its window. -/
def subBucket (l : List (Nat × Nat)) (b e : Nat) : List (Nat × Nat) := l.map fun x => if x.1 = b then (b, x.2 - e) else x

/-- Takes a debit back (R99). -/
def LedgerCh.refund (ch : LedgerCh) (r : Debit) : LedgerCh :=
  { ch with
    stageE := ch.stageE - r.e
    sums := (List.range 3).foldl (fun t k =>
      Tab.put t (3 * r.cell + k) (subBucket (Tab.getD t (3 * r.cell + k) []) (at' r.bkts k 0) r.e)) ch.sums }

/-- Debits of a shot whose pulses were suppressed wait for their refund (R99). -/
def Dev.pendRefunds (d : Dev) (c : Decision) : Dev :=
  { d with led := { d.led with
      logic := if c.logicOk then { d.led.logic with
        refunds := d.led.logic.refunds ++ [{ cell := c.cellL, bkts := c.bktL, e := c.eL }] } else d.led.logic
      proc := if c.procOk then { d.led.proc with
        refunds := d.led.proc.refunds ++ [{ cell := c.cellP, bkts := c.bktP, e := c.ePred }] } else d.led.proc } }

/-- Refunds that wait are made (R99). -/
def Dev.ledgerRefunds (d : Dev) : Dev :=
  let l := d.led.logic.refunds
  let p := d.led.proc.refunds
  let d1 := { d with led := { d.led with
    logic := { l.foldl LedgerCh.refund d.led.logic with refunds := [] }
    proc := { p.foldl LedgerCh.refund d.led.proc with refunds := [] } } }
  (d1.add F.LEDGER_LOGIC_REFUNDS l.length).add F.LEDGER_PROC_REFUNDS p.length

/-- The coming shot does not begin: what was debited for it is refunded (R99, R101). -/
def Dev.dropDecision (d : Dev) : Dev :=
  let d1 := if d.seq.dec.decided then d.pendRefunds d.seq.dec else d
  { d1 with seq := { d1.seq with dec := {} } }

/-! ## Table swaps (R23–R25, R87, R133, R414, R416) -/

/-- A field is held occupied through the next frame in both channels (R414). -/
def Dev.holdFields (d : Dev) : Dev :=
  let f (t : TollCh) : TollCh := { t with hold := List.replicate 16 1 }
  (d.modToll .logic f).modToll .proc f

/-- The drift of a convoy's channels restarts (R187, R188). -/
def Dev.zeroDrift (d : Dev) (c : Nat) : Dev :=
  d.each (List.range 32) fun d i => d.modChan (32 * c + i) fun x => { x with drift := 0, driftLimit := false }

/-- A swap of an emitter table discards an equivalent-time sweep in progress (R326). -/
def Dev.dropSweeps (d : Dev) : Dev :=
  { d with acq := { d.acq with units := d.acq.units.map fun x => if x.closed then x else { x with etJ := 0, et := [] } } }

/-- A table swaps; `busy` while ticks occur, when the previous bank stays in use (R23). -/
def Dev.swapBank (d : Dev) (idx : Nat) (busy : Bool) : Dev :=
  let old := d.tab idx
  let d0 := if 0x7000 ≤ idx && idx ≤ 0x7004 then d.dropSweeps else d
  let d1 := d0.modBank idx fun b => { b.swap with prevBusy := nat busy }
  match idx with
  | 0x7000 => { d1 with fStore := [], pStore := [] }
  | 0x7003 => d1.krReset
  | 0x7004 => d1.krReset
  | 0x7005 => d1.ledgerActivate old (d1.tab idx)
  | 0x7006 => { d1 with drv := { d1.drv with xferDue := true } }
  | 0x7071 => d1.holdFields
  | _ => if 0x7010 ≤ idx && idx < 0x7030 then d1.zeroDrift (idx % 16) else d1

/-- The zone tables may swap: both are committed and carry one ZONE_SET_ID (R416). -/
def Dev.zonesReady (d : Dev) : Bool :=
  let a := d.bank 0x7071
  let b := d.bank 0x7072
  a.committed && b.committed && rd 4 a.inact 0 = rd 4 b.inact 0

/-- Tables that swap at a stage tick after a FRAME_SYNC_IN edge when SWAP_SRC is 1 (R87). -/
def syncTables : List Nat := [0x7001, 0x7002, 0x7003, 0x7004]

/-- The tables of a convoy at rest, which swap as the rest ends (R24, R509). -/
def Dev.restTable (d : Dev) (idx : Nat) : Bool := 0x7010 ≤ idx && idx < 0x7030 && d.resting (idx % 16)

/-- A table swaps at frame ticks in the present configuration (R24, R87). -/
def Dev.swapsAtFrame (d : Dev) (idx : Nat) : Bool :=
  if syncTables.contains idx then !d.flag F.EM_CTRL.SWAP_SRC
  else if idx = 0x7071 || idx = 0x7072 then d.zonesReady
  else idx < 0x7030 && !d.restTable idx || idx = 0x7040 || idx = 0x7050 || idx = 0x7051

/-- Committed banks that a preparation point fixes for the coming tick (R22, R25), those of a rest that it may end among them. -/
def Dev.fixBanks (d : Dev) (frame sync : Bool) : Dev :=
  { d with tabs := d.tabs.map fun e =>
      let due := (frame && (d.swapsAtFrame e.1 || d.restTable e.1)) || (sync && d.flag F.EM_CTRL.SWAP_SRC && syncTables.contains e.1)
      (e.1, if e.2.committed && due then { e.2 with fixed := true } else e.2) }

/-- The fixed banks swap, those of a convoy at rest not before its rest ends. -/
def Dev.swapFixed (d : Dev) : Dev :=
  d.each ((d.tabs.filter fun e => e.2.fixed && !d.restTable e.1).map (·.1)) fun d idx => d.swapBank idx true

/-- What a tick fixed and did not swap waits for its own point (R22). -/
def Dev.freeBanks (d : Dev) : Dev := { d with tabs := Tab.mapVal (fun b : Bank => { b with fixed := false }) d.tabs }

/-- The inactive bank holds the content and is committed (R465). -/
def Dev.commitBank (d : Dev) (idx : Nat) (bs : Bytes) : Dev := d.modBank idx fun b => { b.setInact bs with committed := true }

/-- Basic writes of the clutter table that a preparation point left for the tick after it enter the inactive bank (R270). -/
def Dev.clutDue (d : Dev) : Dev :=
  if d.clutLater = [] then d else { d.commitBank 0x7040 d.clutLater with clutLater := [], clutBasic := true }

/-- Every committed bank swaps where ticks do not occur (R461), those of a convoy at rest not before its rest ends (R24); zone banks only
together (R416). -/
def Dev.swapIdle (d : Dev) : Dev :=
  d.each ((d.tabs.filter fun e => e.2.committed && !d.restTable e.1 && (e.1 ≠ 0x7071 && e.1 ≠ 0x7072 || d.zonesReady)).map (·.1)) fun d idx =>
    d.swapBank idx false

/-! ## Interpolators without a clock (R175, R199) -/

/-- Event group of a convoy's sources (R193). -/
def cvyGroup (c : Nat) : Nat := 3 + c / 8

/-- The convoy's delay line loses its clock: it is not locked, and must lock anew (R175). That is no unlock under R176 (log 104). -/
def Dev.dllStops (d : Dev) (c : Nat) : Dev :=
  if d.locked c then
    ((d.setB (F.CVY_STATUS.LOCKED c) false).modCvy c fun v => { v with absent := true, start := none }).raise (cvyGroup c) (3 * (c % 8))
  else d

/-- The loop of a convoy whose clock runs from the root has run (R199). -/
def Dev.dllRuns (d : Dev) (c : Nat) : Dev :=
  if d.rootRuns && d.cvyRuns c then d.modCvy c fun v => { v with dllRan := true } else d

/-! ## Convoy rest (R509, R511) -/

/-- The convoy begins to rest: its channels are absent and its statistics run ends (R511). -/
def Dev.restStart (d : Dev) (c : Nat) : Dev :=
  if d.resting c then d else (d.setB (F.CVY_STATUS.RESTING c) true).tisAbort c

/-- Nothing asks the convoy to stay at rest (R509). -/
def Dev.restFree (d : Dev) (c : Nat) : Bool :=
  d.resting c && !(d.cvy c).restWant && !(d.cvy c).recalTurn && !(d.cvy c).returning && !d.flag (F.CVY_STATUS.CAL_BUSY c)

/-- The conditions for the end of a rest hold (R509). -/
def Dev.restOver (d : Dev) (c : Nat) : Bool := d.restFree c && d.locked c

/-- The convoy leaves rest: its banks swap, at a tick those that its preparation point fixed; TOT_MIN restarts and no channel is
sun-blinded (R22, R24, R253, R509, R511). -/
def Dev.restEnd (d : Dev) (c : Nat) (all : Bool) : Dev :=
  let d1 := d.each [0x7010 + c, 0x7020 + c] fun d idx =>
    if (d.bank idx).committed && (all || (d.bank idx).fixed) then d.swapBank idx d.st.ticks else d
  let d2 := ((d1.setB (F.CVY_STATUS.RESTING c) false).set (F.SUN_BLIND.BLINDED c) 0).raiseIf (d.get (F.SUN_BLIND.BLINDED c) ≠ 0) 5 6
  d2.each (List.range 32) fun d i =>
    d.modChan (32 * c + i) fun x => { x with totMin := d.get (F.CVY_TOT.TOT_BASE c), blinded := false }

/-- Every rest that may end does, at a frame tick or where none occur (R461, R509). -/
def Dev.endRests (d : Dev) (all : Bool) : Dev := d.each (List.range 16) fun d c => if d.restOver c then d.restEnd c all else d

/-! ## Links that go down (R360, R376, R367) -/

/-- BX_CTRL as the next bring-up takes it: EN, MAX_SPEED, LANE_EN (R392). -/
def Dev.bxCtrl (d : Dev) (p : Nat) : Nat :=
  nat (d.flag (F.BX_CTRL.EN p)) + 2 * d.get (F.BX_CTRL.MAX_SPEED p) + 8 * d.get (F.BX_CTRL.LANE_EN p)

/-- ETH_CTRL as the next link takes it: EN, MODE, ADVERTISE, RS_FEC, BASER_FEC (R391). -/
def Dev.ethCtrl (d : Dev) (p : Nat) : Nat :=
  nat (d.flag (F.ETH_CTRL.EN p)) + 2 * d.get (F.ETH_CTRL.MODE p) + 16 * d.get (F.ETH_CTRL.ADVERTISE p) +
    128 * d.get (F.ETH_CTRL.RS_FEC p) + 256 * d.get (F.ETH_CTRL.BASER_FEC p)

/-- A Basxiop port returns to the start of bring-up, at step 1 or at step 2 (R360). -/
def BxPort.restart (b : BxPort) (cfg step : Nat) : BxPort :=
  { step := step, laneRetired := b.laneRetired, cfg := cfg, tx := b.tx, frames := b.frames, line := b.line, frErrAt := b.frErrAt }

/-- A Basxiop port goes down and bring-up starts again, with the fields of BX_CTRL (R360, R392). -/
def Dev.bxDown (d : Dev) (p : Nat) : Dev :=
  let was := d.bxUp p
  let d1 := d.modBx p (·.restart (d.bxCtrl p) 2)
  let d2 := ((((d1.setB (F.BX_STATUS.LINK_UP p) false).setB (F.BX_STATUS.TRAINING p) false).set (F.BX_STATUS.SPEED p) 0).set
    (F.BX_STATUS.LANES_ACTIVE p) 0)
  let d3 := if p = 1 && d2.get F.BX_STRING.ROLE = 2 then
      ((d2.setB F.BX_STRING.POSITIONED false).setB F.BX_STRING.TICK_LOCKED false).set F.BX_STRING.POSITION 0 else d2
  d3.raiseIf was 10 (2 + p)

/-- An Ethernet port goes down; its next link takes the fields of ETH_CTRL (R391). -/
def Dev.ethDown (d : Dev) (p : Nat) : Dev :=
  let was := d.flag (F.ETH_STATUS.LINK p)
  let d0 := d.modPort p fun pt => { pt with cfg := d.ethCtrl p }
  let d1 := ((((d0.setB (F.ETH_STATUS.LINK p) false).set (F.ETH_STATUS.SPEED p) 0).set (F.ETH_STATUS.FEC p) 0).setB
    (F.ETH_STATUS.BLOCK_LOCK p) false).setB (F.ETH_STATUS.AN_DONE p) false
  d1.raiseIf was 10 p

/-! ## Faults and retirement (R482–R486) -/

/-- Stage ticks counted for the fault window: while none occur, each 1 ms counts as one (R483). -/
def Dev.faultTick (d : Dev) : Nat :=
  if d.st.ticks then d.life.ticks else d.life.ticks + (d.up - d.life.tickBase) / 1000000

/-- The next narrower recorder link width (R352). -/
def narrower (w : Nat) : Nat := if w = 4 then 2 else if w = 2 then 1 else 0

/-- A retirement takes effect (R161, R237, R361, R482). -/
def Dev.applyRetire (d : Dev) (kind unit : Nat) : Dev :=
  match kind with
  | 1 => d.modChan unit fun c => { c with retired := true }
  | 2 =>
    let d1 := d.modChan unit fun c => { c with spare := true }
    let d2 := ((d1.setB (F.SPARE_MAP.IN_USE (unit / 32)) true).set (F.SPARE_MAP.CHANNEL (unit / 32)) (unit % 32)).setBitOf
      F.TALLY_STATUS.SPARE_USED (unit / 32) true
    d2.raise 5 5
  | 3 => (d.setB (F.CVY_STATUS.RETIRED unit) true).tisAbort unit
  | 4 => { d with life := { d.life with startRet := upd d.life.startRet unit fun _ => true } }
  | 5 =>
    let p := (unit - 2) / 2
    let d1 := d.modBx p fun b => { b with laneRetired := upd b.laneRetired (unit % 2) fun _ => true }
    if (d1.bxPort p).laneRetired.all id then d1.bxDown p else d1
  | 6 => { d with life := { d.life with portRet := upd d.life.portRet unit fun _ => true } }.ethDown unit
  | 7 => { d with rcd := { d.rcd with width := narrower unit } }
  | _ =>
    let d1 := { d with life := { d.life with stewRun := upd d.life.stewRun unit fun _ => false } }
    let d2 := d1.setB (if unit = 0 then F.STEWARD_STATUS.A_RETIRED else F.STEWARD_STATUS.B_RETIRED) true
    d2.setB F.STEWARD_STATUS.STANDBY_READY false

/-- A unit's fault has become permanent (R237, R485, R486). -/
def Dev.retire (d : Dev) (kind unit g s : Nat) : Dev :=
  let full := kind = 2 && (d.flag (F.SPARE_MAP.IN_USE (unit / 32)) || d.seq.retireDue.any fun r => r.1 = 2 && r.2.1 / 32 = unit / 32)
  let k := if full then 1 else kind
  if d.retiredUnit k unit then d
  else
    let e : Retired := { kind := k, unit := unit, g := g, s := s, t := d.nowNs }
    let d1 := { d with life := { d.life with retired := d.life.retired ++ [e] } }.raise 0 8
    let d2 := d1.raiseIf (1024 < d1.life.retired.length) 0 10
    if k ≤ 4 && d2.st.ticks then { d2 with seq := { d2.seq with retireDue := d2.seq.retireDue ++ [(k, unit, g, s)] } }
    else d2.applyRetire k unit

/-- A fault that becomes permanent when it is repeated (R482, R483). -/
def Dev.faultOn (d : Dev) (kind unit g s : Nat) : Dev :=
  let link := 5 ≤ kind
  let now := if link then d.up / 1000000 else d.faultTick
  let win := if link then d.get F.P.linkWindow else d.get F.P.repeatWindow
  let src := 24 * g + s
  let same (f : FaultRec) : Bool := f.kind = kind && f.unit = unit && f.src = src
  if d.retiredUnit kind unit && kind ≠ 2 then d
  else if !link && d.life.faults.any (fun f => same f && f.tick = now) then d
  else
    let rec' : FaultRec := { kind := kind, unit := unit, src := src, tick := now }
    let l := (d.life.faults.filter fun f => !same f || now - f.tick < win) ++ [rec']
    if d.get F.P.repeatCount ≤ l.countP same then
      { d with life := { d.life with faults := l.filter fun f => !same f } }.retire kind unit g s
    else { d with life := { d.life with faults := l } }

/-- The first `n` of the retirements that wait for a stage tick take effect (R485). -/
def Dev.applyDue (d : Dev) (n : Nat) : Dev :=
  (d.seq.retireDue.take n).foldl (fun d r => d.applyRetire r.1 r.2.1)
    { d with seq := { d.seq with retireDue := d.seq.retireDue.drop n } }

/-- All retirements that wait for a stage tick take effect (R485). -/
def Dev.applyRetirements (d : Dev) : Dev := d.applyDue d.seq.retireDue.length

/-- Some retirement is in force: it no longer waits for a stage tick (R485). -/
def Dev.inForce (d : Dev) : Bool :=
  d.life.retired.any fun r => !d.seq.retireDue.any fun q => q.1 = r.kind && q.2.1 = r.unit

/-- A unit returns to service, its fault counts at 0; a steward runs when it has reloaded (R487). -/
def Dev.unitBack (d : Dev) (kind unit : Nat) : Dev :=
  let d0 := { d with life := { d.life with faults := d.life.faults.filter fun f => !(f.kind = kind && f.unit = unit) } }
  match kind with
  | 1 => d0.modChan unit fun c => { c with retired := false }
  | 2 =>
    let d1 := d0.modChan unit fun c => { c with spare := false }
    (((d1.setB (F.SPARE_MAP.IN_USE (unit / 32)) false).set (F.SPARE_MAP.CHANNEL (unit / 32)) 0).setBitOf
      F.TALLY_STATUS.SPARE_USED (unit / 32) false)
  | 3 => (d0.setB (F.CVY_STATUS.RETIRED unit) false).modCvy unit fun v => { v with returning := false }
  | 4 => { d0 with life := { d0.life with startRet := upd d0.life.startRet unit fun _ => false } }
  | 5 => (d0.modBx ((unit - 2) / 2) fun b => { b with laneRetired := upd b.laneRetired (unit % 2) fun _ => false }).bxDown
      ((unit - 2) / 2)
  | 6 => { d0 with life := { d0.life with portRet := upd d0.life.portRet unit fun _ => false } }
  | 7 => { d0 with rcd := { d0.rcd with width := unit } }.driveGone
  | _ =>
    d0.setB (if unit = 0 then F.STEWARD_STATUS.A_RETIRED else F.STEWARD_STATUS.B_RETIRED) false

/-- Units that wait for a frame tick return (R487). -/
def Dev.applyReturns (d : Dev) : Dev :=
  d.life.returns.foldl (fun d r => d.unitBack r.1 r.2) { d with life := { d.life with returns := [] } }

/-! ## The schedule of network-paced frames (R386) -/

/-- The first schedule instant T_m = m × P + STAGGER beyond a device time in ns, for every integer m (R386). -/
def Dev.instantAfter (d : Dev) (t : Nat) : Nat :=
  let p := max 1 (1000 * d.get F.TB_SCHED_PERIOD)
  let g := 1000 * d.get F.TB_SCHED_STAGGER
  t + 1 + (((g : Int) - t - 1) % (p : Int)).toNat

/-- The next pacing event of network-paced frames is the first schedule instant beyond a device time; while time is not valid frames
are paced as with pacing 0 (R386). -/
def Dev.scheduleAfter (d : Dev) (t : Nat) : Dev :=
  if d.get F.P.framePacing ≠ 1 then d
  else if !d.timeValid then
    ({ d with net := { d.net with nextT := none } }.setB F.TB_SOURCE.SCHED_FALLBACK true).raiseIf
      (!d.flag F.TB_SOURCE.SCHED_FALLBACK) 2 2
  else { d with net := { d.net with nextT := some (d.instantAfter t) } }.setB F.TB_SOURCE.SCHED_FALLBACK false

/-- The next pacing event after a frame tick now: the first schedule instant beyond now + P / 2 (R386). -/
def Dev.scheduleNext (d : Dev) : Dev := d.scheduleAfter (d.nowNs + max 1 (1000 * d.get F.TB_SCHED_PERIOD) / 2)

/-! ## The shot sequencer starts and stops (R461) -/

/-- What the stage that begins will be processed with (R23). -/
def Dev.snapStage (d : Dev) : Dev :=
  { d with seq := { d.seq with stRegs := d.regs, stTabs := Tab.mapVal Bank.act d.tabs } }

/-- Stage counters of a channel start at 0. -/
def Chan.fresh (c : Chan) : Chan :=
  { c with amb := 0, nStops := 0, stopOvf := 0, devSum := 0, devCnt := 0, orMiss := 0, zoneHits := [] }

/-- No shot is under way for a channel. -/
def Chan.idle (c : Chan) : Chan :=
  { c.fresh with
    openEv := none, held := [], carry := [], stops := [], lastAmb := none, lastAcc := none, ownSeen := false, ownOk := false }

/-- Ticks begin: entry 0 of the waybill, a new frame, empty buffers, TOT_MIN at TOT_BASE as no stage precedes (R166; log 104), and only a
convoy that is not locked is absent (R176, R189). Network pacing takes the start of the first frame for its frame
tick (R386; log 102). -/
def Dev.startTicks (d : Dev) : Dev :=
  { d with
    seq := { frame := d.seq.frame, side := d.seq.side, stageStart := d.cyc, stageStamp := d.tb.t40, frameStart := d.cyc, frameStamp := d.tb.t40
             lastSyncIn := d.seq.lastSyncIn, shortFrame := false }
    cnt := [], ech := [], recs := [], seeds := []
    chans := Tab.ofFn 512 fun ch => { (d.chan ch).idle with totMin := d.get (F.CVY_TOT.TOT_BASE (ch / 32)) }
    cvys := Tab.ofFn 16 fun c => { d.cvy c with absent := !d.locked c, unlocked := false }
    life := { d.life with ticks := d.life.ticks + (d.up - d.life.tickBase) / 1000000 } }.clearStageE.snapStage.scheduleNext

/-- The accepted step is applied (R61); one that would by then take device time below 0 takes it to 0, and 2^48 s is checked at
the request only (log 101). -/
def Dev.applyStep (d : Dev) : Dev :=
  match d.tb.step with
  | none => d
  | some o =>
    let d1 := { d with tb := { d.tb with
      t40 := ((d.tb.t40 : Int) + o * one40).toNat, step := none, accepted := false } }
    ((d1.setB F.TB_STATUS.STEP_PENDING false).setB F.TB_STATUS.STEP_REFUSED false).raise 2 3

/-- A stream holds no block or unit of an ended stage. -/
def Stream.clear (s : Stream) : Stream := { s with block := none, unit := none, held := none }

/-- No bank is in use by the pipeline or fixed for a tick. -/
def Bank.release (b : Bank) : Bank := { b with prevBusy := 0, fixed := false }

/-- Ticks end: what waited for a stage or frame tick takes effect, refunds among it (R99; log 10), and an accepted step is applied (R61). At a frame
tick (`keep`) the last stage block of the ending frame is still to be sent (R299). -/
def Dev.stopTicks (d : Dev) (keep : Bool) : Dev :=
  let d1 := ((d.slotDrop 0).dropDecision.ledgerRefunds.clearStageE.commitPoint .stage true).commitPoint .frame true
  let d2 := { d1.swapIdle.clutDue.swapIdle with
    seq := { d1.seq with shot := none, j := 0, stage := 0, dec := {}, prep := false, prepFrame := false, stageDue := false,
                         frameDue := false, pace := false, syncSwap := false,
                         syncFixed := false, emLoss := false, stageLock := false, info := if keep then d1.seq.info else {} } }
  let d3 := { d2 with
    tabs := Tab.mapVal Bank.release d2.tabs
    life := { d2.life with tickBase := d2.up }
    streams := if keep then d2.streams else d2.streams.map Stream.clear }
  let d4 := (d3.applyRetirements.applyReturns.endRests true).setB F.EM_STATUS.ROW_VALID false
  if d4.tb.accepted then d4.applyStep else d4

/-! ## Transitions (R31, R461) -/

/-- On entry to RANGING: frames count from 0, the stores are stale, the dither generator is loaded, the streams start and the
protective fields are held (R218, R259, R261, R295, R299, R414). -/
def Dev.enterRanging (d : Dev) : Dev :=
  let d1 := { d with seq := { d.seq with frame := 0 }, fStore := [], pStore := [] }
  (((d1.set F.CLUT_LFSR.STATE (ditherLoad (d1.get F.CLUT_SEED.SEED))).startStreams true).holdFields)

/-- The pre-event ring takes recorder.ring_size: blocks held for an incident stay, the others are freed (R343, R344; log 32). -/
def Dev.ringResize (d : Dev) : Dev :=
  let n := ringBlocks (d.get F.P.ringSize)
  if n = d.rcd.total then d
  else
    let keep := (d.rcd.blocks.filter (·.state = 2)).take n
    { d with rcd := { d.rcd with total := n, free := n - keep.length, blocks := keep } }

/-- EM_ARM_N goes high where the laser is disarmed: in every state but SCAN, RANGING and DEGRADED, and on leaving RANGING or DEGRADED
for SCAN (R30, R109). -/
def Dev.disarmFor (d : Dev) (st : DevState) : Dev :=
  if !st.ticks || (d.st.armed && !st.armed) then d.disarm else d

/-- A device whose role is no longer follower has no learned position and follows no ticks (R369; log 110). -/
def Dev.leftRole (d : Dev) (role : Nat) : Dev :=
  if role = 2 && d.get F.BX_STRING.ROLE ≠ 2 then
    ((d.setB F.BX_STRING.POSITIONED false).setB F.BX_STRING.TICK_LOCKED false).set F.BX_STRING.POSITION 0
  else d

/-- What a change of state does, network pacing that begins at it among the rest (R31, R61, R99, R105, R147, R299, R461), in order; `tick` at a stage or frame tick. -/
def Dev.afterGoto (d : Dev) (was : DevState) (tick : Bool) : Dev :=
  let now := d.st
  let d0 := if now = .faultStop then d.openSwitches else d
  let d1 := if now = .safeHold || now = .faultStop then d0.abortStreams else d0
  let d2 := if was = .safeHold && now = .standby then (d1.setB F.LEDGER_STATUS.DISAGREE false).set F.LEDGER_STATUS.CAUSE 0 else d1
  let d3 := if was = .scan then { d2 with drv := { d2.drv with inj := 0 } }.setB F.DRV_STATUS.TEST_RUN false else d2
  let d4 := ((d3.commitPoint .stateChange (!tick)).leftRole (d.get F.BX_STRING.ROLE)).ringResize
  let d5 := if was.ticks && now.ticks && d.get F.P.framePacing ≠ 1 then
      d4.scheduleAfter (max d4.nowNs (d4.seq.frameStamp / 2 ^ 40 + max 1 (1000 * d4.get F.TB_SCHED_PERIOD) / 2)) else d4
  if was.ticks && !now.ticks then d5.stopTicks tick
  else if !was.ticks && now.ticks then d5.startTicks
  else if now = .ranging && was = .scan then d5.enterRanging
  else d5

/-- A transition of the device state (R31). FAULT_STOP is left by a reset only. -/
def Dev.goto (d : Dev) (st : DevState) (tick : Bool) : Dev :=
  if d.st = .faultStop || d.st = st then d
  else
    let d1 := ({ d.disarmFor st with st := st, want := none, wantFixed := none }.print ("state " ++ toString st.code)).raise 0 0
    d1.afterGoto d.st tick

/-- SAFE_HOLD with its causes, from SCAN, RANGING and DEGRADED (R31). -/
def Dev.hold (d : Dev) (causes : List HoldCause) : Dev :=
  if !d.st.ticks then d
  else { d with causes := causes, lostTerms := if causes.contains .service then d.missing else 0 }.goto .safeHold false

/-- FAULT_STOP from any state (R31). -/
def Dev.faultStop (d : Dev) : Dev := d.goto .faultStop false

/-- A Toll channel fault with its cause code: both channels open all their switches and the device enters FAULT_STOP (R397). -/
def Dev.tollFault (d : Dev) (cause : Nat) : Dev :=
  let f := if d.toll.fault = 0 then cause else d.toll.fault
  ({ d with toll := { d.toll with fault := f } }.openSwitches.raise 12 0).faultStop

/-- Causes of SAFE_HOLD that stand at present, in a device where ticks occur (R31): service counts where it was present before or
where the state needs it. -/
def Dev.holdNow (d : Dev) (had : Bool) : List HoldCause :=
  (if d.holdDemand then [.safetyDemand] else []) ++ (if d.flag F.THERM_STATUS.SHUTDOWN then [.thermal] else []) ++
    (if d.flag F.LEDGER_STATUS.DISAGREE then [.ledger] else []) ++
    (if (had || d.st.armed) && !d.rangingOk then [.service] else [])

/-- After a command that can take away what the state needs: SAFE_HOLD at once (R31, R34). -/
def Dev.settle (d : Dev) (before : Dev) : Dev :=
  if !d.st.ticks then d
  else
    let l := d.holdNow (before.st.ticks && before.rangingOk)
    if l = [] then d else d.hold l

/-- A change followed by its effect on the device state. -/
def Dev.settled (d : Dev) (f : Dev → Dev) : Dev := (f d).settle d

/-- Every cause that led to SAFE_HOLD has cleared (R31). -/
def Dev.causesClear (d : Dev) : Bool :=
  !d.holdDemand && !d.flag F.THERM_STATUS.SHUTDOWN && (!d.causes.contains .clockFault || !d.flag F.CLK_STATUS.CLOCK_FAULT) &&
    (List.range 8).all fun i => !bitAt d.lostTerms i || !bitAt d.missing i

end Sys2Proof.Machine
end

