-- ==== Sys2Proof/Machine/Operands.lean ====
section
/-! DEFINITION. The paths by which a command reaches a field: a register view, a role, a gated block (R4, R6, R50, R452,
R466, R467), and the ranges of their operands. -/

namespace Sys2Proof.Machine

/-- A role may write an entry with access rw or wo, or with access rw-e (R6, R452). -/
def Role.canWrite (r : Role) (expert : Bool) : Bool :=
  match r with
  | .observer => false
  | .operator => !expert
  | .engineer => true

/-- A write through the unprivileged view of a privileged field is ignored (R467). -/
def Dev.viewIgnored (d : Dev) : Dev := d.setB F.BUS_STATUS.VIEW_IGNORED true

/-- A dictionary write in a role: carried out when the role may write the entry, otherwise refused with 0x02 (R452). -/
def Dev.roleWrite (d : Dev) (r : Role) (expert : Bool) (f : Dev → Dev) : Dev :=
  if Role.canWrite r expert then f (d.answer 0) else d.answer 2

/-- A dictionary write of a BOOL that acts on 1: other values of the type have no effect, and values outside it are refused
(R458). -/
def Dev.roleOne (d : Dev) (r : Role) (expert : Bool) (v : Nat) (f : Dev → Dev) : Dev :=
  d.roleWrite r expert fun d => if v = 1 then f d else if v = 0 then d else d.answer 4

/-- A write of a privileged register field or of the entry that mirrors it. -/
def Dev.viaWrite (d : Dev) (via : Via) (expert : Bool) (f : Dev → Dev) : Dev :=
  match via with
  | .reg true => f d
  | .reg false => d.viewIgnored
  | .dict r => d.roleWrite r expert f

/-- A write of a privileged register. -/
def Dev.privWrite (d : Dev) (priv : Bool) (f : Dev → Dev) : Dev := if priv then f d else d.viewIgnored

/-- An access to a gated block: its bit in GATED_ACCESS is set (R50). -/
def Dev.gatedHit (d : Dev) (blk : Nat) : Dev := (d.setBitOf F.GATED_ACCESS.HIT blk true).raise 1 5

/-- A register write to a block: ignored while the block is gated (R50). -/
def Dev.blockWrite (d : Dev) (blk : Nat) (f : Dev → Dev) : Dev := if d.runs blk then f d else d.gatedHit blk

/-- A write of a privileged register field of a block or of the entry that mirrors it; a register write meets the gate. -/
def Dev.viaBlock (d : Dev) (via : Via) (expert : Bool) (blk : Nat) (f : Dev → Dev) : Dev :=
  match via with
  | .reg _ => d.blockWrite blk fun d => d.viaWrite via expert f
  | .dict _ => d.viaWrite via expert f

/-- The path is a dictionary write. -/
def Via.isDict : Via → Bool
  | .dict _ => true
  | .reg _ => false

/-- Refuses a dictionary write with a status code; a register write is ignored. -/
def Dev.refuse (d : Dev) (via : Via) (code : Nat) : Dev := if Via.isDict via then d.answer code else d

end Sys2Proof.Machine
end

