-- ==== Sys2Proof/Machine/Clock.lean ====
section
/-! DEFINITION. Clocks, gating, bridges (R40–R55, R65–R70). -/

namespace Sys2Proof.Machine

/-- A window count agrees (R41). -/
def countAgrees (n : Nat) : Bool := 25088 ≤ n && n ≤ 26112

/-- A clock fault (R43): the flag, the event, and SAFE_HOLD from a state with ticks. -/
def Dev.clockFault (d : Dev) : Dev :=
  ((d.setB F.CLK_STATUS.CLOCK_FAULT true).raise 1 1).hold ([.clockFault] ++ d.holdNow d.st.ticks)

/-- A judging window ends with a count (R41, R43, R65). -/
def refJudgeWindow (count : Nat) (d : Dev) : Dev :=
  let ok := countAgrees count
  let run := if ok then min 8 (d.get F.CLK_STATUS.STABLE_RUN + 1) else 0
  let d1 := (d.set F.CLK_STATUS.LAST_COUNT count).set F.CLK_STATUS.STABLE_RUN run
  if d.clk.judging then
    let d2 := { d1 with clk := { d1.clk with windows := d1.clk.windows + 1, judging := run ≠ 8 } }
    if run = 8 then (d2.setB F.CLK_STATUS.REF_STABLE true).setB F.CLK_STATUS.REF_IN_USE d.clk.refSel else d2
  else if d.flag F.CLK_STATUS.REF_STABLE && !ok then d1.clockFault
  else d1

/-- REF_JUDGE_WINDOW (R41). -/
def execRefJudgeWindow (count : Nat) (s : State) : Out := onDev (refJudgeWindow count) s

/-- Judging gives up after 64 windows: the block stays on the fall-back (R42); so does a judging that CLK_CTRL.RETURN started
(log 101). -/
def refJudgeTimeout (d : Dev) : Dev :=
  if d.clk.judging && 64 ≤ d.clk.windows then { d with clk := { d.clk with judging := false } }.raise 1 0 else d

/-- REF_JUDGE_TIMEOUT (R42). -/
def execRefJudgeTimeout (s : State) : Out := onDev refJudgeTimeout s

/-- The root locks: every domain switches to its root division (R44, R46). -/
def pllLock (d : Dev) : Dev :=
  if d.flag F.CLK_STATUS.REF_STABLE && !d.flag F.CLK_STATUS.PLL_LOCK then
    (({ d with clk := { d.clk with relCyc := d.cyc } }.setB F.CLK_STATUS.PLL_LOCK true).setB F.CLK_STATUS.FALLBACK false).each
      (List.range 16) Dev.dllRuns
  else d

/-- PLL_LOCK (R44). -/
def execPllLock (s : State) : Out := onDev pllLock s

/-- The root is lost: the domains return to the RC fall-back, a clock fault is raised and what does not run there goes down
(R44, R47). REF_STABLE and STABLE_RUN clear with it and judging ends until RETURN (log 101). -/
def pllLossOfLock (d : Dev) : Dev :=
  if d.flag F.CLK_STATUS.PLL_LOCK then
    let d1 := (((d.setB F.CLK_STATUS.PLL_LOCK false).setB F.CLK_STATUS.FALLBACK true).setB F.CLK_STATUS.REF_STABLE false).set
      F.CLK_STATUS.STABLE_RUN 0
    let d2 := { d1 with clk := { d1.clk with judging := false } }.clockFault
    ((((d2.ethDown 0).ethDown 1).bxDown 0).bxDown 1).driveGone.each (List.range 16) Dev.dllStops
  else d

/-- PLL_LOSS_OF_LOCK (R44). -/
def execPllLossOfLock (s : State) : Out := onDev pllLossOfLock s

/-- A write of CLK_CTRL.RETURN on the fall-back starts a new judging (R44, R66). -/
def clockReturn (priv : Bool) (d : Dev) : Dev :=
  d.privWrite priv fun d =>
    if d.flag F.CLK_STATUS.FALLBACK then
      ({ d with clk := { d.clk with
        judging := true, windows := 0, refSel := d.flag F.CLK_CTRL.REF_SELECT } }.setB
          F.CLK_STATUS.REF_STABLE false).set F.CLK_STATUS.STABLE_RUN 0
    else d

/-- CLOCK_RETURN (R44). -/
def execClockReturn (priv : Bool) (s : State) : Out := onDev (clockReturn priv) s

/-- A write of CLK_CTRL.CLEAR_FAULT clears CLOCK_FAULT when the current window agrees (R66): the window that LAST_COUNT holds, the last
one completed (log 101). -/
def clearFault (priv : Bool) (d : Dev) : Dev :=
  d.privWrite priv fun d =>
    if countAgrees (d.get F.CLK_STATUS.LAST_COUNT) then d.setB F.CLK_STATUS.CLOCK_FAULT false else d

/-- CLEAR_FAULT (R66). -/
def execClearFault (priv : Bool) (s : State) : Out := onDev (clearFault priv) s

/-- The Toll logic's clock stops without a switch: its switches open (R398). -/
def logicClockStop (d : Dev) : Dev :=
  d.settled fun d => { d with
    clk := { d.clk with logicClk := false }
    toll := { d.toll with logic := { d.toll.logic with switch := 0 } } }

/-- LOGIC_CLOCK_STOP (R398). -/
def execLogicClockStop (s : State) : Out := onDev logicClockStop s

/-! ## Gating (R49–R53, R67, R68) -/

/-- A stream that is enabled goes out of port p. -/
def Dev.streamsUse (d : Dev) (p : Nat) : Bool := (sCfg d.get 0).uses p || (sCfg d.get 1).uses p

/-- The active configuration uses a block of CLK_GATE (R52; log 11). -/
def Dev.blockUsed (d : Dev) (b : Nat) : Bool :=
  if b < 16 then !d.resting b && !d.cvyRetired b
  else match b with
    | 18 => d.axes ≠ 0
    | 19 => d.flag F.ADC_MON.EN
    | 20 => d.axes ≠ 0
    | 21 => d.acq.units.any (·.armed)
    | 24 => d.rcd.ready
    | 25 => d.streamsUse 0 || tgOn d.toll.cfg
    | 26 => d.streamsUse 1 || tgOn d.toll.cfg
    | 27 => d.get F.BX_STRING.ROLE ≠ 0 && d.bxUp 0
    | 28 => d.get F.BX_STRING.ROLE = 2
    | _ => true

/-- CLK_GATE as one value (R67). -/
def Dev.clkGate (d : Dev) : Nat := d.get F.CLK_GATE.BLOCK_EN * 65536 + d.get F.CLK_GATE.CONVOY_EN

/-- Blocks whose gating a value requests and the state refuses (R52). -/
def Dev.gateRefused (d : Dev) (v : Nat) : Nat :=
  if d.st.ticks then maskOf 29 fun i => bitAt d.clkGate i && !bitAt v i && d.blockUsed i else 0

/-- Sets the enable bits; blocks newly disabled wait for an idle bus interface (R49). -/
def Dev.setGate (d : Dev) (v : Nat) : Dev :=
  let req := maskOf 29 fun i => !bitAt v i && (bitAt d.clkGate i || bitAt d.clk.gateReq i)
  (({ d with clk := { d.clk with gateReq := req } }.set F.CLK_GATE.BLOCK_EN (bits v 16 13)).set F.CLK_GATE.CONVOY_EN
    (bits v 0 16)).setB F.GATE_STATE.GATE_PENDING (req ≠ 0)

/-- A refused gate request (R52). -/
def Dev.gateRefusal (d : Dev) : Dev := (d.setB F.GATE_STATE.GATE_REFUSED true).raise 1 6

/-- A write of CLK_GATE or clock.gate (R49, R52, R74). -/
def clkGateWrite (via : Via) (v : Word) (d : Dev) : Dev :=
  d.viaWrite via true fun d =>
    let n := v.toNat
    let no := d.gateRefused n
    if Via.isDict via then
      if 2 ^ 29 ≤ n then d.answer 4
      else if no ≠ 0 then d.gateRefusal.answer 8
      else d.setGate n
    else (d.setGate (Nat.lor n no)).when (no ≠ 0) Dev.gateRefusal

/-- CLK_GATE_WRITE (R49). -/
def execClkGateWrite (via : Via) (v : Word) (s : State) : Out := onDev (clkGateWrite via v) s

/-- The instants of a converter that its gate ends, and those that its clock begins anew (R47, R53, R308). -/
def Dev.convGate (d : Dev) (blk : Nat) : Dev := if blk = 19 || blk = 20 then d.convPass (blk - 19) (instantAt d.cyc) else d

/-- The gate of a block takes effect (R49). -/
def gateTakesEffect (blk : Fin 29) (d0 : Dev) : Dev :=
  if bitAt d0.clk.gateReq blk then
    let d := d0.convGate blk
    let req := setBit d.clk.gateReq blk false
    (({ d with clk := { d.clk with gateReq := req } }.setBitOf F.GATE_STATE.RUNNING blk false).setB F.GATE_STATE.GATE_PENDING
      (req ≠ 0)).when (blk.val < 16) fun d => d.dllStops blk
  else d0

/-- GATE_TAKES_EFFECT (R49). -/
def execGateTakesEffect (blk : Fin 29) (s : State) : Out := onDev (gateTakesEffect blk) s

/-- The clock of an enabled block runs again (R53). -/
def ungateComplete (blk : Fin 29) (d : Dev) : Dev :=
  if bitAt d.clkGate blk then
    ((d.setBitOf F.GATE_STATE.RUNNING blk true).when (blk.val < 16) fun d => d.dllRuns blk).when
      ((blk.val = 19 || blk.val = 20) && !d.runs blk) fun d => d.convResume (blk - 19)
  else d

/-- UNGATE_COMPLETE (R53). -/
def execUngateComplete (blk : Fin 29) (s : State) : Out := onDev (ungateComplete blk) s

/-- An access to a gated block (R50): a read returns 0, a write is ignored. -/
def gatedBlockAccess (blk : Fin 29) (_write : Bool) (d : Dev) : Dev := if d.runs blk then d else d.gatedHit blk

/-- GATED_BLOCK_ACCESS (R50). -/
def execGatedBlockAccess (blk : Fin 29) (write : Bool) (s : State) : Out := onDev (gatedBlockAccess blk write) s

/-! ## Bridges (R54, R55, R70) -/

/-- Bridge b. -/
def Dev.bridge (d : Dev) (b : Nat) : Bridge := at' d.clk.bridges b {}

/-- Replaces bridge b. -/
def Dev.modBridge (d : Dev) (b : Nat) (f : Bridge → Bridge) : Dev :=
  { d with clk := { d.clk with bridges := upd d.clk.bridges b f } }

/-- A bridge towards a side in reset: what is outstanding completes with an error response, the FIFOs are flushed, every credit is back,
and no link request or acknowledge stands (R54, R55). -/
def Bridge.flush (x : Bridge) : Bridge := { errs := x.errs + x.outstanding }

/-- Each side sends its link request and answers the other's with an acknowledge (R55). -/
def Bridge.relink (x : Bridge) : Bridge := { x with req := 3, ack := 3 }

/-- The bridge carries traffic: both acknowledges have been received (R55, R70). -/
def Dev.bridgeCarries (d : Dev) (b : Nat) : Bool := bitAt (d.get F.BRIDGE_STATUS.LINK_UP) b

/-- A new transaction meets a bridge that carries no traffic: it completes at once with an error response (R54). -/
def Dev.bridgeError (d : Dev) (b : Nat) : Dev := d.modBridge b fun x => { x with errs := x.errs + 1 }

/-- One side of a bridge enters reset (R54). -/
def bridgePeerReset (b : Fin 12) (d : Dev) : Dev :=
  let was := bitAt (d.get F.BRIDGE_STATUS.PEER_RESET) b
  (((d.modBridge b Bridge.flush).setBitOf F.BRIDGE_STATUS.PEER_RESET b true).setBitOf F.BRIDGE_STATUS.LINK_UP b false).raiseIf (!was) 1 7

/-- BRIDGE_PEER_RESET (R54). -/
def execBridgePeerReset (bridge : Fin 12) (s : State) : Out := onDev (bridgePeerReset bridge) s

/-- The re-link handshake of a bridge is complete (R55): both requests and both acknowledges have passed, and traffic resumes. A bridge
that carries traffic has no handshake to complete. -/
def bridgeRelinkDone (b : Fin 12) (d : Dev) : Dev :=
  if d.bridgeCarries b then d
  else ((d.modBridge b Bridge.relink).setBitOf F.BRIDGE_STATUS.PEER_RESET b false).setBitOf F.BRIDGE_STATUS.LINK_UP b true

/-- By the end of boot every bridge whose sides have left reset has its handshake behind it: it takes 32 cycles at most (R55; log 99). -/
def Dev.relinkAll (d : Dev) : Dev :=
  d.each (List.range 12) fun d b => if bitAt (d.get F.BRIDGE_STATUS.PEER_RESET) b then d else bridgeRelinkDone (Fin.ofNat 12 b) d

/-- BRIDGE_RELINK_DONE (R55). -/
def execBridgeRelinkDone (bridge : Fin 12) (s : State) : Out := onDev (bridgeRelinkDone bridge) s

end Sys2Proof.Machine
end

