-- ==== Sys2Proof/Machine/TimeBase.lean ====
section
/-! DEFINITION. The time base (R56–R64, R71–R74). -/

namespace Sys2Proof.Machine

/-- Device time beyond its 48-bit seconds, in 2^-40 ns (R60). -/
def timeLimit : Int := 2 ^ 48 * 1000000000 * one40

/-- The sum of the trim terms leaves 32 bits: TRIM_SAT is set (R56). -/
def Dev.checkTrim (d : Dev) : Dev := if !d.trimSat then d else (d.setB F.TB_STATUS.TRIM_SAT true).raiseIf (!d.flag F.TB_STATUS.TRIM_SAT) 1 4

/-- A refused offset (R60). -/
def Dev.stepRefused (d : Dev) : Dev := (d.setB F.TB_STATUS.STEP_REFUSED true).raise 1 3

/-- Network pacing resumes at the first event after VALID is set (R386). -/
def Dev.resumeSchedule (d : Dev) : Dev := if d.st.ticks && d.timeValid then d.scheduleAfter d.nowNs else d

/-- An offset request in 2^-40 ns, in the order of R60. An offset applied at once leaves a slew in progress and a pending step as they
are; where it is judged, the sum is rounded half up to whole ns and the slew goes on with the exact sum (log 101). -/
def Dev.offset40 (d : Dev) (o : Int) : Dev :=
  let t := (d.tb.t40 : Int) + o
  if t < 0 ∨ timeLimit ≤ t then d.stepRefused
  else if !d.timeValid then ({ d with tb := { d.tb with t40 := t.toNat } }.setB F.TB_STATUS.VALID true).resumeSchedule
  else
    let sum := d.tb.rem + o
    let ns := rhu sum 1099511627776
    if ns.natAbs ≤ 1000 * d.get F.TB_CTRL.STEP_THRESHOLD then { d with tb := { d.tb with rem := sum } }.checkTrim
    else ({ d with tb := { d.tb with rem := 0, step := some ns, accepted := false } }.setB F.TB_STATUS.STEP_PENDING true).stepRefused

/-- TB_NS is read: the seconds are latched (R58). -/
def tbNsRead (d : Dev) : Dev := { d with tb := { d.tb with shadow := d.nowSec, shadowOn := true } }

/-- TB_NS_READ (R58). -/
def execTbNsRead (s : State) : Out := onDev tbNsRead s

/-- A write of TB_ADJ requests TB_ADJ_SEC × 10^9 + TB_ADJ ns (R60, R62). -/
def tbAdjWrite (priv : Bool) (v : Word) (d : Dev) : Dev :=
  d.privWrite priv fun d =>
    let o := d.tb.adjSec * 1000000000 + v.toInt
    { d with tb := { d.tb with adjSec := 0 } }.offset40 (o * one40)

/-- TB_ADJ_WRITE (R60). -/
def execTbAdjWrite (priv : Bool) (v : Word) (s : State) : Out := onDev (tbAdjWrite priv v) s

/-- A write of TB_ADJ_SEC (R62). -/
def tbAdjSecWrite (priv : Bool) (v : Word) (d : Dev) : Dev :=
  d.privWrite priv fun d => { d with tb := { d.tb with adjSec := v.toInt } }

/-- TB_ADJ_SEC_WRITE (R62). -/
def execTbAdjSecWrite (priv : Bool) (v : Word) (s : State) : Out := onDev (tbAdjSecWrite priv v) s

/-- A write of TB_TRIM or time.trim (R56, R73). -/
def tbTrimWrite (via : Via) (v : Word) (d : Dev) : Dev :=
  d.viaWrite via true fun d => ((d.set F.TB_TRIM v.toNat).setB F.TB_STATUS.TRIM_SAT false).checkTrim

/-- TB_TRIM_WRITE (R56). -/
def execTbTrimWrite (via : Via) (v : Word) (s : State) : Out := onDev (tbTrimWrite via v) s

/-- A write of time.set (R62): the offset is taken to 2^-40 ns, so that a step at once makes device time the value written; it is
rounded only where R60 judges it (log 101). -/
def timeSet (role : Role) (sec ns : Nat) (d : Dev) : Dev :=
  d.roleWrite role false fun d =>
    if 2 ^ 48 ≤ sec ∨ 1000000000 ≤ ns then d.answer 4
    else { d with tb := { d.tb with setOnce := true } }.offset40 ((sec * 1000000000 + ns : Nat) * one40 - d.tb.t40)

/-- TIME_SET (R62). -/
def execTimeSet (role : Role) (sec ns : Nat) (s : State) : Out := onDev (timeSet role sec ns) s

/-- The pending step is accepted: applied at once where no ticks occur, otherwise at the next frame tick (R61). -/
def Dev.acceptStep (d : Dev) : Dev :=
  if d.tb.step.isNone then d
  else if d.st.ticks then { d with tb := { d.tb with accepted := true } } else d.applyStep

/-- A write of TB_CTRL.ACCEPT_STEP or time.accept_step (R61). -/
def acceptStep (via : Via) (v : Nat) (d : Dev) : Dev :=
  d.viaWrite via false fun d => if v = 1 then d.acceptStep else if v = 0 then d else d.refuse via 4

/-- ACCEPT_STEP (R61). -/
def execAcceptStep (via : Via) (v : Nat) (s : State) : Out := onDev (acceptStep via v) s

/-- The slew ends, after as many cycles as its remainder takes, and F is formed without its term (R56, R60). A slew that saturation
keeps waiting does not end. -/
def slewComplete (d : Dev) : Dev :=
  if !d.tbCounts then d
  else match d.slewCycles with
    | some n => (d.advance n).checkTrim
    | none => if d.tb.rem = 0 then d.checkTrim else d

/-- SLEW_COMPLETE (R60). -/
def execSlewComplete (s : State) : Out := onDev slewComplete s

/-- The next multiple of 86,400 s of counted device time, 2^-40 ns (R59). -/
def Dev.nextDay (d : Dev) : Nat := (d.tb.days + 1) * 86400 * 1000000000 * 1099511627776

/-- Cycles until the count of R59 reaches its next multiple. -/
def Dev.dayCycles (d : Dev) : Nat := d.cyclesFor (d.nextDay - d.tb.counted : Int)

/-- Where a further 86,400 s of device time have been counted, the ageing term grows by TB_AGEING (R59). -/
def Dev.dayCounted (d : Dev) : Dev :=
  if d.tb.counted < d.nextDay then d
  else { d with tb := { d.tb with days := d.tb.days + 1, ageing := d.tb.ageing + d.getS F.TB_AGEING } }.checkTrim

/-- A further 86,400 s of device time have been counted. -/
def ageingDayElapsed (d : Dev) : Dev := if !d.tbCounts then d else (d.advance d.dayCycles).dayCounted

/-- AGEING_DAY_ELAPSED (R59). -/
def execAgeingDayElapsed (s : State) : Out := onDev ageingDayElapsed s

end Sys2Proof.Machine
end

