-- ==== Sys2Proof/Machine/Adc.lean ====
section
/-! DEFINITION. Commands of the converters and of the acquisition engine (R308–R335). -/

namespace Sys2Proof.Machine

/-! ## User sequences (R312, R313) -/

/-- The fields of a user sequence (R331). -/
structure SeqCfg where
  src : Nat
  count : Nat
  input : Nat
  gain : Nat
  ow : Bool
  delay : Nat

/-- Reads the registers of sequence m of converter n; sources 6 and 7 act as 0 and inputs from 24 as 23 (R331). -/
def Dev.seqCfg (d : Dev) (n m : Nat) : SeqCfg :=
  let mk (src count input gain ow delay : Fld) : SeqCfg :=
    { src := if 6 ≤ d.get src then 0 else d.get src, count := d.get count, input := min 23 (d.get input), gain := d.get gain
      ow := d.flag ow, delay := d.get delay }
  match m with
  | 0 => mk (F.ADC_SEQ0.SRC n) (F.ADC_SEQ0.COUNT n) (F.ADC_SEQ0.INPUT n) (F.ADC_SEQ0.GAIN n) (F.ADC_SEQ0.OW_EN n) (F.ADC_SEQDLY0.DELAY n)
  | 1 => mk (F.ADC_SEQ1.SRC n) (F.ADC_SEQ1.COUNT n) (F.ADC_SEQ1.INPUT n) (F.ADC_SEQ1.GAIN n) (F.ADC_SEQ1.OW_EN n) (F.ADC_SEQDLY1.DELAY n)
  | 2 => mk (F.ADC_SEQ2.SRC n) (F.ADC_SEQ2.COUNT n) (F.ADC_SEQ2.INPUT n) (F.ADC_SEQ2.GAIN n) (F.ADC_SEQ2.OW_EN n) (F.ADC_SEQDLY2.DELAY n)
  | _ => mk (F.ADC_SEQ3.SRC n) (F.ADC_SEQ3.COUNT n) (F.ADC_SEQ3.INPUT n) (F.ADC_SEQ3.GAIN n) (F.ADC_SEQ3.OW_EN n) (F.ADC_SEQDLY3.DELAY n)

/-- User sequences cannot select an input of converter n: AIN0_00 and AIN0_01 belong to the integrator while ADC_MON.EN is 1
(R315; log 77). -/
def Dev.seqBarred (d : Dev) (n input : Nat) : Bool := n = 0 && input < 2 && d.flag F.ADC_MON.EN

/-- A start of a sequence: it waits for its first sampling instant, DELAY ns on, or is dropped while it runs or waits (R312, R313). -/
def Dev.seqStart (d : Dev) (n m : Nat) : Dev :=
  let c := d.seqCfg n m
  let r := d.seqRun n m
  if c.src = 0 || !d.flag (F.ADC_CTRL.EN n) || d.seqBarred n c.input then d
  else if r.running || r.waiting then d.inc (F.ADC_BLOCKED n)
  else d.modConv n fun v => v.modSeq m fun r => { r with
    waiting := true, cont := c.count = 0, left := c.count, input := c.input, gain := c.gain, ow := c.ow, due := d.cyc + c.delay
    owDown := c.ow && r.owDown, vSum := 0, vCnt := 0 }

/-- A start source of R312 acts on every sequence of a converter that names it. -/
def Dev.seqSourceOn (d : Dev) (n src : Nat) : Dev :=
  d.each [0, 1, 2, 3] fun d m => if (d.seqCfg n m).src = src then d.seqStart n m else d

/-- A start source of both converters. -/
def Dev.seqSource (d : Dev) (src : Nat) : Dev := (d.seqSourceOn 0 src).seqSourceOn 1 src

/-- Arms a unit (R327). -/
def Dev.acqArm (d : Dev) (via : Via) (u : Nat) : Dev :=
  let spills := d.flag (F.ACQ_CTRL.SPILL u) && d.get (F.ACQ_PRE u) * srcWords (d.acqSrc u) + 16 ≤ d.acqBuf u
  if (d.unit u).armed then d
  else if !(d.acqNeed u ≤ d.acqBuf u || spills) then (d.setB (F.ACQ_STATUS.ARM_REFUSED u) true).refuse via 4
  else (d.modUnit u fun x => { x.ready with
    fir := d.firTaps u, marks := (d.firTaps u).length - 1, brk := false, armC := d.cyc, pend := [] }).acqShow u

/-! ## Commands of the converters -/

/-- ADC_TIMER expires (R312). -/
def adcTimerExpiry (conv : Fin 2) (d : Dev) : Dev :=
  if d.get (F.ADC_TIMER conv) < 4 || !d.convRuns conv then d else d.seqSourceOn conv 1

/-- ADC_TIMER_EXPIRY (R312). -/
def execAdcTimerExpiry (conv : Fin 2) (s : State) : Out := onDev (adcTimerExpiry conv) s

/-- A write of ADC_SEQm.START (R312, R331). -/
def adcSeqStart (via : Via) (conv : Fin 2) (m : Fin 4) (d : Dev) : Dev :=
  d.viaBlock via true (19 + conv) fun d => d.seqStart conv m

/-- ADC_SEQ_START (R312). -/
def execAdcSeqStart (via : Via) (conv : Fin 2) (m : Fin 4) (s : State) : Out := onDev (adcSeqStart via conv m) s

/-- The first instant at which a sequence that has waited can sample: after its delay, and after the slot that holds the converter. -/
def Dev.seqFrom (d : Dev) (n : Nat) : Nat :=
  let c := d.convN n
  let b := max (instantAt d.cyc) c.t
  if c.slot && c.slotFrom ≤ b && b ≤ c.slotTo then c.slotTo + 4 else b

/-- A lower-numbered sequence waits that could begin at an instant as well: it runs first (R313). -/
def Dev.seqBehind (d : Dev) (n m at_ : Nat) : Bool :=
  (List.range m).any fun k => (d.seqRun n k).waiting && (d.seqRun n k).due ≤ at_

/-- The sequence runs from an instant; the converter that powers up for it delays it by 1,000 ns (R311, R312). -/
def SeqRun.begin (r : SeqRun) (b : Nat) (powered : Bool) : SeqRun :=
  let t := if powered then b else b + 1000
  { r with waiting := false, running := true, first := t, next := t, stop := t + 4 * r.left, fresh := !powered }

/-- A started sequence meets its first sampling instant: it runs, waits or is dropped (R311–R313). -/
def adcSeqBegin (conv : Fin 2) (m : Fin 4) (d : Dev) : Dev :=
  if !(d.seqRun conv m).waiting || !d.convRuns conv then d
  else
    let d1 := (d.cycleTo (instantAt (d.seqRun conv m).due)).convPass conv (instantAt (max d.cyc (d.seqRun conv m).due))
    let c := d1.convN conv
    let b := d1.seqFrom conv
    if c.seqs.any fun q => q.running && q.cont then
      (d1.modConv conv fun c => c.modSeq m fun r => { r with waiting := false }).inc (F.ADC_BLOCKED conv)
    else if c.seqs.any (·.running) || d1.seqBehind conv m b then d1
    else d1.modConv conv fun c => { c.modSeq m fun r => r.begin b c.powered with powered := true }

/-- ADC_SEQ_BEGIN (R313). -/
def execAdcSeqBegin (conv : Fin 2) (m : Fin 4) (s : State) : Out := onDev (adcSeqBegin conv m) s

/-- A slot has or had the converter at an instant, of which the engine has not yet learnt. -/
def Conv.slotAt (c : Conv) (t : Nat) : Bool := (c.slot && c.slotFrom ≤ t && t ≤ c.slotTo) || c.queue.any fun s => s.t = t

/-- The instants from cycle `t` that slots leave to a sequence, out of `k`. -/
def Conv.freeInstants (c : Conv) (t k : Nat) : List Nat := ((List.range k).map fun i => t + 4 * i).filter fun t => !c.slotAt t

/-- The instants of a running sequence for which codes come: all that are left of a counted one, of a continuous one as many as there
are codes (R312, R313). -/
def Conv.seqInstants (c : Conv) (r : SeqRun) (codes : Nat) : List Nat :=
  if r.cont then (c.freeInstants r.next (codes + c.queue.length + (c.slotTo + 4 - c.slotFrom) / 4)).take codes
  else c.freeInstants r.next ((r.stop - r.next) / 4)

/-- Codes for a number of instants; those that are not given are free values (log 4). -/
def Dev.codesFor (d : Dev) : List Nat → Nat → List Nat × Dev
  | _, 0 => ([], d)
  | x :: t, k + 1 => let q := d.codesFor t k; (x :: q.1, q.2)
  | [], k + 1 => let r := d.takeFree 12; let q := Dev.codesFor r.2 [] k; (r.1 :: q.1, q.2)

/-- The samples of a running sequence at its instants (R309, R310, R313). -/
def Conv.seqSamples (c : Conv) (r : SeqRun) (opn : Bool) (times codes : List Nat) : List CSample :=
  (times.zip codes).map fun p =>
    { t := p.1, input := r.input, gain := r.gain, opn := opn, code := p.2
      how := if p.1 = r.first then (if r.fresh then .powerUp else .inTurn) else if c.slotAt (p.1 - 4) then .resumed else .inTurn }

/-- The codes of a running sequence are known (R308–R314): all of a counted one, which ends with them; those up to now of a continuous
one, which ends when its source is 0. Slots take their instants from it, and it does not extend its end (R313). -/
def adcSeqEnd (conv : Fin 2) (m : Fin 4) (samples : List (List Word)) (d : Dev) : Dev :=
  let r := d.seqRun conv m
  if !r.running || !d.convRuns conv then d
  else
    let c := d.convN conv
    let given := samples.flatten.map (·.toNat % 4096)
    let times := c.seqInstants r given.length
    let q := d.codesFor given times.length
    let l := c.seqSamples r (bitAt (d.get (F.ADC_STATUS.OPEN conv)) r.input) times q.1
    let valid := validCodes (c.words l)
    let ends := !r.cont || (d.seqCfg conv m).src = 0
    let next := if r.cont then (times.getLast?.map (· + 4)).getD r.next else r.stop
    let d1 := q.2.cycleTo (next - 4)
    let r1 := { r with next := next, vSum := r.vSum + valid.sum, vCnt := r.vCnt + valid.length }
    let d2 := d1.modConv conv fun c => { c.modSeq m fun _ =>
        if ends then { r1 with running := false, owDown := r.ow && !r.owDown } else r1 with
      queue := l.foldl (fun q s => queueIn s q) c.queue }
    let d3 := if ends && r.ow then d2.openJudge conv r.input r.owDown r1.vSum r1.vCnt else d2
    ((if ends then d3.convRest conv else d3).convPass conv (max (instantAt d3.cyc) next))

/-- ADC_SEQ_END (R312). -/
def execAdcSeqEnd (conv : Fin 2) (m : Fin 4) (samples : List (List Word)) (s : State) : Out := onDev (adcSeqEnd conv m samples) s

/-! ## Commands of the acquisition engine -/

/-- A write that arms a unit (R327). -/
def acqArm (via : Via) (u : Fin 4) (d : Dev) : Dev := d.viaBlock via false 21 fun d => d.acqArm via u

/-- ACQ_ARM (R332). -/
def execAcqArm (via : Via) (unit : Fin 4) (s : State) : Out := onDev (acqArm via unit) s

/-- The instants of a unit's converter source that have passed reach the engine as far as they are known. -/
def Dev.acqCatch (d : Dev) (u : Nat) : Dev := if d.acqSrc u < 2 then d.convPass (d.acqSrc u) (instantAt d.cyc) else d

/-- A unit is disarmed: a record being captured closes at once (R328). -/
def Dev.acqStop (d : Dev) (u : Nat) : Dev :=
  let x := d.unit u
  let d1 := if x.capturing then (d.acqClose u d.nowNs).modUnit u fun x => { x with rflags := setBit x.rflags 2 true } else d
  let d2 := if x.capturing || x.closed then d1.acqComplete u 0 else d1
  (d2.modUnit u fun x => { x with armed := false, capturing := false, closed := false }).acqShow u

/-- A write that disarms a unit (R328). -/
def acqDisarm (via : Via) (u : Fin 4) (d : Dev) : Dev :=
  d.viaBlock via false 21 fun d => let d1 := d.acqCatch u; if (d1.unit u).armed then d1.acqStop u else d1

/-- ACQ_DISARM (R328). -/
def execAcqDisarm (via : Via) (unit : Fin 4) (s : State) : Out := onDev (acqDisarm via unit) s

/-- Triggers that are no samples come to a unit: they wait for its first sampling instant, which a converter source has at once; there
they meet it, unless the converter's earlier codes are still to come (R321). -/
def Dev.acqEvent (d : Dev) (u bitsMet : Nat) : Dev :=
  let d1 := d.acqPend u d.cyc bitsMet
  if (d1.unit u).pend = [] || 2 ≤ d.acqSrc u then d1
  else let t := instantAt d.cyc; (d1.cycleTo t).convPass (d.acqSrc u) (t + 4)

/-- A write of FORCE: trigger bit 16 (R321). -/
def acqForce (via : Via) (u : Fin 4) (d : Dev) : Dev := d.viaBlock via false 21 fun d => d.acqEvent u (2 ^ 16)

/-- ACQ_FORCE (R321). -/
def execAcqForce (via : Via) (unit : Fin 4) (s : State) : Out := onDev (acqForce via unit) s

/-- Triggers meet a unit at a sampling instant (R321). -/
def acqTrigger (u : Fin 4) (bitsMet : Nat) (d : Dev) : Dev := if d.acqRuns then d.acqEvent u bitsMet else d

/-- ACQ_TRIGGER (R321). -/
def execAcqTrigger (unit : Fin 4) (bits : Nat) (s : State) : Out := onDev (acqTrigger unit bits) s

/-- Time passes until a converter source has had `k` more instants, and they reach the engine (R308). -/
def Dev.acqRun (d : Dev) (u k : Nat) : Dev :=
  if d.acqSrc u < 2 then
    let t := (d.convN (d.acqSrc u)).t + 4 * k
    (d.cycleTo t).convPass (d.acqSrc u) t
  else d

/-- The post-trigger window ends and the record closes (R322), once the window's instants have passed; those of an idle converter pass
here. -/
def acqPostWindowEnd (u : Fin 4) (d : Dev) : Dev :=
  let x := d.unit u
  if x.armed && x.capturing && d.acqRuns then
    let d1 := d.acqRun u x.postLeft
    if (d1.unit u).capturing && (d1.unit u).postLeft = 0 then d1.acqClose u d1.nowNs else d1
  else d

/-- ACQ_POST_WINDOW_END (R322). -/
def execAcqPostWindowEnd (unit : Fin 4) (s : State) : Out := onDev (acqPostWindowEnd unit) s

/-- The device time at which a closed unit's time hold-off ends, when it has one ahead (R323). -/
def Dev.acqHoldEnd (d : Dev) (u : Nat) : Nat :=
  if d.flag (F.ACQ_CTRL.HOLD_MODE u) then 0 else (d.unit u).trigT + d.get (F.ACQ_HOLD u)

/-- A unit re-arms after its record, or becomes idle in single mode; the record is complete (R323). The instants after the close and
the time hold-off pass here; triggers that it waits for do not. -/
def acqRearm (u : Fin 4) (d : Dev) : Dev :=
  let x := d.unit u
  if !x.armed || !x.closed || !d.acqRuns then d
  else
    let d1 := d.acqRun u (d.get (F.ACQ_PRE u) - x.after)
    let d2 := (d1.advance (d1.cyclesFor ((d1.acqHoldEnd u : Int) * one40 - d1.tb.t40))).acqCatch u
    if (d2.unit u).closed then d2.acqSettle u d2.nowNs else d2

/-- ACQ_REARM (R323). -/
def execAcqRearm (unit : Fin 4) (s : State) : Out := onDev (acqRearm unit) s

/-- Entries of a unit in a burst of 64 bytes (R325). -/
def Dev.burst (d : Dev) (u : Nat) : Nat := 16 / srcWords (d.acqSrc u)

/-- The engine serves a unit `k` bursts; when space frees, a pending gap is stored as one gap word (R325). -/
def Dev.acqServe (d : Dev) (u k : Nat) : Dev :=
  let x := d.unit u
  if k = 0 || x.fifo = 0 then d
  else
    let d1 := d.modUnit u fun x => { x with fifo := x.fifo - k * d.burst u }
    if x.gap = 0 then d1 else (d1.modUnit u fun x => { x with fifo := x.fifo + 1 }).acqGap u

/-- Space frees in a unit's FIFO: the engine serves the units round robin in bursts until `n` entries of it have gone (R325). -/
def acqFifoDrain (u : Fin 4) (n : Nat) (d : Dev) : Dev :=
  let x := d.unit u
  if n = 0 || x.fifo = 0 || !d.acqRuns then d
  else
    let rounds := cdiv (min n x.fifo) (d.burst u)
    let first := d.acq.turn
    let before (v : Nat) : Bool := (v + 4 - first) % 4 ≤ (u.val + 4 - first) % 4
    let d1 := d.each [0, 1, 2, 3] fun d v => d.acqServe v (if before v then rounds else rounds - 1)
    { d1 with acq := { d1.acq with turn := (u + 1) % 4 } }

/-- ACQ_FIFO_DRAIN (R325). -/
def execAcqFifoDrain (unit : Fin 4) (n : Nat) (s : State) : Out := onDev (acqFifoDrain unit n) s

end Sys2Proof.Machine
end

