-- ==== Sys2Proof/Machine/Crypto.lean ====
section
/-! DEFINITION. SHA-256, HMAC-SHA-256 and ECDSA P-256 verification (R453, R454, R499). The algorithms and their constants are
those of the published standards that the scope chapter names; PRESUMED, log 5. -/

namespace Sys2Proof.Machine

/-- A value reduced to 32 bits. -/
def w32 (n : Nat) : Nat := n % 4294967296

/-- Rotation of a 32-bit value to the right. -/
def ror32 (x r : Nat) : Nat := Nat.lor (x / 2 ^ r) (w32 (x * 2 ^ (32 - r)))

/-- Round constants of SHA-256. -/
def sha256K : List Nat :=
  [0x428A2F98, 0x71374491, 0xB5C0FBCF, 0xE9B5DBA5, 0x3956C25B, 0x59F111F1, 0x923F82A4, 0xAB1C5ED5,
   0xD807AA98, 0x12835B01, 0x243185BE, 0x550C7DC3, 0x72BE5D74, 0x80DEB1FE, 0x9BDC06A7, 0xC19BF174,
   0xE49B69C1, 0xEFBE4786, 0x0FC19DC6, 0x240CA1CC, 0x2DE92C6F, 0x4A7484AA, 0x5CB0A9DC, 0x76F988DA,
   0x983E5152, 0xA831C66D, 0xB00327C8, 0xBF597FC7, 0xC6E00BF3, 0xD5A79147, 0x06CA6351, 0x14292967,
   0x27B70A85, 0x2E1B2138, 0x4D2C6DFC, 0x53380D13, 0x650A7354, 0x766A0ABB, 0x81C2C92E, 0x92722C85,
   0xA2BFE8A1, 0xA81A664B, 0xC24B8B70, 0xC76C51A3, 0xD192E819, 0xD6990624, 0xF40E3585, 0x106AA070,
   0x19A4C116, 0x1E376C08, 0x2748774C, 0x34B0BCB5, 0x391C0CB3, 0x4ED8AA4A, 0x5B9CCA4F, 0x682E6FF3,
   0x748F82EE, 0x78A5636F, 0x84C87814, 0x8CC70208, 0x90BEFFFA, 0xA4506CEB, 0xBEF9A3F7, 0xC67178F2]

/-- Initial hash value of SHA-256. -/
def sha256H : List Nat :=
  [0x6A09E667, 0xBB67AE85, 0x3C6EF372, 0xA54FF53A, 0x510E527F, 0x9B05688C, 0x1F83D9AB, 0x5BE0CD19]

/-- Extends the message schedule by `n` words; the words so far stand newest first. -/
def shaSched : Nat → List Nat → List Nat
  | 0, ws => ws
  | n + 1, ws =>
    let w15 := at' ws 14 0
    let w2 := at' ws 1 0
    let s0 := Nat.xor (Nat.xor (ror32 w15 7) (ror32 w15 18)) (w15 / 8)
    let s1 := Nat.xor (Nat.xor (ror32 w2 17) (ror32 w2 19)) (w2 / 1024)
    shaSched n (w32 (at' ws 15 0 + s0 + at' ws 6 0 + s1) :: ws)

/-- The eight working variables of a round. -/
structure ShaVars where
  a : Nat
  b : Nat
  c : Nat
  d : Nat
  e : Nat
  f : Nat
  g : Nat
  h : Nat
  deriving DecidableEq, Repr

/-- One round, with its constant and schedule word. -/
def shaRound (v : ShaVars) (kw : Nat × Nat) : ShaVars :=
  let s1 := Nat.xor (Nat.xor (ror32 v.e 6) (ror32 v.e 11)) (ror32 v.e 25)
  let chv := Nat.xor (Nat.land v.e v.f) (Nat.land (0xFFFFFFFF - v.e) v.g)
  let t1 := v.h + s1 + chv + kw.1 + kw.2
  let s0 := Nat.xor (Nat.xor (ror32 v.a 2) (ror32 v.a 13)) (ror32 v.a 22)
  let maj := Nat.xor (Nat.xor (Nat.land v.a v.b) (Nat.land v.a v.c)) (Nat.land v.b v.c)
  ⟨w32 (t1 + s0 + maj), v.a, v.b, v.c, w32 (v.d + t1), v.e, v.f, v.g⟩

/-- Compresses one 64-byte block. -/
def shaBlock (h : List Nat) (blk : Bytes) : List Nat :=
  let w16 := (List.range 16).map fun i => rd 4 blk (4 * i)
  let ws := (shaSched 48 w16.reverse).reverse
  let v0 : ShaVars := ⟨at' h 0 0, at' h 1 0, at' h 2 0, at' h 3 0, at' h 4 0, at' h 5 0, at' h 6 0, at' h 7 0⟩
  let v := (sha256K.zip ws).foldl shaRound v0
  [w32 (v0.a + v.a), w32 (v0.b + v.b), w32 (v0.c + v.c), w32 (v0.d + v.d), w32 (v0.e + v.e), w32 (v0.f + v.f),
    w32 (v0.g + v.g), w32 (v0.h + v.h)]

/-- Compresses `n` blocks in turn. -/
def shaBlocks : Nat → List Nat → Bytes → List Nat
  | 0, h, _ => h
  | n + 1, h, bs => shaBlocks n (shaBlock h (bs.take 64)) (bs.drop 64)

/-- SHA-256. -/
def sha256 (m : Bytes) : Bytes :=
  let p := m ++ [0x80#8] ++ zeros ((119 - m.length % 64) % 64) ++ be 8 (8 * m.length)
  (shaBlocks (p.length / 64) sha256H p).flatMap (be 4)

/-- HMAC-SHA-256 with a key of at most 64 bytes. -/
def hmac (key msg : Bytes) : Bytes :=
  let k := key ++ zeros (64 - key.length)
  sha256 (k.map (· ^^^ 0x5C#8) ++ sha256 (k.map (· ^^^ 0x36#8) ++ msg))

/-- Field prime of P-256. -/
def p256P : Nat := 0xFFFFFFFF00000001000000000000000000000000FFFFFFFFFFFFFFFFFFFFFFFF

/-- Order of the base point of P-256. -/
def p256N : Nat := 0xFFFFFFFF00000000FFFFFFFFFFFFFFFFBCE6FAADA7179E84F3B9CAC2FC632551

/-- Coefficient b of P-256. -/
def p256B : Nat := 0x5AC635D8AA3A93E7B3EBBD55769886BC651D06B0CC53B0F63BCE3C3E27D2604B

/-- Base point of P-256. -/
def p256G : Nat × Nat := (0x6B17D1F2E12C4247F8BCE6E563A440F277037D812DEB33A0F4A13945D898C296, 0x4FE342E2FE1A7F9B8EE7EB4A7C0F9E162BCE33576B315ECECBB6406837BF51F5)

/-- Power modulo m, over the lowest `n` bits of the exponent. -/
def powMod (m : Nat) : Nat → Nat → Nat → Nat → Nat
  | 0, _, _, acc => acc
  | n + 1, b, e, acc => powMod m n (b * b % m) (e / 2) (if e % 2 = 1 then acc * b % m else acc)

/-- Inverse modulo a prime. -/
def invMod (m a : Nat) : Nat := powMod m 256 (a % m) (m - 2) 1

/-- Difference modulo p. -/
def subP (a b : Nat) : Nat := (a + p256P - b % p256P) % p256P

/-- Sum of two points of the curve; none is the point at infinity. -/
def ecAdd : Option (Nat × Nat) → Option (Nat × Nat) → Option (Nat × Nat)
  | none, q => q
  | p, none => p
  | some (x1, y1), some (x2, y2) =>
    if x1 = x2 ∧ (y1 + y2) % p256P = 0 then none else
      let l := if x1 = x2 then (3 * x1 * x1 + p256P - 3) * invMod p256P (2 * y1) % p256P
        else subP y2 y1 * invMod p256P (subP x2 x1) % p256P
      let x3 := subP (l * l) (x1 + x2)
      some (x3, subP (l * subP x1 x3) y1)

/-- Multiple of a point by the lowest `n` bits of a factor. -/
def ecMul : Nat → Nat → Option (Nat × Nat) → Option (Nat × Nat) → Option (Nat × Nat)
  | 0, _, _, acc => acc
  | n + 1, k, q, acc => ecMul n (k / 2) (ecAdd q q) (if k % 2 = 1 then ecAdd acc q else acc)

/-- Verification of an ECDSA P-256 signature (r, s) over a digest, with public key (x, y). -/
def ecdsaOk (digest : Bytes) (x y r s : Nat) : Bool :=
  if r = 0 ∨ r ≥ p256N ∨ s = 0 ∨ s ≥ p256N ∨ x ≥ p256P ∨ y ≥ p256P then false
  else if y * y % p256P ≠ (x * x * x + (p256P - 3) * x + p256B) % p256P then false
  else
    let w := invMod p256N s
    let u1 := ofBe digest * w % p256N
    let u2 := r * w % p256N
    match ecAdd (ecMul 256 u1 (some p256G) none) (ecMul 256 u2 (some (x, y)) none) with
    | none => false
    | some (px, _) => px % p256N = r

end Sys2Proof.Machine
end

