-- ==== Sys2Proof/Machine/Rx.lean ====
section
/-! DEFINITION. Reception of Ethernet frames: the port, the VLAN ID and the redundancy layer (R377–R380). -/

namespace Sys2Proof.Machine

/-- An Ethernet port works: its link is up, its block runs, and the lanes have their clock (R47, R50, R376). -/
def Dev.ethRuns (d : Dev) (p : Nat) : Bool := d.flag (F.ETH_STATUS.LINK p) && d.rootRuns && d.runs (25 + p)

/-- A VLAN ID is accepted (R378). -/
def Dev.vidOk (d : Dev) (vid : Nat) : Bool :=
  if vid = 0 then d.flag F.NET_VLAN.ACCEPT_UNTAGGED
  else vid = d.get F.NET_VLAN.VID || vid = d.get (F.OUT_SVLAN.VID 0) || vid = d.get (F.OUT_SVLAN.VID 1)

/-- The first `n` sources of a duplicate table, most recent first. -/
def capSources (n : Nat) (l : List Dup) : List Dup :=
  let macs := (l.map (·.mac)).eraseDups.take n
  l.filter fun x => macs.contains x.mac

/-- The other LAN's copy of a frame arrived within 400 ms before (R379). -/
def Dev.isDup (d : Dev) (p mac seq : Nat) : Bool :=
  d.net.dups.any fun x => x.mac = mac && x.seq = seq && x.port ≠ p && d.up ≤ x.time + 400000000

/-- The duplicate table after the first copy of a sequence number (R379). -/
def Dev.noteFirst (d : Dev) (p mac seq : Nat) : Dev :=
  let fresh := d.net.dups.filter fun x => d.up ≤ x.time + 400000000
  { d with net := { d.net with dups := capSources 256 ({ mac := mac, seq := seq, port := p, time := d.up } :: fresh) } }

/-- A frame with a trailer has been received on a port (R379, R380). -/
def Dev.noteTrailer (d : Dev) (p lan : Nat) : Dev :=
  let d1 := (d.modPort p fun pt => { pt with lastTrailer := some d.up }).setB (F.ETH_STATUS.LAN_MISSING p) false
  if lan ≠ 0xA + p then d1.inc F.PRP_WRONG_LAN else d1

/-- A received frame meets the redundancy layer; `k` is its handling when it is accepted. A safe telegram bypasses the duplicate
discard (R379, R380). -/
def Dev.redundancy (d : Dev) (f : RxFrame) (telegram : Bool) (k : Dev → Dev) : Dev :=
  match f.trailer with
  | none => k d
  | some (seq, lan) =>
    if !d.prpOn then k d
    else
      let d1 := d.noteTrailer f.port lan
      if telegram || lan ≠ 0xA + f.port.val then k d1
      else if d1.isDup f.port f.mac seq then d1.inc F.PRP_DUP
      else k (d1.noteFirst f.port f.mac seq)

/-- A frame arrives: by its VLAN ID it is accepted or discarded, then the redundancy layer takes it. -/
def Dev.rxAny (d : Dev) (f : RxFrame) (telegram : Bool) (k : Dev → Dev) : Dev :=
  let d1 := d.advanceTo f.t
  if !d1.ethRuns f.port then d1
  else if !d1.vidOk f.vid then d1.inc (F.ETH_RX_DISCARD f.port)
  else d1.redundancy f telegram k

/-- A frame other than a safe telegram arrives. -/
def Dev.rxFrame (d : Dev) (f : RxFrame) (k : Dev → Dev) : Dev := d.rxAny f false k

end Sys2Proof.Machine
end

