-- ==== Sys2Proof/Machine/Frames.lean ====
section
/-! DEFINITION. Flefen frames: their layout, the paths they take, sessions and repeated requests (R445, R446, R448, R449, R451,
R454, R455). -/

namespace Sys2Proof.Machine

/-! ## Layout (R448) -/

/-- A frame header. -/
def flefenHeader (op session tag seq status flags len : Nat) : Bytes :=
  be 2 0x464C ++ be 1 1 ++ be 1 op ++ be 2 session ++ be 2 tag ++ be 4 seq ++ be 1 status ++ be 1 flags ++ be 2 len

/-- The frame of a request with its header, opcode and body. -/
def reqFrame (h : ReqHdr) (op : Nat) (body : Bytes) : Bytes :=
  flefenHeader op h.session h.tag h.seq 0 (if h.last then 2 else 0) body.length ++ body ++ h.mac

/-- Body of a frame. -/
def frameBody (f : Bytes) : Bytes := (f.drop 16).take (rd 2 f 14)

/-- MAC that follows the body. -/
def frameMac (f : Bytes) : Bytes := f.drop (16 + rd 2 f 14)

/-- MAC of a frame under a session key: the first 16 bytes of HMAC(K_s, header ‖ body) (R454). -/
def frameTag (key f : Bytes) : Bytes := (hmac key (f.take (16 + rd 2 f 14))).take 16

/-- A well-formed request: magic, version, no status, no RESPONSE flag, a body of at most 1,200 bytes, then nothing or a MAC;
with SESSION 0 neither a MAC nor a SEQ (R445, R448). -/
def flefenOk (f : Bytes) : Bool :=
  16 ≤ f.length && rd 2 f 0 = 0x464C && rd 1 f 2 = 1 && rd 1 f 12 = 0 && !bitAt (rd 1 f 13) 0 && rd 2 f 14 ≤ 1200 &&
    (f.length = 16 + rd 2 f 14 || f.length = 32 + rd 2 f 14) &&
    (rd 2 f 4 ≠ 0 || (f.length = 16 + rd 2 f 14 && rd 4 f 8 = 0))

/-! ## Paths (R375, R445, R446) -/

/-- A request as it arrived: its path, source and Ethernet port, and its bytes. -/
structure Req where
  path : Carrier
  src : Nat
  port : Nat
  frame : Bytes

/-- Number that stands for the source of a request: address and port over UDP, and one number for each other path. -/
def Req.source (q : Req) : Nat :=
  match q.path with
  | .udp => q.src
  | .spi => 2 ^ 48
  | .bx => 2 ^ 48 + 1

/-- A frame joins the host SPI outbox while it has room for 8 (R446). -/
def Dev.outboxPut (d : Dev) (f : Bytes) : Dev :=
  if d.flf.outbox.length < 8 then { d with flf := { d.flf with outbox := d.flf.outbox ++ [f] } } else d

/-- Sends an answer on the path of its request: from flefen.udp_port to the source, into the host SPI outbox while it has room, or
to the lead of the string. -/
def Dev.reply (d : Dev) (q : Req) (f : Bytes) : Dev :=
  let d1 := { d with flf := { d.flf with answer := f } }
  match q.path with
  | .udp => d1.sendPair q.port 5
      { dst := q.src / 65536, ports := d.get F.P.udpPort * 65536 + q.src % 65536, what := "flefen", tag := d.mgmtTag, data := f }
  | .spi => d1.outboxPut f
  | .bx => d1.bxSend 1 { kind := 0, src := d.get F.BX_STRING.POSITION, dst := 0, data := f } false

/-- Keeps the answers to the last 16 requests of a source (R451). -/
def keep16 (k : Kept) (l : List Kept) : List Kept :=
  let own := (l.filter fun x => x.src = k.src).take 15
  k :: (own ++ l.filter fun x => x.src ≠ k.src)

/-- Answers a request and keeps the answer: RESPONSE, the request's SESSION, TAG and SEQ, the status code, and the MAC of the
session (R448, R451, R454). -/
def Dev.respond (d : Dev) (q : Req) (key : Option Bytes) (status : Nat) (body : Bytes) (last : Bool) : Dev :=
  let f := q.frame
  let r := flefenHeader (rd 1 f 3) (rd 2 f 4) (rd 2 f 6) (rd 4 f 8) status (if last then 3 else 1) body.length ++ body
  let r1 := match key with
    | some k => r ++ (hmac k r).take 16
    | none => r
  { d with flf := { d.flf with kept := keep16 { src := q.source, req := f, t := d.up, resp := r1 } d.flf.kept } }.reply q r1

/-! ## Sessions (R451, R454, R455) -/

/-- An open session. -/
def Dev.session (d : Dev) (id : Nat) : Option Session := d.flf.sessions.find? fun s => s.opened && s.id = id

/-- Replaces the session of the same number. -/
def Dev.setSession (d : Dev) (s : Session) : Dev :=
  { d with flf := { d.flf with sessions := d.flf.sessions.map fun x => if x.id = s.id then s else x } }

/-- A session ends, and its transfer closes with it. -/
def Dev.endSession (d : Dev) (id : Nat) : Dev :=
  { d with flf := { d.flf with
      sessions := d.flf.sessions.filter (·.id ≠ id), transfers := d.flf.transfers.filter (·.owner ≠ id) } }

/-- A frame is discarded and counted in session.rejected (R454). -/
def Dev.rejectFrame (d : Dev) : Dev := { d with flf := { d.flf with rejected := (d.flf.rejected + 1) % 2 ^ 32 } }

/-- The kept answer to a request that repeats one exactly: with SESSION 0 within 1 s, in a session while its SEQ is the last
accepted (R451). -/
def Dev.keptAnswer (d : Dev) (q : Req) : Option Bytes :=
  let id := rd 2 q.frame 4
  let live (k : Kept) : Bool :=
    if id = 0 then d.up ≤ k.t + 1000000000
    else match d.session id with
      | some s => s.seq = rd 4 q.frame 8
      | none => false
  (d.flf.kept.find? fun k => k.src = q.source && k.req = q.frame && live k).map (·.resp)

/-- Who asks: the role, and the number that owns its transfer (R452, R463). -/
structure Asker where
  role : Nat
  owner : Nat

/-- Carries out a request and answers it with the status code it leaves, a body and LAST_SEGMENT; a request that resets the device
has no answer. -/
def Dev.carryOut (d : Dev) (q : Req) (key : Option Bytes) (a : Asker) (act : Asker → Dev → Dev × Bytes × Bool) : Dev :=
  let r := act a d
  if r.1.diagnostic then r.1.respond q key r.1.flf.status r.2.1 r.2.2 else r.1

/-- A request meets the session rules, and is carried out when they accept it (R445, R451, R452, R454). -/
def Dev.request (d : Dev) (q : Req) (act : Asker → Dev → Dev × Bytes × Bool) : Dev :=
  let f := q.frame
  if !d.diagnostic || !flefenOk f then d
  else match d.keptAnswer q with
    | some r => d.reply q r
    | none =>
      if rd 2 f 4 = 0 then d.carryOut q none { role := 0, owner := 65536 + q.source } act
      else match d.session (rd 2 f 4) with
        | none => d.rejectFrame
        | some s =>
          if frameMac f ≠ frameTag s.key f || rd 4 f 8 ≤ s.seq then d.rejectFrame
          else (d.setSession { s with seq := rd 4 f 8, t := d.up }).carryOut q (some s.key) { role := s.role, owner := s.id } act

/-! ## Frames that no opcode spells (R449) -/

/-- Bytes of a value by type code (R449); a STRING has its own. -/
def tySize (ty : Nat) : Nat :=
  match ty with
  | 1 | 2 => 1
  | 3 | 6 => 2
  | 4 | 7 | 8 => 4
  | 5 => 8
  | 9 => 10
  | _ => 0

/-- Bytes of `n` writes of a WRITE_GROUP body, when it holds them whole. -/
def groupLen : Nat → Bytes → Option Nat
  | 0, _ => some 0
  | n + 1, b =>
    let k := 4 + tySize (rd 1 b 3)
    if b.length < k then none else (groupLen n (b.drop k)).map (k + ·)

/-- Status code of a request that spells no command: 0x01 for an unknown opcode, 0x03 for a body that its opcode does not have, and 0
for one that spells a command (R449). -/
def spelled (op : Nat) (b : Bytes) : Nat :=
  let len (ok : Bool) : Nat := if ok then 0 else 3
  match op with
  | 0x01 => len (b.length = 4)
  | 0x02 => len (4 ≤ b.length)
  | 0x03 => len (4 ≤ b.length && groupLen (rd 1 b 0) (b.drop 4) = some (b.length - 4))
  | 0x10 => len (b.length = 12 || (b.length = 8 && rd 1 b 3 ≠ 1))
  | 0x11 => len (4 ≤ b.length)
  | 0x12 => len (b.length = 4)
  | 0x20 => len (b.length = 20)
  | 0x21 => len (b.length = 32)
  | 0x22 => len (b.length = 0)
  | 0x30 => len (b.length = 8)
  | 0x31 => len (b.length = 12)
  | _ => 1

/-- A frame arrives that waits for its command; one that is not well formed is discarded, and one that spells no command is
answered at once. -/
def Dev.arrive (d : Dev) (q : Req) (wait : Dev → Dev) : Dev :=
  let c := spelled (rd 1 q.frame 3) (frameBody q.frame)
  if !flefenOk q.frame then d
  else if c ≠ 0 then d.request q fun _ d => (d.answer c, [], false)
  else wait d

end Sys2Proof.Machine
end

