-- ==== Sys2Proof/Machine/Net.lean ====
section
/-! DEFINITION. The Ethernet side and network time: reception, address resolution, launch, links, redundancy, PTP, the time
servo and the pulse per second (R376–R390). Layouts of ARP, ICMP, PTP and PRP supervision frames are those of the standards the
spec names; PRESUMED, log 40. -/

namespace Sys2Proof.Machine

/-! ## Addresses (R377, R378) -/

/-- MAC address of a port: the device's, or the next one on port B of an independent pair. -/
def Dev.mac (d : Dev) (p : Nat) : Nat :=
  (d.get F.NET_MAC_HI * 2 ^ 32 + d.get F.NET_MAC_LO + (if d.prpOn then 0 else p)) % 2 ^ 48

/-- The broadcast MAC address. -/
def macBroadcast : Nat := 0xFFFFFFFFFFFF

/-- The hop that a unicast address is reached through: itself within the subnet, otherwise the gateway. -/
def Dev.hop (d : Dev) (ip : Nat) : Nat :=
  let m := d.get F.NET_MASK
  if Nat.land ip m = Nat.land (d.get F.NET_IP) m then ip else d.get F.NET_GW

/-- The address is a multicast address. -/
def isMulticast (ip : Nat) : Bool := ip / 2 ^ 28 = 14

/-- The MAC address for an IPv4 destination, when it is resolved. -/
def Dev.resolve (d : Dev) (ip : Nat) : Option Nat :=
  if isMulticast ip then some (0x01005E000000 + ip % 2 ^ 23)
  else if ip = 0xFFFFFFFF then some macBroadcast
  else (d.net.arp.find? fun a => a.ip = d.hop ip).map (·.mac)

/-- An ARP packet. -/
def Dev.arpPacket (d : Dev) (p op targetMac targetIp : Nat) : Bytes :=
  be 2 1 ++ be 2 0x0800 ++ be 1 6 ++ be 1 4 ++ be 2 op ++ be 6 (d.mac p) ++ be 4 (d.get F.NET_IP) ++ be 6 targetMac ++ be 4 targetIp

/-- Sends an ARP request. -/
def Dev.arpAsk (d : Dev) (p ip : Nat) : Dev :=
  d.sendPair p 5 { mac := some macBroadcast, what := "arp", tag := d.mgmtTag, data := d.arpPacket p 1 0 ip }

/-- A datagram to an unresolved destination is discarded; the first one asks for the address (R378). -/
def Dev.arpMiss (d : Dev) (p ip : Nat) : Dev :=
  let h := d.hop ip
  let d1 := d.inc (F.ETH_ARP_MISS p)
  if d1.net.arpWait.any fun (w : Nat × Nat × Nat) => w.1 = h then d1
  else { d1 with net := { d1.net with arpWait := d1.net.arpWait ++ [(h, p, d1.up)] } }.arpAsk p h

/-! ## Device time at the pins (R382) -/

/-- Device time in 1/16 ns. -/
def Dev.stamp16 (d : Dev) : Int := (d.tb.t40 / 2 ^ 36 : Nat)

/-- Stamp of an event message received on a port. -/
def Dev.rxStamp (d : Dev) (p : Nat) : Int := d.stamp16 - d.getS (F.ETH_LAT.INGRESS p)

/-- Stamp of an event message sent on a port. -/
def Dev.txStamp (d : Dev) (p : Nat) : Int := d.stamp16 + d.getS (F.ETH_LAT.EGRESS p)

/-- Whole ns of a stamp. -/
def stampNs (s : Int) : Nat := (fdiv s 16).toNat

/-- The rest of a stamp below 1 ns, in 2^-16 ns. -/
def stampFrac (s : Int) : Int := (s - 16 * fdiv s 16) * 4096

/-! ## PTP messages sent (R381, R382) -/

/-- Identity of the device's PTP port on an Ethernet port. -/
def Dev.ptpIdent (d : Dev) (p : Nat) : Nat :=
  let m := d.mac 0
  (m / 2 ^ 24 * 2 ^ 40 + 0xFFFE * 2 ^ 24 + m % 2 ^ 24) * 65536 + (p + 1)

/-- The IEEE 802.1AS profile is selected. -/
def Dev.as (d : Dev) : Bool := d.get F.PTP_CTRL.PROFILE = 1

/-- A PTP message by type: flags, correction, sequence number, control, log interval, body. -/
def Dev.ptpBytes (d : Dev) (p type flags : Nat) (corr : Int) (seq control logInt : Nat) (body : Bytes) : Bytes :=
  be 1 (type + (if d.as then 16 else 0)) ++ be 1 0x12 ++ be 2 (34 + body.length) ++ be 1 (d.get F.PTP_CTRL.DOMAIN) ++ zeros 1 ++
    be 2 flags ++ be 8 (uns 64 corr) ++ zeros 4 ++ be 10 (d.ptpIdent p) ++ be 2 seq ++ be 1 control ++ be 1 logInt ++ body

/-- A PTP message enters Q0 of one port, without a redundancy trailer (R379, R388). -/
def Dev.sendPtp (d : Dev) (p type flags : Nat) (corr : Int) (seq control logInt : Nat) (body : Bytes) : Dev :=
  let data := d.ptpBytes p type flags corr seq control logInt body
  let port := if type < 8 then 319 else 320
  d.sendFrame p 0 (if d.as then { mac := some 0x0180C200000E, what := "ptp", data := data }
    else { dst := 0xE0000181, ports := port * 65536 + port, what := "ptp", tag := d.mgmtTag, data := data })

/-- What the departure of a PTP message leads to: the Follow_Up with its stamp, or the stamp of a delay request (R382). -/
def Dev.ptpDeparted (d : Dev) (p : Nat) (data : Bytes) : Dev :=
  let s := d.txStamp p
  let seq := rd 2 data 30
  match rd 1 data 0 % 16 with
  | 0 => d.sendPtp p 8 0 (stampFrac s) seq 2 (d.get F.PTP_INTERVAL.SYNC) (time80 (stampNs s))
  | 1 => d.modPort p fun pt => { pt with reqT1 := if pt.reqSeq = seq then some s else pt.reqT1 }
  | 2 => d.modPort p fun pt => { pt with reqT1 := if pt.reqSeq = seq then some s else pt.reqT1 }
  | 3 => d.sendPtp p 10 0 (stampFrac s) seq 5 0x7F (time80 (stampNs s) ++ data.drop 44)
  | _ => d

/-! ## Launch (R378, R379, R388, R389) -/

/-- An entry may start. -/
def QEnt.eligible (e : QEnt) (now : Nat) : Bool :=
  match e.launch with
  | some l => l ≤ now
  | none => true

/-- The lowest-numbered queue whose head may start, with that head. -/
def Port.nextQueue (pt : Port) (now : Nat) : Option (Nat × QEnt) :=
  (List.range 6).findSome? fun q =>
    match at' pt.queues q [] with
    | e :: _ => if e.eligible now then some (q, e) else none
    | [] => none

/-- An entry of Q2 to Q4 starts late (R389). -/
def Dev.late (d : Dev) (q : Nat) (e : QEnt) : Bool :=
  match e.launch with
  | some l => 2 ≤ q && q ≤ 4 && decide (l + 1000 * d.get F.NET_LAUNCH.LATE_TOL < d.nowNs)
  | none => false

/-- DROP bit of a queue. -/
def Dev.dropBit (d : Dev) (q : Nat) : Bool :=
  match q with
  | 2 => d.flag F.NET_LAUNCH.DROP_Q2
  | 3 => d.flag F.NET_LAUNCH.DROP_Q3
  | 4 => d.flag F.NET_LAUNCH.DROP_Q4
  | _ => false

/-- The late-datagram event, at most once per frame. -/
def Dev.lateEvent (d : Dev) : Dev :=
  if d.net.lateAt = some d.seq.frameStart then d
  else { d with net := { d.net with lateAt := some d.seq.frameStart } }.raise 10 10

/-- A late datagram and the rest of its unit are discarded. -/
def Dev.dropLate (d : Dev) (p q : Nat) (e : QEnt) : Dev :=
  let l := at' (d.port p).queues q []
  ((d.modPort p fun pt => { pt with queues := upd pt.queues q (fun l => l.filter (·.unit ≠ e.unit)), lateUnit := e.unit :: pt.lateUnit }).add (F.ETH_LATE_DROPPED p)
    (l.countP (·.unit = e.unit))).lateEvent

/-- The head of queue q leaves it. -/
def Dev.popHead (d : Dev) (p q : Nat) : Dev := d.modPort p fun pt => { pt with queues := upd pt.queues q (·.drop 1) }

/-- LSDU size of an entry's frame: the payload of the Ethernet frame with the trailer, without tags and padding (PRESUMED from IEC 62439-3;
log 106). -/
def QEnt.lsdu (e : QEnt) : Nat := (if e.dst = 0 then 0 else 28) + e.data.length + 6

/-- The frame starts on the wire: a stream's datagram, own or forwarded, with the don't-fragment bit (R296, R379). -/
def Dev.emit (d : Dev) (p : Nat) (e : QEnt) (mac : Nat) : Dev :=
  let f : Sent := { port := p, what := e.what, mac := mac, ip := e.dst, ports := e.ports, tag := e.tag, data := e.data
                    df := e.stream ≤ 2, trailer := if e.prp then some { seq := e.prpSeq, lan := 0xA + p, size := e.lsdu % 4096 } else none }
  let d1 := { d with net := { d.net with sent := d.net.sent ++ [f] } }
  if e.what = "ptp" then d1.ptpDeparted p e.data else d1

/-- The copy of a datagram in the queue of stream n, by its sequence number, is marked as counted. -/
def Port.markSent (x : Port) (e : QEnt) : Port :=
  { x with queues := upd x.queues (2 + e.stream) fun l =>
      l.map fun y => if y.prp && y.prpSeq = e.prpSeq then { y with counted := true } else y }

/-- The unit bytes of a stream's datagram count as sent when it leaves, of two copies with the first (R306, log 106). -/
def Dev.countSent (d : Dev) (p : Nat) (e : QEnt) : Dev :=
  if e.stream < 2 && !e.counted then
    (if e.prp then d.modPort (1 - p) fun x => x.markSent e else d).add (F.OUT_SENT_BYTES e.stream) (e.data.length - 24)
  else d

/-- The destination of an entry, when it is known. -/
def Dev.macOf (d : Dev) (e : QEnt) : Option Nat :=
  match e.mac with
  | some m => some m
  | none => d.resolve e.dst

/-- An idle port starts the next frame; a head that is discarded makes room for the one behind it. -/
def Dev.launch : Nat → Nat → Dev → Dev
  | 0, _, d => d
  | n + 1, p, d =>
    match (d.port p).nextQueue d.nowNs with
    | none => d
    | some (q, e) =>
      if d.late q e && d.dropBit q then Dev.launch n p (d.dropLate p q e)
      else match d.macOf e with
        | none => Dev.launch n p ((d.popHead p q).arpMiss p e.dst)
        | some mac =>
          let d1 := d.popHead p q
          ((if d.late q e then (d1.inc (F.ETH_LATE_SENT p)).lateEvent else d1).countSent p e).emit p e mac

/-- Frames that wait in a port. -/
def Port.waiting (pt : Port) : Nat := (pt.queues.map (·.length)).sum

/-- At uptime t a port is idle and starts a frame (R388). -/
def datagramLaunch (p t : Nat) (d : Dev) : Dev :=
  let d1 := d.advanceTo t
  if d1.ethRuns p then d1.launch (2 * (d1.port p).waiting + 1) p else d1

/-- DATAGRAM_LAUNCH (R388). -/
def execDatagramLaunch (port : Fin 2) (t : Nat) (s : State) : Out := onDev (datagramLaunch port t) s

/-! ## Address resolution, echo (R377, R378) -/

/-- An ARP request (R377): answered when it asks for the device's address, otherwise discarded. -/
def arpRequestRx (f : RxFrame) (senderIp targetIp : Nat) (d : Dev) : Dev :=
  d.rxFrame f fun d =>
    if targetIp = d.get F.NET_IP then
      d.sendPair f.port 5 { mac := some f.mac, what := "arp", tag := d.mgmtTag, data := d.arpPacket f.port 2 f.mac senderIp }
    else d.inc (F.ETH_RX_DISCARD f.port)

/-- ARP_REQUEST_RX (R377). -/
def execArpRequestRx (f : RxFrame) (senderIp targetIp : Nat) (s : State) : Out := onDev (arpRequestRx f senderIp targetIp) s

/-- An ARP reply updates the cache of 16 entries (R377). -/
def arpReplyRx (f : RxFrame) (senderIp : Nat) (d : Dev) : Dev :=
  d.rxFrame f fun d => { d with net := { d.net with
    arp := ({ ip := senderIp, mac := f.mac, time := d.up } :: d.net.arp.filter (·.ip ≠ senderIp)).take 16
    arpWait := d.net.arpWait.filter (·.1 ≠ senderIp) } }

/-- ARP_REPLY_RX (R377). -/
def execArpReplyRx (f : RxFrame) (senderIp : Nat) (s : State) : Out := onDev (arpReplyRx f senderIp) s

/-- One second after the last request a destination is asked for again (R378). -/
def arpRetry (ip : Nat) (d : Dev) : Dev :=
  match d.net.arpWait.find? fun (x : Nat × Nat × Nat) => x.1 = ip with
  | none => d
  | some w =>
    let d1 := d.advanceTo (w.2.2 + 1000000000)
    { d1 with net := { d1.net with
      arpWait := d1.net.arpWait.map fun (x : Nat × Nat × Nat) => if x.1 = ip then (ip, w.2.1, d1.up) else x } }.arpAsk w.2.1 ip

/-- ARP_RETRY (R378). -/
def execArpRetry (ip : Nat) (s : State) : Out := onDev (arpRetry ip) s

/-- A cache entry is 300 s old (R377). -/
def arpCacheExpiry (ip : Nat) (d : Dev) : Dev :=
  match d.net.arp.find? (·.ip = ip) with
  | none => d
  | some a =>
    let d1 := d.advanceTo (a.time + 300000000000)
    { d1 with net := { d1.net with arp := d1.net.arp.filter (·.ip ≠ ip) } }

/-- ARP_CACHE_EXPIRY (R377). -/
def execArpCacheExpiry (ip : Nat) (s : State) : Out := onDev (arpCacheExpiry ip) s

/-- An ICMP echo request to the device's address is answered with the same payload (R377). -/
def icmpEchoRx (f : RxFrame) (srcIp : Nat) (body : Bytes) (d : Dev) : Dev :=
  d.rxFrame f fun d => d.sendPair f.port 5 { dst := srcIp, what := "icmp", tag := d.mgmtTag, data := body }

/-- ICMP_ECHO_RX (R377). -/
def execIcmpEchoRx (f : RxFrame) (srcIp : Nat) (body : Bytes) (s : State) : Out := onDev (icmpEchoRx f srcIp body) s

/-- A frame that the table of R377 does not name is discarded. -/
def ethFrameDiscarded (f : RxFrame) (d : Dev) : Dev := d.rxFrame f fun d => d.inc (F.ETH_RX_DISCARD f.port)

/-- ETH_FRAME_DISCARDED (R377). -/
def execEthFrameDiscarded (f : RxFrame) (s : State) : Out := onDev (ethFrameDiscarded f) s

/-! ## Links (R376, R391, R482) -/

/-- Line modes that ETH_CTRL allows: speed code 1, 2 or 3 (R391, R394). -/
def speedAllowed (cfg speed : Nat) : Bool :=
  match bits cfg 1 3 with
  | 1 => speed = 3
  | 2 => speed = 2
  | 3 => speed = 1
  | _ => 1 ≤ speed && speed ≤ 3 && bitAt cfg (3 + speed)

/-- Forward error correction that ETH_CTRL and the speed allow: 0 none, 1 BASE-R, 2 RS (R376). -/
def fecAllowed (cfg speed fec : Nat) : Bool :=
  match fec with
  | 0 => true
  | 1 => 2 ≤ speed && bitAt cfg 8
  | 2 => speed = 3 && bitAt cfg 7
  | _ => false

/-- Auto-negotiation runs in the modes that use it. -/
def negotiates (cfg : Nat) : Bool := bits cfg 1 3 = 0 || 4 ≤ bits cfg 1 3

/-- The link of a port comes up in an allowed mode. -/
def Dev.ethUp (d : Dev) (p speed fec : Nat) : Dev :=
  let was := d.flag (F.ETH_STATUS.LINK p)
  (((((d.setB (F.ETH_STATUS.LINK p) true).set (F.ETH_STATUS.SPEED p) speed).set (F.ETH_STATUS.FEC p) fec).setB
    (F.ETH_STATUS.BLOCK_LOCK p) true).setB (F.ETH_STATUS.AN_DONE p) (negotiates (d.port p).cfg)).raiseIf (!was) 10 p

/-- The link of a port comes up, or is lost (R376, R482). -/
def ethLinkChange (p : Nat) (up : Bool) (speed fec : Nat) (d : Dev) : Dev :=
  let cfg := (d.port p).cfg
  if up then
    if bitAt cfg 0 && !d.retiredUnit 6 p && d.rootRuns && d.runs (25 + p) && speedAllowed cfg speed && fecAllowed cfg speed fec then
      d.ethUp p speed fec else d
  else if d.flag (F.ETH_STATUS.LINK p) then (d.ethDown p).settled fun d => d.faultOn 6 p 10 p
  else d

/-- ETH_LINK_CHANGE (R376). -/
def execEthLinkChange (port : Fin 2) (up : Bool) (speed fec : Nat) (s : State) : Out := onDev (ethLinkChange port up speed fec) s

/-- A write of 1 to ETH_CTRL.RESTART (R391). -/
def ethLinkRestart (priv : Bool) (p : Nat) (d : Dev) : Dev :=
  d.blockWrite (25 + p) fun d => d.privWrite priv fun d => d.ethDown p

/-- ETH_LINK_RESTART (R391). -/
def execEthLinkRestart (priv : Bool) (port : Fin 2) (s : State) : Out := onDev (ethLinkRestart priv port) s

/-! ## Redundancy supervision (R380) -/

/-- A supervision frame goes out on both ports (R380, R388). -/
def prpSupervisionTx (d : Dev) : Dev :=
  if d.prpOn && d.rootRuns then
    let n := d.net.supSeq
    let data := be 2 1 ++ be 2 n ++ be 1 20 ++ be 1 6 ++ be 6 (d.mac 0) ++ be 2 0
    { d with net := { d.net with supSeq := (n + 1) % 65536 } }.sendPair 0 0
      { mac := some 0x01154E000100, what := "prp", data := data }
  else d

/-- PRP_SUPERVISION_TX (R380). -/
def execPrpSupervisionTx (s : State) : Out := onDev prpSupervisionTx s

/-- A supervision frame enters its sender into the node table (R380). -/
def prpSupervisionRx (f : RxFrame) (node : Nat) (d : Dev) : Dev :=
  d.rxFrame f fun d => { d with net := { d.net with
    nodes := { mac := node, seen := d.up } :: d.net.nodes.filter (·.mac ≠ node) } }

/-- PRP_SUPERVISION_RX (R380). -/
def execPrpSupervisionRx (f : RxFrame) (node : Nat) (s : State) : Out := onDev (prpSupervisionRx f node) s

/-- A peer has not been seen for 60 s (R380). -/
def prpNodeExpiry (mac : Nat) (d : Dev) : Dev :=
  match d.net.nodes.find? (·.mac = mac) with
  | none => d
  | some n =>
    let d1 := d.advanceTo (n.seen + 60000000000)
    { d1 with net := { d1.net with nodes := d1.net.nodes.filter (·.mac ≠ mac) } }

/-- PRP_NODE_EXPIRY (R380). -/
def execPrpNodeExpiry (mac : Nat) (s : State) : Out := onDev (prpNodeExpiry mac) s

/-- A port has received no frame with a trailer for 8,000 ms while the other has (R380). -/
def lanMissingTimeout (p : Nat) (d : Dev) : Dev :=
  let since := (d.port p).lastTrailer.getD 0
  let d1 := d.advanceTo (since + 8000000000)
  let other := (d1.port (1 - p)).lastTrailer.any fun x => since < x
  if d1.prpOn && other && !d1.flag (F.ETH_STATUS.LAN_MISSING p) then
    (d1.setB (F.ETH_STATUS.LAN_MISSING p) true).raise 10 9
  else d

/-- LAN_MISSING_TIMEOUT (R380). -/
def execLanMissingTimeout (port : Fin 2) (s : State) : Out := onDev (lanMissingTimeout port) s

/-! ## The time servo (R383, R384) -/

/-- A rational clamped between two bounds. -/
def clampQ (x lo hi : Rat) : Rat := if x < lo then lo else if hi < x then hi else x

/-- Magnitude of a rational. -/
def absQ (x : Rat) : Rat := if x < 0 then -x else x

/-- A rational rounded half up. -/
def roundQ (x : Rat) : Int := (x + 1 / 2).floor

/-- The frequency term of the servo: I, then u, then TB_TRIM, for an offset in ns and an update interval in s. -/
def Dev.servoTrim (d : Dev) (o t : Rat) : Dev :=
  let fmax : Rat := d.get F.SERVO_FMAX
  let r := o / t
  let i := clampQ (d.net.servoI + r * d.get F.SERVO_GAIN.KI / 256) (-fmax) fmax
  let u := clampQ (r * d.get F.SERVO_GAIN.KP / 256 + i) (-fmax) fmax
  let trim := roundQ (u * 1099511627776 / 1000000000)
  (({ d with net := { d.net with servoI := i } }.setS F.TB_TRIM trim).setB F.TB_STATUS.TRIM_SAT false).checkTrim

/-- LOCKED changes (R384). -/
def Dev.setLocked (d : Dev) (b : Bool) : Dev :=
  if d.flag F.PTP_STATUS.LOCKED = b then d else (d.setB F.PTP_STATUS.LOCKED b).raise 2 0

/-- The lock of the servo after an update with offset o (R384). -/
def Dev.servoLock (d : Dev) (o : Rat) : Dev :=
  let inn := if absQ o ≤ d.get F.SERVO_LIM.LOCK_NS then d.net.lockRun + 1 else 0
  let out := if (d.get F.SERVO_LIM.UNLOCK_NS : Rat) < absQ o then d.net.unlRun + 1 else 0
  let d1 := { d with net := { d.net with lockRun := inn, unlRun := out } }
  if d1.flag F.PTP_STATUS.LOCKED then (if 4 ≤ out then d1.setLocked false else d1)
  else if 16 ≤ inn then d1.setLocked true else d1

/-- The servo takes an offset o = master time − device time in ns, with its update interval in s (R383). -/
def Dev.servo (d : Dev) (o t : Rat) : Dev :=
  let d0 := (d.setS F.PTP_OFFSET (satS 32 (roundQ o))).setB F.PTP_STATUS.HOLDOVER false
  if d0.tb.step.isSome || d0.tb.rem ≠ 0 then d0
  else
    let far := !d0.timeValid || decide ((d0.get F.SERVO_PHASE : Rat) < absQ o)
    (if far then { d0 with tb := { d0.tb with adjSec := 0 } }.offset40 (roundQ o * one40) else d0.servoTrim o t).servoLock o

/-- 2^n for a signed 8-bit logarithm, in s. -/
def logInterval (n : Int) : Rat := if n < 0 then 1 / (2 ^ n.natAbs : Nat) else (2 ^ n.natAbs : Nat)

/-! ## PTP ports (R381–R384) -/

/-- Lexicographic order of comparison vectors: the smaller is the better. -/
def better : List Nat → List Nat → Bool
  | a :: s, b :: t => a < b || (a = b && better s t)
  | [], _ :: _ => true
  | _, [] => false

/-- The device's own comparison vector (R381). -/
def Dev.ownRank (d : Dev) : List Nat :=
  [d.get F.PTP_CTRL.PRIORITY1, 0xF8FEFFFF, d.get F.PTP_CTRL.PRIORITY2, d.ptpIdent 0 / 65536, 0]

/-- The port whose master is better, A on a tie. -/
def Dev.betterPort (d : Dev) : Nat :=
  match (d.port 0).master, (d.port 1).master with
  | some a, some b => if better b.rank a.rank then 1 else 0
  | none, some _ => 1
  | _, none => 0

/-- The port that the servo follows (R381). -/
def Dev.ptpPort (d : Dev) : Nat :=
  match d.get F.PTP_CTRL.PORT_SELECT with
  | 0 => 0
  | 1 => 1
  | _ => d.betterPort

/-- The role and the active port after a change of the masters heard (R381). -/
def Dev.ptpDecide (d : Dev) : Dev :=
  let beaten := [0, 1].any fun p => (d.port p).master.any fun m => better m.rank d.ownRank
  let d1 := { d with net := { d.net with isMaster := !d.flag F.PTP_CTRL.SLAVE_ONLY && !beaten } }
  (d1.set F.PTP_STATUS.ACTIVE_PORT d1.ptpPort).set F.PTP_PATH (uns 32 (rhu (d1.port d1.ptpPort).path 4096))

/-- A PTP message is received and concerns this clock: its port works, its tag, domain and profile fit, and it is not an own one. -/
def Dev.ptpRx (d : Dev) (p : Nat) (m : PtpMsg) (k : Dev → Dev) : Dev :=
  let d1 := d.advanceTo m.t
  if !d1.ethRuns p then d1
  else if !d1.vidOk m.vid then d1.inc (F.ETH_RX_DISCARD p)
  else if m.domain = d1.get F.PTP_CTRL.DOMAIN && m.source / 65536 ≠ d1.ptpIdent p / 65536 && (!m.peer || d1.as) then k d1
  else d1

/-- The message comes from the master of the port, and the device is a slave. -/
def Dev.fromMaster (d : Dev) (p : Nat) (m : PtpMsg) : Bool := !d.net.isMaster && (d.port p).master.any fun x => x.source = m.source

/-- A timestamp of a message, in 2^-16 ns. -/
def ptpTime (m : PtpMsg) : Int := ((m.sec * 1000000000 + m.ns : Nat) : Int) * 65536

/-- A Sync is complete on a port: arrival less origin and corrections is known (R381, R383). -/
def Dev.syncDone (d : Dev) (p : Nat) (delta : Int) : Dev :=
  let d1 := d.modPort p fun pt => { pt with syncSeq := none, reqMaster := some delta }
  if d1.get F.TB_SOURCE.SOURCE = 1 && d1.ptpPort = p then
    d1.servo (-((delta - (d1.port p).path : Int) : Rat) / 65536) (logInterval (d1.getS F.PTP_INTERVAL.SYNC))
  else d1

/-- A Sync message is stamped; a one-step one is complete (R382, R383). -/
def ptpSyncRx (p : Nat) (m : PtpMsg) (d : Dev) : Dev :=
  d.ptpRx p m fun d =>
    if !d.fromMaster p m then d
    else
      let s := d.rxStamp p
      if m.twoStep then d.modPort p fun pt => { pt with syncSeq := some m.seq, syncRx := s, syncCorr := m.corr }
      else d.syncDone p (s * 4096 - ptpTime m - m.corr)

/-- PTP_SYNC_RX (R383). -/
def execPtpSyncRx (port : Fin 2) (m : PtpMsg) (s : State) : Out := onDev (ptpSyncRx port m) s

/-- A Follow_Up completes the two-step Sync with its sequence number (R382). -/
def ptpFollowUpRx (p : Nat) (m : PtpMsg) (d : Dev) : Dev :=
  d.ptpRx p m fun d =>
    let pt := d.port p
    if d.fromMaster p m && pt.syncSeq = some m.seq then d.syncDone p (pt.syncRx * 4096 - ptpTime m - pt.syncCorr - m.corr) else d

/-- PTP_FOLLOW_UP_RX (R382). -/
def execPtpFollowUpRx (port : Fin 2) (m : PtpMsg) (s : State) : Out := onDev (ptpFollowUpRx port m) s

/-- A path delay measurement ends; PTP_PATH shows that of the active port. -/
def Dev.pathDone (d : Dev) (p : Nat) (path : Int) : Dev :=
  let d1 := d.modPort p fun pt => { pt with path := path, reqT1 := none, pdResp := none }
  if d1.ptpPort = p then d1.set F.PTP_PATH (uns 32 (rhu path 4096)) else d1

/-- A delay response, or a peer delay response and its follow-up (R381). -/
def ptpDelayRespRx (p : Nat) (m : PtpMsg) (d : Dev) : Dev :=
  d.ptpRx p m fun d =>
    let pt := d.port p
    if m.requester ≠ d.ptpIdent p || m.seq ≠ pt.reqSeq then d
    else match pt.reqT1 with
      | none => d
      | some t1 =>
        if m.peer then
          if m.followUp then
            match pt.pdResp with
            | some (t4, t2) => d.pathDone p (rhu (t4 - t1 * 4096 - (ptpTime m - t2) - m.corr) 2)
            | none => d
          else
            let t4 := d.rxStamp p * 4096 - m.corr
            if m.twoStep then d.modPort p fun pt => { pt with pdResp := some (t4, ptpTime m) }
            else d.pathDone p (rhu (t4 - t1 * 4096) 2)
        else if d.as || !d.fromMaster p m then d
        else match pt.reqMaster with
          | some delta => d.pathDone p (rhu (delta + (ptpTime m - m.corr - t1 * 4096)) 2)
          | none => d

/-- PTP_DELAY_RESP_RX (R381). -/
def execPtpDelayRespRx (port : Fin 2) (m : PtpMsg) (s : State) : Out := onDev (ptpDelayRespRx port m) s

/-- An Announce message: the better master of the port is kept, and its own later messages replace it (R381). -/
def ptpAnnounceRx (p : Nat) (m : PtpMsg) (d : Dev) : Dev :=
  d.ptpRx p m fun d =>
    let x : PtpMaster := { rank := [m.prio1, m.quality, m.prio2, m.gm, m.steps], source := m.source }
    let takes := match (d.port p).master with
      | some o => o.source = x.source || better x.rank o.rank
      | none => true
    if takes then (d.modPort p fun pt => { pt with master := some x }).ptpDecide else d

/-- PTP_ANNOUNCE_RX (R381). -/
def execPtpAnnounceRx (port : Fin 2) (m : PtpMsg) (s : State) : Out := onDev (ptpAnnounceRx port m) s

/-- As master, a two-step Sync goes out on both ports; its Follow_Up is sent when it has departed (R381, R382). -/
def ptpSyncTx (d : Dev) : Dev :=
  if d.net.isMaster && d.rootRuns then
    let n := d.net.syncSeqTx
    let d1 := { d with net := { d.net with syncSeqTx := (n + 1) % 65536 } }
    d1.each [0, 1] fun d p => d.sendPtp p 0 0x0200 0 n 0 (d.get F.PTP_INTERVAL.SYNC) (zeros 10)
  else d

/-- PTP_SYNC_TX (R381). -/
def execPtpSyncTx (s : State) : Out := onDev ptpSyncTx s

/-- A delay request goes out: under the default profile on the ports that have a master, under 802.1AS a peer delay request on
both (R381). -/
def ptpDelayReqTx (d : Dev) : Dev :=
  d.each [0, 1] fun d p =>
    let pt := d.port p
    if d.rootRuns && (d.as || (!d.net.isMaster && pt.master.isSome)) then
      let n := (pt.reqSeq + 1) % 65536
      let d1 := d.modPort p fun pt => { pt with reqSeq := n, reqT1 := none, pdResp := none }
      if d.as then d1.sendPtp p 2 0 0 n 5 (d.get F.PTP_INTERVAL.DELAY_REQ) (zeros 20)
      else d1.sendPtp p 1 0 0 n 1 0x7F (zeros 10)
    else d

/-- PTP_DELAY_REQ_TX (R381). -/
def execPtpDelayReqTx (s : State) : Out := onDev ptpDelayReqTx s

/-- A delay request is stamped and answered, by a master under the default profile; a peer delay request by every port under
802.1AS (R381, R382). -/
def ptpDelayReqRx (p : Nat) (m : PtpMsg) (d : Dev) : Dev :=
  d.ptpRx p m fun d =>
    let s := d.rxStamp p
    let body := time80 (stampNs s) ++ be 10 m.source
    if m.peer then d.sendPtp p 3 0x0200 (m.corr - stampFrac s) m.seq 5 0x7F body
    else if d.net.isMaster && !d.as then d.sendPtp p 9 0 (m.corr - stampFrac s) m.seq 3 (d.get F.PTP_INTERVAL.DELAY_REQ) body
    else d

/-- PTP_DELAY_REQ_RX (R381). -/
def execPtpDelayReqRx (port : Fin 2) (m : PtpMsg) (s : State) : Out := onDev (ptpDelayReqRx port m) s

/-- As master, an Announce message goes out on both ports, with the path trace under 802.1AS (R381). -/
def ptpAnnounceTx (d : Dev) : Dev :=
  if d.net.isMaster && d.rootRuns then
    d.each [0, 1] fun d p =>
      let n := (d.port p).annSeq
      let own := d.ptpIdent 0 / 65536
      let body := zeros 12 ++ zeros 1 ++ be 1 (d.get F.PTP_CTRL.PRIORITY1) ++ be 4 0xF8FEFFFF ++ be 1 (d.get F.PTP_CTRL.PRIORITY2) ++
        be 8 own ++ be 2 0 ++ be 1 0xA0 ++ (if d.as then be 2 8 ++ be 2 8 ++ be 8 own else [])
      (d.modPort p fun pt => { pt with annSeq := (n + 1) % 65536 }).sendPtp p 11 0 0 n 5 (d.get F.PTP_INTERVAL.ANNOUNCE) body
  else d

/-- PTP_ANNOUNCE_TX (R381). -/
def execPtpAnnounceTx (s : State) : Out := onDev ptpAnnounceTx s

/-- No valid Sync for 3 sync intervals, or no Announce in time: holdover begins where the servo follows PTP, and after an Announce
timeout the master of the active port is forgotten (R384). -/
def ptpHoldoverTimeout (announce : Bool) (d : Dev) : Dev :=
  let p := d.ptpPort
  let d1 := if d.get F.TB_SOURCE.SOURCE = 1 && !d.net.isMaster && !d.flag F.PTP_STATUS.HOLDOVER then
      ({ d with net := { d.net with lockRun := 0, unlRun := 0 } }.setB F.PTP_STATUS.HOLDOVER true).setLocked false |>.raise 2 1
    else d
  if announce then (d1.modPort p fun pt => { pt with master := none, syncSeq := none, reqMaster := none }).ptpDecide else d1

/-- PTP_HOLDOVER_TIMEOUT (R384). -/
def execPtpHoldoverTimeout (announce : Bool) (s : State) : Out := onDev (ptpHoldoverTimeout announce) s

/-! ## Pulse per second (R62, R385) -/

/-- A rising edge of PPS_IN at uptime t: the offset to the nearest whole second (R385). -/
def ppsInEdge (t : Nat) (d : Dev) : Dev :=
  let d1 := d.advanceTo t
  if d1.get F.TB_SOURCE.SOURCE = 2 && d1.tb.setOnce && d1.rootRuns then
    let sec := 1000000000 * 2 ^ 40
    let off : Int := rhu d1.tb.t40 sec * sec - d1.tb.t40
    d1.servo ((off : Rat) / (2 ^ 40 : Nat)) 1
  else d1

/-- PPS_IN_EDGE (R385). -/
def execPpsInEdge (t : Nat) (s : State) : Out := onDev (ppsInEdge t) s

/-- Cycles until the next whole second of device time. -/
def Dev.secondCycles (d : Dev) : Nat :=
  d.cyclesFor (((d.nowSec + 1) * 1000000000 * 2 ^ 40 : Nat) - d.tb.t40)

/-- The next whole second of device time comes: PPS_OUT rises while time is valid (R385). -/
def ppsOutSecond (d : Dev) : Dev :=
  if !d.tbCounts || !d.timeValid then d
  else
    let d1 := d.advance d.secondCycles
    if d1.nowSec = d.nowSec then d1 else { d1 with net := { d1.net with ppsRise := some d1.up } }

/-- PPS_OUT_SECOND (R385). -/
def execPpsOutSecond (s : State) : Out := onDev ppsOutSecond s

/-- PPS_OUT falls after its width (R385). -/
def ppsOutWidthEnd (d : Dev) : Dev :=
  match d.net.ppsRise with
  | none => d
  | some r =>
    let d1 := d.advanceTo (r + 1000000 * d.get F.TB_PPS.WIDTH)
    { d1 with net := { d1.net with ppsRise := none } }

/-- PPS_OUT_WIDTH_END (R385). -/
def execPpsOutWidthEnd (s : State) : Out := onDev ppsOutWidthEnd s

end Sys2Proof.Machine
end

