-- ==== Sys2Proof/Machine/Flash.lean ====
section
/-! DEFINITION. The boot flash: the boot record, the retirement table and the configuration store, each in two copies (R486, R496,
R497, R500). -/

namespace Sys2Proof.Machine

/-! ## Two copies (R496) -/

/-- The copy in use: the valid one with the higher SEQ; none when neither is valid (R496). -/
def FlashPair.current (ok : Bytes → Bool) (p : FlashPair) : Option Bytes :=
  if ok p.a && (!ok p.b || rd 4 p.b 4 < rd 4 p.a 4) then some p.a else if ok p.b then some p.b else none

/-- SEQ of the next write: one above that of the copy in use (R496). -/
def FlashPair.nextSeq (ok : Bytes → Bool) (p : FlashPair) : Nat :=
  match p.current ok with
  | some bs => (rd 4 bs 4 + 1) % 2 ^ 32
  | none => 1

/-- A write goes to the copy that is not in use (R496). -/
def FlashPair.write (ok : Bytes → Bool) (image : Nat → Bytes) (p : FlashPair) : FlashPair :=
  if p.current ok = some p.a then { p with b := image (p.nextSeq ok) } else { p with a := image (p.nextSeq ok) }

/-! ## Layouts -/

/-- Bytes of a boot record copy; its CRC is over the fields before it (R500). -/
def Life.bootBytes (l : Life) (seq : Nat) : Bytes :=
  let bs := be 4 0x4E584252 ++ be 4 seq ++ be 1 l.active ++ be 1 (nat l.confirmed) ++ be 1 l.tries
  bs ++ be 4 (crc32c bs)

/-- A boot record copy is valid (R496, R500). -/
def bootOk (bs : Bytes) : Bool := rd 4 bs 0 = 0x4E584252 && bs.length = 15 && rd 4 bs 11 = crc32c (bs.take 11)

/-- The 16 bytes of a retirement table entry (R486). -/
def Retired.bytes (r : Retired) : Bytes := be 1 r.kind ++ be 1 0 ++ be 2 r.unit ++ be 1 r.g ++ be 1 r.s ++ time80 r.t

/-- Bytes of a retirement table copy (R486). -/
def retiredBytes (l : List Retired) (seq : Nat) : Bytes :=
  let es := l.flatMap Retired.bytes
  be 4 0x4E585254 ++ be 4 seq ++ be 4 l.length ++ be 4 (crc32c es) ++ es

/-- A retirement table copy is valid (R486, R496). -/
def retiredOk (bs : Bytes) : Bool :=
  rd 4 bs 0 = 0x4E585254 && bs.length = 16 + 16 * rd 4 bs 8 && rd 4 bs 12 = crc32c (bs.drop 16)

/-- The bytes of a configuration record (R497). -/
def Saved.bytes (r : Saved) : Bytes := be 2 r.idx ++ be 1 r.sub ++ be 1 r.ty ++ be 4 r.val.length ++ r.val

/-- Bytes of a configuration store copy; its CRC is over the records (R497). -/
def storeBytes (l : List Saved) (seq : Nat) : Bytes :=
  let rs := l.flatMap Saved.bytes
  be 4 0x4E584346 ++ be 4 seq ++ be 4 rs.length ++ be 4 (crc32c rs) ++ rs

/-- A configuration store copy is valid (R496, R497). -/
def storeOk (bs : Bytes) : Bool :=
  rd 4 bs 0 = 0x4E584346 && bs.length = 16 + rd 4 bs 8 && rd 4 bs 12 = crc32c (bs.drop 16)

/-! ## Writes -/

/-- The boot record is written as it stands (R500). -/
def Dev.recordBoot (d : Dev) : Dev :=
  { d with life := { d.life with
    bootValid := true, flash := { d.life.flash with boot := d.life.flash.boot.write bootOk d.life.bootBytes } } }

/-- The retirement table is written with these entries (R486). -/
def Dev.recordRetired (d : Dev) (l : List Retired) : Dev :=
  if l = d.life.flashRet then d
  else { d with life := { d.life with
    flashRet := l, flash := { d.life.flash with ret := d.life.flash.ret.write retiredOk (retiredBytes l) } } }

/-- The configuration store is written with these records (R497). -/
def Dev.recordStore (d : Dev) (l : List Saved) : Dev :=
  { d with life := { d.life with
    store := some l, flash := { d.life.flash with cfg := d.life.flash.cfg.write storeOk (storeBytes l) } } }

end Sys2Proof.Machine
end

