-- ==== Sys2Proof/Machine/Island.lean ====
section
/-! DEFINITION. How a Toll channel decides: its switches, the demands it reports, and what a change of them raises
(R346, R397, R400, R418, R422, R480). -/

namespace Sys2Proof.Machine

/-- Off-pulses of a channel's switches in progress (R420). -/
def Dev.pulsing (d : Dev) (c : TollChan) : Nat :=
  match c with
  | .logic => d.toll.testA
  | .proc => d.toll.testB

/-- Off-pulses of a channel's switches, replaced. -/
def Dev.setPulsing (d : Dev) (c : TollChan) (v : Nat) : Dev :=
  match c with
  | .logic => { d with toll := { d.toll with testA := v } }
  | .proc => { d with toll := { d.toll with testB := v } }

/-- A channel runs. -/
def Dev.chanRuns (d : Dev) (c : TollChan) : Bool :=
  match c with
  | .logic => d.logicRuns
  | .proc => d.procRuns

/-- OUT_RESTART of the safety configuration (R438). -/
def outRestart (cfg : Bytes) : Nat := rd 1 cfg 8

/-- A channel may close its switch of pair p (R418). The logic opens its switches while the processor is held in reset
(R397), and every switch stays open until the self-test has passed (R399). -/
def Dev.mayClose (d : Dev) (c : TollChan) (p : Nat) : Bool :=
  d.toll.cfgOk && d.st ≠ .faultStop && d.toll.fault = 0 && d.chanRuns c && d.procRuns && (d.tollCh c).selfOk &&
    !((List.range 25).any fun n => bitAt (fnMask d.toll.cfg n) p && d.fnDemand c n) && !bitAt d.toll.outFault p &&
    (!bitAt (outRestart d.toll.cfg) p || bitAt (d.tollCh c).reset p)

/-- A channel drives its switches: a demand during an off-pulse ends the test, and the switch stays open (R418, R422). -/
def Dev.driveSwitches (d : Dev) (c : TollChan) : Dev :=
  let ok := maskOf 4 (d.mayClose c)
  let test := Nat.land (d.pulsing c) ok
  (d.setPulsing c test).modToll c fun t => { t with switch := maskOf 4 fun p => bitAt ok p && !bitAt test p }

/-- Pairs that both channels hold closed, an off-pulse aside (log 20). -/
def Dev.heldClosed (d : Dev) : Nat :=
  Nat.land (Nat.lor d.toll.logic.switch d.toll.testA) (Nat.lor d.toll.proc.switch d.toll.testB)

/-- Pairs that have de-energised need a new reset (R418). -/
def Dev.noteEnergised (d : Dev) : Dev :=
  let now := d.heldClosed
  let gone := maskOf 4 fun p => bitAt d.toll.energised p && !bitAt now p
  let f (t : TollCh) : TollCh := { t with reset := maskOf 4 fun p => bitAt t.reset p && !bitAt gone p }
  { (d.modToll .logic f).modToll .proc f with
    toll := { ((d.modToll .logic f).modToll .proc f).toll with energised := now } }

/-- A change of TOLL_DEMAND raises demand-change; a new demand is an incident trigger (R346, R400, R480). -/
def Dev.demandChange (d : Dev) : Dev :=
  let now := maskOf 25 d.inDemand
  if now = d.toll.demand then d
  else
    let d1 := { d with toll := { d.toll with demand := now } }.raise 12 1
    if (List.range 25).any fun n => bitAt now n && !bitAt d.toll.demand n then d1.incidentTrigger 2 else d1

/-- Channels evaluate and drive their switches. -/
def Dev.islandEval (d : Dev) (l : List TollChan) : Dev := ((l.foldl Dev.driveSwitches d).noteEnergised).demandChange

/-- Both channels evaluate. -/
def Dev.bothEval (d : Dev) : Dev := d.islandEval [.logic, .proc]

end Sys2Proof.Machine
end

