-- ==== Sys2Proof/Machine/Zones.lean ====
section
/-! DEFINITION. Protective fields as the Toll channels find them (R409–R415, R439, R440). -/

namespace Sys2Proof.Machine

/-! ## The logic zone table (R409, R410, R439) -/

/-- An entry of the logic zone table. -/
structure ZoneEnt where
  field : Nat
  lo : Nat
  hi : Nat
  chLo : Nat
  chHi : Nat
  near : Nat
  far : Nat
  deriving DecidableEq, Repr

/-- Entries of a logic zone table. -/
def zoneEnts (z : Bytes) : List ZoneEnt :=
  (List.range (rd 2 z 4)).map fun e =>
    let o := 0x848 + 16 * e
    { field := rd 1 z o % 16, lo := rd 1 z (o + 1), hi := rd 1 z (o + 2), chLo := rd 2 z (o + 4), chHi := rd 2 z (o + 6)
      near := rd 4 z (o + 8), far := rd 4 z (o + 12) }

/-- O′ of a channel. -/
def zoneOffset (z : Bytes) (ch : Nat) : Int := rdS 4 z (0x48 + 4 * ch)

/-- EXPECTED_RAYS of a field. -/
def zoneExpected (z : Bytes) (f : Nat) : Nat := rd 4 z (8 + 4 * f)

/-- An entry covers a sector and a channel (R409). -/
def ZoneEnt.covers (e : ZoneEnt) (sector ch : Nat) : Bool := e.lo ≤ sector && sector ≤ e.hi && e.chLo ≤ ch && ch ≤ e.chHi

/-- A counting shot's stop list hits an entry (R410). -/
def ZoneEnt.hit (e : ZoneEnt) (off : Int) (stops : List Stop) : Bool :=
  stops.any (fun s => (e.near : Int) ≤ s.delta - off && s.delta - off < e.far) ||
    (stops.length = 8 && (match stops.getLast? with | some s => s.delta - off < e.far | none => false))

/-- Fields of the logic that a channel's ray belongs to (R409). -/
def zoneFields (z : Bytes) (sector ch : Nat) : List Nat :=
  (((zoneEnts z).filter fun e => e.covers sector ch).map (·.field)).eraseDups

/-- Fields that a counting shot of a channel hits (R410). -/
def zoneShot (z : Bytes) (sector ch : Nat) (stops : List Stop) : List Nat :=
  (((zoneEnts z).filter fun e => e.covers sector ch && e.hit (zoneOffset z ch) stops).map (·.field)).eraseDups

/-- Counts one counting shot in the hit counts of its fields. -/
def addHits (t : Tab Nat) (fs : List Nat) : Tab Nat := fs.foldl (fun t f => Tab.put t f (Tab.getD t f 0 + 1)) t

/-! ## The processor zone table (R411, R412, R440) -/

/-- Vertex v of polygon g. -/
def polyVertex (z : Bytes) (g v : Nat) : Int × Int := (rdS 4 z (8 + 140 * g + 12 + 8 * v), rdS 4 z (8 + 140 * g + 16 + 8 * v))

/-- Field of polygon g. -/
def polyField (z : Bytes) (g : Nat) : Nat := rd 1 z (8 + 140 * g) % 16

/-- Vertices of polygon g. -/
def polyCount (z : Bytes) (g : Nat) : Nat := rd 1 z (8 + 140 * g + 1)

/-- A point lies on or to the left of the edge from a to b. -/
def leftOf (a b : Int × Int) (x y : Int) : Bool := 0 ≤ (b.1 - a.1) * (y - a.2) - (b.2 - a.2) * (x - a.1)

/-- A point lies inside polygon g (R411). -/
def polyInside (z : Bytes) (g : Nat) (x y h : Int) : Bool :=
  let n := polyCount z g
  rdS 4 z (8 + 140 * g + 4) ≤ h && h < rdS 4 z (8 + 140 * g + 8) &&
    (List.range n).all fun v => leftOf (polyVertex z g v) (polyVertex z g ((v + 1) % n)) x y

/-- Fields with a polygon that holds an echo of a channel (R411). -/
def echoFields411 (i : StageInfo) (ch : Nat) (x : Echo) : List Nat :=
  let z := i.tab 0x7072
  let cfg := i.tab 0x7007
  let dv := dirOf (i.tab 0x7050) ch
  let az := dv.1 + theta cfg 0 i.ang0
  let el := dv.2 + theta cfg 1 i.ang1
  let r := rangeOf x.rho
  let px := cartesian r az el 0
  let py := cartesian r az el 1
  let pz := cartesian r az el 2
  (((List.range (rd 2 z 4)).filter fun g => polyInside z g px py pz).map (polyField z)).eraseDups

/-- The field-member flag of an echo (R412). -/
def markField (cfg : Bytes) (i : StageInfo) (ch : Nat) (x : Echo) : Echo :=
  if (echoFields411 i ch x).any (fieldOn cfg) then { x with flags := setBit x.flags 18 true } else x

/-! ## Counts of a frame (R413–R415) -/

/-- Adds one to an item of a list of counts. -/
def bump (l : List Nat) (i : Nat) : List Nat := upd l i (· + 1)

/-- A ray of these fields is evaluated: the fields it hits and those it is blind for count (R410, R411, R413). -/
def TollCh.ray (t : TollCh) (fields hits blind : List Nat) : TollCh :=
  fields.foldl (fun t f => { t with
    rays := bump t.rays f
    hCur := if hits.contains f then bump t.hCur f else t.hCur
    bCur := if blind.contains f then bump t.bCur f else t.bCur }) t

/-- The counts move on at a frame tick (R413). -/
def TollCh.newFrame (t : TollCh) (hold : List Nat) : TollCh :=
  { t with
    hPrev := t.hCur, bPrev := t.bCur, hCur := List.replicate 16 0, bCur := List.replicate 16 0, rays := List.replicate 16 0
    hold := hold }

/-- A field's occupancy for the frame just ended, before the counts move (R415). -/
def Dev.occFrame (d : Dev) (c : TollChan) (f : Nat) : Bool := fieldOn d.toll.cfg f && d.occupied c f

/-- DISAGREE_FRAMES of the safety configuration (R438). -/
def disFrames (cfg : Bytes) : Nat := rd 1 cfg 0x0B

/-- The frame tick's work of the Toll channels on the protective fields (R413–R415). `full` when the frame was the first after
an entry to RANGING or a swap of the zone banks. -/
def Dev.fieldFrame (d : Dev) (stages : Nat) : Dev :=
  let z := d.tab 0x7071
  let few := d.seq.procStages < stages
  let differ (f : Nat) : Bool := d.occFrame .logic f ≠ d.occFrame .proc f
  let dis := maskOf 16 differ
  let run := (List.range 16).map fun f => if differ f then at' d.toll.disRun f 0 + 1 else 0
  let lim := disFrames d.toll.cfg
  let newFault := maskOf 16 fun f => lim ≤ at' run f 0 && 0 < at' run f 0 && !bitAt d.toll.fieldFault f
  let cleared := maskOf 16 fun f => bitAt d.toll.fieldFault f && !(d.toll.clearReq && !bitAt dis f)
  let holdL := (List.range 16).map fun f =>
    if bitAt dis f || few || at' d.toll.logic.rays f 0 < zoneExpected z f then 1 else 0
  let holdP := (List.range 16).map fun f => if bitAt dis f || few then 1 else 0
  let d1 := (d.modToll .logic fun t => t.newFrame holdL).modToll .proc fun t => t.newFrame holdP
  let d2 := { d1 with
    toll := { d1.toll with disRun := run, fieldFault := Nat.lor cleared newFault, clearReq := false }
    seq := { d1.seq with procStages := 0 } }
  (d2.add F.FIELD_DISAGREE (popCount 16 dis)).raiseIf (newFault ≠ 0) 12 4

end Sys2Proof.Machine
end

