-- ==== Sys2Proof/Machine/Ledger.lean ====
section
/-! DEFINITION. The light ledger, arming and EM_FAULT_N (R92–R110, R424, R425). -/

namespace Sys2Proof.Machine

/-! ## Windows and debits (R93, R94, R97) -/

/-- Sum of a window: the current bucket and the 64 before it, saturating (R93). -/
def windowSum (l : List (Nat × Nat)) (cur : Nat) : Nat :=
  min (2 ^ 48 - 1) ((l.filter fun b => cur ≤ b.1 + 64).map (·.2)).sum

/-- Adds energy to a bucket; buckets that have left the window are dropped. -/
def addBucket (l : List (Nat × Nat)) (b e : Nat) : List (Nat × Nat) :=
  let l := l.filter fun x => b ≤ x.1 + 64
  if l.any (·.1 = b) then l.map fun x => if x.1 = b then (b, x.2 + e) else x else (b, e) :: l

/-- Bucket of window k at the present cycle, counted from the bank's activation (R93, R102). -/
def Dev.bucket (d : Dev) (lim : Bytes) (k : Nat) : Nat := (d.cyc - d.led.actCyc.getD 0) / max 1 (bucketLen lim k)

/-- A window sum of a cell as the decision sees it: at its limit during hold-off (R102). -/
def Dev.cellSum (d : Dev) (lim : Bytes) (ch : LedgerCh) (cell k : Nat) : Nat :=
  let cur := d.bucket lim k
  if cur < 65 then limOf lim cell k else windowSum (Tab.getD ch.sums (3 * cell + k) []) cur

/-- The lowest window that refuses energy e in a cell, 1 to 3; 0 when all permit (R94, R97). -/
def Dev.refusing (d : Dev) (lim : Bytes) (ch : LedgerCh) (cell e : Nat) : Nat :=
  match (List.range 3).find? fun k => limOf lim cell k = 0 || limOf lim cell k < d.cellSum lim ch cell k + e with
  | some k => k + 1
  | none => 0

/-- The buckets of the three windows now. -/
def Dev.buckets (d : Dev) (lim : Bytes) : List Nat := (List.range 3).map (d.bucket lim)

/-- Adds energy to the buckets of a cell. -/
def LedgerCh.debit (ch : LedgerCh) (cell : Nat) (bs : List Nat) (e : Nat) : LedgerCh :=
  { ch with sums := (List.range 3).foldl (fun t k =>
      Tab.put t (3 * cell + k) (addBucket (Tab.getD t (3 * cell + k) []) (at' bs k 0) e)) ch.sums }

/-! ## The processor's prediction (R96) -/

/-- E_meas / E_L of a fired shot in 2^-16 units, rounded up; E_meas is kept in 2^-16 pJ. With E_L = 0 the spec states no
ratio, and it is a free value. -/
def shotRatio (x : Nat × Nat) : Nat := if x.2 = 0 then Config.openRatio x.1 else cdiv x.1 x.2

/-- k_r of a row in 2^-16 units. -/
def Dev.kRatio (d : Dev) (row : Nat) : Nat :=
  let l := Tab.getD d.led.kr row []
  let top := (l.map shotRatio).foldl max 0
  if Tab.getD d.led.krN row 0 < 256 then max 65536 top else top

/-- E_pred (R96). -/
def Dev.predict (d : Dev) (row e : Nat) : Nat := cdiv (e * d.kRatio row) 65536

/-- A fired shot's measured energy enters the ratio of its row (R96). -/
def Dev.krAdd (d : Dev) (row em eL : Nat) : Dev :=
  { d with led := { d.led with
      kr := Tab.put d.led.kr row (((em, eL) :: Tab.getD d.led.kr row []).take 256)
      krN := Tab.put d.led.krN row (min 256 (Tab.getD d.led.krN row 0 + 1)) } }

/-! ## The stage tick's work (R99, R104, R105, R120) -/

/-- The outcome of the comparison of a stage: the cause of a disagreement at once, and the run of disagreeing stages (R104). -/
def ledgerCompare (lim : Bytes) (eL eP : Int) (secL secP run : Nat) : Nat × Nat :=
  let floor : Int := limFloor lim
  if eL < floor then (if floor ≤ eP then (1, run) else (0, run))
  else if 1 < ((secP : Int) - secL).natAbs then (2, run)
  else if (limTol lim : Int) * eL < 100 * (eP - eL).natAbs then
    (if limStages lim ≤ run + 1 then (3, run + 1) else (0, run + 1))
  else (0, 0)

/-- The channels disagree (R105). -/
def Dev.ledgerDisagree (d : Dev) (cause : Nat) : Dev :=
  ((d.setB F.LEDGER_STATUS.DISAGREE true).set F.LEDGER_STATUS.CAUSE cause).disarm.raise 6 2

/-- Window sums of a channel as they are read until the next stage tick (R120). -/
def Dev.cellSums (d : Dev) (lim : Bytes) (ch : LedgerCh) : Tab Nat :=
  ch.sums.filterMap fun x =>
    let s := windowSum x.2 (d.bucket lim (x.1 % 3))
    if s = 0 then none else some (x.1, s)

/-- Refunds, comparison and a new stage of both ledger channels (R99, R104, R120); the run of disagreeing stages starts again once the
channels have disagreed (log 103). -/
def Dev.ledgerStage (d : Dev) : Dev :=
  if !d.ledgerBank then d
  else
    let lim := d.tab 0x7005
    let d1 := d.ledgerRefunds
    let r := ledgerCompare lim d1.led.logic.stageE d1.led.proc.stageE d1.led.logic.sector d1.led.proc.sector d1.led.run
    let fresh (c : LedgerCh) : LedgerCh := { c with stageE := 0, tick := d1.cellSums lim c }
    let d2 := { d1 with led := { d1.led with run := r.2, logic := fresh d1.led.logic, proc := fresh d1.led.proc } }
    if r.1 = 0 then d2 else { d2 with led := { d2.led with run := 0 } }.ledgerDisagree r.1

/-! ## Arming (R108, R424, R425) -/

/-- The ledger of each channel runs with a valid bank (R115, R317). -/
def Dev.logicLedger (d : Dev) : Bool := d.logicRuns && d.ledgerBank
/-- See `logicLedger`; the processor needs the monitor slot (R317). -/
def Dev.procLedger (d : Dev) : Bool := d.procRuns && d.ledgerBank && d.flag F.ADC_MON.EN

/-- The Toll logic turns its enable on: arming begins, in SCAN (R30, R108, R424). -/
def Dev.armStart (d : Dev) : Dev :=
  if !d.st.ticks then d else { d with led := { d.led with arming := 1, armAt := d.up, logic := { d.led.logic with enable := true } } }

/-- Arming is refused: both enables turn off (R424). -/
def Dev.armRefused (d : Dev) : Dev :=
  ({ d.disarm with want := none, wantFixed := none }.set F.DEV_STATE.LAST_REJECT 4).raise 12 6

/-- The hold-off of R102 ends when 65 buckets of W3 have passed since the bank became active. -/
def ledgerHoldoffEnd (d : Dev) : Dev :=
  match d.led.actCyc with
  | none => d
  | some a =>
    let fin := a + 65 * bucketLen (d.tab 0x7005) 2
    if d.flag F.LEDGER_STATUS.HOLDOFF && d.rootRuns then
      ((d.cycleTo fin).setB F.LEDGER_STATUS.HOLDOFF false).raise 6 4
    else d

/-- LEDGER_HOLDOFF_END (R102). -/
def execLedgerHoldoffEnd (s : State) : Out := onDev ledgerHoldoffEnd s

/-- The processor's 10 µs check that EM_ARM_N stays high with one enable (R424). -/
def armHighCheckExpiry (stayedHigh : Bool) (d : Dev) : Dev :=
  if d.led.arming ≠ 1 then d
  else if stayedHigh then
    let d1 := d.advanceTo (d.led.armAt + 10000)
    { d1 with led := { d1.led with arming := 2, armAt := d1.up, proc := { d1.led.proc with enable := true } } }
  else d.disarm.tollFault 6

/-- ARM_HIGH_CHECK_EXPIRY (R424). -/
def execArmHighCheckExpiry (stayedHigh : Bool) (s : State) : Out := onDev (armHighCheckExpiry stayedHigh) s

/-- The processor's check that EM_ARM_N reads low within 2 µs of both enables (R424). -/
def armLowCheckExpiry (low : Bool) (d : Dev) : Dev :=
  if d.led.arming ≠ 2 then d
  else if low then { d with led := { d.led with arming := 3 } }
  else d.armRefused

/-- ARM_LOW_CHECK_EXPIRY (R424). -/
def execArmLowCheckExpiry (low : Bool) (s : State) : Out := onDev (armLowCheckExpiry low) s

/-- The settling time emitter.arm_settle passes: the transition to RANGING takes effect at the next frame tick (R108). -/
def armSettleExpiry (d : Dev) : Dev :=
  if d.led.arming ≠ 3 then d
  else
    let d1 := d.advanceTo (d.led.armAt + 1000 * d.get F.P.armSettle)
    { d1 with led := { d1.led with arming := 4 } }

/-- ARM_SETTLE_EXPIRY (R108). -/
def execArmSettleExpiry (s : State) : Out := onDev armSettleExpiry s

/-- A reading of EM_ARM_N: low while an enable is off is a Toll channel fault (R425). -/
def emArmReadback (high : Bool) (d : Dev) : Dev := if high || d.armed then d else d.disarm.tollFault 6

/-- EM_ARM_READBACK (R425). -/
def execEmArmReadback (high : Bool) (s : State) : Out := onDev (emArmReadback high) s

/-! ## EM_FAULT_N (R110) -/

/-- EM_FAULT_N is registered low. -/
def emFaultRegistered (d : Dev) : Dev :=
  if d.flag F.EM_STATUS.EM_FAULT || d.life.boot < 4 then d
  else ((d.setB F.EM_STATUS.EM_FAULT true).inc F.EM_FAULT_COUNT).raise 6 3

/-- EM_FAULT_REGISTERED (R110). -/
def execEmFaultRegistered (s : State) : Out := onDev emFaultRegistered s

/-- The registered low ends. -/
def emFaultRelease (d : Dev) : Dev :=
  if d.flag F.EM_STATUS.EM_FAULT then { d with seq := { d.seq with emLoss := false } }.setB F.EM_STATUS.EM_FAULT false else d

/-- EM_FAULT_RELEASE (R110). -/
def execEmFaultRelease (s : State) : Out := onDev emFaultRelease s

end Sys2Proof.Machine
end

