-- ==== Sys2Proof/Machine/Shots.lean ====
section
/-! DEFINITION. The shot slot: the waybill executor, the ledger decision, the fire edge, start stamps, return edges, the
monitor energy and the end of the shot (R10–R22, R75–R101, R160–R189, R261–R264, R315–R317, R326, R410, R493). -/

namespace Sys2Proof.Machine

/-! ## The coming slot (R18–R22, R81, R493, R553) -/

/-- The block as an action for the coming slot meets it: from the preparation point of a tick, what the tick will bring (R22). -/
def Dev.ahead (d : Dev) : Dev :=
  if !d.seq.prep then d
  else
    let goes := d.seq.prepFrame && d.wantFixed.isSome
    let d1 := fireDues (fun x => x.fixed && (x.point = .stage || x.point = .frame || (goes && x.point = .stateChange))) d.dues [] d
    let d2 := d1.swapFixed
    { d2 with st := if d.seq.prepFrame then d.wantFixed.getD d.st else d.st }

/-- Pacing in effect (R19, R371, R386). -/
def Dev.pacing (d : Dev) : Nat :=
  let p := d.get F.P.framePacing
  if (p = 1 && !d.timeValid) || (p = 3 && d.bx.tickLost) then 0 else p

/-- A follower in stage lock (R371). -/
def Dev.stageLocks (d : Dev) : Bool :=
  d.get F.BX_STRING.ROLE = 2 && d.flag F.BX_STRING.POSITIONED && d.get F.BX_STRING.LOCK_MODE = 2 && d.pacing = 3

/-- Throttle level that the coming slot meets (R493). -/
def Dev.slotLevel (d : Dev) : Nat := if d.seq.prep && d.therm.levelDue then d.therm.level else d.therm.inEffect

/-- Accumulator before the coming slot. -/
def Dev.slotAcc (d : Dev) : Nat := if d.seq.prep && d.therm.levelDue then 0 else d.seq.acc

/-- The thermal manager makes the coming slot idle (R493); `a` is the block ahead. -/
def Dev.slotThrottled (d a : Dev) : Bool := a.st.armed && 8 ≤ d.slotAcc + d.slotLevel

/-- Stage, shot index and idleness of the coming slot; none where no slot follows. -/
def Dev.nextSlot (d a : Dev) : Option (Nat × Nat × Bool) :=
  if !d.st.ticks || !a.st.ticks then none
  else if d.seq.prep then
    let k := if d.seq.prepFrame then 0 else d.seq.stage + 1
    let k := if d.stageLocks && d.bx.tickNew then d.bx.tickStage else k
    some (k, 0, d.slotThrottled a)
  else if d.ns ≤ d.seq.j then some (d.seq.stage, d.seq.j, true)
  else some (d.seq.stage, d.seq.j, d.slotThrottled a)

/-- What a shot of a stage fires: the waybill entry, the manifest index and entry; none while the waybill is empty (R553). -/
structure Fire where
  wb : Nat
  m : Nat
  mf : Nat
  dark : Bool

/-- Reads the tables for shot j of a stage (R80–R83). -/
def EmTabs.fire (t : EmTabs) (stage j : Nat) : Option Fire :=
  if t.wb = [] then none else
    let w := wbEntry t.wb stage
    let m := wbShot w j
    let f := mfEntry t.man m
    some { wb := w, m := m, mf := f, dark := t.dark f }

/-- The sector of the processor for the coming stage (R92, R146). -/
def Dev.procSector (d : Dev) (az : Int) (first : Bool) : Nat :=
  if d.axes = 0 then sectorOf az else if first then sectorOf (at' d.drv.ang 0 0) else d.led.proc.sector

/-- The instant at which the slot in progress ends. -/
def Dev.slotEndCyc (d : Dev) : Nat := match d.seq.shot with | some sh => sh.start + sh.len | none => d.cyc

/-! ## The ledger decision (R97, R98) -/

/-- Notes the refusal of a shot (R98, R116). Where both channels refuse in different cells the logic's is recorded, and WINDOW is 0 where
no window failed, as when a channel only missed the deadline (log 103). -/
def Dev.noteRefusal (d : Dev) (badL badP : Bool) (cellL cellP winL winP : Nat) : Dev :=
  let win := if badL && badP then (if winL = 0 || winP = 0 then max winL winP else min winL winP) else if badL then winL else winP
  let d1 := ((d.set F.LEDGER_LAST_REFUSAL.CELL (if badL then cellL else cellP)).set F.LEDGER_LAST_REFUSAL.WINDOW win).set
    F.LEDGER_LAST_REFUSAL.CHANNELS (nat badL + 2 * nat badP)
  (d1.inc (if badL && badP then F.REFUSED_BOTH else F.REFUSED_ONE_SIDED)).raise 6 1

/-- Both channels decide a shot (R92–R98); `a` is the block ahead. -/
def Dev.decideShot (d a : Dev) (f : Fire) (first : Bool) (inL inP : Bool) : Dev :=
  let lim := a.tab 0x7005
  let t := a.emTabs
  let az := wbAz f.wb
  let cellL := cellOf f.mf az
  let cellP := 64 * mfLedgerRow f.mf + a.procSector az first
  let eL := t.energy lim f.mf
  let eP := a.predict (mfRow f.mf) eL
  let winL := a.refusing lim a.led.logic cellL eL
  let winP := a.refusing lim a.led.proc cellP eP
  let okL := inL && a.logicLedger && winL = 0
  let okP := inP && a.procLedger && winP = 0
  let bs := a.buckets lim
  let logic := if okL then d.led.logic.debit cellL bs eL else d.led.logic
  let proc := if okP then d.led.proc.debit cellP bs eP else d.led.proc
  let d1 := { d with
    led := { d.led with logic := logic, proc := proc }
    seq := { d.seq with dec :=
      { made := true, logicOk := okL, procOk := okP, decided := true, faultLow := d.flag F.EM_STATUS.EM_FAULT
        eL := eL, ePred := eP, cellL := cellL, cellP := cellP, bktL := bs, bktP := bs } } }
  let d2 := (d1.add F.LEDGER_LOGIC_DEBITS (nat okL)).add F.LEDGER_PROC_DEBITS (nat okP)
  if okL && okP then d2 else d2.noteRefusal (!okL) (!okP) cellL cellP winL winP

/-- The decision for the coming shot; in a shot that the channels do not decide nothing is debited, refunded or counted (R97). -/
def Dev.decideNext (d : Dev) (inL inP : Bool) : Dev :=
  let a := d.ahead
  match d.nextSlot a with
  | some (k, j, false) =>
    match a.emTabs.fire k j with
    | some f =>
      if f.dark || !a.armed then { d with seq := { d.seq with dec := { made := true } } } else d.decideShot a f d.seq.prep inL inP
    | none => { d with seq := { d.seq with dec := { made := true } } }
  | _ => d

/-- 300 ns before the fire edge of the coming shot (R97). -/
def ledgerDecision (logicInTime procInTime : Bool) (d : Dev) : Dev :=
  if d.seq.dec.made || !d.st.ticks then d else (d.cycleTo (d.slotEndCyc - 300)).decideNext logicInTime procInTime

/-- LEDGER_DECISION (R97). -/
def execLedgerDecision (logicInTime procInTime : Bool) (s : State) : Out := onDev (ledgerDecision logicInTime procInTime) s

/-- The row select edge of the coming slot: at most one row is active, and none for an idle slot or while EM_ARM_N is high
(R75, R76). -/
def rowSelectEdge (d : Dev) : Dev :=
  let a := d.ahead
  match d.nextSlot a with
  | none => d
  | some (k, j, idle) =>
    let d1 := d.cycleTo (d.slotEndCyc - a.rowLead)
    match a.emTabs.fire k j with
    | some f =>
      if idle || !d1.armed then d1.setB F.EM_STATUS.ROW_VALID false
      else (d1.set F.EM_STATUS.ROW (mfRow f.mf)).setB F.EM_STATUS.ROW_VALID true
    | none => d1.setB F.EM_STATUS.ROW_VALID false

/-- ROW_SELECT_EDGE (R75). -/
def execRowSelectEdge (s : State) : Out := onDev rowSelectEdge s

/-- The coming shot's pulses are to go out. -/
def Dev.willFire (d : Dev) : Bool :=
  let c := d.seq.dec
  c.decided && c.logicOk && c.procOk && !c.faultLow && d.armed && !d.flag F.EM_STATUS.EM_FAULT

/-- The monitor slot of the coming shot takes ADC0 (R312, R315). -/
def monitorSlotStart (d : Dev) : Dev :=
  let a := d.ahead
  match d.nextSlot a with
  | some (k, j, false) =>
    match a.emTabs.fire k j with
    | some f =>
      if d.willFire && d.flag F.ADC_MON.EN then
        let a := instantBefore (d.slotEndCyc - 48)
        (d.cycleTo a).slotStart 0 a (instantAt (d.slotEndCyc + max 32 (d.get F.ADC_MON.MON_WIN))) (mfStart f.mf) (d.get F.ADC_MON.GAIN)
      else d
    | none => d
  | _ => d

/-- MONITOR_SLOT_START (R315). -/
def execMonitorSlotStart (s : State) : Out := onDev monitorSlotStart s

/-! ## The nominal fire edge (R11, R20–R22, R77, R98, R261, R262) -/

/-- Whether the slot that begins ends its stage, whether that tick is a frame tick, and whether the frame ends short. -/
def Dev.endsStage (d : Dev) (stage j : Nat) (idle : Bool) (len : Nat) : Bool × Bool × Bool :=
  let lastReal := !idle && j + 1 = d.ns
  let lastStage := d.stages ≤ stage + 1
  let paced := d.pacing ≠ 0 && d.seq.pace
  let long := decide (255 * 2 ^ 32 ≤ (d.advance len).nowNs - d.seq.frameStamp / 2 ^ 40)
  if d.stageLocks then
    let frame := d.bx.tickNew && d.bx.tickFrame
    (lastReal, lastReal && (frame || long), lastReal && !frame && long)
  else if lastReal then
    if lastStage then (if d.pacing = 0 || paced then (true, true, false) else (false, false, false))
    else if paced then (true, true, true)
    else (true, long, long)
  else if idle && d.ns ≤ j then (if d.pacing = 0 || paced then (true, true, false) else (false, false, false))
  else (false, false, false)

/-- The preparation point of a tick (R22): its writes, swaps, frame status and transitions are fixed. -/
def Dev.prepare (d : Dev) (frame short : Bool) : Dev :=
  let sync := d.seq.syncSwap
  let d1 := (d.fixDues frame).fixBanks frame sync
  let goes := frame && d.want.isSome && (d.want ≠ some .ranging || d.st.armed || d.led.arming = 4)
  let back := frame && d.want.isNone && d.st = .degraded && d.life.retired = []
  { d1 with
    wantFixed := if goes then d.want else if back then some .ranging else none
    seq := { d1.seq with
      prep := true, prepFrame := frame, shortFrame := d1.seq.shortFrame || short
      syncFixed := sync, syncSwap := false, pace := if frame then false else d1.seq.pace } }

/-- The debits of a shot count in the energy of its stage (R104). -/
def Dev.stageEnergy (d : Dev) (c : Decision) : Dev :=
  { d with led := { d.led with
      logic := { d.led.logic with stageE := d.led.logic.stageE + (if c.logicOk then c.eL else 0 : Nat) }
      proc := { d.led.proc with stageE := d.led.proc.stageE + (if c.procOk then c.ePred else 0 : Nat) } } }

/-- The pulses of a fired shot, with the second pulses of a pair (R77, R264). -/
def EmTabs.allPulses (t : EmTabs) (mf gap : Nat) : List (Nat × Nat × Nat) :=
  let l := t.pulses mf
  if mfPair mf then l ++ l.map fun p => (p.1, p.2.1 + 64 * gap, p.2.2) else l

/-- An idle shot begins (R13); a debit made for a shot in its place is refunded (R99), and a monitor slot ends (log 107). -/
def Dev.beginIdle (d : Dev) (j : Nat) : Dev :=
  { d.dropDecision.slotDrop 0 with seq := { d.seq with
      shot := some { idle := true, j := j, start := d.cyc, len := d.tp }
      idleCnt := d.seq.idleCnt + 1, dec := {}, acc := if d.ns ≤ j then d.seq.acc else d.seq.acc + d.therm.inEffect - 8 } }.setB
    F.EM_STATUS.ROW_VALID false

/-- A real shot begins: dither, pulses, refunds to come (R77, R98, R99, R261, R262). -/
def Dev.beginShot (d : Dev) (j : Nat) (f : Option Fire) : Dev :=
  let c := d.seq.dec
  let fired := d.willFire && f.isSome
  let w := (f.map (·.wb)).getD 0
  let mf := (f.map (·.mf)).getD 0
  let lf := ditherNext (d.get F.CLUT_LFSR.STATE)
  let dith := if d.flag F.P.ditherEnable && wbDither w = 0 then lf.2 else 0
  let gap := pairGap (d.get F.CLUT_SEED.SEED)
  let sh : Shot :=
    { idle := false, j := j, mIdx := (f.map (·.m)).getD 0, start := d.cyc, len := d.tp + dith, row := mfRow mf
      rxMap := if f.isSome then mfRx mf else 256, startSel := mfStart mf, pair := mfPair mf
      dark := match f with | some f => f.dark | none => false
      refused := c.decided && !(c.logicOk && c.procOk), fired := fired, azimuth := wbAz w
      eL := c.eL, ePred := c.ePred, cellL := c.cellL, cellP := c.cellP, bktP := c.bktP
      pulses := if fired then d.emTabs.allPulses mf gap else [] }
  let d1 := (d.stageEnergy c).set F.CLUT_LFSR.STATE lf.1
  let d2 := if fired then d1.inc F.LEDGER_SHOTS_FIRED else if c.decided then d1.pendRefunds c else d1
  let d3 := { d2 with
    seq := { d2.seq with shot := some sh, j := j + 1, listen := d2.seq.listen + sh.len, dec := {}, acc := if d2.st.armed then d2.seq.acc + d2.therm.inEffect else d2.seq.acc }
    cvys := Tab.mapVal (fun v : Convoy => { v with start := none }) d2.cvys }
  (if fired then d3 else d3.slotDrop 0).seqSource 2

/-- The events that the shot before passed on reach the slot that begins (R170). -/
def Dev.takeAllCarried (d : Dev) : Dev :=
  match d.seq.shot with
  | none => d
  | some sh => d.each (d.chans.map (·.1)) fun d ch => d.takeCarried sh ch

/-- What the stops of the slot that begins add to, as it stands at the fire edge (R176). -/
def Dev.markShot (d : Dev) : Dev :=
  { d with
    seq := { d.seq with cntMark := d.cnt }
    chans := Tab.mapVal (fun c : Chan => { c with nMark := c.nStops, ovfMark := c.stopOvf }) d.chans
    cvys := Tab.ofFn 16 fun c =>
      let v := d.cvy c
      { v with tisMark := v.tis, rejMark := d.get (F.TIS_REJECTED c), preMark := d.get (F.CVY_PRESTART c) } }

/-- A slot begins. -/
def nominalFireEdge (d : Dev) : Dev :=
  if !d.st.ticks || d.seq.shot.isSome || d.seq.stageDue || d.seq.frameDue || d.seq.stageLock then d
  else
    match d.nextSlot d with
    | none => d
    | some (k, j, idle) =>
      let f := d.emTabs.fire k j
      let d0 := d.markShot
      let d1 := if idle then d0.beginIdle j
        else (if d.seq.dec.made then d0 else d0.decideNext false false).beginShot j f
      let d2 := { d1 with seq := { d1.seq with j := if idle && d.ns ≤ j then d.seq.j + 1 else d1.seq.j } }.takeAllCarried
      let len := match d2.seq.shot with | some sh => sh.len | none => 0
      let e := d2.endsStage k j idle len
      if e.1 then d2.prepare e.2.1 e.2.2 else d2

/-- NOMINAL_FIRE_EDGE (R11). -/
def execNominalFireEdge (s : State) : Out := onDev nominalFireEdge s

/-! ## Start stamps (R89–R91, R172) -/

/-- A rising edge at a start input of a convoy. -/
def startEdge (convoy : Fin 16) (input : Fin 2) (n : Nat) (q : Fin 64) (d : Dev) : Dev :=
  match d.seq.shot with
  | none => d
  | some sh =>
    let c := convoy.val
    let k := input.val
    let on := if k = 0 then d.flag F.EM_CTRL.START0_EN else d.flag F.EM_CTRL.START1_EN
    let ts := rhu (1024 * n + d.nl c q + d.sskew c k) 16
    let ok := sh.fired && sh.startSel = k && on && d.locked c && !d.resting c && !d.cvyRetired c && d.cvyRuns c && d.rootRuns &&
      (d.cvy c).start.isNone && !sh.missing && 0 ≤ ts && ts < (64 * d.startWin : Nat)
    if !ok then d
    else
      let d1 := { d.modCvy c (fun v => { v with start := some ts }) with
        seq := { d.seq with shot := some { sh with startSeen := true } } }
      let d2 := if d1.tisTakes c 2 then d1.tisSample c (16 * ts) else d1
      d2.each (List.range 32) fun d i => if (d.chan (32 * c + i)).held = [] then d else d.flushHeld (32 * c + i) ts

/-- START_EDGE (R89). -/
def execStartEdge (convoy : Fin 16) (input : Fin 2) (n : Nat) (q : Fin 64) (s : State) : Out := onDev (startEdge convoy input n q) s

/-- The start window closes without a start edge (R90). -/
def startWindowClose (d : Dev) : Dev :=
  match d.seq.shot with
  | none => d
  | some sh =>
    let d1 := d.cycleTo (sh.start + d.startWin)
    if sh.fired && !sh.startSeen && !sh.missing then
      let d2 := { d1 with seq := { d1.seq with shot := some { sh with missing := true } } }
      ((d2.inc F.EM_START_MISSING).raise 6 0).faultOn 4 sh.startSel 6 0
    else d1

/-- START_WINDOW_CLOSE (R90). -/
def execStartWindowClose (s : State) : Out := onDev startWindowClose s

/-! ## Return edges (R163–R170) -/

/-- A rising edge at a channel. -/
def retRisingEdge (ch : Fin 512) (n : Nat) (q : Fin 64) (d : Dev) : Dev :=
  match d.seq.shot with
  | some sh => if d.stamps ch then d.risingEdge sh ch n q else d
  | none => d

/-- RET_RISING_EDGE (R164). -/
def execRetRisingEdge (ch : Fin 512) (n : Nat) (q : Fin 64) (s : State) : Out := onDev (retRisingEdge ch n q) s

/-- A falling edge at a channel. -/
def retFallingEdge (ch : Fin 512) (n : Nat) (q : Fin 64) (d : Dev) : Dev :=
  match d.seq.shot with
  | some sh => if d.stamps ch then d.fallingEdge sh ch n q else d
  | none => d

/-- RET_FALLING_EDGE (R165). -/
def execRetFallingEdge (ch : Fin 512) (n : Nat) (q : Fin 64) (s : State) : Out := onDev (retFallingEdge ch n q) s

/-- The outrider pulses are injected (R184). -/
def outriderInject (d : Dev) : Dev :=
  match d.seq.shot with
  | some sh => if sh.idle then d else
      { d.cycleTo (sh.start + sh.tInj) with seq := { d.seq with shot := some { sh with orInj := true } } }
  | none => d

/-- OUTRIDER_INJECT (R184). -/
def execOutriderInject (s : State) : Out := onDev outriderInject s

/-! ## The monitor energy (R96, R100, R315, R317, R326) -/

/-- E_meas in 2^-16 pJ (R96, R317). -/
def eMeas (code endSample mon pred : Nat) : Nat :=
  if endSample = 4095 then max (4095 * mon) (2 * pred * 65536) else code * mon

/-- A shot of a source-4 unit qualifies: it is stamped, and it uses ACQ_ET's manifest entry (R326). -/
def Dev.etQualifies (d : Dev) (u : Nat) (sh : Shot) : Bool :=
  let x := d.unit u
  x.armed && !x.closed && d.acqRuns && d.acqSrc u = 4 && sh.startSeen && sh.mIdx = d.get (F.ACQ_ET.ET_MANIFEST u)

/-- The step-0 shot of a sweep: its fire edge is the trigger instant, and a record that does not fit spills (R326, R327). -/
def Dev.etBegin (d : Dev) (u : Nat) (sh : Shot) : Dev :=
  let spill := d.acqSpills u
  let d1 := d.modUnit u fun x => { x with trigT := d.stampAt sh.start, rflags := setBit x.rflags 1 spill }
  if spill then (d1.incidentTrigger 3).setB (F.ACQ_STATUS.SPILLING u) true else d1

/-- A qualifying shot stores its equivalent-time samples (R326): sample i of step j is entry 256 i + j, and entries beyond the buffer
stream into the incident (R327). -/
def Dev.etStep (d : Dev) (sh : Shot) (et : List Nat) : Dev :=
  d.each [0, 1, 2, 3] fun d u =>
    if !d.etQualifies u sh then d
    else
      let j := (d.unit u).etJ
      let d0 := if j = 0 then d.etBegin u sh else d
      let opn := bitAt (d.get (F.ADC_STATUS.OPEN 0)) sh.startSel
      let d1 := d0.each (List.range (d.get (F.ACQ_ET.ET_SAMPLES u) + 1)) fun d i =>
        let w := sampleWord false opn (d.get F.ADC_MON.GAIN) sh.startSel ((d.get (F.ACQ_ET.ET_START u) + 4 * i + 48) / 4) (at' et i 0 % 4096)
        let d1 := d.modUnit u fun x => { x with et := Tab.put x.et (256 * i + j) w }
        if bitAt (d.unit u).rflags 1 && d.acqRoom u ≤ 256 * i + j then d1.acqSpill u [w] 1 else d1
      let d2 := d1.modUnit u fun x => { x with etJ := (j + 1) % 256 }
      if j = 255 then d2.acqClose u d2.nowNs else d2

/-- The samples of a monitor slot (R315, R318): the base and the end sample, in an equivalent-time shot the others of its grid, and free
values where nothing gives the code (log 4). -/
def Dev.slotSamples (d : Dev) (sh : Shot) (base fin : Nat) (et : List Nat) : List CSample × Dev :=
  let c := d.convN 0
  let r := d.freeSamples c.slotIn c.slotGain (bitAt (d.get (F.ADC_STATUS.OPEN 0)) c.slotIn) c.slotFrom ((c.slotTo + 4 - c.slotFrom) / 4)
  let start := ([0, 1, 2, 3].find? fun u => d.etQualifies u sh).map fun u => sh.start + d.get (F.ACQ_ET.ET_START u)
  let at_ (s : CSample) : Nat := match start with
    | some z => if z ≤ s.t then at' et ((s.t - z) / 4) s.code else s.code
    | none => s.code
  (r.1.map fun s => { s with code := if s.t = c.slotTo then fin else if s.t = instantBefore (sh.start - 2) then base else at_ s }, r.2)

/-- The monitor slot of a shot has ended and its samples are known (R315). -/
def Dev.monitorSlot (d : Dev) (sh : Shot) (base fin : Nat) (et : List Nat) : Dev :=
  if !(d.convN 0).slot then d
  else let r := (d.cycleTo ((d.convN 0).slotTo + 36)).slotSamples sh base fin et; r.2.slotDone 0 r.1

/-- The top-up of the processor (R100). -/
def Dev.topUp (d : Dev) (sh : Shot) (em : Nat) : Dev :=
  let up := cdiv em 65536 - sh.ePred
  if up = 0 then d
  else
    let p := d.led.proc.debit sh.cellP sh.bktP up
    { d with led := { d.led with proc := { p with stageE := p.stageE + up } } }

/-- The monitor energy code is delivered to the Toll processor; `base` and `fin` are the base and the end sample. -/
def monitorEnergyDelivered (base fin : Nat) (et : List Nat) (d : Dev) : Dev :=
  match d.seq.shot with
  | none => d
  | some sh =>
    if !sh.fired || sh.toppedUp || !d.flag F.ADC_MON.EN then d
    else
      let code := fin - base
      let em := eMeas code fin (limMon (d.tab 0x7005)) sh.ePred
      let d1 := { d with mon := (base, code), seq := { d.seq with shot := some { sh with toppedUp := true } } }
      let d2 := ((d1.topUp sh em).krAdd sh.row em sh.eL).raiseIf (fin = 4095) 8 1
      ((d2.monitorSlot sh base fin et).feedEnergy sh.startSel sh.start code).etStep sh et

/-- MONITOR_ENERGY_DELIVERED (R315). -/
def execMonitorEnergyDelivered (base code : Nat) (et : List Nat) (s : State) : Out := onDev (monitorEnergyDelivered base code et) s

/-! ## The end of the shot (R10, R165, R170, R212, R410) -/

/-- A counting shot of a channel hits protective fields of the logic (R410). -/
def Dev.zoneCount (d : Dev) (sh : Shot) (ch : Nat) : Dev :=
  let z := d.tab 0x7071
  if rd 2 z 4 = 0 then d
  else if d.shotListens sh ch && (d.startStamp sh ch).isSome then
    let fs := zoneShot z (sectorOf sh.azimuth) ch (d.chan ch).stops
    if fs = [] then d else d.modChan ch fun c => { c with zoneHits := addHits c.zoneHits fs }
  else d

/-- The slot in progress ends. -/
def shotEnd (d : Dev) : Dev :=
  match d.seq.shot with
  | none => d
  | some sh =>
    let d1 := (d.cycleTo (sh.start + sh.len)).slotDrop 0
    let d2 := d1.each (List.range 512) fun d ch => (d.zoneCount sh ch).endShotChan sh ch
    let counts := !sh.idle && !sh.refused && !sh.missing && (sh.dark || sh.startSeen)
    { d2 with seq := { d2.seq with
        shot := none, stageDue := d2.seq.prep, counting := d2.seq.counting + nat counts
        allPair := if counts then d2.seq.allPair && sh.pair else d2.seq.allPair } }

/-- SHOT_END (R10). -/
def execShotEnd (s : State) : Out := onDev shotEnd s

end Sys2Proof.Machine
end

