-- ==== Sys2Proof/Machine/Records.lean ====
section
/-! DEFINITION. The record of a channel: finished, absent, or abandoned (R29, R218, R220, R235, R250, R251, R253, R254, R259, R268). -/

namespace Sys2Proof.Machine

/-- A record is finished, or was finished by force. -/
def Dev.recDone (d : Dev) (ch : Nat) : Bool := (Tab.getD d.recs ch {}).done

/-- What extraction uses of a channel's stage. -/
def Dev.echoIn (d : Dev) (ch : Nat) : EchoIn :=
  let i := d.seq.info
  let b := Tab.getD d.ech ch {}
  let c := d.chan ch
  let w := 32 * 2 ^ i.get F.TALLY_CTRL.BIN_WIDTH
  let nb := cdiv (64 * i.get F.P.shotPeriod) w
  { nb := nb, w := w, nc := b.nc, ambient := c.ambPrev, listen := i.listen, coarse := (dense b.coarse nb).toArray
    zoom := b.zoom, starts := b.starts, filt := filterOf (d.tab (0x7030 + ch / 32)), info := i, a16 := c.a16
    offset := rangeOffset (i.tab 0x7051) ch, allPair := i.allPair, stored := Tab.find d.pStore (512 * i.index + ch)
    spare := bitAt (Tab.getD d.recs ch {}).flags 16 }

/-- A record without extraction: absent or sun-blinded (R235, R253, R254, R259). -/
def Dev.emptyRecord (d : Dev) (ch : Nat) (r : Rec) : Dev :=
  let key := 512 * d.seq.info.index + ch
  let sun := bitAt r.flags 10
  let d1 := { d with
    recs := Tab.put d.recs ch { r with echoes := [], tested := [], done := true }
    fStore := Tab.put d.fStore key []
    pStore := if sun then Tab.del d.pStore key else Tab.put d.pStore key [] }
  if sun then d1.inc F.CLUT_SUN_BLINDED else d1

/-- Counts the echoes of a record that carry a flag. -/
def flagCount (i : Nat) (l : List Echo) : Nat := l.countP fun x => bitAt x.flags i

/-- The counters of a record (R247, R274). -/
def Dev.countEchoes (d : Dev) (j : Judged) : Dev :=
  ((((((((d.add F.TALLY_SAT_ECHOES (flagCount 9 j.tested)).add F.TALLY_COARSE_ONLY (flagCount 8 j.tested)).add
    F.CLUT_RAIN_SUSPECT (flagCount 11 j.tested)).add F.CLUT_FOREIGN_SUSPECT (flagCount 12 j.tested)).add
    F.CLUT_ZOOM_UNSTABLE (flagCount 13 j.tested)).add F.CLUT_DROPPED_NEAR j.droppedNear).add
    F.CLUT_DROPPED_RAIN j.droppedRain).add F.CLUT_DROPPED_FOREIGN j.droppedForeign)

/-- A record with its echoes: the record, the stores, the counters (R218, R250, R259, R268, R412). -/
def Dev.fullRecord (d : Dev) (ch : Nat) (r : Rec) (j : Judged) : Dev :=
  let i := d.seq.info
  let key := 512 * i.index + ch
  let mark := markField d.toll.cfg i ch
  let seeds := (seedCands (i.get F.ZOOM_CFG.SEED_CONF) (i.get F.TALLY_CTRL.SEED_EXCL ≠ 0) j.kept).take 8
  let d1 := { d with
    recs := Tab.put d.recs ch { r with echoes := j.kept.map mark, tested := j.tested.map mark, done := true }
    fStore := Tab.put d.fStore key (seeds.map (uns 32)), pStore := Tab.put d.pStore key j.persist
    seq := { d.seq with foreignSeen := d.seq.foreignSeen || 0 < flagCount 12 j.tested } }
  d1.countEchoes j

/-- A record abandoned in progress: the echoes found so far, with the overrun flag (R29, R251). How far the engine came is a free value:
`k` candidates, and step `n` of R250 (log 4). The persistence entry is written where step 8 was reached; an entry not written in a
stage is stale (R259). -/
def Dev.partialRecord (d : Dev) (ch k n : Nat) : Dev :=
  let i := d.seq.info
  let key := 512 * i.index + ch
  let r := Tab.getD d.recs ch {}
  let j := judgePart (d.echoIn ch) k n
  let mark := markField d.toll.cfg i ch
  ({ d with
    recs := Tab.put d.recs ch { r with
      flags := setBit r.flags 15 true, echoes := j.kept.map mark, tested := j.tested.map mark, done := true }
    pStore := if 8 ≤ n then Tab.put d.pStore key j.persist else Tab.del d.pStore key }).countEchoes j

/-- A record that the engine had not reached: no echoes and the overrun flag (R29). -/
def Dev.missedRecord (d : Dev) (ch : Nat) : Dev :=
  { d with
    recs := Tab.put d.recs ch (overrunRec (Tab.getD d.recs ch {}))
    pStore := Tab.del d.pStore (512 * d.seq.info.index + ch) }

/-- The unfinished records of a convoy are abandoned: the first of them is the one in progress (log 105), the others were not reached
(R29). -/
def Dev.abandonConvoy (d : Dev) (c : Nat) : Dev :=
  let l := ((List.range 32).map (32 * c + ·)).filter fun ch => !d.recDone ch
  match l with
  | [] => d
  | ch :: t =>
    let d1 := t.foldl Dev.missedRecord d
    if bitAt (Tab.getD d.recs ch {}).flags 14 then d1.missedRecord ch
    else
      let k := d1.takeFree 5
      let n := k.2.takeFree 3
      n.2.partialRecord ch k.1 (3 + n.1)

end Sys2Proof.Machine
end

