-- ==== Sys2Proof/Machine/Ticks.lean ====
section
/-! DEFINITION. Stage ticks and frame ticks, pacing and synchronisation (R15–R25, R29, R61, R64, R85, R99–R105, R137, R145,
R163–R166, R187–R194, R209, R246, R253, R254, R275, R286, R371, R385, R386, R413–R416, R485, R509). -/

namespace Sys2Proof.Machine

/-! ## The stage's angle (R145) -/

/-- The stage angle at cycle `mid`: between the bracketing dated angles, or the latest before it while none follows. -/
def angleAt (hist : List (Nat × Int × Int × Bool)) (mid : Nat) : Int × Int × Bool :=
  let before := hist.find? fun h => h.1 ≤ mid
  let after := (hist.filter fun h => mid < h.1).getLast?
  match before, after with
  | some a, some b =>
    let at1 (x y : Int) : Int := x + rhu ((y - x) * ((mid : Int) - a.1)) (b.1 - a.1)
    (at1 a.2.1 b.2.1, at1 a.2.2.1 b.2.2.1, a.2.2.2 || b.2.2.2)
  | some a, none => (a.2.1, a.2.2.1, a.2.2.2)
  | none, some b => (b.2.1, b.2.2.1, b.2.2.2)
  | none, none => (0, 0, false)

/-- Forms the angle of the stage whose records are processed (R145, R278). -/
def Dev.fixAngle (d : Dev) : Dev :=
  let i := d.seq.info
  if !i.valid && i.len = 0 then d
  else
    let axes := let a := i.get F.DRV_CTRL.AXES; if a = 3 then 0 else a
    let r := if axes = 0 then (wbAz (wbEntry (i.tab 0x7000) i.index), 0, false) else angleAt d.drv.hist ((2 * i.startCyc + i.len) / 2)
    { d with seq := { d.seq with info := { i with
        ang0 := r.1, ang1 := if axes = 2 then r.2.1 else 0, interp := r.2.2 && axes ≠ 0 } } }

/-! ## Step 1: the tally buffers swap (R16, R29, R209, R246) -/

/-- The tally snapshot object of a buffer (R249). -/
def snapBytes (b : Buf) (nb : Nat) : Bytes :=
  be 4 b.nc ++ be 4 (b.ovf % 2 ^ 24) ++ be 4 (b.zovf % 2 ^ 24) ++ be 4 nb ++
    ((List.range 8).flatMap fun z => be 4 (match b.starts[z]? with | some s => s | none => 0xFFFFFFFF)) ++
    ((List.range nb).flatMap fun i => be 2 (Tab.getD b.coarse i 0)) ++ (List.range 512).flatMap fun i => be 2 (Tab.getD b.zoom i 0)

/-- An armed snapshot takes the buffer of its channel (R246). -/
def Dev.takeSnap (d : Dev) : Dev :=
  if d.flf.snapArm then
    { d with flf := { d.flf with snapArm := false, snap := snapBytes (d.buf d.flf.snapCh) d.nBins } }.setB
      F.SNAP_CTRL.DONE true
  else d

/-- Records that the echo engines have not finished are abandoned (R29, R238). -/
def Dev.abandon (d : Dev) : Dev :=
  if !d.seq.info.valid then d
  else
    let left := (List.range 512).countP fun ch => !d.recDone ch
    if left = 0 then d
    else
      let d1 := d.each (List.range 16) Dev.abandonConvoy
      ((d1.add F.TALLY_OVERRUN_RECORDS left).setB F.TALLY_STATUS.OVERRUN true).raise 5 0

/-- The units of the stage before go out (R297). -/
def Dev.retireRecords (d : Dev) : Dev :=
  let t := d.nowNs
  d.abandon.finishStage.sendStages t

/-- The buffers swap; the new ones carry the zoom starts of the coming stage (R209). -/
def Dev.swapBuffers (d : Dev) : Dev :=
  let d1 := d.takeSnap
  { d1 with
    ech := d.cnt, cnt := d.seeds.map fun s => (s.1, { starts := s.2 : Buf }), seeds := []
    seq := { d1.seq with side := 1 - d1.seq.side } }

/-! ## Channels at the stage tick (R163, R166, R187–R189, R194, R253) -/

/-- TOT_MIN of the next stage (R166). -/
def Dev.totNext (d : Dev) (c amb listen : Nat) : Nat :=
  let base := d.get (F.CVY_TOT.TOT_BASE c)
  if listen = 0 || !d.flag (F.CVY_CTRL.ADAPT_EN c) then base
  else max base (min (d.get (F.CVY_TOT.TOT_MAX c)) (base + d.get (F.CVY_TOT.TOT_SLOPE c) * (16000 * amb / listen) / 256))

/-- A channel has no valid outrider in a stage that is judged (R189). -/
def Dev.chFaulted (d : Dev) (ch listen : Nat) : Bool :=
  let v := d.cvy (ch / 32)
  d.flag (F.CVY_CTRL.OUTRIDER_EN (ch / 32)) && d.active ch && listen ≠ 0 && (d.chan ch).devCnt = 0 && !v.unlocked && !v.absent

/-- DRIFT after a stage (R187). -/
def driftNext (drift sum : Int) (n : Nat) : Int :=
  if n = 0 then drift else satS 16 (drift + rhu (rhu sum n - drift) 16)

/-- One channel at a stage tick, with the clutter table of the stage. -/
def Dev.chanTick (d : Dev) (clut : Bytes) (ch listen : Nat) (armed : Bool) : Chan :=
  let c := d.chan ch
  let v := ch / 32
  let faulted := d.chFaulted ch listen
  let drift := if d.active ch && d.flag (F.CVY_CTRL.OUTRIDER_EN v) then driftNext c.drift c.devSum c.devCnt else c.drift
  let limit := decide ((d.get (F.CVY_DRIFT_LIM.DRIFT_LIM v)) < drift.natAbs)
  let a16 := if listen = 0 then 0 else 16000 * c.amb / listen
  let blinded := if a16 < rd 2 clut 8 then false else c.blinded || rd 2 clut 6 ≤ a16
  { c.fresh with
    drift := drift, driftLimit := limit, totMin := d.totNext v c.amb listen, faulted := faulted
    blinded := blinded, a16 := a16, ambPrev := c.amb
    rayHits := c.zoneHits, rayNc := (d.buf ch).nc, rayBlind := faulted || !d.active ch, rayDue := armed
    stat := { state := if d.chRetired ch then 2 else if d.resting v then 1 else if faulted then 3 else 0
              driftLimit := limit, ambient := c.amb, drift := drift, totMin := c.totMin, orMiss := c.orMiss
              stopOvf := min 65535 c.stopOvf, stops := c.nStops } }

/-- The tally counts of a buffer are out of balance (R210, R488). -/
def Buf.unbalanced (b : Buf) : Bool := b.poison = [] && (b.coarse.map (·.2)).sum + b.ovf ≠ b.passed

/-- The record of a channel before its extraction: absent, sun-blinded or on the spare bank (R161, R176, R189, R236, R254). -/
def Dev.recordInit (d : Dev) (c : Chan) (ch : Nat) : Rec :=
  let v := d.cvy (ch / 32)
  let sun := c.blinded
  let absent := !d.active ch || c.faulted || v.absent || v.unlocked || (d.buf ch).poison ≠ [] || (d.buf ch).unbalanced || sun
  { flags := setBit (setBit (setBit 0 14 absent) 10 sun) 16 c.spare }

/-- Channel events and faults of a stage tick (R188, R189, R193, R488). -/
def Dev.chanEvents (d before : Dev) (ch : Nat) : Dev :=
  let c := d.chan ch
  let g := 3 + ch / 256
  let s := 3 * (ch / 32 % 8) + 1
  let d1 := d.raiseIf (c.driftLimit && !(before.chan ch).driftLimit) g s
  let d2 := if c.faulted then (d1.raise g s).faultOn 1 ch g s else d1
  if (d2.buf ch).unbalanced then (d2.raise 0 12).faultOn 2 ch 5 4 else d2

/-- SUN_BLIND and the convoys at a stage tick: a change of a mask raises its event; a convoy that relocked is present again, and its
statistics run counts the tick (R176, R192, R253, R275). -/
def Dev.cvyTick (d : Dev) : Dev :=
  let masks := (List.range 16).map fun v => maskOf 32 fun i => (d.chan (32 * v + i)).blinded
  let changed := (List.range 16).any fun v => d.get (F.SUN_BLIND.BLINDED v) ≠ at' masks v 0
  let d1 := (List.range 16).foldl (fun d v => d.set (F.SUN_BLIND.BLINDED v) (at' masks v 0)) d
  let d2 := { d1 with cvys := Tab.ofFn 16 fun v =>
    let x := d1.cvy v
    { x with absent := if d1.locked v then false else x.absent || x.unlocked, unlocked := false
             tis := { x.tis with ticks := x.tis.ticks + 1 } } }
  d2.raiseIf changed 5 6

/-- All channels at the stage tick that ends the stage in progress. -/
def Dev.channelsTick (d : Dev) : Dev :=
  let listen := d.seq.listen
  let clut := clutterOf (Tab.getD d.seq.stTabs 0x7040 [])
  let armed := d.st.armed
  let d1 := { d with chans := Tab.ofFn 512 fun ch => d.chanTick clut ch listen armed }
  let d2 := { d1 with recs := if armed then Tab.ofFn 512 fun ch => d.recordInit (d1.chan ch) ch else [] }
  (d2.each (List.range 512) fun x ch => x.chanEvents d ch).cvyTick

/-! ## The stage that begins -/

/-- Targets of the mirror's axes for a stage (R137). -/
def Dev.loadTargets (d : Dev) (k : Nat) : Dev :=
  if d.drv.tick.setpoint || d.tab 0x7000 = [] then d
  else
    let e := wbEntry (d.tab 0x7000) ((k + d.drv.tick.lead) % max 1 d.stages)
    { d with drv := { d.drv with target := [512 * wbAz e, 512 * wbAx1 e] } }

/-- A new throttle level applies (R493). -/
def Dev.applyLevel (d : Dev) : Dev :=
  if d.therm.levelDue then
    ({ d with therm := { d.therm with inEffect := d.therm.level, levelDue := false }, seq := { d.seq with acc := 0 } }.set
      F.THERM_STATUS.LEVEL d.therm.level).raise 11 1
  else d

/-- A convoy rests and calibrates by itself (R487, R510). -/
def Dev.restCalibrate (d : Dev) (c : Nat) : Dev :=
  if d.resting c && d.flag (F.CVY_STATUS.CAL_BUSY c) then d
  else ((d.restStart c).modCvy c fun v => { v with calWasResting := true }).setB (F.CVY_STATUS.CAL_BUSY c) true

/-- Convoys whose rest bit is set, or whose turn or return has come, begin to rest (R487, R509, R510). -/
def Dev.startRests (d : Dev) : Dev :=
  d.each (List.range 16) fun d c =>
    let v := d.cvy c
    if v.recalTurn || v.returning then d.restCalibrate c else if v.restWant then d.restStart c else d

/-- A stage begins with waybill entry k (R18, R23). -/
def Dev.beginStage (d : Dev) (k : Nat) : Dev :=
  let az := wbAz (wbEntry (d.tab 0x7000) k)
  let sec := if d.axes = 0 then sectorOf az else sectorOf (at' d.drv.ang 0 0)
  let d1 := { d with
    seq := { d.seq with
      stage := k, j := 0, fFail := false, idleCnt := 0, listen := 0, counting := 0, allPair := true, stageStart := d.cyc, stageStamp := d.tb.t40
      prep := false, prepFrame := false, syncFixed := false, stageDue := false, frameDue := false
      stageLock := d.stageLocks }
    led := { d.led with logic := { d.led.logic with sector := sectorOf az }, proc := { d.led.proc with sector := sec } } }
  (d1.loadTargets k).freeDues.freeBanks.clutDue.snapStage

/-- A Basxiop control block is sent (R363). -/
def Dev.bxBlock (d : Dev) (p ty payload : Nat) : Dev :=
  if d.bxUp p then d.modBx p (·.put ty payload) else d

/-- A string lead's TICK for the stage that begins (R371). -/
def Dev.tickOut (d : Dev) (frame : Bool) (k : Nat) : Dev :=
  if d.get F.BX_STRING.ROLE = 1 && d.get (F.BX_STATUS.PEER_ROLE 0) ≠ 1 then d.bxBlock 0 0x55 (nat frame * 2 ^ 47 + k % 2 ^ 14 * 2 ^ 33 + d.nowNs % 1000000000) else d

/-! ## STAGE_TICK -/

/-- The stage that ends, as the pipeline keeps it (R23, R284). -/
def Dev.endedStage (d : Dev) : StageInfo :=
  let q := d.seq
  { index := q.stage, frame := q.frame, stamp40 := q.stageStamp, startCyc := q.stageStart, len := d.cyc - q.stageStart
    wrap := (q.stageStamp / 2 ^ 40 - q.frameStamp / 2 ^ 40) / 2 ^ 32, idle := q.idleCnt, listen := q.listen, last := q.prepFrame
    short := q.prepFrame && q.shortFrame, firstOfFrame := q.frameStart = q.stageStart
    frameStamp := q.frameStamp, stepAt := q.stepAtFrame
    valid := d.st.armed, allPair := q.allPair && 0 < q.counting, regs := q.stRegs, tabs := q.stTabs }

/-- Dated angles that a later stage no longer needs are dropped. -/
def pruneHist (keep : Nat) : List (Nat × Int × Int × Bool) → List (Nat × Int × Int × Bool)
  | [] => []
  | h :: t => if h.1 < keep then [h] else h :: pruneHist keep t

/-- A foreign-suspect echo of the stage before raises its event, at most once per frame (R268). -/
def Dev.foreignEvent (d : Dev) : Dev :=
  let due := d.seq.foreignSeen && !d.seq.foreignRaised
  { d with seq := { d.seq with foreignSeen := false, foreignRaised := d.seq.foreignRaised || due } }.raiseIf due 5 7

/-- The processor has decided every ray of the stage whose records are replaced (R414). -/
def Dev.countStage (d : Dev) : Dev :=
  if d.seq.info.valid && (List.range 512).all (fun ch => (Tab.getD d.recs ch {}).ray) then
    { d with seq := { d.seq with procStages := d.seq.procStages + 1 } } else d

/-- What the pipeline keeps of the stage that ended, begun at clk_tdc count `start`; banks in use come one tick nearer to release
(R23, R145, R483). -/
def Dev.stageEnded (d : Dev) (i : StageInfo) (start : Nat) : Dev :=
  { d with
    seq := { d.seq with info := i }
    drv := { d.drv with hist := pruneHist start d.drv.hist }
    tabs := Tab.mapVal (fun b : Bank => { b with prevBusy := b.prevBusy - 1 }) d.tabs
    life := { d.life with ticks := d.life.ticks + 1 } }

/-- A committed echo filter bank becomes active for the next record (R222). -/
def Dev.filterSwap (d : Dev) (c : Nat) : Dev := if (d.bank (0x7030 + c)).committed then d.swapBank (0x7030 + c) false else d

/-- The echo engines start the first record of the ended stage, each with its newest committed filter bank; a stage without records
starts none (R30, R222). -/
def Dev.filterSwaps (d : Dev) : Dev := if d.seq.info.valid then d.each (List.range 16) Dev.filterSwap else d

/-- What the stage tick does before the writes of step 2: step 1 of R22, with the ended stage handed to the pipeline. -/
def Dev.stageSwap (d : Dev) : Dev :=
  (d.foreignEvent.countStage.retireRecords.channelsTick.swapBuffers.stageEnded d.endedStage d.seq.stageStart).filterSwaps.fixAngle

/-- What the stage tick notes for the stage that begins: EM_FAULT_N at the tick (R110), and a TICK of the string (R371). -/
def Dev.stageMarks (d : Dev) : Dev :=
  { d with seq := { d.seq with emLoss := d.flag F.EM_STATUS.EM_FAULT }, bx := { d.bx with tickDue := d.up, tickNew := d.stageLocks && d.bx.tickNew } }

/-- Steps 1 and 2 of R22, the ledger's comparison, retirements and rests (R22, R99, R104, R485, R493, R509). A retirement takes effect at
the next stage tick: one for a fault that this tick judges waits for the tick after it (log 93). -/
def Dev.stageWork (d : Dev) : Dev :=
  let due := d.seq.retireDue.length
  let d1 := (((d.stageSwap.ledgerStage.commitPoint .stage false).seqSource 4).applyLevel.applyDue due).startRests.stageMarks
  if d1.st.armed then d1 else d1.stopStreams

/-- A transition at a tick (R31): a request accepted after the preparation point, or not yet ready, waits on while the state it asks to
leave still stands. -/
def Dev.gotoAtTick (d : Dev) (st : DevState) : Dev :=
  let d1 := d.goto st true
  if d1.st.armed && d.want ≠ some st then { d1 with want := d.want } else d1

/-- A unit is retired and ranging service remains: RANGING becomes DEGRADED at the stage tick (R31, R485). -/
def Dev.turnDegraded (d : Dev) : Dev :=
  if d.st = .ranging && d.inForce && d.rangingOk then d.gotoAtTick .degraded else d

/-- The stage index that begins: a stage-locked follower takes that of the TICK in place of its own next index (R371). -/
def Dev.stageOf (d : Dev) (own : Nat) : Nat := if d.stageLocks && d.bx.tickNew then d.bx.tickStage else own

/-- The difference of a TICK's STAGE from the follower's own next index is counted (R371). -/
def Dev.countSkip (d : Dev) (own : Nat) : Dev := d.add F.BX_SKIPS ((d.stageOf own : Int) - own).natAbs

/-- The stage tick after its common work: a frame tick waits for its further steps, another tick begins the next stage. -/
def Dev.stageNext (d : Dev) : Dev :=
  if d.seq.prepFrame then { d.tickOut true 0 with seq := { d.seq with stageDue := false, frameDue := true } }
  else
    let own := d.seq.stage + 1
    let d1 := if d.seq.syncFixed then d.swapFixed else d
    ((d1.tickOut false (d.stageOf own)).countSkip own).beginStage (d.stageOf own) |>.turnDegraded

/-- A follower in stage lock learns from the TICK whether its stage tick is a frame tick (R371). -/
def Dev.lockFrame (d : Dev) : Dev :=
  if d.stageLocks && d.bx.tickNew && d.bx.tickFrame && !d.seq.prepFrame then d.prepare true false else d

/-- The work of a stage tick. -/
def Dev.stageTurn (d : Dev) : Dev := d.stageWork.stageNext

/-- The stage tick (R22); then whatever leads to SAFE_HOLD (R31, R105, R110). -/
def stageTick (d : Dev) : Dev :=
  if !d.st.ticks || !d.seq.stageDue then d else d.lockFrame.settled Dev.stageTurn

/-- STAGE_TICK (R22). -/
def execStageTick (s : State) : Out := onDev stageTick s

/-! ## FRAME_TICK -/

/-- Writes committed at frame; a new seed loads the dither generator and a new S makes the stores stale (R218, R259, R261). -/
def Dev.frameWrites (d : Dev) : Dev :=
  let seed := d.dues.any fun x => x.fixed && x.point = .frame && x.key = F.CLUT_SEED.SEED
  let d1 := d.commitPoint .frame false
  let d2 := if seed then d1.set F.CLUT_LFSR.STATE (ditherLoad (d1.get F.CLUT_SEED.SEED)) else d1
  if d2.stages ≠ d.stages then { d2 with fStore := [], pStore := [] } else d2

/-- The steward's state at a checkpoint (R507): the dictionary values that no register holds, and the pending writes. -/
def Dev.checkpoint (d : Dev) : Dev :=
  { d with life := { d.life with
      checkpoint := d.regs.filter fun e => 0x10000000 ≤ Fld.addr e.1, ckptDues := d.dues, ckptUp := d.up } }

/-- TOLL_DIGEST of a firmware image in a slot (R498). -/
def imageTollDigest (img : Bytes) : Bytes := (img.drop 0x38).take 32

/-- The image slot with a number. -/
def Dev.slot (d : Dev) (n : Nat) : Bytes := if n = 0 then d.life.slotA else d.life.slotB

/-- Another TOLL_DIGEST than that of the running Toll firmware waits for a reload (R508). -/
def Dev.tollPending (d : Dev) : Dev :=
  if imageTollDigest (d.slot d.life.active) ≠ d.life.tollFw then (d.setB F.BOOT_STATUS.TOLL_PENDING true).raise 0 13
  else d.setB F.BOOT_STATUS.TOLL_PENDING false

/-- The serving steward passes its state to the ready standby steward, which serves (R505). -/
def Dev.handoverPass (d : Dev) : Dev :=
  if d.life.handover ≠ 2 then d
  else
    let slot := 1 - d.life.active
    let d1 := { d with life := { d.life with handover := 3, active := slot, confirmed := false, tries := 0 } }.recordBoot
    let d2 := ((d1.set F.STEWARD_STATUS.SERVING (1 - d.get F.STEWARD_STATUS.SERVING)).setB F.BOOT_STATUS.CONFIRMED false).set
      F.BOOT_STATUS.SLOT slot
    (((d2.setB F.STEWARD_STATUS.HANDOVER_ACTIVE false).setB F.STEWARD_STATUS.STANDBY_READY true).raise 0 4).tollPending

/-- Step 5 of R22: the transition that the preparation point fixed, a requested one or DEGRADED back to RANGING; otherwise RANGING may
become DEGRADED at this stage tick too (R31). -/
def Dev.frameTransition (d : Dev) : Dev :=
  match d.wantFixed with
  | some st => if d.want.isSome || d.st = .degraded then d.gotoAtTick st else d.turnDegraded
  | none => d.turnDegraded

/-- Steps 3 to 6 of R22 for a block whose step 1 and 2 are done; the frame and its first stage keep the stamp of the tick, latched
before a step is applied (R61, R64). -/
def frameTick (d : Dev) : Dev :=
  if !d.st.ticks || !d.seq.frameDue then d
  else d.settled fun d =>
    let stamp := d.tb.t40
    let stepped := d.tb.accepted && d.tb.step.isSome
    let d1 := (if stepped then d.applyStep else d).raiseIf d.seq.shortFrame 1 2
    let d2 := (d1.fieldFrame d1.stages).swapFixed.frameWrites
    let d3 := (((d2.applyReturns.endRests false).handoverPass.checkpoint).startRests)
    let d4 := { d3 with net := { d3.net with fsoHigh := true } }
    let was := d4.st
    let d5 := d4.frameTransition
    if !d5.st.ticks then { d5 with seq := { d5.seq with frameDue := false } }.bothEval
    else
      let entered := d5.st.armed && !was.armed
      let d6 := { d5 with seq := { d5.seq with
        frame := if entered then 0 else d5.seq.frame + 1, frameStart := d5.cyc, frameStamp := stamp, stepAtFrame := stepped
        shortFrame := false, foreignRaised := false } }
      let d7 := if d6.st.armed && !entered then d6.startStreams false else d6
      let d8 := (d7.scheduleNext.countSkip 0).beginStage (d7.stageOf 0)
      { d8 with seq := { d8.seq with stageStamp := stamp } }.bothEval

/-- FRAME_TICK (R22). -/
def execFrameTick (s : State) : Out := onDev frameTick s

/-! ## Pacing events and FRAME_SYNC (R19, R87, R371, R385, R386, R546) -/

/-- FRAME_SYNC_OUT falls 1 µs after its frame tick. -/
def frameSyncOutEnd (d : Dev) : Dev :=
  if d.net.fsoHigh then { d with net := { d.net with fsoHigh := false } } else d

/-- FRAME_SYNC_OUT_END (R385). -/
def execFrameSyncOutEnd (s : State) : Out := onDev frameSyncOutEnd s

/-- A pacing event arrives. -/
def Dev.paceEvent (d : Dev) : Dev := if d.st.ticks then { d with seq := { d.seq with pace := true } } else d

/-- A rising edge of FRAME_SYNC_IN at uptime t: one within 1 µs of the last accepted edge is ignored (R546). -/
def frameSyncInEdge (t : Nat) (d : Dev) : Dev :=
  let d1 := d.advanceTo t
  if (d.seq.lastSyncIn.any fun p => decide (t < p + 1000)) then d1
  else
    let d2 := { d1 with seq := { d1.seq with lastSyncIn := some t, syncSwap := d1.st.ticks } }
    if d2.get F.P.framePacing = 2 then d2.paceEvent else d2

/-- FRAME_SYNC_IN_EDGE (R19). -/
def execFrameSyncInEdge (t : Nat) (s : State) : Out := onDev (frameSyncInEdge t) s

/-- Time passes until device time reaches a number of ns; nothing when the time base does not count towards it (R64). -/
def Dev.reachNs (d : Dev) (t : Nat) : Option Dev :=
  if 2 ^ 40 * t ≤ d.tb.t40 then some d
  else if d.tbCounts then some (d.advance (d.cyclesFor ((2 ^ 40 * t : Nat) - d.tb.t40))) else none

/-- Device time reaches the next schedule instant (R64, R386). -/
def scheduleInstant (d : Dev) : Dev :=
  match d.net.nextT with
  | none => d
  | some t =>
    if d.get F.P.framePacing = 1 && d.timeValid then
      match d.reachNs t with
      | some d1 => { d1 with net := { d1.net with nextT := none } }.paceEvent
      | none => d
    else d

/-- SCHEDULE_INSTANT (R386). -/
def execScheduleInstant (s : State) : Out := onDev scheduleInstant s

/-- A stage-locked follower starts the stage that the last TICK names, `late` ns after T + L: a slip where that is beyond the limit, and
every stage that it leaves out counts as a skip (R371). -/
def Dev.lockStart (d : Dev) (late : Nat) : Dev :=
  let d1 := if d.get F.BX_STRING2.SLIP_LIM < late then (d.inc F.BX_SLIPS).raise 10 7 else d
  let k := d1.bx.tickStage
  let skip := ((k : Int) - d1.seq.stage).natAbs
  let d2 := d1.add F.BX_SKIPS skip
  let d3 := { d2 with
    seq := { d2.seq with stageLock := false, stage := k }
    bx := { d2.bx with tickNew := false } }
  if skip = 0 then d3 else d3.loadTargets k

/-- Device time reaches T + L, or has passed it. -/
def Dev.lockAt (d : Dev) (go : Nat) : Dev :=
  match d.reachNs go with
  | none => d
  | some d0 => d0.lockStart (d.nowNs - go)

/-- The wait of a stage-locked follower ends: at T + L, or at once with a slip (R371). -/
def stageLockStart (d : Dev) : Dev :=
  if !d.st.ticks || !d.seq.stageLock then d
  else if !d.stageLocks then { d with seq := { d.seq with stageLock := false } }
  else if !d.bx.tickNew then d
  else d.lockAt (d.bx.tickT + d.get F.BX_STRING.LATENCY)

/-- STAGE_LOCK_START (R371). -/
def execStageLockStart (s : State) : Out := onDev stageLockStart s

/-- No TICK has come within string.timeout of the follower's stage tick: tick lock is lost (R371). -/
def tickTimeout (d : Dev) : Dev :=
  if d.get F.BX_STRING.ROLE = 2 && d.flag F.BX_STRING.POSITIONED && d.get F.BX_STRING.LOCK_MODE % 3 ≠ 0 && !d.bx.tickNew &&
      !d.bx.tickLost && d.st.ticks then
    let d1 := d.advanceTo (d.bx.tickDue + 1000 * d.get F.BX_STRING2.TIMEOUT)
    ({ d1 with bx := { d1.bx with tickLost := true }, seq := { d1.seq with stageLock := false } }.setB
      F.BX_STRING.TICK_LOCKED false).raise 10 8
  else d

/-- TICK_TIMEOUT (R371). -/
def execTickTimeout (s : State) : Out := onDev tickTimeout s

end Sys2Proof.Machine
end

