-- ==== Sys2Proof/Machine/Basxiop.lean ====
section
/-! DEFINITION. Basxiop and the string: bring-up, control blocks, credits, link delay, string time and ticks, frames
(R357–R375). -/

namespace Sys2Proof.Machine

/-! ## Control blocks (R363) -/

/-- The lanes of a Basxiop port have their clock, the port is enabled and its block runs (R47, R50, R392). -/
def Dev.bxRuns (d : Dev) (p : Nat) : Bool := d.rootRuns && d.runs (27 + p) && bitAt (d.bxPort p).cfg 0

/-- A control block of a TYPE arrives; one that does not parse is counted (R363). -/
def Dev.bxRx (d : Dev) (p ty : Nat) (blk : BitVec 64) (k : Nat → Dev → Dev) : Dev :=
  if !d.bxRuns p then d
  else match bxParse blk with
    | none => d.inc (F.BX_CTRL_ERR p)
    | some (t, payload) => if t = ty then k payload d else d

/-- The same on a link that is up. -/
def Dev.bxRxUp (d : Dev) (p ty : Nat) (blk : BitVec 64) (k : Nat → Dev → Dev) : Dev :=
  d.bxRx p ty blk fun v d => if d.bxUp p then k v d else d

/-! ## Bring-up (R359–R362) -/

/-- All lanes in use fulfil a condition. -/
def BxPort.allLanes (b : BxPort) (f : Nat → Bool) : Bool := b.lanes ≠ [] && b.lanes.all f

/-- The higher rung that both ends allow, when the ladder goes on (R360). -/
def BxPort.nextSpeed (b : BxPort) : Option Nat :=
  if !b.fell && b.speed < min (bits b.cfg 1 2) b.peerMax then some (b.speed + 1) else none

/-- ROLE in effect: 3 is treated as standalone (R393). -/
def Dev.role (d : Dev) : Nat := if d.get F.BX_STRING.ROLE = 3 then 0 else d.get F.BX_STRING.ROLE

/-- The capability that a port announces (R363). -/
def Dev.bxCapability (d : Dev) (p : Nat) : Nat :=
  let b := d.bxPort p
  bits b.cfg 1 2 * 2 ^ 42 + d.role * 2 ^ 40 + d.get F.BX_STRING.POSITION * 2 ^ 38 +
    maskOf 2 (fun l => bitAt b.laneEn l && !at' b.laneRetired l false) * 2 ^ 36

/-- Steps 2 to 5 start at a speed: no lane is locked. -/
def BxPort.relock (b : BxPort) (speed : Nat) : BxPort :=
  { b with
    step := 2, speed := speed, lanesLock := [false, false], alignSeen := [false, false], countdown := none
    taps := [[0, 63, 0], [0, 63, 0]], tapStat := [0, 0], asked := [0, 0], rdyTx := [false, false], rdyRx := [false, false] }

/-- Step 2 is complete when every lane in use is locked. -/
def BxPort.lockStep (b : BxPort) : BxPort := if b.step = 2 && b.allLanes (at' b.lanesLock · false) then { b with step := 3 } else b

/-- Block lock on a lane (R359, R360). -/
def bxBlockLock (lane : Nat) (d : Dev) : Dev :=
  let p := lane / 2
  let l := lane % 2
  if d.bxRuns p && 2 ≤ (d.bxPort p).step && !at' (d.bxPort p).laneRetired l false then
    d.modBx p fun b => { b with lanesLock := upd b.lanesLock l fun _ => true }.lockStep
  else d

/-- BX_BLOCK_LOCK (R359). -/
def execBxBlockLock (lane : Fin 4) (s : State) : Out := onDev (bxBlockLock lane) s

/-- A locked lane loses block lock (R359): a fault of the lane; bring-up starts again, and a link that was up goes down (R360,
R482). -/
def bxLockLoss (lane : Nat) (d : Dev) : Dev :=
  let p := lane / 2
  let l := lane % 2
  if !at' (d.bxPort p).lanesLock l false then d
  else
    let d1 := d.inc (F.BX_LOCK_LOSS p)
    let d2 := if d1.bxUp p then d1.bxDown p
      else (d1.modBx p fun b => b.relock b.speed).setB (F.BX_STATUS.TRAINING p) false
    d2.settled fun d => d.faultOn 5 (2 + lane) 10 (2 + p)

/-- BX_LOCK_LOSS (R359). -/
def execBxLockLoss (lane : Fin 4) (s : State) : Out := onDev (bxLockLoss lane) s

/-- Bring-up restarts by a write of RESTART, which also clears FALLBACK (R392, R394). -/
def Dev.bxRestart (d : Dev) (p : Nat) : Dev := (d.bxDown p).setB (F.BX_STATUS.FALLBACK p) false

/-- A write of 1 to BX_CTRL.RESTART (R392). -/
def bxPortRestart (priv : Bool) (p : Nat) (d : Dev) : Dev :=
  d.blockWrite (27 + p) fun d => d.privWrite priv fun d => d.bxRestart p

/-- BX_PORT_RESTART (R392). -/
def execBxPortRestart (priv : Bool) (port : Fin 2) (s : State) : Out := onDev (bxPortRestart priv port) s

/-- A step of bring-up exceeds its time (R360). -/
def bxBringupTimeout (p : Nat) (d : Dev) : Dev :=
  let b := d.bxPort p
  if !d.bxRuns p || b.step < 2 || 5 < b.step then d
  else if b.speed = 0 then (d.modBx p (·.restart (d.bxCtrl p) 1)).setB (F.BX_STATUS.TRAINING p) false
  else
    (((d.modBx p fun b => { b.relock (b.speed - 1) with fell := true }).setB (F.BX_STATUS.TRAINING p) false).setB
      (F.BX_STATUS.FALLBACK p) true).raise 10 5

/-- BX_BRINGUP_TIMEOUT (R360). -/
def execBxBringupTimeout (port : Fin 2) (s : State) : Out := onDev (bxBringupTimeout port) s

/-- 100 ms after a failed bring-up the port starts again from step 1 (R360). -/
def bxRestartDelayEnd (p : Nat) (d : Dev) : Dev :=
  if (d.bxPort p).step = 1 then d.modBx p (·.restart (d.bxCtrl p) 2) else d

/-- BX_RESTART_DELAY_END (R360). -/
def execBxRestartDelayEnd (port : Fin 2) (s : State) : Out := onDev (bxRestartDelayEnd port) s

/-- The countdown of a speed step ends: both ends change speed and repeat steps 2 to 5 (R360). -/
def bxSpeedCountdownEnd (p : Nat) (d : Dev) : Dev :=
  let b := d.bxPort p
  if b.step = 6 && b.countdown.isSome then d.modBx p fun b => b.relock b.target else d

/-- BX_SPEED_COUNTDOWN_END (R360). -/
def execBxSpeedCountdownEnd (port : Fin 2) (s : State) : Out := onDev (bxSpeedCountdownEnd port) s

/-- An ALIGN block on a lane (R360, R363): with one on every lane in use the lanes are aligned, and the capability goes out. -/
def bxAlignRx (lane : Nat) (blk : BitVec 64) (d : Dev) : Dev :=
  let p := lane / 2
  let l := lane % 2
  d.bxRx p 0x2D blk fun v d =>
    if (d.bxPort p).step ≠ 3 || bits v 40 8 ≠ l then d
    else
      let d1 := d.modBx p fun b => { b with alignSeen := upd b.alignSeen l fun _ => true }
      if (d1.bxPort p).allLanes (at' (d1.bxPort p).alignSeen · false) then
        d1.modBx p fun b => { b with step := 4 }.put 0x4B (d1.bxCapability p)
      else d1

/-- BX_ALIGN_RX (R363). -/
def execBxAlignRx (lane : Fin 4) (blk : BitVec 64) (s : State) : Out := onDev (bxAlignRx lane blk) s

/-- Every 4,096 blocks per lane an ALIGN block goes out on all lanes in use together (R361, R363). -/
def bxAlignTx (p : Nat) (d : Dev) : Dev :=
  if d.bxRuns p && 2 ≤ (d.bxPort p).step then
    d.modBx p fun b => b.lanes.foldl (fun b l => b.putOn l 0x2D (l * 2 ^ 40)) b
  else d

/-- BX_ALIGN_TX (R363). -/
def execBxAlignTx (port : Fin 2) (s : State) : Out := onDev (bxAlignTx port) s

/-- A follower's position from its west neighbour's role and position (R369). -/
def Dev.takePosition (d : Dev) (role pos : Nat) : Dev :=
  let ok := role = 1 || (role = 2 && pos ≠ 0 && pos < 3)
  let n := if role = 1 then 1 else pos + 1
  if ok then (d.set F.BX_STRING.POSITION n).setB F.BX_STRING.POSITIONED true
  else ((d.set F.BX_STRING.POSITION 0).setB F.BX_STRING.POSITIONED false).raise 10 6

/-- The own receiver of a lane asks the far transmitter for tap changes with a coefficient-update block: hold, increment or decrement
per tap, or preset; which, its equaliser decides and the spec leaves free (R362; log 4). -/
def Dev.bxAsk (d : Dev) (p l : Nat) : Dev :=
  let r := d.takeFree 8
  let req (i : Nat) : Nat := bits r.1 (2 * i) 2 % 3
  let v := (req 0 * 16 + req 1 * 4 + req 2) * 2 + nat (r.1 / 64 = 3)
  r.2.modBx p fun b => { b with asked := upd b.asked l fun _ => v }.putOn l 0x4B (2 ^ 44 + v * 2 ^ 37)

/-- Training begins: the receiver of each lane in use asks (R360, R362). -/
def Dev.bxAskAll (d : Dev) (p : Nat) : Dev := d.each (d.bxPort p).lanes fun d l => d.bxAsk p l

/-- The far end's capability (R360 step 4, R363, R369). -/
def bxTrainCapabilityRx (p : Nat) (blk : BitVec 64) (d : Dev) : Dev :=
  d.bxRx p 0x4B blk fun v d =>
    if bits v 44 4 ≠ 0 || (d.bxPort p).step ≠ 4 then d
    else
      let role := bits v 40 2
      let pos := bits v 38 2
      let d1 := d.modBx p fun b => { b with step := 5, peerMax := bits v 42 2, peerLanes := bits v 36 2 }
      let d2 := ((d1.set (F.BX_STATUS.PEER_ROLE p) role).set (F.BX_STATUS.PEER_POSITION p) pos).setB (F.BX_STATUS.TRAINING p) true
      (if p = 1 && d2.role = 2 then d2.takePosition role pos else d2).bxAskAll p

/-- BX_TRAIN_CAPABILITY_RX (R363). -/
def execBxTrainCapabilityRx (port : Fin 2) (blk : BitVec 64) (s : State) : Out := onDev (bxTrainCapabilityRx port blk) s

/-- Range of a tap: c-1, c0, c+1 (R362). -/
def tapRange (i : Nat) : Nat × Nat := match i with | 0 => (0, 15) | 1 => (24, 63) | _ => (0, 31)

/-- One tap change: the taps, and the tap's status 0 not updated, 1 updated, 2 at minimum, 3 at maximum (R362). -/
def tapChange (taps : List Nat) (i req : Nat) : List Nat × Nat :=
  let v := at' taps i 0
  let r := tapRange i
  match req with
  | 1 => if r.2 ≤ v || 63 ≤ taps.sum then (taps, 3) else (taps.set i (v + 1), 1)
  | 2 => if v ≤ r.1 then (taps, 2) else (taps.set i (v - 1), 1)
  | _ => (taps, 0)

/-- A whole coefficient update: preset, or the three requests in turn; the taps and the status bits [43:38]. -/
def tapUpdate (taps : List Nat) (v : Nat) : List Nat × Nat :=
  if bitAt v 37 then ([0, 63, 0], 0x15)
  else
    let a := tapChange taps 0 (bits v 42 2)
    let b := tapChange a.1 1 (bits v 40 2)
    let c := tapChange b.1 2 (bits v 38 2)
    (c.1, a.2 * 16 + b.2 * 4 + c.2)

/-- The link is up: the credits are granted (R360 step 7, R367). -/
def Dev.bxLinkUp (d : Dev) (p : Nat) : Dev :=
  let d1 := d.modBx p fun b => { b with
    step := 8, cons0 := 0, cons1 := 0, freedRx0 := 0, freedRx1 := 0, freed0 := 0, freed1 := 0, seqTx0 := 0, seqTx1 := 0 }
  let b := d1.bxPort p
  ((((d1.setB (F.BX_STATUS.LINK_UP p) true).set (F.BX_STATUS.SPEED p) b.speed).set (F.BX_STATUS.LANES_ACTIVE p)
    (maskOf 2 fun l => b.lanes.contains l)).setB (F.BX_STATUS.TRAINING p) false).raise 10 (2 + p)

/-- Training may have ended (R362): the speed step of the ladder, directed by the east port, or the link is up (R360). -/
def Dev.bxTrained (d : Dev) (p : Nat) : Dev :=
  let b := d.bxPort p
  if b.step ≠ 5 || !b.allLanes (fun l => at' b.rdyTx l false && at' b.rdyRx l false) then d
  else match b.nextSpeed with
    | none => d.bxLinkUp p
    | some v =>
      let d1 := d.setB (F.BX_STATUS.TRAINING p) false
      if p = 0 then d1.modBx p fun b =>
        { b with step := 6, countdown := some 256, target := v }.put 0x4B (3 * 2 ^ 44 + v * 2 ^ 42 + 64 * 2 ^ 32)
      else d1.modBx p fun b => { b with step := 6 }

/-- A coefficient update on a lane is carried out and answered with a status block; `ready`: the own receiver of the lane is
trained, and READY is set in it (R362). -/
def bxTrainUpdateRx (lane : Nat) (blk : BitVec 64) (ready : Bool) (d : Dev) : Dev :=
  let p := lane / 2
  let l := lane % 2
  d.bxRx p 0x4B blk fun v d =>
    if bits v 44 4 ≠ 1 || (d.bxPort p).step ≠ 5 then d
    else
      let r := tapUpdate (at' (d.bxPort p).taps l []) v
      (d.modBx p fun b => { b with
        taps := upd b.taps l fun _ => r.1, rdyTx := upd b.rdyTx l fun x => x || ready }.putOn l 0x4B
          (2 * 2 ^ 44 + r.2 * 2 ^ 38 + nat ready * 2 ^ 37)).bxTrained p

/-- BX_TRAIN_UPDATE_RX (R362). -/
def execBxTrainUpdateRx (lane : Fin 4) (blk : BitVec 64) (ready : Bool) (s : State) : Out :=
  onDev (bxTrainUpdateRx lane blk ready) s

/-- A status block: the status of the taps, and READY of the far receiver; the own receiver asks on until it has sent READY itself
(R362). -/
def bxTrainStatusRx (lane : Nat) (blk : BitVec 64) (d : Dev) : Dev :=
  let p := lane / 2
  let l := lane % 2
  d.bxRx p 0x4B blk fun v d =>
    if bits v 44 4 ≠ 2 || (d.bxPort p).step ≠ 5 then d
    else
      let d1 := d.modBx p fun b => { b with tapStat := upd b.tapStat l fun _ => bits v 38 6, rdyRx := upd b.rdyRx l fun x => x || bitAt v 37 }
      (if at' (d1.bxPort p).rdyTx l false then d1 else d1.bxAsk p l).bxTrained p

/-- BX_TRAIN_STATUS_RX (R362). -/
def execBxTrainStatusRx (lane : Fin 4) (blk : BitVec 64) (s : State) : Out := onDev (bxTrainStatusRx lane blk) s

/-- A step block: the west port follows the speed step that the east port directs (R360). -/
def bxTrainStepRx (p : Nat) (blk : BitVec 64) (d : Dev) : Dev :=
  d.bxRx p 0x4B blk fun v d =>
    if bits v 44 4 ≠ 3 || p ≠ 1 || (d.bxPort p).step ≠ 6 || (d.bxPort p).nextSpeed ≠ some (bits v 42 2) then d
    else d.modBx p fun b => { b with countdown := some (4 * bits v 32 8), target := bits v 42 2 }

/-- BX_TRAIN_STEP_RX (R360). -/
def execBxTrainStepRx (port : Fin 2) (blk : BitVec 64) (s : State) : Out := onDev (bxTrainStepRx port blk) s

/-! ## Credits (R367) -/

/-- A CREDIT block: the freed counts of the far end; waiting frames may start. -/
def bxCreditRx (p : Nat) (blk : BitVec 64) (d : Dev) : Dev :=
  d.bxRxUp p 0x33 blk fun v d => d.modBx p fun b => { b with freedRx0 := bits v 32 16, freedRx1 := bits v 16 16 }.drain

/-- BX_CREDIT_RX (R367). -/
def execBxCreditRx (port : Fin 2) (blk : BitVec 64) (s : State) : Out := onDev (bxCreditRx port blk) s

/-- A CREDIT block goes out with the own freed counts. -/
def bxCreditTx (p : Nat) (d : Dev) : Dev :=
  d.bxBlock p 0x33 ((d.bxPort p).freed0 * 2 ^ 32 + (d.bxPort p).freed1 * 2 ^ 16)

/-- BX_CREDIT_TX (R367). -/
def execBxCreditTx (port : Fin 2) (s : State) : Out := onDev (bxCreditTx port) s

/-! ## The string (R366, R369–R371) -/

/-- A positioned follower (R369). -/
def Dev.follows (d : Dev) : Bool := d.role = 2 && d.flag F.BX_STRING.POSITIONED

/-- String traffic goes east: from a lead or a positioned follower, and not to another lead (R369). -/
def Dev.sendsEast (d : Dev) : Bool := (d.role = 1 || d.follows) && d.get (F.BX_STATUS.PEER_ROLE 0) ≠ 1

/-- The seconds nearest to a reference with given low 16 bits. -/
def nearSec (ref low : Nat) : Nat := ((ref : Int) + sgn 16 (low + 65536 - ref % 65536)).toNat

/-- The time nearest to a reference (in ns) with given ns within its second. -/
def nearNs (ref ns : Nat) : Nat :=
  let x : Int := ns - (ref % 1000000000 : Nat)
  let y := if x < -500000000 then x + 1000000000 else if 500000000 ≤ x then x - 1000000000 else x
  ((ref : Int) + y).toNat

/-- What a follower does with a TICK (R371): its contents, the lock, the pacing event, and a frame tick that its waiting stage
learns of. -/
def Dev.takeTick (d : Dev) (frame : Bool) (stage ns : Nat) : Dev :=
  let d1 := { d with bx := { d.bx with
    tickT := nearNs d.nowNs ns, tickStage := stage, tickFrame := frame, tickNew := true, tickLost := d.bx.tickLost && !frame } }
  let d2 := if frame && d1.get F.BX_STRING.LOCK_MODE ≠ 0 && d1.get F.BX_STRING.LOCK_MODE ≠ 3 then
      d1.setB F.BX_STRING.TICK_LOCKED true else d1
  if !frame then d2
  else if d2.seq.stageLock && d2.stageLocks && !d2.seq.frameDue then
    let d3 := d2.prepare true false
    { d3 with seq := { d3.seq with frameDue := true, info := { d3.seq.info with last := true } } }
  else if d2.pacing = 3 && !d2.stageLocks then d2.paceEvent else d2

/-- A TICK block arrives: forwarded on the other port, and taken by a positioned follower (R366, R371). -/
def bxTickRx (p : Nat) (blk : BitVec 64) (d : Dev) : Dev :=
  d.bxRxUp p 0x55 blk fun v d =>
    if !d.follows || p ≠ 1 then d
    else (d.bxBlock 0 0x55 v).takeTick (bitAt v 47) (bits v 33 14) (bits v 0 32)

/-- BX_TICK_RX (R371). -/
def execBxTickRx (port : Fin 2) (blk : BitVec 64) (s : State) : Out := onDev (bxTickRx port blk) s

/-- A positioned follower takes its time from the string (R370). -/
def Dev.stringTime (d : Dev) : Bool := d.follows && d.get F.TB_SOURCE.SOURCE = 3

/-- A TIME block arrives at uptime t: the offset goes to the servo (R370). -/
def bxTimeRx (p : Nat) (blk : BitVec 64) (t : Nat) (d : Dev) : Dev :=
  (d.advanceTo t).bxRxUp p 0x66 blk fun v d =>
    if p ≠ 1 || !d.stringTime then d
    else
      match (if d.timeValid then some d.nowSec else d.bx.timeSec) with
      | none => d
      | some ref =>
        let dep : Int := (nearSec ref (bits v 32 16) * 1000000000 + bits v 0 32 : Nat) * 16
        let o : Int := dep + d.get (F.BX_DELAY 1) - d.stamp16
        d.servo ((o : Rat) / 16) (1 / 8000)

/-- BX_TIME_RX (R370). -/
def execBxTimeRx (port : Fin 2) (blk : BitVec 64) (t : Nat) (s : State) : Out := onDev (bxTimeRx port blk t) s

/-- A TIME_SEC block arrives (R370). -/
def bxTimeSecRx (p : Nat) (blk : BitVec 64) (d : Dev) : Dev :=
  d.bxRxUp p 0x69 blk fun v d => if p = 1 && d.follows then { d with bx := { d.bx with timeSec := some v } } else d

/-- BX_TIME_SEC_RX (R370). -/
def execBxTimeSecRx (port : Fin 2) (blk : BitVec 64) (s : State) : Out := onDev (bxTimeSecRx port blk) s

/-- TIME and TIME_SEC go east: own time is valid, and locked on a follower (R370). -/
def Dev.sendsTime (d : Dev) : Bool := d.sendsEast && d.timeValid && (d.role = 1 || d.flag F.PTP_STATUS.LOCKED)

/-- A TIME block goes east (R370). -/
def bxTimeTx (d : Dev) : Dev :=
  if d.sendsTime then d.bxBlock 0 0x66 (d.nowSec % 65536 * 2 ^ 32 + d.nowNs % 1000000000) else d

/-- BX_TIME_TX (R370). -/
def execBxTimeTx (s : State) : Out := onDev bxTimeTx s

/-- A TIME_SEC block goes east (R370). -/
def bxTimeSecTx (d : Dev) : Dev := if d.sendsTime then d.bxBlock 0 0x69 (d.nowSec % 2 ^ 48) else d

/-- BX_TIME_SEC_TX (R370). -/
def execBxTimeSecTx (s : State) : Out := onDev bxTimeSecTx s

/-! ## Link delay (R368) -/

/-- A DELAY_REQ goes out and its departure is stamped. -/
def bxDelayReqTx (p : Nat) (d : Dev) : Dev :=
  if d.bxUp p then
    d.modBx p fun b =>
      let n := (b.delaySeq + 1) % 256
      { b with delaySeq := n, delayT1 := some (d.stamp16, d.up) }.put 0x78 (n * 2 ^ 40)
  else d

/-- BX_DELAY_REQ_TX (R368). -/
def execBxDelayReqTx (port : Fin 2) (s : State) : Out := onDev (bxDelayReqTx port) s

/-- A DELAY_REQ arrives at uptime t and is answered; `turn` is t3 − t2 between its arrival and the answer's departure, 1/16 ns. -/
def bxDelayReqRx (p : Nat) (blk : BitVec 64) (t turn : Nat) (d : Dev) : Dev :=
  (d.advanceTo t).bxRxUp p 0x78 blk fun v d => d.bxBlock p 0x87 (bits v 40 8 * 2 ^ 40 + turn % 2 ^ 24 * 2 ^ 16)

/-- BX_DELAY_REQ_RX (R368). -/
def execBxDelayReqRx (port : Fin 2) (blk : BitVec 64) (t turn : Nat) (s : State) : Out := onDev (bxDelayReqRx port blk t turn) s

/-- A measurement in 1/32 ns enters the last 16; BX_DELAY reports their mean. -/
def Dev.delayDone (d : Dev) (p : Nat) (twice : Int) : Dev :=
  let l := (twice :: (d.bxPort p).delays).take 16
  (d.modBx p fun b => { b with delays := l, delayT1 := none }).set (F.BX_DELAY p) (uns 32 (rhu l.sum (2 * l.length)))

/-- A DELAY_RESP arrives at uptime t, within 100 µs of its request (R368). -/
def bxDelayRespRx (p : Nat) (blk : BitVec 64) (t : Nat) (d : Dev) : Dev :=
  (d.advanceTo t).bxRxUp p 0x87 blk fun v d =>
    match (d.bxPort p).delayT1 with
    | none => d
    | some (t1, up1) =>
      if bits v 40 8 ≠ (d.bxPort p).delaySeq || up1 + 100000 < d.up then d
      else d.delayDone p (d.stamp16 - t1 - bits v 16 24 + 2 * d.getS (F.BX_ASYM p))

/-- BX_DELAY_RESP_RX (R368). -/
def execBxDelayRespRx (port : Fin 2) (blk : BitVec 64) (t : Nat) (s : State) : Out := onDev (bxDelayRespRx port blk t) s

/-- No response has come within 100 µs (R368). -/
def bxDelayRespTimeout (p : Nat) (d : Dev) : Dev :=
  match (d.bxPort p).delayT1 with
  | none => d
  | some (_, up1) => (d.advanceTo (up1 + 100000)).modBx p fun b => { b with delayT1 := none }

/-- BX_DELAY_RESP_TIMEOUT (R368). -/
def execBxDelayRespTimeout (port : Fin 2) (s : State) : Out := onDev (bxDelayRespTimeout port) s

/-! ## Frames (R364, R365, R373, R375) -/

/-- A discarded frame is counted; its event comes at most once per second (R365, R480). -/
def Dev.bxFrameErr (d : Dev) (p : Nat) : Dev :=
  let d1 := d.inc (F.BX_FRAME_ERR p)
  if (d1.bxPort p).frErrAt.any fun x => decide (d1.up < x + 1000000000) then d1
  else (d1.modBx p fun b => { b with frErrAt := some d1.up }).raise 10 12

/-- A frame has arrived, `f` with its LEN × 8 data bytes: its credits are freed, and it is handled, without its padding, when its TERM
is right and its length is legal (R364, R365). -/
def Dev.bxFrameRx (d : Dev) (p : Nat) (f : BxFrame) (term : Option (BitVec 48)) (k : Bytes → Dev → Dev) : Dev :=
  if !d.bxRuns p || !d.bxUp p then d
  else
    let d1 := d.modBx p fun b =>
      if f.vc = 1 then { b with freed1 := (b.freed1 + f.cost) % 65536 } else { b with freed0 := (b.freed0 + f.cost) % 65536 }
    if termOk f.data term && f.lenOk then k (unpad f.data term) d1 else d1.bxFrameErr p

/-- The answer of a follower goes to the requester from UDP port 24,680 + position (R375). -/
def Dev.leadAnswer (d : Dev) (pos : Nat) (frame : Bytes) : Dev :=
  let hit (x : BxFwd) : Bool := x.pos = pos && x.session = rd 2 frame 4 && x.tag = rd 2 frame 6
  match d.bx.fwd.find? hit with
  | none => d
  | some x =>
    { d with bx := { d.bx with fwd := d.bx.fwd.filter fun y => !hit y } }.sendPair x.port 5
      { dst := x.ip, ports := (24680 + pos) * 65536 + x.udp, what := "flefen", tag := d.mgmtTag, data := frame }

/-- A Flefen frame on Basxiop: an answer at the lead, a request at its follower, otherwise relayed towards its destination. -/
def bxFlefenFrameRx (p src dst : Nat) (data : Bytes) (term : Option (BitVec 48)) (d : Dev) : Dev :=
  let f : BxFrame := { kind := 0, src := src, dst := dst, data := data }
  d.bxFrameRx p f term fun frame d =>
    if d.role = 1 then (if p = 0 && dst = 0 then d.leadAnswer src frame else d)
    else if !d.follows then d
    else if dst = d.get F.BX_STRING.POSITION then
      (if p = 1 then d.arrive { path := .bx, src := 0, port := 0, frame := frame } fun d =>
        { d with bx := { d.bx with inbox := d.bx.inbox ++ [frame] } } else d)
    else d.bxSend (1 - p) { f with data := frame } false

/-- BX_FLEFEN_FRAME_RX (R364). -/
def execBxFlefenFrameRx (port : Fin 2) (src dst : Fin 4) (data : Bytes) (term : Option (BitVec 48)) (s : State) : Out :=
  onDev (bxFlefenFrameRx port src dst data term) s

/-- What tells the unit of a datagram: KIND, FRAME and STAGE of its stream header (R295). -/
def unitKey (body : Bytes) : Nat := (rd 1 body 3 * 2 ^ 32 + rd 4 body 8) * 65536 + rd 2 body 12

/-- A forwarded datagram begins a unit. -/
def Dev.newFwdUnit (d : Dev) (k : Nat) (body : Bytes) : Nat × Dev :=
  (d.net.unitNo, { d with net := { d.net with unitNo := d.net.unitNo + 1, fwdUnits := Tab.put d.net.fwdUnits k (unitKey body, d.net.unitNo) } })

/-- The unit of a forwarded datagram: that of the one before it of its source and stream, where their headers name one unit (R390, R295). -/
def Dev.fwdUnit (d : Dev) (n : Nat) (body : Bytes) : Nat × Dev :=
  let k := 2 * rd 1 body 6 + n
  match Tab.find d.net.fwdUnits k with
  | some (key, u) => if key = unitKey body then (u, d) else d.newFwdUnit k body
  | none => d.newFwdUnit k body

/-- The lead sends a forwarded datagram with the destination, ports, VLAN and PORT of its own stream of that number (R373). -/
def Dev.leadDatagram (d : Dev) (data : Bytes) : Dev :=
  let n := rd 1 data 0
  if 2 ≤ n || data.length < 8 then d.inc F.BX_FWD_DROPPED
  else
    let c := sCfg d.get n
    let launch := ((d.nowNs : Int) + sgn 32 (rd 4 data 4 + 2 ^ 32 - d.nowNs % 2 ^ 32)).toNat + 1000 * d.get F.BX_FWD.FWD_DELAY
    let body := data.drop 8
    let u := d.fwdUnit n body
    let e : QEnt :=
      { launch := some launch, unit := u.1, stream := 2, dst := c.dst, data := body, size := body.length
        prp := c.prp, prpSeq := if c.prp then d.net.prpSeq else 0, ports := c.ports, tag := c.tag }
    let d1 := { u.2 with net := { u.2.net with prpSeq := if c.prp then (d.net.prpSeq + 1) % 65536 else d.net.prpSeq } }
    [0, 1].foldl (fun (d : Dev) p =>
      if !c.goes p then d
      else if d.enters p 4 e then d.enqueue p 4 e
      else (d.enqueue p 4 e).inc F.BX_FWD_DROPPED) d1

/-- A forwarded datagram on Basxiop: sent by the lead, relayed west by a positioned follower (R373). -/
def bxForwardFrameRx (p src : Nat) (data : Bytes) (term : Option (BitVec 48)) (d : Dev) : Dev :=
  let f : BxFrame := { kind := 1, src := src, data := data }
  d.bxFrameRx p f term fun frame d =>
    if p ≠ 0 then d
    else if d.role = 1 then d.leadDatagram frame
    else if d.follows then d.bxSend 1 { f with data := frame } true
    else d.inc F.BX_FWD_DROPPED

/-- BX_FORWARD_FRAME_RX (R373). -/
def execBxForwardFrameRx (port : Fin 2) (src : Fin 4) (data : Bytes) (term : Option (BitVec 48)) (s : State) : Out :=
  onDev (bxForwardFrameRx port src data term) s

/-- A string status frame is kept by its source (R364). -/
def bxStatusFrameRx (p src : Nat) (data : Bytes) (term : Option (BitVec 48)) (d : Dev) : Dev :=
  d.bxFrameRx p { kind := 2, src := src, data := data } term fun frame d =>
    { d with bx := { d.bx with status := Tab.put d.bx.status src frame } }

/-- BX_STATUS_FRAME_RX (R364). -/
def execBxStatusFrameRx (port : Fin 2) (src : Fin 4) (data : Bytes) (term : Option (BitVec 48)) (s : State) : Out :=
  onDev (bxStatusFrameRx port src data term) s

/-- A Flefen frame on UDP port 24,680 + p goes to position p as a KIND 0 frame; `there`: that position is positioned (R375). Not a
lead: the frame is one that R377 discards. -/
def leadFlefenForward (f : RxFrame) (udpPort srcIp srcPort : Nat) (there : Bool) (frame : Bytes) (d : Dev) : Dev :=
  d.rxFrame f fun d =>
    let p := udpPort - 24680
    if d.role ≠ 1 || p = 0 || 3 < p then d.inc (F.ETH_RX_DISCARD f.port)
    else if !there || !d.bxUp 0 then d
    else
      let x : BxFwd := { pos := p, session := rd 2 frame 4, tag := rd 2 frame 6, ip := srcIp, udp := srcPort, port := f.port }
      { d with bx := { d.bx with fwd := d.bx.fwd ++ [x] } }.bxSend 0 { kind := 0, dst := p, data := frame } false

/-- LEAD_FLEFEN_FORWARD (R375). -/
def execLeadFlefenForward (f : RxFrame) (udpPort srcIp srcPort : Nat) (there : Bool) (frame : Bytes) (s : State) : Out :=
  onDev (leadFlefenForward f udpPort srcIp srcPort there frame) s

end Sys2Proof.Machine
end

