-- ==== Sys2Proof/Machine/Extract.lean ====
section
/-! DEFINITION. The seeder, the echo engines and the point builder at work (R209, R214–R219, R222, R250–R268, R278–R293). -/

namespace Sys2Proof.Machine

/-! ## SEEDER_TAKE (R214–R217) -/

/-- Positions stored for a ray. -/
def storePos (l : Option (List Nat)) : List Int := (l.getD []).map (sgn 32)

/-- The candidates of one source for a channel, stage index k (R215). -/
def Dev.seedSource (d a : Dev) (k ch src : Nat) : List Int :=
  let conf := a.get F.ZOOM_CFG.SEED_CONF
  let excl := a.flag F.TALLY_CTRL.SEED_EXCL
  let of (c : Nat) : List Int := if d.recDone c then seedCands conf excl (Tab.getD d.recs c {}).echoes else []
  match src with
  | 0 => of ch
  | 1 => if d.seq.fFail then [] else storePos (Tab.find d.fStore (512 * k + ch))
  | _ => (if ch % 32 = 0 then [] else of (ch - 1)) ++ (if ch % 32 = 31 then [] else of (ch + 1))

/-- Zoom starts of a channel for the coming stage (R214–R216). -/
def Dev.seedStarts (d a : Dev) (k ch : Nat) : List Nat :=
  let p := wbZoom (wbEntry (a.tab 0x7000) k)
  let z := a.get F.TALLY_CTRL.ZOOM_DEFAULT
  let pol := if p ≠ 0 then p else if z = 0 then 3 else z
  placeWins (min 8 (a.get F.TALLY_CTRL.ZOOM_N)) a.tp ((seedSources pol).flatMap (d.seedSource a k ch)) []

/-- The seeder places the zoom windows of the coming stage, with the tables and settings that stage will meet; the first stage after
entry to RANGING has no seeds (R218). -/
def seederTake (d : Dev) : Dev :=
  let a := d.ahead
  match d.nextSlot a with
  | some (k, _, _) =>
    if !d.seq.prep || d.seq.frameDue then d
    else
      let d1 := d.cycleTo (d.slotEndCyc - 200)
      let late := if d.seq.info.valid then (List.range 512).countP fun ch => !d.recDone ch else 0
      let entry := a.st.armed && !d.st.armed
      let starts := if entry then [] else (List.range 512).filterMap fun ch =>
        let s := d.seedStarts a k ch
        if s = [] then none else some (ch, s)
      ({ d1 with seeds := starts }.add F.TALLY_SEEDS_LATE late).raiseIf (0 < late) 5 1
  | none => d

/-- SEEDER_TAKE (R217). -/
def execSeederTake (s : State) : Out := onDev seederTake s

/-! ## ECHO_RECORD_DONE (R220–R268) -/

/-- The echo engine of a convoy has finished the records of the stage: its next record starts at the coming stage tick. -/
def Dev.filterFree (d : Dev) (c : Nat) : Bool := !d.seq.info.valid || (List.range 32).all fun i => d.recDone (32 * c + i)

/-- The echo engine finishes the record of a channel: its buffer is cleared, and the next record of the stage, if
there is one, starts with a newly committed filter bank (R222). -/
def echoRecordDone (ch : Fin 512) (d : Dev) : Dev :=
  if !d.seq.info.valid || d.recDone ch then d
  else
    let r := Tab.getD d.recs ch.val {}
    let d1 := if bitAt r.flags 14 then d.emptyRecord ch r else d.fullRecord ch r (judge (d.echoIn ch))
    let d2 := { d1 with ech := Tab.del d1.ech ch }
    if d2.filterFree (ch / 32) then d2 else d2.filterSwap (ch / 32)

/-- ECHO_RECORD_DONE (R250). -/
def execEchoRecordDone (ch : Fin 512) (s : State) : Out := onDev (echoRecordDone ch) s

/-! ## STAGE_BLOCK_DONE and BALE_CODED (R284, R289) -/

/-- Where no tick follows, the last unit of a stream goes out as soon as it is finished, and the stream stops (R299). -/
def Dev.lastUnit (d : Dev) (n : Nat) : Dev :=
  if d.st.ticks || (d.stream n).unit.isNone then d
  else (d.sendStage n d.nowNs).modStream n fun s => { s with run := false, ending := false }

/-- The point builder completes the stage block of every enabled stream, once every record is finished. -/
def stageBlockDone (d : Dev) : Dev :=
  if !d.seq.info.valid || !(List.range 512).all d.recDone then d
  else d.fixAngle.each [0, 1] fun d n =>
    if d.takesStage n && (d.stream n).block.isNone && (d.stream n).unit.isNone then (d.buildFor n d.recs).lastUnit n else d

/-- STAGE_BLOCK_DONE (R284). -/
def execStageBlockDone (s : State) : Out := onDev stageBlockDone s

/-- The packer completes the bale of a stream. -/
def baleCoded (n : Fin 2) (d : Dev) : Dev :=
  if d.takesStage n && (d.stageCfg n).bales && (d.stream n).unit.isNone then (d.packFor n false).lastUnit n else d

/-- BALE_CODED (R289). -/
def execBaleCoded (stream : Fin 2) (s : State) : Out := onDev (baleCoded stream) s

end Sys2Proof.Machine
end

