-- ==== Sys2Proof/Machine/Convoys.lean ====
section
/-! DEFINITION. Interpolators, calibration, statistics runs and the rest of convoys (R175–R182, R190–R192, R199–R204,
R487, R509–R511). -/

namespace Sys2Proof.Machine

/-- An interpolator locks (R175); where no ticks occur, a rest that waited for it ends (R461, R509). -/
def interpLock (c : Fin 16) (d : Dev) : Dev :=
  if d.locked c || !d.rootRuns || !d.cvyRuns c then d
  else
    let d1 := (d.setB (F.CVY_STATUS.LOCKED c) true).raise (cvyGroup c) (3 * (c % 8))
    if !d1.st.ticks && d1.restOver c then d1.restEnd c true else d1

/-- INTERP_LOCK (R175). -/
def execInterpLock (convoy : Fin 16) (s : State) : Out := onDev (interpLock convoy) s

/-- Nothing of the shot in progress is kept for a channel (R176). -/
def Chan.dropShot (c : Chan) : Chan := { c with openEv := none, held := [], carry := [], stops := [] }

/-- The stops of the shot in progress leave what they were counted in: the channels' counters and tally buffers, CVY_PRESTART and a
statistics run on stops (R176). -/
def Dev.discardStops (d : Dev) (c : Nat) : Dev :=
  if d.seq.shot.isNone then d
  else
    let v := d.cvy c
    let d1 := (d.each (List.range 32) fun d i =>
      let ch := 32 * c + i
      (d.modChan ch fun x => { x with nStops := x.nMark, stopOvf := x.ovfMark }).modBuf ch fun b =>
        { Tab.getD d.seq.cntMark ch {} with poison := b.poison }).set (F.CVY_PRESTART c) v.preMark
    if d.flag (F.TIS_STATUS.BUSY c) && v.tis.src ≤ 1 then
      ((d1.modCvy c fun v => { v with tis := { v.tisMark with ticks := v.tis.ticks } }).set (F.TIS_STATUS.COUNT c) v.tisMark.n).set
        (F.TIS_REJECTED c) v.rejMark
    else d1

/-- An interpolator unlocks (R176). -/
def interpUnlock (c : Fin 16) (d : Dev) : Dev :=
  if !d.locked c then d
  else d.settled fun d =>
    let d1 := ((d.setB (F.CVY_STATUS.LOCKED c) false).setB (F.CVY_STATUS.UNLOCK_SEEN c) true).inc (F.CVY_UNLOCKS c)
    let d2 := d1.modCvy c fun v => { v with unlocked := true, absent := true, start := none }
    let d3 := (d2.each (List.range 32) fun d i => d.modChan (32 * c + i) Chan.dropShot).discardStops c
    (d3.raise (cvyGroup c) (3 * (c % 8))).faultOn 3 c (cvyGroup c) (3 * (c % 8))

/-- INTERP_UNLOCK (R176). -/
def execInterpUnlock (convoy : Fin 16) (s : State) : Out := onDev (interpUnlock convoy) s

/-! ## Calibration (R177–R180) -/

/-- States in which a convoy may calibrate without a rest of its own (R177). -/
def DevState.calibrates : DevState → Bool
  | .boot | .standby | .scan | .safeHold => true
  | _ => false

/-- A calibration starts, or is refused with 0x08 (R177). -/
def calStart (via : Via) (c : Fin 16) (d : Dev) : Dev :=
  d.viaBlock via true c fun d =>
    if d.flag (F.CVY_STATUS.CAL_BUSY c) then d
    else if d.resting c || DevState.calibrates d.st then
      let was := d.resting c
      ((d.restStart c).modCvy c fun v => { v with calWasResting := was }).setB (F.CVY_STATUS.CAL_BUSY c) true
    else d.refuse via 8

/-- CAL_START (R177). -/
def execCalStart (via : Via) (convoy : Fin 16) (s : State) : Out := onDev (calStart via convoy) s

/-- Hits of a calibration, N = 2^HITS_LOG2 (R178, R200). -/
def Dev.calHits (d : Dev) (c : Nat) : Nat := 2 ^ max 16 (min 24 (d.get (F.CVY_CAL.HITS_LOG2 c)))

/-- Every bin is 0.25 to 1.75 taps wide (R180). -/
def calPasses (n : Nat) (h : List Nat) : Bool := h.all fun x => 4 * n ≤ 1024 * x && 1024 * x ≤ 28 * n

/-- The new nonlinearity entries (R179); `c` counts the hits so far. -/
def calNl (n : Nat) : Nat → List Nat → List Nat
  | _, [] => []
  | c, h :: t => (rhu (2048 * c + 1024 * h : Nat) (2 * n)).toNat :: calNl n (c + h) t

/-- OR_REF of a channel: the mean of dev + OR_REF over its outriders, with the new table (R187). -/
def calOrRef (nl : List Nat) (skew old : Int) (l : List (Int × Nat)) : Int :=
  if l = [] then old
  else satS 16 (rhu (l.foldl (fun a x => a + (1024 * x.1 + (at' nl x.2 0 : Nat) + skew)) 0) l.length)

/-- The new skew trim table (R180). -/
def Dev.calSkew (d : Dev) (c : Nat) (nl : List Nat) (outr : List (List (Int × Nat))) : Bytes :=
  let old := d.tab (0x7010 + c)
  ((List.range 32).flatMap fun i =>
    let ch := 32 * c + i
    be 2 (uns 16 (calOrRef nl (d.skew ch) (d.orRef ch) (at' outr i []))) ++ be 2 (uns 16 (d.skew ch))) ++
    (orZeros 136 old).drop 128

/-- The convoy's banks take the results of a calibration and are committed (R180). -/
def Dev.calBanks (d : Dev) (c : Nat) (nl : List Nat) (outr : List (List (Int × Nat))) : Dev :=
  let skew := d.calSkew c nl outr
  (d.modBank (0x7020 + c) fun b => { b.setInact (nl.flatMap (be 2)) with committed := true }).modBank (0x7010 + c) fun b =>
    { b.setInact skew with committed := true }

/-- After a calibration: a rest that it began ends at once, locked or not (R177), others as R509 says. -/
def Dev.calRest (d : Dev) (c : Nat) (own : Bool) : Dev :=
  if (own && d.restFree c) || (!d.st.ticks && d.restOver c) then d.restEnd c true else d

/-- A calibration ends (R180, R201, R487). -/
def calDone (c : Fin 16) (hits : List Nat) (outr : List (List (Int × Nat))) (d : Dev) : Dev :=
  if !d.flag (F.CVY_STATUS.CAL_BUSY c) then d
  else
    let n := d.calHits c
    let ok := hits.length = 64 && calPasses n hits
    let width (x : Nat) : Nat := min 65535 (rhu (1024 * x : Nat) n).toNat
    let v := d.cvy c
    let own := !v.calWasResting
    let d1 := (((d.setB (F.CVY_STATUS.CAL_BUSY c) false).set (F.CVY_CAL_RESULT.WIDEST c) (width (hits.foldl max 0))).set
      (F.CVY_CAL_RESULT.NARROWEST c) (width (hits.foldl min (hits.headD 0)))).modCvy c fun v =>
        { v with recalTurn := false, returning := false }
    if ok then
      let d2 := d1.calBanks c (calNl n 0 hits) outr
      let d3 := if v.returning then d2.unitBack 3 c else d2
      (d3.raise (cvyGroup c) (3 * (c % 8) + 2)).calRest c own
    else
      let d2 := (d1.setB (F.CVY_STATUS.CAL_FAIL c) true).raise (cvyGroup c) (3 * (c % 8) + 2)
      (d2.settled fun d => d.retire 3 c (cvyGroup c) (3 * (c % 8) + 2)).calRest c own

/-- CAL_DONE (R180). -/
def execCalDone (convoy : Fin 16) (hits : List Nat) (outr : List (List (Int × Nat))) (s : State) : Out :=
  onDev (calDone convoy hits outr) s

/-! ## Statistics runs (R190–R192, R203, R204) -/

/-- A run starts from the fields in TIS_CTRL (R192, R203). -/
def Dev.tisBegin (d : Dev) (c : Nat) : Dev :=
  let run : Tis :=
    { src := d.get (F.TIS_CTRL.SOURCE c), gate := d.flag (F.TIS_CTRL.GATE_EN c), chan := d.get (F.TIS_CTRL.CHANNEL c)
      stopIdx := min 8 (d.get (F.TIS_CTRL.STOP_INDEX c)), target := max 1 (d.get (F.TIS_N c)) }
  let clear := [F.TIS_STATUS.ABORTED c, F.TIS_STATUS.PARTIAL c, F.TIS_STATUS.DONE c, F.TIS_STATUS.COUNT c, F.TIS_MEAN c,
    F.TIS_DEV c, F.TIS_MIN c, F.TIS_MAX c, F.TIS_REJECTED c]
  ((d.each clear fun d f => d.set f 0).modCvy c fun v => { v with tis := run, tisMark := run, rejMark := 0 }).setB (F.TIS_STATUS.BUSY c) true

/-- Fields of TIS_CTRL as written. -/
def Dev.tisFields (d : Dev) (c v : Nat) : Dev :=
  (((d.set (F.TIS_CTRL.SOURCE c) (bits v 26 2)).set (F.TIS_CTRL.GATE_EN c) (bits v 24 1)).set (F.TIS_CTRL.CHANNEL c) (bits v 16 5)).set
    (F.TIS_CTRL.STOP_INDEX c) (bits v 12 4)

/-- A write of TIS_CTRL; with START it starts a run. -/
def tisStart (c : Fin 16) (priv : Bool) (v : Word) (d : Dev) : Dev :=
  d.blockWrite c fun d => d.privWrite priv fun d =>
    let d1 := d.tisFields c v.toNat
    if bitAt v.toNat 31 then d1.tisBegin c else d1

/-- TIS_START (R192). -/
def execTisStart (convoy : Fin 16) (priv : Bool) (v : Word) (s : State) : Out := onDev (tisStart convoy priv v) s

/-- A run has its samples. -/
def tisRunDone (c : Fin 16) (d : Dev) : Dev :=
  if d.flag (F.TIS_STATUS.BUSY c) && (d.cvy c).tis.target ≤ (d.cvy c).tis.n then d.tisEnd c (F.TIS_STATUS.DONE c) else d

/-- TIS_RUN_DONE (R192). -/
def execTisRunDone (convoy : Fin 16) (s : State) : Out := onDev (tisRunDone convoy) s

/-- TIS_TIMEOUT stage ticks have passed. -/
def tisTimeout (c : Fin 16) (d : Dev) : Dev :=
  let lim := d.get (F.TIS_TIMEOUT c)
  if d.flag (F.TIS_STATUS.BUSY c) && lim ≠ 0 && lim ≤ (d.cvy c).tis.ticks && (d.cvy c).tis.n < (d.cvy c).tis.target then
    d.tisEnd c (F.TIS_STATUS.PARTIAL c)
  else d

/-- TIS_TIMEOUT (R192). -/
def execTisTimeout (convoy : Fin 16) (s : State) : Out := onDev (tisTimeout convoy) s

/-! ## Rest (R509, R510) -/

/-- Some active convoy with a locked interpolator remains when the convoys of a mask rest (R509). -/
def Dev.restLeaves (d : Dev) (v : Nat) : Bool :=
  (List.range 16).any fun c => !bitAt v c && !d.resting c && !d.cvyRetired c && d.locked c

/-- A write of ranging.rest: refused with 0x09 when no active convoy would remain; outside the states with ticks it takes
effect at once (R461, R509). -/
def rangingRestWrite (role : Role) (v : Nat) (d : Dev) : Dev :=
  d.roleWrite role true fun d =>
    if 65536 ≤ v then d.answer 4
    else if v ≠ 0 && !d.restLeaves v then d.answer 9
    else
      let d1 := d.each (List.range 16) fun d c => d.modCvy c fun x => { x with restWant := bitAt v c }
      if d1.st.ticks then d1 else d1.startRests.endRests true

/-- RANGING_REST_WRITE (R509). -/
def execRangingRestWrite (role : Role) (v : Nat) (s : State) : Out := onDev (rangingRestWrite role v) s

/-- The recalibration period passes: the next active convoy in cyclic order takes its turn (R510). -/
def recalPeriodExpiry (d : Dev) : Dev :=
  if d.get F.P.recalPeriod = 0 || !d.st.armed || (List.range 16).any (fun c => d.resting c) then d
  else
    match ((List.range 16).map fun i => (d.life.recalLast + 1 + i) % 16).find? fun c => !d.cvyRetired c with
    | none => d
    | some c => { d.modCvy c (fun v => { v with recalTurn := true }) with life := { d.life with recalLast := c } }

/-- RECAL_PERIOD_EXPIRY (R510). -/
def execRecalPeriodExpiry (s : State) : Out := onDev recalPeriodExpiry s

end Sys2Proof.Machine
end

