-- ==== Sys2Proof/Machine/Commit.lean ====
section
/-! DEFINITION. The commit check: its terms in order, the report, and the writes that run it (R26–R28, R106, R224, R301, R302,
R458). -/

namespace Sys2Proof.Machine

/-- The firing tables under check: the configuration `p` with its banks swapped in, beside the active ones of `d` (R88). -/
def checkTabs (d p : Dev) : List EmTabs := emChoices (p.flag F.EM_CTRL.SWAP_SRC) d.emTabs p.emTabs

/-- Term 1 with the monitor window of R316; a request for RANGING needs entries in the active waybill bank (R553). -/
def term1All (d p : Dev) (ranging : Bool) : Bool :=
  (checkTabs d p).all (fun t => term1 p t &&
    (!t.hasPair p.stages || pairGap (p.get F.CLUT_SEED.SEED) + 24 ≤ max 32 (p.get F.ADC_MON.MON_WIN))) &&
    !(ranging && d.tab 0x7000 = [])

/-- Filter cycles of one stage for a filter bank, ns (R224). -/
def filterCycles (p : Dev) (f : Bytes) : Nat := cdiv (32 * filtBeff (filterOf f) p.nBins * filtL (filterOf f)) 128

/-- Term 2: the lowest failing convoy and its largest excess (R224). -/
def term2 (d p : Dev) : Option (Nat × Nat) :=
  let budget := p.ns * p.tp - 2000
  (List.range 16).findSome? fun c =>
    let worst := max (filterCycles p (d.tab (0x7030 + c))) (filterCycles p (p.tab (0x7030 + c)))
    if budget < worst then some (c, worst - budget) else none

/-- A ledger limit bank is active, or the configuration under check brings one (R106). -/
def ledgerJudged (d p : Dev) : Bool := d.ledgerBank || (p.bank 0x7005).active ≠ (d.bank 0x7005).active

/-- Term 5: the lowest failing cell (R106, R28); it has no limits to judge while no bank is active and none is committed. -/
def term5All (d p : Dev) : Option Nat :=
  let l := (checkTabs d p).filterMap fun t => term5 p t (p.tab 0x7005)
  if l = [] || !ledgerJudged d p then none else some (l.foldl min 4096)

/-- device.commit_report: 0 when the check passes (R28). -/
def report (term item excess : Nat) : Nat := min excess 0xFFFFFF * 256 + item * 16 + term

/-- The terms in order, stopping at the first failure (R27), for the configuration `p` that device `d` would have. -/
def checkTerms (d p : Dev) (ranging : Bool) : Nat :=
  if !term1All d p ranging then report 1 0 0
  else match term2 d p with
    | some (c, x) => report 2 c x
    | none =>
      let cycles := builderCycles [sCfg p.get 0, sCfg p.get 1]
      if p.ns * p.tp < cycles then report 3 0 (cycles - p.ns * p.tp)
      else match term4 p with
        | some (i, x) => report 4 i x
        | none => match term5All d p with
          | some c => report 5 0 c
          | none => 0

/-- Records the outcome of a check; a failure raises commit-rejected (R28, R480). -/
def Dev.recordCheck (d : Dev) (r : Nat) : Dev := (d.set F.COMMIT_REPORT r).raiseIf (r ≠ 0) 0 14

/-- The commit check with a change added: the change, or 0x06 (R26, R458). -/
def Dev.checked (d : Dev) (f : Dev → Dev) : Dev :=
  let r := checkTerms d (f d).projected false
  if r = 0 then f (d.recordCheck 0) else (d.recordCheck r).answer 6

/-- Fields that a term of the commit check uses (R26). -/
def termFields : List Fld :=
  [F.P.shotPeriod, F.P.shotsPerStage, F.P.stagesPerFrame, F.TALLY_CTRL.BIN_WIDTH, F.EM_TIMING.ROW_LEAD, F.CLUT_SEED.SEED,
    F.ADC_MON.MON_WIN, F.EM_CTRL.START0_EN, F.EM_CTRL.START1_EN, F.EM_CTRL.SWAP_SRC, F.NET_PRP.EN, F.BX_STRING.ROLE,
    F.BX_STRING.FORWARD, F.BX_FWD.FWD_RATE] ++
  ((List.range 2).flatMap fun n =>
    [F.OUT_SCFG.EN n, F.OUT_SCFG.FORMAT n, F.OUT_SCFG.COMPRESS n, F.OUT_SCFG.PORT n, F.OUT_SCFG.MAX_ECHOES n, F.OUT_SVLAN.TAG n,
      F.OUT_SMTU.MTU n, F.OUT_SRATE.RATE n, F.ETH_CTRL.MODE n, F.BX_CTRL.MAX_SPEED n])

/-- A dictionary write of a field with a stage, frame or state change point that changes what a term uses runs the check; the
last value counts where one is pending (R26). -/
def Dev.needsCheck (d : Dev) (f : Fld) (v : Nat) (p : Commit) : Bool :=
  p ≠ .immediate && p ≠ .control && termFields.contains f && (d.pendingOf f).getD (d.get f) ≠ v % 2 ^ Fld.width f

end Sys2Proof.Machine
end

