-- ==== Sys2Proof/Machine/Service.lean ====
section
/-! DEFINITION. State requests, temperatures and the retirement table (R31, R37–R39, R423, R485–R495). -/

namespace Sys2Proof.Machine

/-! ## State requests (R31, R38, R39) -/

/-- A request that is refused: LAST_REJECT, and the status code of a dictionary write (R38). -/
def Dev.reject (d : Dev) (via : Via) (reason code : Nat) : Dev := (d.set F.DEV_STATE.LAST_REJECT reason).refuse via code

/-- A request that is accepted. -/
def Dev.accept (d : Dev) : Dev := d.set F.DEV_STATE.LAST_REJECT 0

/-- The Toll island refuses arming: a HOLD function is in demand or has a latched fault (R423). -/
def Dev.tollRefuses (d : Dev) : Bool :=
  (List.range 25).any fun n => fnHold d.toll.cfg n && (d.inDemand n || d.fnFault n)

/-- The ledger refuses arming (R102, R108, R317). -/
def Dev.ledgerRefuses (d : Dev) : Bool := d.flag F.LEDGER_STATUS.HOLDOFF || !d.logicLedger || !d.procLedger

/-- A request for RANGING from STANDBY or SCAN, its refusals in the order of R38. -/
def Dev.requestRanging (d : Dev) (via : Via) : Dev :=
  if !d.rangingOk then d.reject via 3 8
  else
    let r := checkTerms d d.projected true
    let d1 := d.recordCheck r
    if r ≠ 0 then d1.reject via 2 6
    else if d1.tollRefuses then d1.reject via 4 8
    else if d1.ledgerRefuses then d1.reject via 5 8
    else
      let d2 := d1.accept
      let d3 := if d2.st = .standby then d2.goto .scan false else d2
      let d4 := if d3.led.arming = 0 then d3.armStart else d3
      { d4 with want := some .ranging }

/-- The request for a state by its code (R31). -/
def Dev.requestState (d : Dev) (via : Via) (code : Nat) : Dev :=
  let d0 := d.set F.DEV_STATE.REQUEST code
  match code with
  | 1 =>
    if d.st = .safeHold then (if d.causesClear then d0.accept.goto .standby false else d0.reject via 1 8)
    else if d.st.armed then { d0.accept with want := some .standby } else d0.reject via 1 8
  | 2 =>
    if d.st = .standby then
      if !d.diagnostic then d0.reject via 3 8
      else if d.axes = 0 || d.droverLocked then d0.accept.settled fun d => d.goto .scan false
      else { d0.accept with want := some .scan }
    else if d.st.armed then { d0.accept with want := some .scan } else d0.reject via 1 8
  | 3 =>
    if d.st = .degraded then d0.accept
    else if d.st = .standby || d.st = .scan then d0.settled fun d => d.requestRanging via
    else d0.reject via 1 8
  | _ => d0.reject via 1 8

/-- A write of DEV_STATE.REQUEST or device.state_request. -/
def stateRequest (via : Via) (code : Nat) (d : Dev) : Dev :=
  d.viaWrite via false fun d => if Via.isDict via && 7 ≤ code then d.answer 4 else d.requestState via (code % 8)

/-- STATE_REQUEST (R31). -/
def execStateRequest (via : Via) (code : Nat) (s : State) : Out := onDev (stateRequest via code) s

/-! ## Temperatures (R489–R495), in 1/16 °C -/

/-- A reading within −55 °C to +150 °C (R490). -/
def inBand (r : Int) : Bool := -880 ≤ r && r ≤ 2400

/-- The sensors as they stand. -/
def Therm.all (t : Therm) : List Sensor := if t.sens = [] then List.replicate 24 {} else t.sens

/-- Readings of the nearest valid neighbours of sensor i before and after it in its quadrant (R490). -/
def neighbours (s : List Sensor) (r : List Int) (i : Nat) : List Int :=
  let ring := (List.range 5).map fun k => 6 * (i / 6) + (i % 6 + k + 1) % 6
  let ok := ring.filter fun k => !(at' s k {}).failed && inBand (at' r k 0)
  match ok with
  | a :: _ :: _ => [at' r a 0, at' r (ok.getLast?.getD a) 0]
  | _ => []

/-- The reading of sensor i passes both tests (R490). -/
def sensorPass (s : List Sensor) (r : List Int) (i : Nat) : Bool :=
  let x := at' r i 0
  let n := neighbours s r i
  inBand x && (n = [] || n.any fun y => (x - y).natAbs ≤ 240)

/-- A sensor after a reading (R490). -/
def sensorNext (s : List Sensor) (r : List Int) (i : Nat) : Sensor :=
  let c := at' s i {}
  let x := at' r i 0
  let pass := sensorPass s r i
  let run := if c.failed && pass then c.okRun + 1 else 0
  let failed := if c.failed then run < 1000 else !pass
  { reading := x, failed := failed, okRun := if failed then run else 0, lastGood := if failed then c.lastGood else x }

/-- The hottest valid sensor and its reading. -/
def hottestValid (s : List Sensor) : Option (Nat × Int) :=
  (List.range s.length).foldl (fun (a : Option (Nat × Int)) i =>
    let c := at' s i {}
    if c.failed then a else match a with
      | some b => if b.2 < c.reading then some (i, c.reading) else a
      | none => some (i, c.reading)) none

/-- Value of a substitute (R494). -/
def substValue (hot : Option (Nat × Int)) (x : Nat × Int × Bool) : Int :=
  if x.2.2 then (match hot with | some h => h.2 + 160 | none => x.2.1) else x.2.1

/-- T_j and the sensor that gives it (R491). -/
def Therm.junction (t : Therm) : Option (Nat × Int) :=
  let hot := hottestValid t.sens
  t.subst.foldl (fun a x =>
    let v := substValue hot x
    match a with
    | some b => if b.2 < v then some (x.1, v) else a
    | none => some (x.1, v)) hot

/-- L(T) (R493). -/
def throttleL (tj : Int) : Nat := if tj < 1840 then 0 else min 7 (1 + ((tj - 1840) / 20).toNat)

/-- A thermal state with its 5 °C hysteresis (R492). -/
def thermState (was : Bool) (tj limit : Int) : Bool := if was then limit - 80 ≤ tj else limit ≤ tj

/-- Shows the sensors and judges coverage (R495, R516). -/
def Dev.thermShow (d : Dev) : Dev :=
  let s := d.therm.sens
  let ok (i : Nat) : Bool := i < s.length && !(at' s i {}).failed
  let lost := (List.range 24).countP ok < 4 || (List.range 4).any fun q => !(List.range 6).any fun i => ok (6 * q + i)
  let d1 := (List.range 24).foldl (fun d i =>
    ((d.setB (F.THERM_TS.VALID i) (ok i)).setB (F.THERM_TS.SUBST i) (d.therm.subst.any fun x => x.1 = i)).setS
      (F.THERM_TS.READING i) (at' s i {}).reading) d
  ((((d1.set F.THERM_FAILED (maskOf 24 fun i => (at' s i {}).failed)).setB F.THERM_STATUS.SUBST (d.therm.subst ≠ [])).setB
    F.THERM_STATUS.COVERAGE_LOST lost).raiseIf (lost && !d.flag F.THERM_STATUS.COVERAGE_LOST) 11 5)

/-- T_j and the thermal states (R491, R492); with no valid sensor and no substitute T_j is a free value (log 4). -/
def Dev.thermJudge (d : Dev) : Dev :=
  let r := match d.therm.junction with
    | some h => (h, d)
    | none => let f := d.takeFree 16; ((d.therm.hottest, sgn 16 f.1), f.2)
  let tj := r.1.2
  let warn := thermState (d.flag F.THERM_STATUS.WARNING) tj 1680
  let thr := thermState (d.flag F.THERM_STATUS.THROTTLE) tj 1840
  let shut := thermState (d.flag F.THERM_STATUS.SHUTDOWN) tj 2000
  let d1 := { r.2 with therm := { r.2.therm with hottest := r.1.1 } }.setS F.THERM_STATUS.TJ tj
  let d2 := ((d1.setB F.THERM_STATUS.WARNING warn).setB F.THERM_STATUS.THROTTLE thr).setB F.THERM_STATUS.SHUTDOWN shut
  (d2.raiseIf (warn ≠ d.flag F.THERM_STATUS.WARNING) 11 0).raiseIf (shut ≠ d.flag F.THERM_STATUS.SHUTDOWN) 11 2

/-- Substitutes after a reading: the sensor that gave T_j has failed above level 0, or a substituted one is valid again (R494). -/
def Dev.substitutes (d before : Dev) : Dev :=
  let s := d.therm.sens
  let kept := d.therm.subst.filter fun x => (at' s x.1 {}).failed
  let h := before.therm.hottest
  let fresh := before.therm.sens ≠ [] && before.therm.level ≠ 0 && (at' s h {}).failed && !(at' before.therm.sens h {}).failed
  ({ d with therm := { d.therm with
    subst := if fresh then kept ++ [(h, (at' s h {}).lastGood + 160, false)] else kept } }).raiseIf fresh 11 4

/-- The readings of all sensors, every 1 ms (R489). -/
def Dev.readSensors (d : Dev) (r : List Int) : Dev :=
  let s := d.therm.all
  let n := (List.range 24).map (sensorNext s r)
  let changed := n.map (·.failed) ≠ s.map (·.failed)
  let d1 := { d with therm := { d.therm with sens := n } }.raiseIf changed 11 3
  (d1.substitutes d).thermShow.thermJudge

/-- The readings; then whatever leads to SAFE_HOLD (R31, R34). -/
def thermalReading (r : List Int) (d : Dev) : Dev := if d.held then d else d.settled fun d => d.readSensors r

/-- THERMAL_READING (R490). -/
def execThermalReading (r : List Int) (s : State) : Out := onDev (thermalReading r) s

/-- The throttle level is evaluated (R493, R494). -/
def throttleEval (d : Dev) : Dev :=
  let tj := d.getS F.THERM_STATUS.TJ
  let k := d.therm.level
  let up := throttleL tj
  let down := throttleL (tj + 80)
  let n := if k < up then up else if down < k && d.therm.subst = [] then down else k
  if d.therm.sens = [] then d else { d with therm := { d.therm with level := n, levelDue := n ≠ d.therm.inEffect } }

/-- THROTTLE_EVAL (R493). -/
def execThrottleEval (s : State) : Out := onDev throttleEval s

/-- The first substitute that is not yet 60 s old becomes the hottest valid sensor plus 10 °C. -/
def expireSubst : List (Nat × Int × Bool) → List (Nat × Int × Bool)
  | [] => []
  | x :: t => if x.2.2 then x :: expireSubst t else (x.1, x.2.1, true) :: t

/-- The 60 s of the oldest substitute have passed (R494). -/
def substituteTimeout (d : Dev) : Dev :=
  if d.therm.subst.all (·.2.2) then d
  else d.settled fun d => { d with therm := { d.therm with subst := expireSubst d.therm.subst } }.thermShow.thermJudge

/-- SUBSTITUTE_TIMEOUT (R494). -/
def execSubstituteTimeout (s : State) : Out := onDev substituteTimeout s

/-! ## The retirement table (R486, R487) -/

/-- An entry that flash holds. -/
def Retired.kept (r : Retired) : Retired := { r with stored := true }

/-- Entries that wait to be written to flash. -/
def unstored (l : List Retired) : List Retired := l.filter fun r => !r.stored && !r.lost

/-- New entries are written to flash, at most 1,024 in all; or the write fails (R486). -/
def retirementStoreWrite (ok : Bool) (d : Dev) : Dev :=
  let new := unstored d.life.retired
  if new = [] then d
  else
    let room := 1024 - d.life.flashRet.length
    let fits := if ok then new.take room else []
    let mark (r : Retired) : Retired :=
      if r.stored || r.lost then r else if fits.any (· = r) then { r with stored := true } else { r with lost := true }
    let d1 := { d with life := { d.life with retired := d.life.retired.map mark } }.recordRetired
      (d.life.flashRet ++ fits.map Retired.kept)
    d1.raiseIf (fits.length < new.length) 0 10

/-- RETIREMENT_STORE_WRITE (R486). -/
def execRetirementStoreWrite (ok : Bool) (s : State) : Out := onDev (retirementStoreWrite ok) s

/-- A cleared unit returns, or its return begins (R487). -/
def Dev.returnUnit (d : Dev) (kind unit : Nat) : Dev :=
  if kind ≤ 2 && d.st.ticks then { d with life := { d.life with returns := d.life.returns ++ [(kind, unit)] } }
  else if kind = 3 then
    let d1 := d.modCvy unit fun v => { v with returning := true }
    if d1.st.ticks then d1 else d1.restCalibrate unit
  else d.unitBack kind unit

/-- One entry is removed; a retirement that has not taken effect yet never does. -/
def Dev.clearEntry (d : Dev) (kind unit : Nat) : Dev :=
  let keep (r : Retired) : Bool := !(r.kind = kind && r.unit = unit)
  let waiting := d.seq.retireDue.any fun q => q.1 = kind && q.2.1 = unit
  let d0 := { d with
    life := { d.life with retired := d.life.retired.filter keep }
    seq := { d.seq with retireDue := d.seq.retireDue.filter fun q => !(q.1 = kind && q.2.1 = unit) } }
  let d1 := (d0.recordRetired (d.life.flashRet.filter keep)).raise 0 9
  if waiting then d1 else d1.returnUnit kind unit

/-- A write of fault.clear_retirement: one entry by KIND and UNIT, or all; an entry that is not in the table is out of range. -/
def clearRetirement (role : Role) (v : Nat) (d : Dev) : Dev :=
  d.roleWrite role true fun d =>
    if v = 0xFFFFFFFF then d.life.retired.foldl (fun d r => d.clearEntry r.kind r.unit) d
    else if bits v 16 8 = 0 && d.retiredUnit (v / 2 ^ 24) (v % 65536) then d.clearEntry (v / 2 ^ 24) (v % 65536)
    else d.answer 4

/-- CLEAR_RETIREMENT (R487). -/
def execClearRetirement (role : Role) (v : Nat) (s : State) : Out := onDev (clearRetirement role v) s

end Sys2Proof.Machine
end

