-- ==== Sys2Proof/Machine/Drover.lean ====
section
/-! DEFINITION. Drover, the mirror controller (R121–R159). -/

namespace Sys2Proof.Machine

/-! ## Configuration and gain sets (R157, R158) -/

/-- N_STATES, at most 8. -/
def drvStates (cfg : Bytes) : Nat := min 8 (rd 1 cfg 0)
/-- N_MEAS, at most 4. -/
def drvMeas (cfg : Bytes) : Nat := min 4 (rd 1 cfg 1)
/-- POS_MEAS of axis j. -/
def drvPosMeas (cfg : Bytes) (j : Nat) : Nat := rd 1 cfg (2 + j)
/-- Word k of axis j: 0 VMAX, 1 AMAX, 2 U_MIN, 3 U_MAX, 4 Z_LIM, 5 SLEW, 6 LOCK_TOL, 7 UNLOCK_TOL, 8 PARK, 9 PARK_OUTPUT. -/
def drvAxis (cfg : Bytes) (j k : Nat) : Int := rdS 4 cfg (8 + 40 * j + 4 * k)
/-- BAND_i, i from 1. -/
def drvBand (cfg : Bytes) (i : Nat) : Int := rdS 2 cfg (0x58 + 2 * (i - 1))

/-- Word w of gain set s. -/
def gainAt (g : Bytes) (s w : Nat) : Int := rdS 4 g (688 * s + 4 * w)

/-- A Q8.24 sum of products with Q4.28 coefficients: rounded half up (R130). -/
def q28 (acc : Int) : Int := rhu acc 268435456

/-- A value leaves the Q8.24 range (R130). -/
def over32 (v : Int) : Bool := v ≠ satS 32 v

/-- A sum over the indices below n. -/
def sumOver (n : Nat) (f : Nat → Int) : Int := (List.range n).foldl (fun a i => a + f i) 0

/-! ## Timing (R123, R124, R126) -/

/-- Control tick period, ns: other values act as the nearest limit (R151). -/
def Dev.drvPeriod (d : Dev) : Nat := max 5000 (min 40000 (d.get F.DRV_TICK.PERIOD))

/-- T_meas, ns, of measurements that sum OVS + 1 samples each (R124). -/
def Dev.measSpan (d : Dev) (delay : Nat) (ovs : List Nat) : Nat :=
  delay + 1000 * nat (d.flag (F.ADC_CTRL.PD 1)) + (ovs.map fun v => 4 * (5 + v)).sum + 36

/-- T_meas of the configuration (R124). -/
def Dev.drvMeasTime (d : Dev) : Nat :=
  d.measSpan (d.get F.DRV_TICK.SENSE_DELAY) ((List.range (drvMeas (d.tab 0x7007))).map fun m => d.get (F.DRV_MEAS.OVS m))

/-- The settings of measurement m in the tick (R152). -/
def Drover.measSet (c : Drover) (m : Nat) : MeasSet := at' c.tick.meas m {}

/-- Measurements that the tick takes (R121, R124). -/
def Drover.measures (c : Drover) : Nat := if c.tick.axes = 0 then 0 else drvMeas c.tick.cfg

/-- T_meas of the control tick in progress (R124). -/
def Dev.tickMeasTime (d : Dev) : Nat := d.measSpan d.drv.tick.delay ((List.range d.drv.measures).map fun m => (d.drv.measSet m).ovs)

/-- Field of output o in DRV_OUTMAP (R153). -/
def Dev.drvMap (d : Dev) (o : Nat) : Nat := bits (d.get F.DRV_OUTMAP.MAP) (4 * o) 4

/-- Outputs sent over DRVSPI, in ascending order (R128). -/
def Dev.drvExternal (d : Dev) : List Nat := if d.flag F.DRVSPI_CFG.EN then (List.range 4).filter fun o => bitAt (d.drvMap o) 3 else []

/-- T_out, ns (R126). -/
def Dev.drvOutTime (d : Dev) : Nat :=
  let n := d.drvExternal.length
  if n = 0 then 100 else n * (24 * (20 * (d.get F.DRVSPI_CFG.DIV + 1)) + 40) + 40

/-- The configuration meets the timing of R126. -/
def Dev.drvFits (d : Dev) : Bool := d.drvMeasTime + 400 + d.drvOutTime ≤ d.drvPeriod - 1000

/-- A change of the configuration that fails R126 is refused at its commit with 0x04 and sets CFG_ERR. -/
def Dev.drvConfigure (d : Dev) (via : Via) (f : Dev → Dev) : Dev :=
  if (f d).projected.drvFits then f d else ((d.setB F.DRV_STATUS.CFG_ERR true).raise 7 6).refuse via 4

/-! ## The control tick (R123, R134–R140, R144, R147) -/

/-- Drover's clock runs. -/
def Dev.drvRuns (d : Dev) : Bool := !d.held && d.rootRuns && d.runs 18

/-- The clk_tdc count of the next control tick: a multiple of PERIOD from the divider release (R123). -/
def Dev.nextControl (d : Dev) : Nat :=
  let p := d.drvPeriod
  let k := (d.cyc - d.clk.relCyc) / p
  let here := d.clk.relCyc + k * p
  if here = d.cyc && d.drv.tickCyc ≠ here then here else here + p

/-- The axes are parked (R144). -/
def Dev.drvParked (d : Dev) : Bool := d.st = .safeHold || (d.st = .standby && d.get F.DRV_CTRL.MODE = 2)

/-- The mode in effect: 0 OFF, 1 MANUAL, 2 AUTO (R121, R140, R144). -/
def Dev.drvMode (d : Dev) : Nat :=
  if d.st = .faultStop || d.axes = 0 then 0
  else if d.drvParked then (if d.flag F.DRV_STATUS.SENSOR_FAULT || d.flag F.DRV_STATUS.INNOV_FAULT then 1 else 2)
  else if d.get F.DRV_CTRL.MODE = 3 then 0 else d.get F.DRV_CTRL.MODE

/-- The band after one comparison with each threshold upwards (R134). -/
def bandUp (cfg : Bytes) (angle hyst : Int) : Nat → Nat → Nat
  | 0, a => a
  | n + 1, a => if a < 3 ∧ drvBand cfg (a + 1) + hyst ≤ angle then bandUp cfg angle hyst n (a + 1) else a

/-- The band after one comparison with each threshold downwards (R134). -/
def bandDown (cfg : Bytes) (angle hyst : Int) : Nat → Nat → Nat
  | 0, a => a
  | n + 1, a => if 0 < a ∧ angle < drvBand cfg a - hyst then bandDown cfg angle hyst n (a - 1) else a

/-- Both bands, from the previous tick's angle and the sensor (R134, R135). -/
def Dev.drvBands (d : Dev) : Dev :=
  let cfg := d.tab 0x7007
  let hyst : Int := rd 2 cfg 0x5E
  let ang := at' d.drv.ang 0 0
  let aband := if at' d.drv.est 0 false then d.drv.aband else bandDown cfg ang hyst 3 (bandUp cfg ang hyst 3 d.drv.aband)
  let s := at' d.therm.sens (rd 1 cfg 0x60) {}
  let split := rdS 1 cfg 0x61
  let h : Int := rd 1 cfg 0x62
  let tband := if s.failed || d.therm.sens = [] then d.drv.tband
    else if 16 * (split + h) ≤ s.reading then 1 else if s.reading < 16 * (split - h) then 0 else d.drv.tband
  { d with drv := { d.drv with aband := aband, tband := tband } }

/-- The gain set in use (R134). -/
def Dev.drvSet (d : Dev) : Nat := if d.flag F.DRV_CTRL.SCHED then 4 * d.drv.tband + d.drv.aband else d.get F.DRV_CTRL.FORCE_SET

/-- One step of a trajectory generator: position and velocity (R138). -/
def trajectory (p v t vmax amax : Int) : Int × Int :=
  let e := t - p
  if (e.natAbs : Int) ≤ amax ∧ (v.natAbs : Int) ≤ amax then (t, 0)
  else
    let s := e.sign
    let v1 := if 0 < v * s ∧ 2 * amax * (e.natAbs : Int) ≤ v * v then v - v.sign * amax else v + s * amax
    let v2 := if vmax < (v1.natAbs : Int) then v1 - v1.sign * min amax ((v1.natAbs : Int) - vmax) else v1
    (p + v2, v2)

/-- What the control tick fixes for its steps (R159). -/
def Dev.drvLatch (d : Dev) : Dev :=
  let cfg := d.tab 0x7007
  { d with drv := { d.drv with tick := {
    cfg := cfg, axes := d.axes, delay := d.get F.DRV_TICK.SENSE_DELAY
    meas := (List.range 4).map fun m =>
      { input := min 23 (d.get (F.DRV_MEAS.INPUT m)), gain := d.get (F.DRV_MEAS.GAIN m), ovs := d.get (F.DRV_MEAS.OVS m),
        ow := d.flag (F.DRV_MEAS.OW_EN m) }
    manual := if d.drvParked then [drvAxis cfg 0 9, drvAxis cfg 1 9] else [d.getS F.DRV_MANUAL0, d.getS F.DRV_MANUAL1]
    point := d.get F.DRV_TEST_CTRL.POINT, axis := d.get F.DRV_TEST_CTRL.AXIS
    setpoint := d.flag F.DRV_CTRL.TARGET_SRC, lead := d.get F.DRV_CTRL.TARGET_LEAD } } }

/-- Where a Q8.24 result saturates, NUM_SAT is set and numeric-saturation raised (R130, R142). -/
def Dev.numSat (d : Dev) (sat : Bool) : Dev := if sat then (d.setB F.DRV_STATUS.NUM_SAT true).raise 7 5 else d

/-- The targets that a control tick loads: PARK while the axes are parked, else DRV_SETPOINT where it is their source (R122, R137,
R144). -/
def Dev.drvTargets (d : Dev) : Dev :=
  let cfg := d.tab 0x7007
  if d.drvParked then { d with drv := { d.drv with target := [drvAxis cfg 0 8, drvAxis cfg 1 8] } }
  else if d.flag F.DRV_CTRL.TARGET_SRC then
    { d with drv := { d.drv with target := [512 * d.getS F.DRV_SETPOINT.AXIS0, 512 * d.getS F.DRV_SETPOINT.AXIS1] } }
  else d

/-- The generators run; on entry to AUTO they start at the position with velocity 0 (R138, R139). -/
def Dev.drvTrajectory (d : Dev) (entry : Bool) : Dev :=
  let cfg := d.tab 0x7007
  let r : List (Int × Int) := (List.range 2).map fun j =>
    if d.axes ≤ j then ((0 : Int), (0 : Int))
    else
      let p := if entry then at' d.drv.ypos j 0 else at' d.drv.pos j 0
      let v := if entry then 0 else at' d.drv.vel j 0
      trajectory p v (at' d.drv.target j 0) (drvAxis cfg j 0) (drvAxis cfg j 1)
  let d1 := { d with drv := { d.drv with pos := r.map fun (x : Int × Int) => satS 32 x.1, vel := r.map fun (x : Int × Int) => satS 32 x.2 } }
  d1.numSat (r.any fun x => over32 x.1 || over32 x.2)

/-- AMP × sin(2π φ / 2^32): the exact value where it is a Q8.24 value, which it is for an amplitude of 0 and at the quarters of
the turn only; else one of the two Q8.24 values beside it (R147). -/
def sineSignal (amp : Int) (phi : Nat) : Int :=
  if amp = 0 ∨ phi % 1073741824 = 0 then amp * at' [0, 1, 0, -1] (phi / 1073741824 % 4) 0
  else
  let x : Int := (((phi : Int) - (if phi < 2147483648 then 0 else 4294967296)) * 115904311329233965478).fdiv 4294967296
  (amp * trigSeries ((x * x).fdiv (2 ^ 64)) 24 1 x x).fdiv (2 ^ 64) + (Config.sineRound amp phi % 2 : Nat)

/-- The test signal of this tick; the phase and the register move on (R147). -/
def Dev.drvInject (d : Dev) : Dev :=
  let len := d.get F.DRV_TEST_LEN
  let wave := d.get F.DRV_TEST_CTRL.WAVE
  let i := d.drv.testI
  if !d.flag F.DRV_STATUS.TEST_RUN || d.st ≠ .scan || ((len ≠ 0 || wave = 2) && len ≤ i) then
    { d with drv := { d.drv with inj := 0 } }
  else
    let amp := d.getS F.DRV_TEST_AMP
    let f0 : Int := d.get F.DRV_TEST_F0
    let f1 : Int := d.get F.DRV_TEST_F1
    let hold := max 1 (d.get F.DRV_TEST_CTRL.HOLD)
    let reg := if wave = 3 && i % hold = 0 then (2 * d.drv.prbs + (bits d.drv.prbs 8 1 + bits d.drv.prbs 4 1) % 2) % 512 else d.drv.prbs
    let inj := if wave = 3 then (if (reg % 2 = 1) = Config.prbsHigh then amp else -amp) else sineSignal amp d.drv.phi
    let step : Int := if wave = 2 then (f0 * len + (f1 - f0) * i).tdiv len else f0
    { d with drv := { d.drv with inj := inj, prbs := reg, phi := uns 32 (d.drv.phi + step), testI := i + 1 } }

/-- The lock of every axis and of Drover (R141): an unlock where ticks occur leads to SAFE_HOLD (R143), and a requested SCAN that
waits for the lock is entered (R31). -/
def Dev.drvLock (d : Dev) (ax : List Bool) : Dev :=
  let now := d.axes ≠ 0 && (List.range d.axes).all fun j => at' ax j false
  let was := d.droverLocked
  let d1 := ({ d with drv := { d.drv with axLock := ax } }.setB F.DRV_STATUS.LOCKED now).raiseIf (was ≠ now) 7 0
  if was && !now && d1.st.ticks then d1.hold [.service]
  else if now && d1.st = .standby && d1.want = some .scan then d1.goto .scan false
  else d1

/-- The mode and the gain set of a tick that starts, with whether its law runs a transfer (R136, R140). -/
def Dev.drvSelect (d : Dev) : Dev :=
  let mode := d.drvMode
  let set := d.drvSet
  let swap := d.drv.xferDue || set ≠ d.get F.DRV_STATUS.SET
  let entry := mode = 2 && d.drv.prevMode ≠ 2
  let d1 := { d with drv := { d.drv with
    xfer := entry || (mode = 2 && swap), xferDue := false, prevMode := mode, phase := 1, tickCyc := d.cyc, ticks := d.drv.ticks + 1 } }
  let d2 := ((d1.set F.DRV_STATUS.MODE_ACTIVE mode).set F.DRV_STATUS.SET set).drvTrajectory entry
  if mode = 2 then d2 else { d2 with drv := { d2.drv with lockRun := [0, 0], unlRun := [0, 0] } }.drvLock [false, false]

/-! ## Measurements (R124, R125, R314) -/

/-- The samples of measurement m: 4 that are discarded and OVS (R124). -/
def Dev.measLen (d : Dev) (m : Nat) : Nat := (d.drv.measSet m).ovs + 5

/-- Drover takes ADC1 at SENSE_DELAY after the tick, where a mirror is configured; with power-down the start-up delay comes first (R124,
R312, R313). -/
def droverSenseStart (d : Dev) : Dev :=
  if d.drv.phase ≠ 1 then d
  else
    let n := ((List.range d.drv.measures).map d.measLen).sum
    let a := instantAt (d.drv.tickCyc + d.drv.tick.delay + 1000 * nat (d.flag (F.ADC_CTRL.PD 1)))
    let d1 := d.cycleTo (d.drv.tickCyc + d.drv.tick.delay)
    { d1 with drv := { d1.drv with phase := 2 } }.slotStart 1 a (a + 4 * n - 4) (d1.drv.measSet 0).input (d1.drv.measSet 0).gain

/-- DROVER_SENSE_START (R124). -/
def execDroverSenseStart (s : State) : Out := onDev droverSenseStart s

/-- The samples of measurement m from an instant, with their codes. -/
def Dev.measSamples (d : Dev) (m t : Nat) (codes : List Nat) : List CSample :=
  let s := d.drv.measSet m
  let opn := bitAt (d.get (F.ADC_STATUS.OPEN 1)) s.input
  (List.range codes.length).map fun i => { t := t + 4 * i, input := s.input, gain := s.gain, opn := opn, code := at' codes i 0 }

/-- The setting of ADC1 before its slot: that of a sequence whose codes are still to come, or of the last instant (R310). -/
def Conv.setting (c : Conv) : Conv :=
  match c.seqs.find? (·.running) with
  | some q => if q.next < c.slotFrom then { c with lastIn := q.input, lastGain := q.gain } else c
  | none => c

/-- One measurement from the words of its samples (R124, R125, R314): the first 4 are discarded. -/
def Dev.measure (d : Dev) (m : Nat) (words : List Nat) : Dev :=
  let s := d.drv.measSet m
  let down := at' d.drv.owDir m false
  let valid := validCodes words
  let d1 := if s.ow then d.openJudge 1 s.input down valid.sum valid.length else d
  let used := words.drop 4
  let n := used.length
  let cfg := d.drv.tick.cfg
  let avg := rhu (16 * ((used.map wCode).sum : Nat)) n
  let yRaw := rhu ((avg - rdS 4 cfg (0x7C + 8 * m)) * rdS 4 cfg (0x80 + 8 * m)) 16
  let bad := n = 0 || (s.ow && bitAt (d1.get (F.ADC_STATUS.OPEN 1)) s.input) ||
    used.any fun w => wInvalid w || wCode w = 0 || wCode w = 4095
  { d1 with drv := { d1.drv with
    y := if n = 0 then d1.drv.y else upd d1.drv.y m fun _ => satS 32 yRaw
    inval := upd d1.drv.inval m fun _ => bad
    owDir := upd d1.drv.owDir m fun _ => s.ow && !down } }.numSat (n ≠ 0 && over32 yRaw)

/-- Every measurement of the tick, from measurement m and instant `t` on, with the converter as it stands before; codes that are not
given are free values (log 4). The samples of the slot, in time order, and the device. -/
def Dev.measureAll (d : Dev) (c : Conv) (m t : Nat) (codes : List (List Nat)) : Nat → List CSample × Dev
  | 0 => ([], d)
  | k + 1 =>
    let q := d.codesFor (codes.headD []) (d.measLen m)
    let l := q.2.measSamples m t q.1
    let r := Dev.measureAll (q.2.measure m (c.words l)) (l.foldl (fun c s => (c.sample s).1) c) (m + 1) (t + 4 * l.length) codes.tail k
    (l ++ r.1, r.2)

/-- The measurements of the tick from the codes of its slot, which ends (R124, R125). -/
def Dev.measureSlot (d : Dev) (codes : List (List Nat)) : Dev :=
  let c := d.convN 1
  let r := d.measureAll c.setting 0 c.slotFrom codes d.drv.measures
  r.2.slotDone 1 r.1

/-! ## The control law (R129–R132, R136, R140) -/

/-- What the law reads, for one tick. -/
structure LawIn where
  /-- Gain sets. -/
  gains : Bytes
  /-- Configuration. -/
  cfg : Bytes
  /-- Active set. -/
  set : Nat
  /-- Axes. -/
  axes : Nat
  /-- Mode in effect: 1 MANUAL, 2 AUTO. -/
  mode : Nat
  /-- Bumpless transfer. -/
  xfer : Bool
  /-- Manual outputs. -/
  manual : List Int
  /-- Set-points r_pos with any injected value. -/
  rPos : List Int
  /-- Injected into u_c, by axis. -/
  uInj : List Int

/-- What the law gives, for one tick; `raw` lists every rounded element that the tick forms, before saturation. -/
structure LawOut where
  e : List Int
  xhat : List Int
  z : List Int
  res : List Int
  u : List Int
  clamped : List Bool
  ypos : List Int
  raw : List Int

/-- Steps 1 to 6 of R129 in MANUAL and AUTO. -/
def law (a : LawIn) (c : Drover) : LawOut :=
  let n := drvStates a.cfg
  let p := drvMeas a.cfg
  let g := gainAt a.gains a.set
  let x (i : Nat) : Int := at' c.xhat i 0
  let cx (m : Nat) : Int := sumOver n fun j => g (80 + 8 * m + j) * x j
  let eRaw := (List.range p).map fun m => if at' c.inval m false then 0 else q28 (at' c.y m 0 * 268435456 - cx m)
  let e := eRaw.map (satS 32)
  let xcRaw := (List.range 8).map fun i =>
    if i < n then q28 (x i * 268435456 + sumOver p fun m => g (112 + 4 * i + m) * at' e m 0) else 0
  let xc := xcRaw.map (satS 32)
  let yRaw := (List.range 2).map fun j =>
    let m := drvPosMeas a.cfg j
    if at' c.inval m false then q28 (cx m) else at' c.y m 0
  let ypos := yRaw.map (satS 32)
  let r (q : Nat) : Int := match q with
    | 0 => at' a.rPos 0 0
    | 1 => at' a.rPos 1 0
    | 2 => at' c.vel 0 0
    | _ => at' c.vel 1 0
  let ki (j : Nat) : Int := g (168 + j)
  let uc (j : Nat) (z : Int) : Int :=
    q28 ((sumOver 4 fun q => if a.axes ≤ q % 2 then 0 else g (160 + 4 * j + q) * r q) -
      (sumOver n fun i => g (144 + 8 * j + i) * at' xc i 0) + ki j * z)
  let axes := (List.range 2).map fun j =>
    let lo := drvAxis a.cfg j 2
    let hi := drvAxis a.cfg j 3
    let zl := drvAxis a.cfg j 4
    if a.axes ≤ j then ((0 : Int), (0 : Int), (0 : Int), false, ([] : List Int))
    else if a.mode = 1 then
      let m := at' a.manual j 0
      (at' c.z j 0, 0, clampI m lo hi, decide (m ≠ clampI m lo hi), [])
    else
      let slew := drvAxis a.cfg j 5
      let d0 := at' c.res j 0
      let z0 := if ki j = 0 then 0 else at' c.z j 0
      let base := satS 32 (uc j 0)
      let uT := at' c.u j 0
      let zx := if ki j = 0 then 0
        else clampI (if 0 < ki j then rhu ((uT - base) * 268435456) (ki j).natAbs else rhu ((base - uT) * 268435456) (ki j).natAbs) (-zl) zl
      let z := if a.xfer then zx else z0
      let dRaw := if a.xfer then uT - (base + q28 (ki j * zx))
        else if (d0.natAbs : Int) ≤ slew then 0 else d0 - d0.sign * slew
      let d := satS 32 dRaw
      let ucRaw := uc j z
      let full := satS 32 ucRaw + d + at' a.uInj j 0
      let u := clampI full lo hi
      let incr := q28 (g (170 + j) * (at' a.rPos j 0 - at' ypos j 0))
      let frozen := (hi < full && 0 < incr) || (full < lo && incr < 0)
      let z1 := if ki j = 0 then 0 else if frozen then z else clampI (satS 32 (z + incr)) (-zl) zl
      (z1, d, u, decide (full ≠ u),
        (if a.xfer then [uc j 0, dRaw] else []) ++ [ucRaw] ++ (if ki j = 0 || frozen then [] else [z + incr]))
  let u := axes.map fun t => t.2.2.1
  let xpRaw := (List.range 8).map fun i =>
    if i < n then q28 ((sumOver n fun j => g (8 * i + j) * at' xc j 0) + sumOver a.axes fun j => g (64 + 2 * i + j) * at' u j 0) else 0
  { e := e, xhat := xpRaw.map (satS 32), z := axes.map (·.1), res := axes.map (·.2.1), u := u, clamped := axes.map (·.2.2.2.1)
    ypos := ypos, raw := eRaw ++ xcRaw ++ yRaw.take a.axes ++ xpRaw ++ axes.flatMap (·.2.2.2.2) }

/-- The gain sets of this tick: the bank that was active when it started (R133). -/
def Dev.drvGains (d : Dev) : Bytes := if d.drv.xferDue then (d.bank 0x7006).inact else (d.bank 0x7006).act

/-- The set-points of the tick, with the value injected into one, before saturation (R147). -/
def Dev.drvRefRaw (d : Dev) : List Int :=
  d.drv.pos.mapIdx fun j p => if d.drv.tick.point = 0 && d.drv.tick.axis = j then p + d.drv.inj else p

/-- The set-points of the tick (R130, R147). -/
def Dev.drvRef (d : Dev) : List Int := d.drvRefRaw.map (satS 32)

/-- What the law of this tick reads. -/
def Dev.lawIn (d : Dev) : LawIn :=
  let t := d.drv.tick
  { gains := d.drvGains, cfg := t.cfg, set := d.get F.DRV_STATUS.SET, axes := t.axes, mode := d.get F.DRV_STATUS.MODE_ACTIVE
    xfer := d.drv.xfer, manual := t.manual, rPos := d.drvRef
    uInj := (List.range 2).map fun j => if t.point = 1 && t.axis = j then d.drv.inj else 0 }

/-- The law runs; in OFF the observer, the integrators and the outputs are 0 (R140). -/
def Dev.drvLaw (d : Dev) : Dev × List Int :=
  let a := d.lawIn
  let o := law a d.drv
  let off := a.mode = 0
  let sat := d.drvRefRaw.any over32 || (!off && o.raw.any over32)
  let d1 := { d with drv := { d.drv with
    xhat := if off then [0, 0, 0, 0, 0, 0, 0, 0] else o.xhat, z := if off then [0, 0] else o.z, res := if off then [0, 0] else o.res
    u := if off then [0, 0] else o.u, ypos := if off then [0, 1].map fun j => at' d.drv.y (drvPosMeas a.cfg j) 0 else o.ypos
    xfer := false } }
  let mask := if off then 0 else maskOf 2 fun j => at' o.clamped j false
  let d2 := (d1.set F.DRV_STATUS.SAT mask).setB F.DRV_STATUS.RESIDUE (!off && o.res.any (· ≠ 0))
  (d2.numSat sat, if off then [] else o.e)

/-- Faults of the tick (R142); true where one unlocks. -/
def Dev.drvFaults (d : Dev) (e : List Int) : Dev × Bool :=
  let cfg := d.drv.tick.cfg
  let p := d.drv.measures
  let inv := (List.range 4).map fun m => if m < p && at' d.drv.inval m false then at' d.drv.invRun m 0 + 1 else 0
  let inn := (List.range 4).map fun m => if m < e.length && rdS 4 cfg (0x6C + 4 * m) < ((at' e m 0).natAbs : Int) then at' d.drv.innRun m 0 + 1 else 0
  let sat := (List.range 2).map fun j => if bitAt (d.get F.DRV_STATUS.SAT) j then at' d.drv.satRun j 0 + 1 else 0
  let it := rd 2 cfg 0x6A
  let st := rd 2 cfg 0x68
  let d1 := { d with drv := { d.drv with invRun := inv, innRun := inn, satRun := sat } }.raiseIf (inv.any (0 < ·)) 7 1
  let sf := inv.any (8 ≤ ·)
  let nf := it ≠ 0 && inn.any (it ≤ ·)
  let d2 := if sf then (d1.setB F.DRV_STATUS.SENSOR_FAULT true).raiseIf (inv.contains 8 || !d.flag F.DRV_STATUS.SENSOR_FAULT) 7 2 else d1
  let d3 := if nf then (d2.setB F.DRV_STATUS.INNOV_FAULT true).raiseIf (inn.contains it || !d.flag F.DRV_STATUS.INNOV_FAULT) 7 3 else d2
  (d3.raiseIf (st ≠ 0 && sat.contains st) 7 4, sf || nf)

/-- The axes lock and unlock (R141). -/
def Dev.drvLocks (d : Dev) (rPos : List Int) (fault : Bool) : Dev :=
  if d.get F.DRV_STATUS.MODE_ACTIVE ≠ 2 then d
  else
    let cfg := d.drv.tick.cfg
    let err (j : Nat) : Int := ((at' rPos j 0 - at' d.drv.ypos j 0).natAbs : Int)
    let lock := (List.range 2).map fun j =>
      if err j ≤ drvAxis cfg j 6 && !at' d.drv.inval (drvPosMeas cfg j) false then at' d.drv.lockRun j 0 + 1 else 0
    let unl := (List.range 2).map fun j => if drvAxis cfg j 7 < err j then at' d.drv.unlRun j 0 + 1 else 0
    let out (j : Nat) : Bool := fault || (0 < at' unl j 0 && rd 2 cfg 0x66 ≤ at' unl j 0)
    let ax := (List.range 2).map fun j =>
      if out j then false else at' d.drv.axLock j false || (0 < at' lock j 0 && rd 2 cfg 0x64 ≤ at' lock j 0)
    let run := (List.range 2).map fun j => if out j then 0 else at' lock j 0
    { d with drv := { d.drv with lockRun := run, unlRun := unl } }.drvLock ax

/-- An internal angle as 16 bits (R122). -/
def angle16 (v : Int) : Int := satS 16 (rhu v 512)

/-- The angles of the tick: DRV_ANGLE, the date they carry and whether they are estimated (R132, R145, R146). -/
def Dev.drvAngles (d : Dev) : Dev :=
  let t := d.drv.tick
  let a := (List.range 2).map fun j => if j < t.axes then angle16 (at' d.drv.ypos j 0) else 0
  let est := (List.range 2).map fun j => j < t.axes && at' d.drv.inval (drvPosMeas t.cfg j) false
  let date := d.drv.tickCyc + t.delay
  let d1 := { d with drv := { d.drv with ang := a, est := est, hist := (date, at' a 0 0, at' a 1 0, est.any id) :: d.drv.hist } }
  (((d1.setS F.DRV_ANGLE.AXIS0 (at' a 0 0)).setS F.DRV_ANGLE.AXIS1 (at' a 1 0)).set F.DRV_STATUS.EST
    (maskOf 2 fun j => at' est j false)).fixAngle

/-- The tick record (R148). -/
def Dev.tickRecord (d : Dev) (rPos : List Int) : List Int :=
  let y (j : Nat) : Int := at' d.drv.y (drvPosMeas d.drv.tick.cfg j) 0
  [(d.drv.ticks : Int), at' rPos 0 0, y 0, at' d.drv.u 0 0, d.drv.inj, at' rPos 1 0, y 1, at' d.drv.u 1 0]

/-- The law of the tick on its measurements: state, faults, angles, the record and the lock (R129, R141, R142, R145, R148). -/
def Dev.lawStep (d : Dev) : Dev :=
  let ref := d.drvRef
  let r := d.drvLaw
  let f := r.1.drvFaults r.2
  let d1 := f.1.drvAngles
  ({ d1 with drv := { d1.drv with phase := 3 } }.feedTick (d1.tickRecord ref)).drvLocks ref f.2

/-- The measurements are complete and the law runs. -/
def droverMeasureDone (samples : List (List Word)) (d : Dev) : Dev :=
  if d.drv.phase ≠ 2 then d
  else ((d.cycleTo (d.drv.tickCyc + d.tickMeasTime)).measureSlot (samples.map fun l => l.map (·.toNat % 4096))).lawStep

/-- DROVER_MEASURE_DONE (R129). -/
def execDroverMeasureDone (samples : List (List Word)) (s : State) : Out := onDev (droverMeasureDone samples) s

/-- A tick that takes no measurements has no slot on ADC1 (R313): its law runs at once. -/
def Dev.lawNow (d : Dev) : Dev := if d.drv.measures = 0 then { d with drv := { d.drv with inval := [false, false, false, false] } }.lawStep else d

/-- A control tick starts. -/
def controlTick (d : Dev) : Dev :=
  if !d.drvRuns then d
  else (((((d.cycleTo d.nextControl).commitPoint .control true).drvBands.drvLatch.drvTargets.drvSelect).drvInject).seqSource 3).lawNow

/-- CONTROL_TICK (R123). -/
def execControlTick (s : State) : Out := onDev controlTick s

/-! ## Outputs (R126–R128) -/

/-- The code of output o (R127). -/
def Dev.drvCode (d : Dev) (o : Nat) : Int :=
  let m := d.drvMap o
  let u := match m % 4 with
    | 1 => at' d.drv.u 0 0
    | 2 => at' d.drv.u 1 0
    | _ => 0
  angle16 (if bitAt m 2 then -u else u)

/-- The drive outputs update and any DRVSPI transfer starts. -/
def driveOutputUpdate (d : Dev) : Dev :=
  if d.drv.phase ≠ 3 then d
  else
    let d2 := d.cycleTo (d.drv.tickCyc + d.tickMeasTime + 400)
    let ext := d2.drvExternal
    let word (o : Nat) : Nat := d2.get F.DRVSPI_CFG.CMD * 2 ^ 20 + bits (d2.get F.DRVSPI_CFG.ADDR) (4 * o) 4 * 2 ^ 16 + uns 16 (d2.drvCode o)
    let d3 := { d2 with drv := { d2.drv with
      code := (List.range 4).map fun o => if bitAt (d2.drvMap o) 3 then 0 else d2.drvCode o
      spi := ext.map word, phase := if ext = [] then 0 else 4 } }
    (d3.setS F.DRV_OUTPUT.U0 (angle16 (at' d3.drv.u 0 0))).setS F.DRV_OUTPUT.U1 (angle16 (at' d3.drv.u 1 0))

/-- DRIVE_OUTPUT_UPDATE (R126). -/
def execDriveOutputUpdate (s : State) : Out := onDev driveOutputUpdate s

/-- The last word is sent and DRVSPI_LD_N pulses low: the words are latched (R128). -/
def drvspiTransferDone (d : Dev) : Dev :=
  if d.drv.phase ≠ 4 then d
  else
    let d1 := d.cycleTo (d.drv.tickCyc + d.tickMeasTime + 400 + d.drvOutTime)
    { d1 with drv := { d1.drv with spiLast := d1.drv.spi, spi := [], phase := 0 } }

/-- DRVSPI_TRANSFER_DONE (R128). -/
def execDrvspiTransferDone (s : State) : Out := onDev drvspiTransferDone s

/-! ## Writes (R121, R123, R137, R140, R147, R149, R155) -/

/-- Drover is in mode OFF. -/
def Dev.drvOff (d : Dev) : Bool := d.get F.DRV_STATUS.MODE_ACTIVE = 0

/-- AXES can change in BOOT, STANDBY and SAFE_HOLD only (R121). -/
def Dev.drvAxesWrite (d : Dev) (via : Via) (v : Nat) : Dev :=
  if Via.isDict via && 2 < v then d.answer 4
  else if d.st = .boot || d.st = .standby || d.st = .safeHold then d.write F.DRV_CTRL.AXES v .stateChange
  else d.refuse via 8

/-- MODE, TARGET_SRC and FORCE_SET are immediate; TARGET_LEAD and SCHED commit at the frame tick (R159). -/
def Dev.drvFieldWrite (d : Dev) (f : Fld) (v : Nat) : Dev :=
  d.write f v (if f = F.DRV_CTRL.TARGET_LEAD || f = F.DRV_CTRL.SCHED then .frame else .immediate)

/-- A write of every field of DRV_CTRL. A dictionary write stands for one of each entry whose field it changes, the expert
entries only where one of them changes. -/
def drvCtrlWrite (via : Via) (w : Word) (d : Dev) : Dev :=
  let v := w.toNat
  let expert := !Via.isDict via || d.get F.DRV_CTRL.TARGET_LEAD ≠ bits v 12 2 || d.get F.DRV_CTRL.FORCE_SET ≠ bits v 8 3 ||
    d.get F.DRV_CTRL.SCHED ≠ bits v 7 1
  d.viaBlock via expert 18 fun d =>
    let d1 := if bits v 0 2 = d.get F.DRV_CTRL.AXES then d.writeNow F.DRV_CTRL.AXES (bits v 0 2) else d.drvAxesWrite via (bits v 0 2)
    let d2 := ((d1.drvFieldWrite F.DRV_CTRL.MODE (bits v 2 2)).drvFieldWrite F.DRV_CTRL.TARGET_SRC (bits v 4 1)).drvFieldWrite
      F.DRV_CTRL.SCHED (bits v 7 1)
    (d2.drvFieldWrite F.DRV_CTRL.FORCE_SET (bits v 8 3)).drvFieldWrite F.DRV_CTRL.TARGET_LEAD (bits v 12 2)

/-- DRV_CTRL_WRITE (R140). -/
def execDrvCtrlWrite (via : Via) (v : Word) (s : State) : Out := onDev (drvCtrlWrite via v) s

/-- A write of 1 to CLEAR_FAULTS. -/
def drvClearFaults (priv : Bool) (d : Dev) : Dev :=
  d.blockWrite 18 fun d => d.privWrite priv fun d =>
    (((d.setB F.DRV_STATUS.SENSOR_FAULT false).setB F.DRV_STATUS.INNOV_FAULT false).setB F.DRV_STATUS.NUM_SAT false).setB
      F.DRV_STATUS.CFG_ERR false

/-- DRV_CLEAR_FAULTS (R149). -/
def execDrvClearFaults (priv : Bool) (s : State) : Out := onDev (drvClearFaults priv) s

/-- PERIOD and SENSE_DELAY change in mode OFF only (R123). -/
def Dev.drvTickSet (d : Dev) (via : Via) (period delay : Nat) : Dev :=
  if Via.isDict via && (period < 5000 || 40000 < period || 4095 < delay) then d.answer 4
  else if !d.drvOff then (d.setB F.DRV_STATUS.WRITE_REFUSED true).refuse via 8
  else d.drvConfigure via fun d => (d.writeNow F.DRV_TICK.PERIOD period).writeNow F.DRV_TICK.SENSE_DELAY delay

/-- A write of DRV_TICK, or of steering.tick_period and steering.sense_delay. -/
def drvTickWrite (via : Via) (w : Word) (d : Dev) : Dev :=
  let expert := !Via.isDict via || d.get F.DRV_TICK.SENSE_DELAY ≠ bits w.toNat 16 12
  d.viaBlock via expert 18 fun d => d.drvTickSet via (bits w.toNat 0 16) (bits w.toNat 16 12)

/-- DRV_TICK_WRITE (R123). -/
def execDrvTickWrite (via : Via) (v : Word) (s : State) : Out := onDev (drvTickWrite via v) s

/-- A write of DRV_SETPOINT or steering.setpoint (R137). -/
def drvSetpointWrite (via : Via) (w : Word) (d : Dev) : Dev :=
  d.viaBlock via false 18 fun d => (d.set F.DRV_SETPOINT.AXIS0 (bits w.toNat 0 16)).set F.DRV_SETPOINT.AXIS1 (bits w.toNat 16 16)

/-- DRV_SETPOINT_WRITE (R137). -/
def execDrvSetpointWrite (via : Via) (v : Word) (s : State) : Out := onDev (drvSetpointWrite via v) s

/-- A write of DRV_TEST_CTRL: WAVE 0 stops a run, another value starts one in SCAN (R147, R155). -/
def Dev.drvTestSet (d : Dev) (via : Via) (v : Nat) : Dev :=
  if bits v 0 2 ≠ 0 && d.st ≠ .scan then d.refuse via 8
  else
    let d1 := (((d.set F.DRV_TEST_CTRL.WAVE (bits v 0 2)).set F.DRV_TEST_CTRL.POINT (bits v 2 1)).set F.DRV_TEST_CTRL.AXIS (bits v 3 1)).set
      F.DRV_TEST_CTRL.HOLD (bits v 8 8)
    let d2 := (d1.setB F.DRV_STATUS.TEST_DONE false).setB F.DRV_STATUS.TEST_RUN (bits v 0 2 ≠ 0)
    { d2 with drv := { d2.drv with testI := 0, phi := 0, prbs := 511 } }

/-- A write that starts or stops a test run. -/
def drvTestStart (via : Via) (w : Word) (d : Dev) : Dev := d.viaBlock via true 18 fun d => d.drvTestSet via w.toNat

/-- DRV_TEST_START (R147). -/
def execDrvTestStart (via : Via) (v : Word) (s : State) : Out := onDev (drvTestStart via v) s

/-- A run has had its LEN ticks (R147). -/
def drvTestEnd (d : Dev) : Dev :=
  let len := d.get F.DRV_TEST_LEN
  if d.flag F.DRV_STATUS.TEST_RUN && (len ≠ 0 || d.get F.DRV_TEST_CTRL.WAVE = 2) && len ≤ d.drv.testI then
    ((d.setB F.DRV_STATUS.TEST_RUN false).setB F.DRV_STATUS.TEST_DONE true) else d

/-- DRV_TEST_END (R147). -/
def execDrvTestEnd (s : State) : Out := onDev drvTestEnd s

end Sys2Proof.Machine
end

