-- ==== Sys2Proof/Machine/Tables.lean ====
section
/-! DEFINITION. Tables as objects: their lengths, reset contents, field rules, and what committing a bank does (R24, R80–R88,
R118, R119, R157, R158, R181, R182, R222, R223, R269, R277, R319, R401, R416, R438–R440, R461–R465). -/

namespace Sys2Proof.Machine

/-! ## Lengths and reset contents -/

/-- A dictionary index names a table (R462). -/
def isTable (idx : Nat) : Bool :=
  (0x7000 ≤ idx && idx ≤ 0x7007) || (0x7010 ≤ idx && idx < 0x7040) || idx = 0x7040 || idx = 0x7050 || idx = 0x7051 ||
    (0x7060 ≤ idx && idx < 0x7064) || (0x7070 ≤ idx && idx ≤ 0x7072)

/-- The number of bytes is a whole number of entries of a size, at least one and at most a number of them. -/
def entriesOk (size most n : Nat) : Bool := n % size = 0 && 1 ≤ n && n ≤ size * most

/-- A total length is valid for a table (R463). -/
def tableLenOk (idx n : Nat) : Bool :=
  match idx with
  | 0x7000 => entriesOk 16 16384 n
  | 0x7001 => entriesOk 16 1024 n
  | 0x7002 => entriesOk 64 256 n
  | 0x7003 => n = 16384
  | 0x7004 => n = 64
  | 0x7005 => n = 98384
  | 0x7006 => n = 5504
  | 0x7007 => n = 156
  | 0x7040 => n = 28
  | 0x7050 => n = 4096
  | 0x7051 => n = 2048
  | 0x7070 => n = 236
  | 0x7071 => 2120 ≤ n && (n - 2120) % 16 = 0 && n ≤ 2120 + 16 * 4096
  | 0x7072 => 8 ≤ n && (n - 8) % 140 = 0 && n ≤ 8 + 140 * 64
  | _ => n = (if idx < 0x7020 then 136 else if idx < 0x7030 then 128 else if idx < 0x7040 then 260 else 66)

/-- What a table reads as before a bank is first committed: the reset content where the spec gives one (R85, R222, R269, R277;
log 8), otherwise nothing. -/
def tableDefault (idx : Nat) : Bytes :=
  match idx with
  | 0x7003 => zeros 16384
  | 0x7004 => (List.range 16).flatMap fun _ => be 4 0x8000
  | 0x7040 => clutterDefault
  | 0x7050 => zeros 4096
  | 0x7051 => zeros 2048
  | _ =>
    if 0x7010 ≤ idx && idx < 0x7020 then zeros 136
    else if 0x7020 ≤ idx && idx < 0x7030 then (List.range 64).flatMap fun q => be 2 (16 * q + 8)
    else if 0x7030 ≤ idx && idx < 0x7040 then filterDefault
    else []

/-- A bank's content, with its reset content. -/
def orDefault (idx : Nat) (bs : Bytes) : Bytes := if bs = [] then tableDefault idx else bs

/-! ## Field rules (step 3 of R465) -/

/-- A value lies in a range. -/
def inR (v lo hi : Nat) : Bool := lo ≤ v && v ≤ hi

/-- An entry of 32 bits at index i. -/
def word (bs : Bytes) (i : Nat) : Nat := rd 4 bs (4 * i)

/-- A manifest entry's reserved bits are 0 (R554). -/
def manifestOk (bs : Bytes) : Bool := (List.range (entries16 bs)).all fun i => rd 4 bs (16 * i + 12) = 0

/-- R85. -/
def trimOk (bs : Bytes) : Bool := (List.range 4096).all fun i => word bs i < 2 ^ 20
/-- R85. -/
def gainOk (bs : Bytes) : Bool := (List.range 16).all fun i => word bs i < 2 ^ 16

/-- R118, R119. -/
def ledgerOk (bs : Bytes) : Bool :=
  inR (rd 2 bs 0) 1 1000 && inR (rd 2 bs 2) 1 1000 && inR (rd 1 bs 4) 1 100 && inR (rd 1 bs 5) 5 50 && inR (rd 1 bs 6) 1 16 &&
    rd 1 bs 7 = 0 && (List.range 12288).all fun i => rd 2 bs (80 + 8 * i) = 0

/-- R158. -/
def drvCfgOk (bs : Bytes) : Bool :=
  inR (rd 1 bs 0) 1 8 && inR (rd 1 bs 1) 1 4 && rd 1 bs 2 < 4 && rd 1 bs 3 < 4 && decide (rdS 2 bs 0x58 < rdS 2 bs 0x5A) &&
    decide (rdS 2 bs 0x5A < rdS 2 bs 0x5C) && rd 1 bs 0x60 < 24 && rd 1 bs 0x63 = 0 &&
    (List.range 4).all fun i => rd 2 bs (0x64 + 2 * i) ≠ 0

/-- R182. -/
def skewOk (bs : Bytes) : Bool := rd 2 bs 128 = 0 && rd 2 bs 132 = 0

/-- R181. -/
def nlOk (bs : Bytes) : Bool :=
  (List.range 64).all fun q => rd 2 bs (2 * q) ≤ 1023 && (q = 0 || rd 2 bs (2 * (q - 1)) ≤ rd 2 bs (2 * q))

/-- R223. -/
def filterOk (bs : Bytes) : Bool :=
  filtL bs % 2 = 1 && rd 1 bs 1 ≤ 3 && filtStart bs ≤ 5120 &&
    (List.range 128).all fun i => i ≤ filtG bs || rd 2 bs (4 + 2 * i) = 0

/-- SUN_CLEAR and SUN_WARN do not exceed SUN_BLIND (R253). -/
def sunOrdered (bs : Bytes) : Bool :=
  rd 2 bs 4 ≤ rd 2 bs 6 && rd 2 bs 8 ≤ rd 2 bs 6

/-- R253, R269. -/
def clutterOk (bs : Bytes) : Bool :=
  rd 1 bs 0 ≤ 3 && rd 1 bs 1 < 16 && rd 2 bs 2 ≤ 1023 && rd 2 bs 4 ≤ 16000 && inR (rd 2 bs 6) 1 16000 && rd 2 bs 8 ≤ 16000 &&
    rd 1 bs 0x0A ≤ 15 && rd 2 bs 0x0E ≤ 4095 && rd 1 bs 0x12 ≤ 15 && rd 1 bs 0x13 ≤ 15 && rd 1 bs 0x14 ≤ 15 &&
    1 ≤ rd 1 bs 0x15 && rd 1 bs 0x16 ≤ 7 && 1 ≤ rd 1 bs 0x18 && inR (rd 1 bs 0x19) 1 63 && rd 2 bs 0x1A = 0 && sunOrdered bs

/-- R277. -/
def dirOk (bs : Bytes) : Bool :=
  (List.range 512).all fun c =>
    let d := dirOf bs c
    decide (-180000000 ≤ d.1) && decide (d.1 ≤ 179999999) && decide (-90000000 ≤ d.2) && decide (d.2 ≤ 90000000)

/-- R277. -/
def offsetOk (bs : Bytes) : Bool :=
  (List.range 512).all fun c => decide (-65536 ≤ rangeOffset bs c) && decide (rangeOffset bs c ≤ 65535)

/-- R335. -/
def firOk (bs : Bytes) : Bool := inR (rd 1 bs 0) 1 31

/-- Pair i of a safety configuration (R438). -/
def pairOk (bs : Bytes) (i : Nat) : Bool :=
  pairFunc bs i = 0 ||
    (pairFunc bs i ≤ 4 && pairFlags bs i < 16 && pairMask bs i < 16 && pairFilter bs i ≤ 10 && inR (pairD bs i) 1 10000)

/-- Field f of a safety configuration (R438); HOLD has no bit in a field's FLAGS (R401). -/
def fieldOk (bs : Bytes) (f : Nat) : Bool :=
  rd 1 bs (0x4C + 8 * f) < 4 && rd 2 bs (0x4C + 8 * f + 6) = 0 &&
    (!fieldOn bs f || (fieldMask bs f < 16 && 1 ≤ fieldHits bs f && 1 ≤ fieldOcc bs f && 1 ≤ fieldBlind bs f))

/-- R438. -/
def safetyOk (bs : Bytes) : Bool :=
  inR (rd 2 bs 4) 50 500 && inR (rd 2 bs 6) 10 1000 && rd 1 bs 8 < 16 && rd 1 bs 9 < 16 &&
    (rd 1 bs 0x0A < 8 || rd 1 bs 0x0A = 255) && inR (rd 1 bs 0x0B) 1 16 &&
    ((List.range 8).all fun i => pairOk bs i && rd 2 bs (0x0C + 8 * i + 6) = 0) && (List.range 16).all (fieldOk bs) &&
    1024 ≤ rd 2 bs 0xDC && 1 ≤ rd 2 bs 0xDE && inR (rd 2 bs 0xE0) 5 1000 && inR (rd 2 bs 0xE2) 10 5000 &&
    inR (rd 2 bs 0xE4) 1 100 && inR (rd 2 bs 0xE6) 2 1000 && rd 1 bs 0xE8 < 8 && rd 1 bs 0xE9 < 16 && rd 2 bs 0xEA = 0

/-- R439. -/
def zonesLogicOk (bs : Bytes) : Bool :=
  rd 2 bs 4 ≤ 4096 && bs.length = 2120 + 16 * rd 2 bs 4 && rd 2 bs 6 = 0 &&
    ((List.range 512).all fun c => decide (-65536 ≤ zoneOffset bs c) && decide (zoneOffset bs c ≤ 65535)) &&
    ((List.range (rd 2 bs 4)).all fun e => rd 1 bs (0x848 + 16 * e) < 16 && rd 1 bs (0x848 + 16 * e + 3) = 0) &&
    (zoneEnts bs).all fun e =>
      e.lo ≤ e.hi && e.hi < 64 && e.chLo ≤ e.chHi && e.chHi < 512 && e.near < e.far && e.far < 2 ^ 24

/-- Twice the signed area of a polygon. -/
def polyArea (bs : Bytes) (g : Nat) : Int :=
  let n := polyCount bs g
  sumOver n fun v =>
    let a := polyVertex bs g v
    let b := polyVertex bs g ((v + 1) % n)
    a.1 * b.2 - b.1 * a.2

/-- A polygon is convex and counter-clockwise: it has area, and every vertex lies to the left of every side (R440). -/
def polyConvex (bs : Bytes) (g : Nat) : Bool :=
  let n := polyCount bs g
  decide (0 < polyArea bs g) && (List.range n).all fun v => (List.range n).all fun w =>
    leftOf (polyVertex bs g v) (polyVertex bs g ((v + 1) % n)) (polyVertex bs g w).1 (polyVertex bs g w).2

/-- Polygon g (R440). -/
def polyOk (bs : Bytes) (g : Nat) : Bool :=
  let o := 8 + 140 * g
  rd 1 bs o < 16 && inR (polyCount bs g) 3 16 && rd 2 bs (o + 2) = 0 && decide (rdS 4 bs (o + 4) < rdS 4 bs (o + 8)) &&
    polyConvex bs g && (List.range 16).all fun v => v < polyCount bs g || polyVertex bs g v = (0, 0)

/-- R440. -/
def zonesProcOk (bs : Bytes) : Bool :=
  rd 2 bs 4 ≤ 64 && bs.length = 8 + 140 * rd 2 bs 4 && rd 2 bs 6 = 0 && (List.range (rd 2 bs 4)).all (polyOk bs)

/-- The object's own field and range rules; those of the waybill are term 1 of the commit check (R82). -/
def tableOk (idx : Nat) (bs : Bytes) : Bool :=
  match idx with
  | 0x7000 | 0x7002 | 0x7006 => true
  | 0x7001 => manifestOk bs
  | 0x7003 => trimOk bs
  | 0x7004 => gainOk bs
  | 0x7005 => ledgerOk bs
  | 0x7007 => drvCfgOk bs
  | 0x7040 => clutterOk bs
  | 0x7050 => dirOk bs
  | 0x7051 => offsetOk bs
  | 0x7070 => safetyOk bs
  | 0x7071 => zonesLogicOk bs
  | 0x7072 => zonesProcOk bs
  | _ =>
    if idx < 0x7020 then skewOk bs else if idx < 0x7030 then nlOk bs else if idx < 0x7040 then filterOk bs else firOk bs

/-! ## Committing a bank -/

/-- Tables that both Toll channels must accept (R24, R401). -/
def tollTable (idx : Nat) : Bool := idx = 0x7005 || (0x7070 ≤ idx && idx ≤ 0x7072)

/-- A Toll channel is held in reset or runs its self-test: the island accepts no table (R401). -/
def Dev.tollBusy (d : Dev) : Bool := d.life.rstLow || d.toll.logic.testing || d.toll.proc.testing || !d.toll.vddOk

/-- States in which a safety configuration is accepted (R401). -/
def Dev.safetyState (d : Dev) : Bool := d.st = .boot || d.st = .standby || d.st = .safeHold

/-- A ledger limit bank has another W1, W2 or W3 than the active bank: both channels accept it in STANDBY and SAFE_HOLD only (R103). -/
def Dev.newWindows (d : Dev) (bs : Bytes) : Bool :=
  d.ledgerBank && (List.range 3).any fun k => winLen (d.tab 0x7005) k ≠ winLen bs k

/-- The status code of a table's content before the commit check (R103, R401, R458, R465). -/
def Dev.tableCheck (d : Dev) (idx : Nat) (bs : Bytes) : Nat :=
  if !tableOk idx bs then 4
  else if idx = 0x7070 && !d.safetyState then 8
  else if idx = 0x7005 && d.newWindows bs && !(d.st = .standby || d.st = .safeHold) then 8
  else if tollTable idx && d.tollBusy then 9
  else 0

/-- The telegram connection counts as lost until it is first held (R435). -/
def Toll.unheld (t : Toll) : Toll := { t with conn := false, echoOk := false, lost := true, wins := [] }

/-- Both channels accept a safety configuration, which is in effect; config-accepted (R401, R435, R438, R480). -/
def Dev.acceptSafety (d : Dev) (bs : Bytes) : Dev :=
  let t := { d.toll with cfg := bs, cfgOk := true }
  ({ d with toll := if tgOn bs then t.unheld else t }.modBank 0x7070 fun b => (b.setInact bs).swap).raise 12 10

/-- The acquisition filter's coefficients in effect: the delay line is kept (R319). -/
def Dev.firSwap (d : Dev) (u : Nat) : Dev :=
  let d1 := d.swapBank (0x7060 + u) false
  d1.modUnit u fun x => { x with fir := d1.firTaps u }

/-- Committed banks whose swap point is their acceptance swap at once (R319, R461). -/
def Dev.swapOnAcceptance (d : Dev) (idx : Nat) : Dev :=
  if 0x7060 ≤ idx && idx < 0x7064 then d.firSwap (idx - 0x7060)
  else if d.st.ticks || d.restTable idx then d
  else if idx = 0x7071 || idx = 0x7072 then
    d.when d.zonesReady fun d => (d.swapBank 0x7071 false).swapBank 0x7072 false
  else d.swapBank idx false

/-- A bank whose content has passed its own rules meets the commit check (R26, R465); Drover's configuration also its timing
(R126). The answer is the status code. -/
def Dev.placeTable (d : Dev) (idx : Nat) (bs : Bytes) : Dev :=
  let p := d.commitBank idx bs
  if idx = 0x7007 && !p.projected.drvFits then ((d.setB F.DRV_STATUS.CFG_ERR true).raise 7 6).answer 4
  else
    let r := checkTerms d p.projected false
    let d1 := d.recordCheck r
    if r ≠ 0 then d1.answer 6
    else if idx = 0x7070 then (d1.acceptSafety bs).answer 0
    else ((d1.commitBank idx bs).swapOnAcceptance idx).answer 0

/-- A table's content is checked and committed (R465). -/
def Dev.commitTable (d : Dev) (idx : Nat) (bs : Bytes) : Dev :=
  let c := d.tableCheck idx bs
  if c ≠ 0 then d.answer c else d.placeTable idx bs

/-! ## Basic entries of the clutter table (R270) -/

/-- A basic write of the clutter table: 0x05 while a table write is pending. One after the preparation point counts for the tick after
(R22): its content waits. The inactive bank may still serve the stages begun with it (R23), which keep their own copy. -/
def Dev.clutterBasic (d : Dev) (f : Bytes → Bytes) : Dev :=
  let b := d.bank 0x7040
  if (b.committed && !d.clutBasic) || d.flf.transfers.any (fun t => t.write && t.idx = 0x7040) || d.flf.winOpen = some 0x7040 then
    d.answer 5
  else if b.fixed then { d with clutLater := f (clutterOf (if d.clutLater = [] then b.inact else d.clutLater)) }
  else
    let new := f (clutterOf (if b.committed then b.inact else b.act))
    { (d.commitBank 0x7040 new).swapOnAcceptance 0x7040 with clutBasic := true }

end Sys2Proof.Machine
end

