-- ==== Sys2Proof/Machine/Live.lean ====
section
/-! DEFINITION. What a read returns: register fields that follow from the rest of the state, registers by address, the table
window and the read-only objects (R38, R58, R72, R73, R112, R115, R194, R198, R243, R245, R249, R270–R275, R294, R305, R306,
R335, R356, R394, R441–R443, R466–R470, R474, R479, R486, R517). -/

namespace Sys2Proof.Machine

/-! ## Fields that follow from the state -/

/-- Bits of one value by number. -/
def Dev.outFaults (d : Dev) : Nat := d.toll.outFault

/-- Both readbacks of pair p are high (R442). -/
def Dev.readbackOn (d : Dev) (p : Nat) : Bool := bitAt d.toll.readback (2 * p) && bitAt d.toll.readback (2 * p + 1)

/-- A table of the emitter waits to swap (R112). -/
def Dev.emReady (d : Dev) : Bool := (List.range 5).any fun i => d.bankReady (0x7000 + i)

/-- Groups with an enabled source that has occurred (R474). -/
def Dev.evtGroups (d : Dev) : Nat := maskOf 13 fun g => Nat.land (d.get (F.EVT_STATUS g)) (d.get (F.EVT_ENABLE g)) ≠ 0

/-- Seconds as TB_SEC shows them: the shadow that a read of TB_NS latched (R58). -/
def Dev.tbSec (d : Dev) : Nat := if d.tb.shadowOn then d.tb.shadow else d.nowSec

/-- Register fields that show the rest of the state. -/
def liveFields : List (Fld × (Dev → Nat)) :=
  [(F.DEV_SERIAL_LO, fun d => d.life.serial), (F.DEV_SERIAL_HI, fun d => d.life.serial / 2 ^ 32),
   (F.DEV_STATE.STATE, fun d => d.st.code), (F.DEV_STATE.SERVICE, Dev.service),
   (F.TBL_WIN.OPEN, fun d => nat d.flf.winOpen.isSome),
   (F.TB_NS, fun d => d.nowNs % 1000000000), (F.TB_SEC_LO, Dev.tbSec), (F.TB_SEC_HI, fun d => d.tbSec / 2 ^ 32),
   (F.TB_FREQ, fun d => uns 32 d.trimEff), (F.TB_STATUS.SLEWING, fun d => nat (d.tb.rem ≠ 0)),
   (F.TB_STATUS.TRIM_SAT, fun d => nat (d.flag F.TB_STATUS.TRIM_SAT || d.trimSat)),
   (F.TB_STATUS.VALID, fun d => nat d.timeValid),
   (F.FILT_BANK.PENDING, fun d => maskOf 16 fun c => d.bankReady (0x7030 + c)),
   (F.FILT_BANK.ACTIVE, fun d => maskOf 16 fun c => d.bankNo (0x7030 + c) = 1),
   (F.CLUT_SEED.SEED_PENDING, fun d => nat (d.pendingOf F.CLUT_SEED.SEED).isSome),
   (F.CLUT_SEED.PAIR_GAP, fun d => pairGap (d.get F.CLUT_SEED.SEED) - 16),
   (F.CLUT_STATUS.BANK_READY, fun d => nat (d.bankReady 0x7040)), (F.CLUT_STATUS.ACTIVE_BANK, fun d => d.bankNo 0x7040),
   (F.EM_STATUS.BANK_READY, fun d => nat d.emReady), (F.EM_STATUS.ACTIVE_BANK, fun d => d.bankNo 0x7001),
   (F.EM_STATUS.ARMED, fun d => nat d.armed),
   (F.LEDGER_STATUS.PROC_OK, fun d => nat d.procLedger), (F.LEDGER_STATUS.LOGIC_OK, fun d => nat d.logicLedger),
   (F.LEDGER_STATUS.ARM_PERMIT, fun d => nat d.armed), (F.DRV_STATUS.BANK, fun d => d.bankNo 0x7006)] ++
  [(F.OUT_STATUS.TABLE_READY, fun d => nat (d.bankReady 0x7050 && d.bankReady 0x7051)),
   (F.OUT_STATUS.TABLE_BANK, fun d => d.bankNo 0x7050),
   (F.TOLL_STATUS.TG_CONNECTED, fun d => nat d.toll.conn), (F.TOLL_STATUS.ZONE_BANK, fun d => d.bankNo 0x7071),
   (F.TOLL_STATUS.CONFIG_VALID, fun d => nat d.toll.cfgOk), (F.TOLL_STATUS.HEALTHY, fun d => nat d.healthy),
   (F.TOLL_STATUS.CH_FAULT_CAUSE, fun d => d.toll.fault), (F.TOLL_STATUS.SAFE_STATE, fun d => nat d.safeStateLow),
   (F.TOLL_STATUS.HOLD_DEMAND, fun d => nat d.holdDemand), (F.TOLL_STATUS.PROC_RUN, fun d => nat d.procRuns),
   (F.TOLL_STATUS.LOGIC_RUN, fun d => nat d.logicRuns), (F.TOLL_DEMAND, fun d => maskOf 25 d.inDemand),
   (F.TOLL_FAULT, fun d => maskOf 25 d.fnFault), (F.TOLL_SO.FAULT, Dev.outFaults),
   (F.TOLL_SO.TESTING, fun d => Nat.lor d.toll.testA d.toll.testB), (F.TOLL_SO.READBACK, fun d => maskOf 4 d.readbackOn),
   (F.TOLL_SO.ENERGISED, fun d => maskOf 4 d.pairOn), (F.TOLL_FIELD_MUTE, Dev.muted), (F.TOLL_TG_SEQ, fun d => d.toll.rxSeq),
   (F.EVT_PENDING.IRQP, fun d => nat d.irqp), (F.EVT_PENDING.IRQ, fun d => nat d.irq), (F.EVT_PENDING.GROUP, Dev.evtGroups)] ++
  (List.range 16).flatMap fun c =>
    [(F.CVY_STATUS.SKEW_BANK c, fun d => d.bankNo (0x7010 + c)), (F.CVY_STATUS.NL_BANK c, fun d => d.bankNo (0x7020 + c))]

/-- The value a read of a field returns. -/
def Dev.peek (d : Dev) (f : Fld) : Nat :=
  match liveFields.find? fun x => x.1 = f with
  | some x => x.2 d % 2 ^ Fld.width f
  | none => d.get f

/-! ## Registers by address (R466, R467) -/

/-- The register at an offset, with its number in its array. -/
def regAt (a : Nat) : Option (RegDesc × Nat) :=
  (regTable.find? fun r => r.base ≤ a && (a - r.base) % r.stride = 0 && (a - r.base) / r.stride < r.count).map fun r =>
    (r, (a - r.base) / r.stride)

/-- A field of the register at an offset. -/
def FieldDesc.key (x : FieldDesc) (a : Nat) : Fld := Fld.mk a x.lo x.w

/-- The word at the offset of a register; wo fields read 0 (R4). -/
def Dev.regWord (d : Dev) (a : Nat) : Nat :=
  match regAt a with
  | none => 0
  | some (r, _) => (r.fields.map fun x => if x.acc = .wo then 0 else d.peek (x.key a) * 2 ^ x.lo).sum

/-- The block of CLK_GATE that serves an offset (R50, R67). -/
def blockOf (a : Nat) : Option Nat :=
  if 0x100000 ≤ a && a < 0x200000 then some ((a - 0x100000) / 0x10000)
  else if a < 0x200000 then none
  else if a < 0x300000 then some 16
  else if a < 0x340000 then some 17
  else if a < 0x380000 then none
  else if a < 0x400000 then some 18
  else if a < 0x400100 then some 19
  else if a < 0x400200 then some 20
  else if a < 0x500000 then some 21
  else if a < 0x600000 then some 22
  else if a < 0x610000 then some 23
  else if a < 0x700000 then some 24
  else if a < 0x700100 then some 25
  else if a < 0x700200 then some 26
  else if a < 0x780000 then none
  else if a < 0x780100 then some 27
  else if a < 0x780200 then some 28
  else none

/-- The bridge that register accesses to an offset cross: the Toll mailbox, the memory controller, the recorder, the Ethernet and
Basxiop ports, the converters, tally and echo, point builder and output (R70, R466; log 99). -/
def bridgeOf (a : Nat) : Option Nat :=
  if 0x200000 ≤ a && a < 0x300000 then some 10
  else if 0x400000 ≤ a && a < 0x400200 then some 9
  else if 0x500000 ≤ a && a < 0x600000 then some 11
  else if 0x600000 ≤ a && a < 0x610000 then some 3
  else if 0x610000 ≤ a && a < 0x700000 then some 4
  else if 0x700000 ≤ a && a < 0x700100 then some 5
  else if 0x700100 ≤ a && a < 0x700200 then some 6
  else if 0x780000 ≤ a && a < 0x780100 then some 7
  else if 0x780100 ≤ a && a < 0x780200 then some 8
  else if 0x800000 ≤ a && a < 0x900000 then some 2
  else none

/-- The bridge that keeps an access from its block: it carries no traffic (R54, R55). -/
def Dev.brokenBridge (d : Dev) (a : Nat) : Option Nat := (bridgeOf a).filter fun b => !d.bridgeCarries b

/-- A byte of the table window (R470). -/
def Dev.winByte (d : Dev) (i : Nat) : Nat :=
  let idx := 0x7000 + d.get F.TBL_WIN.SELECT
  if isTable idx then (at' (orDefault idx (d.bank idx).inact) i 0).toNat else 0

/-- A word of the table window: byte 4k in bits [31:24]. -/
def Dev.winWord (d : Dev) (a : Nat) : Nat :=
  let o := a - 0x1000000
  (List.range 4).foldl (fun v i => 256 * v + d.winByte (o + i)) 0

/-- A word of the 2 MiB load buffer of recovery, in the layout of the table window (R502). -/
def Dev.loadWord (d : Dev) (a : Nat) : Nat :=
  (List.range 4).foldl (fun v i => 256 * v + (at' d.life.loadBuf (a - 0x1000000 + i) 0).toNat) 0

/-- The boot ROM serves only recovery (R502). -/
def Dev.romOnly (d : Dev) : Bool := d.flag F.BOOT_STATUS.RECOVERY && !d.life.recImage

/-- Offsets that recovery serves: the identity registers, BOOT_STATUS, BOOT_CTRL and the load buffer (R502). -/
def romServes (a : Nat) : Bool := a < 0x10 || a = 0x30 || a = 0x34 || (0x1000000 ≤ a && a < 0x1200000)

/-- An access to an undefined offset (R467). -/
def Dev.unmapped (d : Dev) : Dev := d.setB F.BUS_STATUS.UNMAPPED true

/-- CVY_DLL of convoy c as read: 0 until the loop has run, then the loop's own values, which the spec leaves open but for the bound on
PHASE_ERR while the interpolator is locked (R199; log 4). -/
def Dev.dllRead (d : Dev) (c : Nat) : Nat × Dev :=
  if !(d.cvy c).dllRan then (0, d)
  else
    let r := d.takeFree 16
    let p := r.2.takeFree 16
    (r.1 * 65536 + uns 16 (if d.locked c then ((p.1 % 129 : Nat) : Int) - 64 else p.1), p.2)

/-- A register read at an address, rounded down to a word: the word and what the read does (R50, R54, R58, R467). The word of an error
response is a free value (log 4). -/
def Dev.busRead (d : Dev) (addr : Nat) : Nat × Dev :=
  let a := addr / 4 * 4 % 0x2000000
  if 0x4000000 ≤ addr || (d.romOnly && !romServes a) then (0, d.unmapped)
  else if 0x1000000 ≤ a then ((if d.romOnly then d.loadWord a else d.winWord a), d)
  else match blockOf a, d.brokenBridge a with
    | some b, br =>
      if !d.runs b then (0, d.gatedHit b)
      else match br with
        | some r => let x := d.takeFree 32; (x.1, x.2.bridgeError r)
        | none =>
          if b < 16 && a % 65536 = 12 then d.dllRead b
          else if (regAt a).isSome then (d.regWord a, d) else (0, d.unmapped)
    | none, some r => let x := d.takeFree 32; (x.1, x.2.bridgeError r)
    | none, none =>
      if (regAt a).isNone then (0, d.unmapped)
      else (d.regWord a, if a = 0x20004 then { d with tb := { d.tb with shadow := d.nowSec, shadowOn := true } } else d)

/-- Reads of consecutive words. -/
def Dev.busReads (d : Dev) (addr : Nat) : Nat → List Nat × Dev
  | 0 => ([], d)
  | n + 1 =>
    let r := d.busRead addr
    let q := Dev.busReads r.2 (addr + 4) n
    (r.1 :: q.1, q.2)

/-! ## Objects (R462) -/

/-- Words of a list of registers. -/
def Dev.regBytes (d : Dev) (l : List Nat) : Bytes := l.flatMap fun a => be 4 (d.regWord a)

/-- Cell sums of a ledger channel as of the last stage tick (R120). -/
def cellBytes (c : LedgerCh) : Bytes := (List.range 12288).flatMap fun i => be 8 (Tab.getD c.tick i 0)

/-- A channel status entry (R194). -/
def ChanStat.bytes (s : ChanStat) : Bytes :=
  be 4 (s.state * 2 ^ 30 + nat s.driftLimit * 2 ^ 29 + s.ambient % 2 ^ 24) ++ be 2 (uns 16 s.drift) ++ be 2 s.totMin ++
    be 2 s.orMiss ++ be 2 s.stopOvf ++ be 4 (s.stops % 2 ^ 24)

/-- An incident's row of the incident list (R356). -/
def Incident.row (i : Incident) : Bytes := be 4 i.no ++ time80 i.t ++ be 1 i.cause ++ be 4 i.blocks ++ be 1 i.ended

/-- A block of the drive, padded with zeros. -/
def block4k (bs : Bytes) : Bytes := bs ++ zeros ((4096 - bs.length % 4096) % 4096)

/-- The blocks of an incident: header, data, end block (R350). -/
def Incident.bytes (i : Incident) : Bytes :=
  let trigs := (i.trigs.take 32).flatMap fun x => time80 x.1 ++ be 1 x.2
  block4k (be 4 0x494E4331 ++ be 4 i.no ++ be 1 i.cause ++ time80 i.t ++ be 4 i.pre ++ be 4 i.postMs ++ be 1 (nat i.prot) ++ trigs) ++
    (if i.data = [] then [] else block4k i.data) ++
    (if i.ended = 0xFF then [] else block4k (be 8 i.data.length ++ be 4 (crc32c i.data) ++ be 4 i.lost ++ be 1 i.ended))

/-- An event log entry (R479). -/
def LogEnt.bytes (e : LogEnt) : Bytes := time80 e.t ++ be 1 e.g ++ be 1 e.s ++ be 2 e.cnt

/-- Incidents on the drive in use, oldest first, with the one in progress (R356). -/
def Dev.incidents (d : Dev) : List Incident := if d.rcd.ready then d.rcd.done ++ d.rcd.cur.toList else []

/-- The subscribers (R479). -/
def Flefen.subsBytes (f : Flefen) : Bytes :=
  (List.range 4).flatMap fun i => let s := at' f.subs i (0, 0); be 4 s.1 ++ be 2 s.2 ++ zeros 2

/-- Offsets of the counters of R394. -/
def linkCounters : List Nat :=
  [0x700040, 0x700044, 0x700048, 0x70004C, 0x700050, 0x700140, 0x700144, 0x700148, 0x70014C, 0x700150, 0x700220, 0x700224,
    0x780040, 0x780044, 0x780048, 0x780140, 0x780144, 0x780148, 0x780240, 0x780244, 0x780248]

/-- Offsets of an arithmetic series of registers. -/
def regSeries (base stride n : Nat) : List Nat := (List.range n).map fun i => base + stride * i

/-- The bytes of an object by index and subindex, or the status code that refuses the read (R452, R462). -/
def Dev.readObject (d : Dev) (idx sub : Nat) : Bytes ⊕ Nat :=
  if isTable idx then
    match sub with
    | 0 => if (d.bank idx).actBad then .inr 10 else .inl (orDefault idx (d.tab idx))
    | 1 => if (d.bank idx).inactBad then .inr 10 else .inl (orDefault idx (d.bank idx).inact)
    | _ => .inr 1
  else match idx, sub with
    | 0x8200, 1 => .inl (cellBytes d.led.logic)
    | 0x8200, 2 => .inl (cellBytes d.led.proc)
    | 0x8100, 1 => .inl ((List.range 512).flatMap fun c => (d.chan c).stat.bytes)
    | 0x8100, 2 => .inl (d.regBytes (regSeries 0x100008 0x10000 16))
    | 0x8100, 3 => .inl (d.regBytes (regSeries 0x200140 4 16))
    | 0x8100, 4 => .inl (d.regBytes (regSeries 0x200110 4 7))
    | 0x8100, 5 => .inl (d.regBytes (regSeries 0x200040 4 16))
    | 0x8100, 6 => if d.flag F.SNAP_CTRL.DONE then .inl d.flf.snap else .inr 9
    | 0x4400, 0x05 => .inl (d.stream 0).shown
    | 0x4400, 0x15 => .inl (d.stream 1).shown
    | 0x8400, 2 => .inl (d.regBytes ([0x500080, 0x500084] ++ regSeries 0x500100 4 8))
    | 0x8500, 1 => .inl (d.incidents.flatMap Incident.row)
    | 0x8500, 2 =>
      match d.incidents.find? fun i => i.no = d.get F.P.readSelect with
      | some i => .inl i.bytes
      | none => .inr 4
    | 0x8500, 3 => .inl (d.regBytes [0x600008, 0x60000C, 0x600010])
    | 0x8900, 1 => .inl (d.regBytes linkCounters)
    | 0x8800, 1 => .inl (d.regBytes (regSeries 0x800040 4 8))
    | 0x8700, 1 => .inl (d.regBytes (regSeries 0x900100 4 24 ++ [0x900004]))
    | 0x1300, 1 => .inl d.flf.subsBytes
    | 0x9100, 0 => .inl (d.evt.log.reverse.flatMap LogEnt.bytes)
    | 0x1500, 5 => .inl (d.life.retired.flatMap Retired.bytes)
    | 0x1400, 2 => .inl d.life.slotA
    | 0x1400, 3 => .inl d.life.slotB
    | 0x1200, 5 => .inr 2
    | 0x1200, 6 => .inr 2
    | _, _ =>
      if 0x8600 ≤ idx && idx < 0x8604 && sub = 1 then .inl (d.unit (idx - 0x8600)).recs.flatten
      else if 0x8600 ≤ idx && idx < 0x8604 && sub = 2 then
        .inl ((d.unit (idx - 0x8600)).log.flatMap fun x => time80 x.1 ++ be 1 x.2.1 ++ be 1 x.2.2)
      else .inr 1

end Sys2Proof.Machine
end

