-- ==== Sys2Proof/Machine/Entries.lean ====
section
/-! DEFINITION. The dictionary's scalar entries (R37, R74, R120, R159, R206, R248, R276, R307, R335, R356, R395, R444, R479,
R517): index, subindex, type code, access, commit point, and the register fields each mirrors with the range of each (R555). An
entry without fields has a meaning of its own. -/

namespace Sys2Proof.Machine

/-- Access of an entry (R6). -/
inductive EAcc where
  | ro | rw | wo | rwe
  deriving DecidableEq, Repr

/-- A field that an entry mirrors: its lowest bit in the value and its range. -/
structure Part where
  fld : Fld
  pos : Nat
  lo : Nat
  hi : Nat

/-- A scalar entry; one that holds `convoys` writes its field in every convoy (R206). -/
structure Ent where
  idx : Nat
  sub : Nat
  ty : Nat
  acc : EAcc
  commit : Commit
  convoys : Bool
  parts : List Part

/-- Entries of R37. -/
def entsR37 : List Ent :=
  [-- device.state
   ⟨0x1001, 0x00, 2, .ro, .immediate, false, [⟨F.DEV_STATE.STATE, 0, 0, 7⟩]⟩,
   -- device.state_request
   ⟨0x1002, 0x00, 2, .rw, .immediate, false, []⟩,
   -- device.service_level
   ⟨0x1003, 0x00, 2, .ro, .immediate, false, [⟨F.DEV_STATE.SERVICE, 0, 0, 3⟩]⟩,
   -- device.commit_report
   ⟨0x1004, 0x00, 4, .ro, .immediate, false, [⟨F.COMMIT_REPORT, 0, 0, 4294967295⟩]⟩,
   -- ranging.mode
   ⟨0x2100, 0x01, 2, .rw, .frame, false, [⟨F.P.mode, 0, 0, 255⟩]⟩,
   -- ranging.shot_period
   ⟨0x2100, 0x02, 3, .rw, .frame, false, [⟨F.P.shotPeriod, 0, 1024, 16384⟩]⟩,
   -- ranging.shots_per_stage
   ⟨0x2100, 0x03, 3, .rw, .frame, false, [⟨F.P.shotsPerStage, 0, 1, 256⟩]⟩,
   -- ranging.dither_enable
   ⟨0x2100, 0x04, 1, .rw, .frame, false, [⟨F.P.ditherEnable, 0, 0, 1⟩]⟩,
   -- ranging.stages_per_frame
   ⟨0x2100, 0x05, 3, .rw, .frame, false, [⟨F.P.stagesPerFrame, 0, 1, 16384⟩]⟩,
   -- ranging.frame_pacing
   ⟨0x2100, 0x06, 2, .rw, .stateChange, false, [⟨F.P.framePacing, 0, 0, 3⟩]⟩]

/-- Entries of R74. -/
def entsR74 : List Ent :=
  [-- clock.status
   ⟨0x1010, 0x00, 4, .ro, .immediate, false, [⟨F.CLK_STATUS.LAST_COUNT, 16, 0, 65535⟩, ⟨F.CLK_STATUS.STABLE_RUN, 12, 0, 15⟩, ⟨F.CLK_STATUS.CLOCK_FAULT, 5, 0, 1⟩, ⟨F.CLK_STATUS.PLL_LOCK, 4, 0, 1⟩, ⟨F.CLK_STATUS.REF_STABLE, 3, 0, 1⟩, ⟨F.CLK_STATUS.FALLBACK, 2, 0, 1⟩, ⟨F.CLK_STATUS.REF_IN_USE, 0, 0, 1⟩]⟩,
   -- clock.gate
   ⟨0x1011, 0x00, 4, .rwe, .immediate, false, [⟨F.CLK_GATE.BLOCK_EN, 16, 0, 8191⟩, ⟨F.CLK_GATE.CONVOY_EN, 0, 0, 65535⟩]⟩,
   -- time.now
   ⟨0x1100, 0x01, 9, .ro, .immediate, false, []⟩,
   -- time.valid
   ⟨0x1100, 0x02, 1, .ro, .immediate, false, [⟨F.TB_STATUS.VALID, 0, 0, 1⟩]⟩,
   -- time.trim
   ⟨0x1100, 0x03, 7, .rwe, .immediate, false, [⟨F.TB_TRIM, 0, 0, 4294967295⟩]⟩,
   -- time.ageing_step
   ⟨0x1100, 0x04, 7, .rwe, .immediate, false, [⟨F.TB_AGEING, 0, 0, 4294967295⟩]⟩,
   -- time.step_threshold
   ⟨0x1100, 0x05, 4, .rwe, .immediate, false, [⟨F.TB_CTRL.STEP_THRESHOLD, 0, 1, 16777215⟩]⟩,
   -- time.step_pending
   ⟨0x1100, 0x06, 7, .ro, .immediate, false, []⟩,
   -- time.accept_step
   ⟨0x1100, 0x07, 1, .wo, .immediate, false, []⟩,
   -- time.set
   ⟨0x1100, 0x14, 9, .wo, .immediate, false, []⟩]

/-- Entries of R120. -/
def entsR120 : List Ent :=
  [-- emitter.drive
   ⟨0x2200, 0x01, 2, .rw, .stateChange, false, [⟨F.EM_CTRL.DRIVE, 0, 0, 3⟩]⟩,
   -- emitter.start_inputs
   ⟨0x2200, 0x02, 2, .rw, .stateChange, false, [⟨F.EM_CTRL.START0_EN, 0, 0, 1⟩, ⟨F.EM_CTRL.START1_EN, 1, 0, 1⟩]⟩,
   -- emitter.bank_swap_source
   ⟨0x2200, 0x03, 2, .rw, .frame, false, [⟨F.EM_CTRL.SWAP_SRC, 0, 0, 1⟩]⟩,
   -- emitter.arm_settle
   ⟨0x2200, 0x04, 3, .rw, .stateChange, false, [⟨F.P.armSettle, 0, 0, 1000⟩]⟩,
   -- emitter.start_missing
   ⟨0x2200, 0x05, 4, .ro, .immediate, false, [⟨F.EM_START_MISSING, 0, 0, 4294967295⟩]⟩,
   -- emitter.fault_count
   ⟨0x2200, 0x06, 4, .ro, .immediate, false, [⟨F.EM_FAULT_COUNT, 0, 0, 4294967295⟩]⟩,
   -- ledger.status
   ⟨0x2200, 0x07, 4, .ro, .immediate, false, [⟨F.LEDGER_STATUS.CAUSE, 8, 0, 7⟩, ⟨F.LEDGER_STATUS.DISAGREE, 4, 0, 1⟩, ⟨F.LEDGER_STATUS.HOLDOFF, 3, 0, 1⟩, ⟨F.LEDGER_STATUS.PROC_OK, 2, 0, 1⟩, ⟨F.LEDGER_STATUS.LOGIC_OK, 1, 0, 1⟩, ⟨F.LEDGER_STATUS.ARM_PERMIT, 0, 0, 1⟩]⟩,
   -- ledger.shots_fired
   ⟨0x2200, 0x08, 4, .ro, .immediate, false, [⟨F.LEDGER_SHOTS_FIRED, 0, 0, 4294967295⟩]⟩,
   -- ledger.refused_one_sided
   ⟨0x2200, 0x09, 4, .ro, .immediate, false, [⟨F.REFUSED_ONE_SIDED, 0, 0, 4294967295⟩]⟩,
   -- ledger.refused_both
   ⟨0x2200, 0x0A, 4, .ro, .immediate, false, [⟨F.REFUSED_BOTH, 0, 0, 4294967295⟩]⟩,
   -- ledger.last_refusal
   ⟨0x2200, 0x0B, 4, .ro, .immediate, false, [⟨F.LEDGER_LAST_REFUSAL.CHANNELS, 14, 0, 3⟩, ⟨F.LEDGER_LAST_REFUSAL.WINDOW, 12, 0, 3⟩, ⟨F.LEDGER_LAST_REFUSAL.CELL, 0, 0, 4095⟩]⟩,
   -- emitter.row_lead
   ⟨0x4200, 0x01, 3, .rwe, .frame, false, [⟨F.EM_TIMING.ROW_LEAD, 0, 200, 1000⟩]⟩,
   -- emitter.start_window
   ⟨0x4200, 0x02, 2, .rwe, .frame, false, [⟨F.EM_TIMING.START_WIN, 0, 16, 127⟩]⟩,
   -- emitter.row_polarity
   ⟨0x4200, 0x03, 1, .rwe, .stateChange, false, [⟨F.EM_CTRL.ROW_POL, 0, 0, 1⟩]⟩,
   -- emitter.column_polarity
   ⟨0x4200, 0x04, 1, .rwe, .stateChange, false, [⟨F.EM_CTRL.COL_POL, 0, 0, 1⟩]⟩]

/-- Entries of R159. -/
def entsR159 : List Ent :=
  [-- steering.mirror_axes
   ⟨0x2300, 0x01, 2, .rw, .stateChange, false, [⟨F.DRV_CTRL.AXES, 0, 0, 2⟩]⟩,
   -- steering.mode
   ⟨0x2300, 0x02, 2, .rw, .immediate, false, [⟨F.DRV_CTRL.MODE, 0, 0, 2⟩]⟩,
   -- steering.target_source
   ⟨0x2300, 0x03, 2, .rw, .immediate, false, [⟨F.DRV_CTRL.TARGET_SRC, 0, 0, 1⟩]⟩,
   -- steering.setpoint
   ⟨0x2300, 0x04, 4, .rw, .immediate, false, [⟨F.DRV_SETPOINT.AXIS1, 16, 0, 65535⟩, ⟨F.DRV_SETPOINT.AXIS0, 0, 0, 65535⟩]⟩,
   -- steering.manual_output0
   ⟨0x2300, 0x05, 7, .rw, .immediate, false, [⟨F.DRV_MANUAL0, 0, 0, 4294967295⟩]⟩,
   -- steering.manual_output1
   ⟨0x2300, 0x06, 7, .rw, .immediate, false, [⟨F.DRV_MANUAL1, 0, 0, 4294967295⟩]⟩,
   -- steering.tick_period
   ⟨0x2300, 0x07, 3, .rw, .immediate, false, [⟨F.DRV_TICK.PERIOD, 0, 5000, 40000⟩]⟩,
   -- steering.locked
   ⟨0x2300, 0x08, 1, .ro, .immediate, false, [⟨F.DRV_STATUS.LOCKED, 0, 0, 1⟩]⟩,
   -- steering.angle
   ⟨0x2300, 0x09, 4, .ro, .immediate, false, [⟨F.DRV_ANGLE.AXIS1, 16, 0, 65535⟩, ⟨F.DRV_ANGLE.AXIS0, 0, 0, 65535⟩]⟩,
   -- steering.status
   ⟨0x2300, 0x0A, 4, .ro, .immediate, false, [⟨F.DRV_STATUS.WRITE_REFUSED, 19, 0, 1⟩, ⟨F.DRV_STATUS.BANK, 18, 0, 1⟩, ⟨F.DRV_STATUS.TEST_DONE, 17, 0, 1⟩, ⟨F.DRV_STATUS.TEST_RUN, 16, 0, 1⟩, ⟨F.DRV_STATUS.INNOV_FAULT, 15, 0, 1⟩, ⟨F.DRV_STATUS.SENSOR_FAULT, 14, 0, 1⟩, ⟨F.DRV_STATUS.CFG_ERR, 13, 0, 1⟩, ⟨F.DRV_STATUS.NUM_SAT, 12, 0, 1⟩, ⟨F.DRV_STATUS.SAT, 10, 0, 3⟩, ⟨F.DRV_STATUS.EST, 8, 0, 3⟩, ⟨F.DRV_STATUS.RESIDUE, 7, 0, 1⟩, ⟨F.DRV_STATUS.SET, 4, 0, 7⟩, ⟨F.DRV_STATUS.MODE_ACTIVE, 2, 0, 3⟩, ⟨F.DRV_STATUS.LOCKED, 0, 0, 1⟩]⟩,
   -- steering.target_lead
   ⟨0x4300, 0x01, 2, .rwe, .frame, false, [⟨F.DRV_CTRL.TARGET_LEAD, 0, 0, 3⟩]⟩,
   -- steering.schedule
   ⟨0x4300, 0x02, 1, .rwe, .frame, false, [⟨F.DRV_CTRL.SCHED, 0, 0, 1⟩]⟩,
   -- steering.force_set
   ⟨0x4300, 0x03, 2, .rwe, .immediate, false, [⟨F.DRV_CTRL.FORCE_SET, 0, 0, 7⟩]⟩,
   -- steering.sense_delay
   ⟨0x4300, 0x04, 3, .rwe, .immediate, false, [⟨F.DRV_TICK.SENSE_DELAY, 0, 0, 4095⟩]⟩,
   -- steering.measure_config
   ⟨0x4300, 0x05, 5, .rwe, .immediate, false, [⟨(F.DRV_MEAS.OW_CURRENT 0), 13, 0, 2⟩, ⟨(F.DRV_MEAS.OW_EN 0), 12, 0, 1⟩, ⟨(F.DRV_MEAS.OVS 0), 8, 0, 15⟩, ⟨(F.DRV_MEAS.GAIN 0), 5, 0, 3⟩, ⟨(F.DRV_MEAS.INPUT 0), 0, 0, 23⟩, ⟨(F.DRV_MEAS.OW_CURRENT 1), 29, 0, 2⟩, ⟨(F.DRV_MEAS.OW_EN 1), 28, 0, 1⟩, ⟨(F.DRV_MEAS.OVS 1), 24, 0, 15⟩, ⟨(F.DRV_MEAS.GAIN 1), 21, 0, 3⟩, ⟨(F.DRV_MEAS.INPUT 1), 16, 0, 23⟩, ⟨(F.DRV_MEAS.OW_CURRENT 2), 45, 0, 2⟩, ⟨(F.DRV_MEAS.OW_EN 2), 44, 0, 1⟩, ⟨(F.DRV_MEAS.OVS 2), 40, 0, 15⟩, ⟨(F.DRV_MEAS.GAIN 2), 37, 0, 3⟩, ⟨(F.DRV_MEAS.INPUT 2), 32, 0, 23⟩, ⟨(F.DRV_MEAS.OW_CURRENT 3), 61, 0, 2⟩, ⟨(F.DRV_MEAS.OW_EN 3), 60, 0, 1⟩, ⟨(F.DRV_MEAS.OVS 3), 56, 0, 15⟩, ⟨(F.DRV_MEAS.GAIN 3), 53, 0, 3⟩, ⟨(F.DRV_MEAS.INPUT 3), 48, 0, 23⟩]⟩,
   -- steering.output_map
   ⟨0x4300, 0x06, 4, .rwe, .immediate, false, [⟨F.DRV_OUTMAP.MAP, 0, 0, 65535⟩]⟩,
   -- steering.drvspi_config
   ⟨0x4300, 0x07, 4, .rwe, .immediate, false, [⟨F.DRVSPI_CFG.EN, 24, 0, 1⟩, ⟨F.DRVSPI_CFG.ADDR, 8, 0, 65535⟩, ⟨F.DRVSPI_CFG.CMD, 4, 0, 15⟩, ⟨F.DRVSPI_CFG.DIV, 0, 0, 15⟩]⟩,
   -- steering.test_control
   ⟨0x4300, 0x08, 4, .rwe, .immediate, false, [⟨F.DRV_TEST_CTRL.HOLD, 8, 1, 255⟩, ⟨F.DRV_TEST_CTRL.AXIS, 3, 0, 1⟩, ⟨F.DRV_TEST_CTRL.POINT, 2, 0, 1⟩, ⟨F.DRV_TEST_CTRL.WAVE, 0, 0, 3⟩]⟩,
   -- steering.test_amplitude
   ⟨0x4300, 0x09, 7, .rwe, .immediate, false, [⟨F.DRV_TEST_AMP, 0, 0, 4294967295⟩]⟩,
   -- steering.test_f0
   ⟨0x4300, 0x0A, 4, .rwe, .immediate, false, [⟨F.DRV_TEST_F0, 0, 0, 4294967295⟩]⟩,
   -- steering.test_f1
   ⟨0x4300, 0x0B, 4, .rwe, .immediate, false, [⟨F.DRV_TEST_F1, 0, 0, 4294967295⟩]⟩,
   -- steering.test_length
   ⟨0x4300, 0x0C, 4, .rwe, .immediate, false, [⟨F.DRV_TEST_LEN, 0, 0, 4294967295⟩]⟩]

/-- Entries of R206. -/
def entsR206 : List Ent :=
  [-- ranging.dead_time
   ⟨0x2100, 0x07, 2, .rw, .stage, true, [⟨(F.CVY_CTRL.DEAD_TIME 0), 0, 2, 64⟩]⟩,
   -- ranging.convoys_locked
   ⟨0x2100, 0x08, 3, .ro, .immediate, false, []⟩,
   -- ranging.convoys_resting
   ⟨0x2100, 0x09, 3, .ro, .immediate, false, []⟩,
   -- ranging.convoys_retired
   ⟨0x2100, 0x0A, 3, .ro, .immediate, false, []⟩,
   -- ranging.channels_retired
   ⟨0x2100, 0x0B, 3, .ro, .immediate, false, []⟩,
   -- ranging.tot_base
   ⟨0x4100, 0x01, 3, .rwe, .stage, true, [⟨(F.CVY_TOT.TOT_BASE 0), 0, 0, 1023⟩]⟩,
   -- ranging.tot_max
   ⟨0x4100, 0x02, 3, .rwe, .stage, true, [⟨(F.CVY_TOT.TOT_MAX 0), 0, 0, 1023⟩]⟩,
   -- ranging.tot_slope
   ⟨0x4100, 0x03, 2, .rwe, .stage, true, [⟨(F.CVY_TOT.TOT_SLOPE 0), 0, 0, 255⟩]⟩,
   -- ranging.adaptive_tot
   ⟨0x4100, 0x04, 1, .rwe, .stage, true, [⟨(F.CVY_CTRL.ADAPT_EN 0), 0, 0, 1⟩]⟩,
   -- ranging.outrider_enable
   ⟨0x4100, 0x05, 1, .rwe, .stage, true, [⟨(F.CVY_CTRL.OUTRIDER_EN 0), 0, 0, 1⟩]⟩,
   -- ranging.drift_limit
   ⟨0x4100, 0x06, 3, .rwe, .stage, true, [⟨(F.CVY_DRIFT_LIM.DRIFT_LIM 0), 0, 0, 65535⟩]⟩,
   -- ranging.cal_hits_log2
   ⟨0x4100, 0x07, 2, .rwe, .immediate, true, [⟨(F.CVY_CAL.HITS_LOG2 0), 0, 16, 24⟩]⟩,
   -- ranging.calibrate
   ⟨0x4100, 0x08, 3, .rwe, .immediate, false, []⟩]

/-- Entries of R248. -/
def entsR248 : List Ent :=
  [-- ranging.coarse_bin_width
   ⟨0x2100, 0x0C, 2, .rw, .frame, false, [⟨F.TALLY_CTRL.BIN_WIDTH, 0, 0, 3⟩]⟩,
   -- ranging.zoom_windows
   ⟨0x2100, 0x0D, 2, .rw, .frame, false, [⟨F.TALLY_CTRL.ZOOM_N, 0, 0, 8⟩]⟩,
   -- ranging.zoom_policy
   ⟨0x2100, 0x0E, 2, .rw, .frame, false, [⟨F.TALLY_CTRL.ZOOM_DEFAULT, 0, 1, 7⟩]⟩,
   -- ranging.overrun_records
   ⟨0x2100, 0x0F, 4, .ro, .immediate, false, [⟨F.TALLY_OVERRUN_RECORDS, 0, 0, 4294967295⟩]⟩,
   -- ranging.coarse_only_echoes
   ⟨0x2100, 0x10, 4, .ro, .immediate, false, [⟨F.TALLY_COARSE_ONLY, 0, 0, 4294967295⟩]⟩,
   -- ranging.tally_status
   ⟨0x2100, 0x11, 4, .ro, .immediate, false, [⟨F.TALLY_STATUS.SPARE_USED, 16, 0, 65535⟩, ⟨F.TALLY_STATUS.SEED_STORE_ERR, 3, 0, 1⟩, ⟨F.TALLY_STATUS.ECC_UNCORR, 2, 0, 1⟩, ⟨F.TALLY_STATUS.ECC_CORR, 1, 0, 1⟩, ⟨F.TALLY_STATUS.OVERRUN, 0, 0, 1⟩]⟩,
   -- echo.cfar_reference
   ⟨0x4120, 0x01, 2, .rwe, .frame, false, [⟨F.CFAR_CFG.REF, 0, 4, 32⟩]⟩,
   -- echo.cfar_guard
   ⟨0x4120, 0x02, 2, .rwe, .frame, false, [⟨F.CFAR_CFG.GUARD, 0, 0, 15⟩]⟩,
   -- echo.min_separation
   ⟨0x4120, 0x03, 2, .rwe, .frame, false, [⟨F.CFAR_CFG.MIN_SEP, 0, 1, 15⟩]⟩,
   -- echo.cfar_alpha
   ⟨0x4120, 0x04, 3, .rwe, .frame, false, [⟨F.CFAR_LEVEL.ALPHA, 0, 4096, 65535⟩]⟩,
   -- echo.cfar_beta
   ⟨0x4120, 0x05, 3, .rwe, .frame, false, [⟨F.CFAR_LEVEL.BETA, 0, 1, 65535⟩]⟩,
   -- echo.floor_mode
   ⟨0x4120, 0x06, 2, .rwe, .frame, false, [⟨F.TALLY_CTRL.FLOOR_MODE, 0, 0, 2⟩]⟩,
   -- echo.qualify_fraction
   ⟨0x4120, 0x07, 3, .rwe, .frame, false, [⟨F.FLOOR_CFG.Q_FRAC, 0, 0, 65535⟩]⟩,
   -- zoom.half_span
   ⟨0x4120, 0x08, 2, .rwe, .frame, false, [⟨F.ZOOM_CFG.ZOOM_HALF, 0, 1, 15⟩]⟩,
   -- zoom.seed_confidence
   ⟨0x4120, 0x09, 2, .rwe, .frame, false, [⟨F.ZOOM_CFG.SEED_CONF, 0, 0, 255⟩]⟩,
   -- zoom.seed_exclude
   ⟨0x4120, 0x0A, 1, .rwe, .frame, false, [⟨F.TALLY_CTRL.SEED_EXCL, 0, 0, 1⟩]⟩,
   -- tally.snapshot_channel
   ⟨0x4120, 0x0B, 3, .rwe, .immediate, false, [⟨F.SNAP_CTRL.CHANNEL, 0, 0, 511⟩]⟩,
   -- tally.filter_banks
   ⟨0x8100, 0x07, 4, .ro, .immediate, false, [⟨F.FILT_BANK.PENDING, 16, 0, 65535⟩, ⟨F.FILT_BANK.ACTIVE, 0, 0, 65535⟩]⟩]

/-- Entries of R276. -/
def entsR276 : List Ent :=
  [-- ranging.dither_seed
   ⟨0x2100, 0x12, 3, .rw, .frame, false, [⟨F.CLUT_SEED.SEED, 0, 0, 65535⟩]⟩,
   -- ranging.pair_gap
   ⟨0x2100, 0x13, 2, .ro, .immediate, false, []⟩,
   -- ranging.echo_selection
   ⟨0x2100, 0x14, 2, .rw, .frame, false, []⟩,
   -- ranging.rain_drop
   ⟨0x2100, 0x15, 1, .rw, .frame, false, []⟩,
   -- ranging.foreign_drop
   ⟨0x2100, 0x16, 1, .rw, .frame, false, []⟩,
   -- ranging.near_gate
   ⟨0x2100, 0x17, 3, .rw, .frame, false, []⟩,
   -- ranging.near_drop
   ⟨0x2100, 0x18, 1, .rw, .frame, false, []⟩,
   -- clutter.generator_state
   ⟨0x4130, 0x01, 4, .ro, .immediate, false, [⟨F.CLUT_LFSR.STATE, 0, 0, 2147483647⟩]⟩,
   -- clutter.status
   ⟨0x4130, 0x02, 4, .ro, .immediate, false, [⟨F.CLUT_STATUS.BANK_READY, 1, 0, 1⟩, ⟨F.CLUT_STATUS.ACTIVE_BANK, 0, 0, 1⟩]⟩]

/-- Entries of R307. -/
def entsR307 : List Ent :=
  [-- output.record_stream
   ⟨0x2400, 0x20, 2, .rw, .frame, false, [⟨F.OUT_CTRL.RECORD_STREAM, 0, 0, 2⟩]⟩,
   -- output.status
   ⟨0x8400, 0x01, 4, .ro, .immediate, false, [⟨F.OUT_STATUS.TABLE_READY, 9, 0, 1⟩, ⟨F.OUT_STATUS.TABLE_BANK, 8, 0, 1⟩, ⟨F.OUT_STATUS.STATE_ERR, 2, 0, 1⟩, ⟨F.OUT_STATUS.NOSHRINK, 1, 0, 1⟩, ⟨F.OUT_STATUS.PB_OVERRUN, 0, 0, 1⟩]⟩]

/-- Entries of R335. -/
def entsR335 : List Ent :=
  [-- acquisition.arm
   ⟨0x2600, 0x01, 2, .wo, .immediate, false, []⟩,
   -- acquisition.disarm
   ⟨0x2600, 0x02, 2, .wo, .immediate, false, []⟩,
   -- acquisition.force
   ⟨0x2600, 0x03, 2, .wo, .immediate, false, []⟩,
   -- acquisition.status
   ⟨0x2600, 0x04, 4, .ro, .immediate, false, [⟨(F.ACQ_STATUS.SPILLING 0), 5, 0, 1⟩, ⟨(F.ACQ_STATUS.ARM_REFUSED 0), 4, 0, 1⟩, ⟨(F.ACQ_STATUS.HOLDOFF 0), 3, 0, 1⟩, ⟨(F.ACQ_STATUS.CAPTURING 0), 2, 0, 1⟩, ⟨(F.ACQ_STATUS.ARMED 0), 1, 0, 1⟩, ⟨(F.ACQ_STATUS.RECORD_READY 0), 0, 0, 1⟩, ⟨(F.ACQ_STATUS.SPILLING 1), 13, 0, 1⟩, ⟨(F.ACQ_STATUS.ARM_REFUSED 1), 12, 0, 1⟩, ⟨(F.ACQ_STATUS.HOLDOFF 1), 11, 0, 1⟩, ⟨(F.ACQ_STATUS.CAPTURING 1), 10, 0, 1⟩, ⟨(F.ACQ_STATUS.ARMED 1), 9, 0, 1⟩, ⟨(F.ACQ_STATUS.RECORD_READY 1), 8, 0, 1⟩, ⟨(F.ACQ_STATUS.SPILLING 2), 21, 0, 1⟩, ⟨(F.ACQ_STATUS.ARM_REFUSED 2), 20, 0, 1⟩, ⟨(F.ACQ_STATUS.HOLDOFF 2), 19, 0, 1⟩, ⟨(F.ACQ_STATUS.CAPTURING 2), 18, 0, 1⟩, ⟨(F.ACQ_STATUS.ARMED 2), 17, 0, 1⟩, ⟨(F.ACQ_STATUS.RECORD_READY 2), 16, 0, 1⟩, ⟨(F.ACQ_STATUS.SPILLING 3), 29, 0, 1⟩, ⟨(F.ACQ_STATUS.ARM_REFUSED 3), 28, 0, 1⟩, ⟨(F.ACQ_STATUS.HOLDOFF 3), 27, 0, 1⟩, ⟨(F.ACQ_STATUS.CAPTURING 3), 26, 0, 1⟩, ⟨(F.ACQ_STATUS.ARMED 3), 25, 0, 1⟩, ⟨(F.ACQ_STATUS.RECORD_READY 3), 24, 0, 1⟩]⟩,
   -- converter.open_inputs
   ⟨0x2600, 0x05, 5, .ro, .immediate, false, [⟨(F.ADC_STATUS.OPEN 0), 0, 0, 16777215⟩, ⟨(F.ADC_STATUS.OPEN 1), 32, 0, 16777215⟩]⟩,
   -- converter.monitor_window
   ⟨0x2600, 0x06, 2, .rw, .stateChange, false, [⟨F.ADC_MON.MON_WIN, 0, 32, 255⟩]⟩,
   -- converter.monitor_gain
   ⟨0x4605, 0x09, 2, .rwe, .stateChange, false, [⟨F.ADC_MON.GAIN, 0, 0, 3⟩]⟩]

/-- Entries of R356. -/
def entsR356 : List Ent :=
  [-- recorder.pre_window
   ⟨0x2500, 0x01, 4, .rw, .stateChange, false, [⟨F.P.preWindow, 0, 0, 60000⟩]⟩,
   -- recorder.post_window
   ⟨0x2500, 0x02, 4, .rw, .stateChange, false, [⟨F.P.postWindow, 0, 0, 60000⟩]⟩,
   -- recorder.ring_size
   ⟨0x2500, 0x03, 4, .rw, .stateChange, false, [⟨F.P.ringSize, 0, 0, 4294967295⟩]⟩,
   -- recorder.trigger
   ⟨0x2500, 0x04, 1, .wo, .immediate, false, []⟩,
   -- recorder.eject
   ⟨0x2500, 0x05, 1, .wo, .immediate, false, []⟩,
   -- recorder.protect
   ⟨0x2500, 0x06, 4, .rw, .immediate, false, [⟨F.P.protect, 0, 0, 4294967295⟩]⟩,
   -- recorder.status
   ⟨0x2500, 0x07, 4, .ro, .immediate, false, [⟨F.REC_STATUS.STATE, 0, 0, 15⟩]⟩,
   -- recorder.read_select
   ⟨0x2500, 0x08, 4, .rw, .immediate, false, [⟨F.P.readSelect, 0, 0, 4294967295⟩]⟩,
   -- recorder.format
   ⟨0x4500, 0x01, 1, .rwe, .immediate, false, []⟩,
   -- memory.scrub_hours
   ⟨0x4500, 0x02, 2, .rwe, .immediate, false, [⟨F.MEM_SCRUB.HOURS, 0, 1, 24⟩]⟩]

/-- Entries of R395. -/
def entsR395 : List Ent :=
  [-- time.source
   ⟨0x1100, 0x08, 2, .rw, .stateChange, false, [⟨F.TB_SOURCE.SOURCE, 0, 0, 3⟩]⟩,
   -- time.locked
   ⟨0x1100, 0x09, 1, .ro, .immediate, false, [⟨F.PTP_STATUS.LOCKED, 0, 0, 1⟩]⟩,
   -- time.offset
   ⟨0x1100, 0x0A, 7, .ro, .immediate, false, [⟨F.PTP_OFFSET, 0, 0, 4294967295⟩]⟩,
   -- time.path_delay
   ⟨0x1100, 0x0B, 4, .ro, .immediate, false, [⟨F.PTP_PATH, 0, 0, 4294967295⟩]⟩,
   -- time.frame_period
   ⟨0x1100, 0x0C, 4, .rw, .frame, false, [⟨F.TB_SCHED_PERIOD, 0, 0, 4294967295⟩]⟩,
   -- time.frame_stagger
   ⟨0x1100, 0x0D, 4, .rw, .frame, false, [⟨F.TB_SCHED_STAGGER, 0, 0, 4294967295⟩]⟩,
   -- time.ptp_profile
   ⟨0x1100, 0x0E, 2, .rw, .stateChange, false, [⟨F.PTP_CTRL.PROFILE, 0, 0, 1⟩]⟩,
   -- time.ptp_domain
   ⟨0x1100, 0x0F, 2, .rw, .stateChange, false, [⟨F.PTP_CTRL.DOMAIN, 0, 0, 255⟩]⟩,
   -- time.ptp_slave_only
   ⟨0x1100, 0x10, 1, .rw, .stateChange, false, [⟨F.PTP_CTRL.SLAVE_ONLY, 0, 0, 1⟩]⟩,
   -- time.ptp_port
   ⟨0x1100, 0x11, 2, .rw, .immediate, false, [⟨F.PTP_CTRL.PORT_SELECT, 0, 0, 2⟩]⟩,
   -- time.ptp_priority
   ⟨0x1100, 0x12, 3, .rw, .immediate, false, [⟨F.PTP_CTRL.PRIORITY1, 0, 0, 255⟩, ⟨F.PTP_CTRL.PRIORITY2, 8, 0, 255⟩]⟩,
   -- time.pps_width
   ⟨0x1100, 0x13, 3, .rw, .immediate, false, [⟨F.TB_PPS.WIDTH, 0, 1, 999⟩]⟩,
   -- link.a_mode
   ⟨0x2900, 0x01, 2, .rw, .stateChange, false, [⟨(F.ETH_CTRL.MODE 0), 0, 0, 3⟩]⟩,
   -- link.b_mode
   ⟨0x2900, 0x02, 2, .rw, .stateChange, false, [⟨(F.ETH_CTRL.MODE 1), 0, 0, 3⟩]⟩,
   -- link.prp
   ⟨0x2900, 0x03, 1, .rw, .stateChange, false, [⟨F.NET_PRP.EN, 0, 0, 1⟩]⟩,
   -- net.ip_address
   ⟨0x2900, 0x04, 4, .rw, .stateChange, false, [⟨F.NET_IP, 0, 0, 4294967295⟩]⟩,
   -- net.netmask
   ⟨0x2900, 0x05, 4, .rw, .stateChange, false, [⟨F.NET_MASK, 0, 0, 4294967295⟩]⟩,
   -- net.gateway
   ⟨0x2900, 0x06, 4, .rw, .stateChange, false, [⟨F.NET_GW, 0, 0, 4294967295⟩]⟩,
   -- net.vlan
   ⟨0x2900, 0x07, 4, .rw, .stateChange, false, [⟨F.NET_VLAN.ACCEPT_UNTAGGED, 16, 0, 1⟩, ⟨F.NET_VLAN.TAG, 15, 0, 1⟩, ⟨F.NET_VLAN.PCP, 12, 0, 7⟩, ⟨F.NET_VLAN.VID, 0, 0, 4095⟩]⟩,
   -- link.status
   ⟨0x2900, 0x08, 4, .ro, .immediate, false, [⟨(F.ETH_STATUS.LAN_MISSING 0), 8, 0, 1⟩, ⟨(F.ETH_STATUS.AN_DONE 0), 7, 0, 1⟩, ⟨(F.ETH_STATUS.TRAINING 0), 6, 0, 1⟩, ⟨(F.ETH_STATUS.BLOCK_LOCK 0), 5, 0, 1⟩, ⟨(F.ETH_STATUS.FEC 0), 3, 0, 3⟩, ⟨(F.ETH_STATUS.SPEED 0), 1, 0, 3⟩, ⟨(F.ETH_STATUS.LINK 0), 0, 0, 1⟩, ⟨(F.ETH_STATUS.LAN_MISSING 1), 24, 0, 1⟩, ⟨(F.ETH_STATUS.AN_DONE 1), 23, 0, 1⟩, ⟨(F.ETH_STATUS.TRAINING 1), 22, 0, 1⟩, ⟨(F.ETH_STATUS.BLOCK_LOCK 1), 21, 0, 1⟩, ⟨(F.ETH_STATUS.FEC 1), 19, 0, 3⟩, ⟨(F.ETH_STATUS.SPEED 1), 17, 0, 3⟩, ⟨(F.ETH_STATUS.LINK 1), 16, 0, 1⟩]⟩,
   -- string.role
   ⟨0x2900, 0x09, 2, .rw, .stateChange, false, [⟨F.BX_STRING.ROLE, 0, 0, 2⟩]⟩,
   -- string.lock_mode
   ⟨0x2900, 0x0A, 2, .rw, .stateChange, false, [⟨F.BX_STRING.LOCK_MODE, 0, 0, 2⟩]⟩,
   -- string.forward
   ⟨0x2900, 0x0B, 1, .rw, .stateChange, false, [⟨F.BX_STRING.FORWARD, 0, 0, 1⟩]⟩,
   -- string.position
   ⟨0x2900, 0x0C, 2, .ro, .immediate, false, [⟨F.BX_STRING.POSITION, 0, 0, 3⟩]⟩,
   -- string.status
   ⟨0x2900, 0x0D, 4, .ro, .immediate, false, [⟨(F.BX_STATUS.FALLBACK 0), 10, 0, 1⟩, ⟨(F.BX_STATUS.PEER_POSITION 0), 8, 0, 3⟩, ⟨(F.BX_STATUS.PEER_ROLE 0), 6, 0, 3⟩, ⟨(F.BX_STATUS.TRAINING 0), 5, 0, 1⟩, ⟨(F.BX_STATUS.LANES_ACTIVE 0), 3, 0, 3⟩, ⟨(F.BX_STATUS.SPEED 0), 1, 0, 3⟩, ⟨(F.BX_STATUS.LINK_UP 0), 0, 0, 1⟩, ⟨(F.BX_STATUS.FALLBACK 1), 26, 0, 1⟩, ⟨(F.BX_STATUS.PEER_POSITION 1), 24, 0, 3⟩, ⟨(F.BX_STATUS.PEER_ROLE 1), 22, 0, 3⟩, ⟨(F.BX_STATUS.TRAINING 1), 21, 0, 1⟩, ⟨(F.BX_STATUS.LANES_ACTIVE 1), 19, 0, 3⟩, ⟨(F.BX_STATUS.SPEED 1), 17, 0, 3⟩, ⟨(F.BX_STATUS.LINK_UP 1), 16, 0, 1⟩]⟩,
   -- time.servo_gains
   ⟨0x4900, 0x01, 4, .rwe, .immediate, false, [⟨F.SERVO_GAIN.KI, 16, 0, 65535⟩, ⟨F.SERVO_GAIN.KP, 0, 0, 65535⟩]⟩,
   -- time.servo_fmax
   ⟨0x4900, 0x02, 4, .rwe, .immediate, false, [⟨F.SERVO_FMAX, 0, 0, 1900000⟩]⟩,
   -- time.servo_limits
   ⟨0x4900, 0x03, 4, .rwe, .immediate, false, [⟨F.SERVO_LIM.UNLOCK_NS, 16, 0, 65535⟩, ⟨F.SERVO_LIM.LOCK_NS, 0, 0, 65535⟩]⟩,
   -- time.phase_limit
   ⟨0x4900, 0x04, 4, .rwe, .immediate, false, [⟨F.SERVO_PHASE, 0, 0, 4294967295⟩]⟩,
   -- time.ptp_intervals
   ⟨0x4900, 0x05, 4, .rwe, .stateChange, false, [⟨F.PTP_INTERVAL.ANNOUNCE, 16, 0, 255⟩, ⟨F.PTP_INTERVAL.DELAY_REQ, 8, 0, 255⟩, ⟨F.PTP_INTERVAL.SYNC, 0, 0, 255⟩]⟩,
   -- link.latency_a
   ⟨0x4900, 0x06, 4, .rwe, .immediate, false, [⟨(F.ETH_LAT.EGRESS 0), 16, 0, 65535⟩, ⟨(F.ETH_LAT.INGRESS 0), 0, 0, 65535⟩]⟩,
   -- link.latency_b
   ⟨0x4900, 0x07, 4, .rwe, .immediate, false, [⟨(F.ETH_LAT.EGRESS 1), 16, 0, 65535⟩, ⟨(F.ETH_LAT.INGRESS 1), 0, 0, 65535⟩]⟩,
   -- link.launch
   ⟨0x4900, 0x08, 4, .rwe, .frame, false, [⟨F.NET_LAUNCH.LATE_TOL, 16, 0, 65535⟩, ⟨F.NET_LAUNCH.DROP_Q4, 2, 0, 1⟩, ⟨F.NET_LAUNCH.DROP_Q3, 1, 0, 1⟩, ⟨F.NET_LAUNCH.DROP_Q2, 0, 0, 1⟩]⟩,
   -- basxiop.max_speed
   ⟨0x4900, 0x09, 2, .rwe, .stateChange, false, [⟨(F.BX_CTRL.MAX_SPEED 0), 0, 0, 3⟩]⟩,
   -- string.latency
   ⟨0x4900, 0x0A, 3, .rwe, .stateChange, false, [⟨F.BX_STRING.LATENCY, 0, 0, 65535⟩]⟩,
   -- string.timeout
   ⟨0x4900, 0x0B, 3, .rwe, .stateChange, false, [⟨F.BX_STRING2.TIMEOUT, 0, 0, 65535⟩]⟩,
   -- string.slip_limit
   ⟨0x4900, 0x0C, 3, .rwe, .stateChange, false, [⟨F.BX_STRING2.SLIP_LIM, 0, 0, 65535⟩]⟩,
   -- string.forward_delay
   ⟨0x4900, 0x0D, 3, .rwe, .stateChange, false, [⟨F.BX_FWD.FWD_DELAY, 0, 0, 65535⟩]⟩,
   -- string.forward_rate
   ⟨0x4900, 0x0E, 3, .rwe, .stateChange, false, [⟨F.BX_FWD.FWD_RATE, 0, 0, 65535⟩]⟩]

/-- Entries of R444. -/
def entsR444 : List Ent :=
  [-- safety.status
   ⟨0x2800, 0x01, 4, .ro, .immediate, false, [⟨F.TOLL_STATUS.TG_CONNECTED, 11, 0, 1⟩, ⟨F.TOLL_STATUS.ZONE_BANK, 10, 0, 1⟩, ⟨F.TOLL_STATUS.CONFIG_VALID, 9, 0, 1⟩, ⟨F.TOLL_STATUS.HEALTHY, 8, 0, 1⟩, ⟨F.TOLL_STATUS.CH_FAULT_CAUSE, 4, 0, 15⟩, ⟨F.TOLL_STATUS.SAFE_STATE, 3, 0, 1⟩, ⟨F.TOLL_STATUS.HOLD_DEMAND, 2, 0, 1⟩, ⟨F.TOLL_STATUS.PROC_RUN, 1, 0, 1⟩, ⟨F.TOLL_STATUS.LOGIC_RUN, 0, 0, 1⟩]⟩,
   -- safety.demands
   ⟨0x2800, 0x02, 4, .ro, .immediate, false, [⟨F.TOLL_DEMAND, 0, 0, 33554431⟩]⟩,
   -- safety.faults
   ⟨0x2800, 0x03, 4, .ro, .immediate, false, [⟨F.TOLL_FAULT, 0, 0, 33554431⟩]⟩,
   -- safety.outputs
   ⟨0x2800, 0x04, 4, .ro, .immediate, false, [⟨F.TOLL_SO.FAULT, 12, 0, 15⟩, ⟨F.TOLL_SO.TESTING, 8, 0, 15⟩, ⟨F.TOLL_SO.READBACK, 4, 0, 15⟩, ⟨F.TOLL_SO.ENERGISED, 0, 0, 15⟩]⟩,
   -- safety.field_mute
   ⟨0x2800, 0x05, 3, .ro, .immediate, false, [⟨F.TOLL_FIELD_MUTE, 0, 0, 65535⟩]⟩,
   -- safety.clear_faults
   ⟨0x2800, 0x06, 1, .wo, .immediate, false, []⟩,
   -- safety.telegram_seq
   ⟨0x2800, 0x07, 4, .ro, .immediate, false, [⟨F.TOLL_TG_SEQ, 0, 0, 4294967295⟩]⟩,
   -- safety.config_id
   ⟨0x2800, 0x08, 4, .ro, .immediate, false, []⟩,
   -- safety.inputs_raw
   ⟨0x4800, 0x01, 4, .ro, .immediate, false, [⟨F.TOLL_SI_RAW, 0, 0, 65535⟩]⟩]

/-- Entries of R479. -/
def entsR479 : List Ent :=
  [-- device.part
   ⟨0x1000, 0x01, 10, .ro, .immediate, false, []⟩,
   -- device.revision
   ⟨0x1000, 0x02, 4, .ro, .immediate, false, [⟨F.DEV_REV.MAJOR, 8, 0, 255⟩, ⟨F.DEV_REV.MINOR, 0, 0, 255⟩]⟩,
   -- device.serial
   ⟨0x1000, 0x03, 5, .ro, .immediate, false, [⟨F.DEV_SERIAL_LO, 0, 0, 4294967295⟩, ⟨F.DEV_SERIAL_HI, 32, 0, 4294967295⟩]⟩,
   -- session.role
   ⟨0x1200, 0x01, 2, .ro, .immediate, false, []⟩,
   -- session.open
   ⟨0x1200, 0x02, 2, .ro, .immediate, false, []⟩,
   -- session.timeout
   ⟨0x1200, 0x03, 3, .rwe, .immediate, false, [⟨F.P.sessionTimeout, 0, 10, 3600⟩]⟩,
   -- session.rejected
   ⟨0x1200, 0x04, 4, .ro, .immediate, false, []⟩,
   -- security.fuses
   ⟨0x1200, 0x07, 4, .ro, .immediate, false, [⟨F.FUSE_STATUS.LOCAL_MAINT, 8, 0, 1⟩, ⟨F.FUSE_STATUS.BSCAN_LOCK, 3, 0, 1⟩, ⟨F.FUSE_STATUS.TEST_LOCK, 2, 0, 1⟩, ⟨F.FUSE_STATUS.LOCAL_LOCK, 1, 0, 1⟩, ⟨F.FUSE_STATUS.FIELD_LOCK, 0, 0, 1⟩]⟩,
   -- security.blow_fuse
   ⟨0x1200, 0x08, 4, .rwe, .immediate, false, []⟩,
   -- flefen.udp_port
   ⟨0x1200, 0x09, 3, .rwe, .stateChange, false, [⟨F.P.udpPort, 0, 0, 65535⟩]⟩]

/-- Entries of R517. -/
def entsR517 : List Ent :=
  [-- device.reset
   ⟨0x1005, 0x00, 3, .rwe, .immediate, false, []⟩,
   -- firmware.status
   ⟨0x1400, 0x01, 4, .ro, .immediate, false, [⟨F.BOOT_STATUS.UNSECURED, 12, 0, 1⟩, ⟨F.BOOT_STATUS.TOLL_PENDING, 11, 0, 1⟩, ⟨F.BOOT_STATUS.CONFIRMED, 10, 0, 1⟩, ⟨F.BOOT_STATUS.RECOVERY, 9, 0, 1⟩, ⟨F.BOOT_STATUS.SLOT, 8, 0, 1⟩, ⟨F.BOOT_STATUS.RESULT, 0, 0, 255⟩, ⟨F.STEWARD_STATUS.HANDOVER_ACTIVE, 21, 0, 1⟩, ⟨F.STEWARD_STATUS.B_RETIRED, 20, 0, 1⟩, ⟨F.STEWARD_STATUS.A_RETIRED, 19, 0, 1⟩, ⟨F.STEWARD_STATUS.STANDBY_READY, 18, 0, 1⟩, ⟨F.STEWARD_STATUS.SERVING, 16, 0, 3⟩]⟩,
   -- firmware.handover
   ⟨0x1400, 0x04, 1, .rwe, .immediate, false, []⟩,
   -- firmware.confirm
   ⟨0x1400, 0x05, 1, .rwe, .immediate, false, []⟩,
   -- firmware.confirm_time
   ⟨0x1400, 0x06, 3, .rwe, .immediate, false, [⟨F.P.confirmTime, 0, 60, 3600⟩]⟩,
   -- firmware.toll_reload
   ⟨0x1400, 0x07, 1, .rwe, .immediate, false, []⟩,
   -- config.save
   ⟨0x1400, 0x08, 1, .rwe, .immediate, false, []⟩,
   -- fault.repeat_count
   ⟨0x1500, 0x01, 2, .rwe, .immediate, false, [⟨F.P.repeatCount, 0, 2, 15⟩]⟩,
   -- fault.repeat_window
   ⟨0x1500, 0x02, 3, .rwe, .immediate, false, [⟨F.P.repeatWindow, 0, 1, 1024⟩]⟩,
   -- fault.link_window
   ⟨0x1500, 0x03, 3, .rwe, .immediate, false, [⟨F.P.linkWindow, 0, 100, 60000⟩]⟩,
   -- fault.clear_retirement
   ⟨0x1500, 0x04, 4, .rwe, .immediate, false, []⟩,
   -- thermal.junction
   ⟨0x2700, 0x01, 6, .ro, .immediate, false, [⟨F.THERM_STATUS.TJ, 0, 0, 65535⟩]⟩,
   -- thermal.throttle_level
   ⟨0x2700, 0x02, 2, .ro, .immediate, false, [⟨F.THERM_STATUS.LEVEL, 0, 0, 7⟩]⟩,
   -- thermal.status
   ⟨0x2700, 0x03, 4, .ro, .immediate, false, [⟨F.THERM_STATUS.TJ, 16, 0, 65535⟩, ⟨F.THERM_STATUS.LEVEL, 8, 0, 7⟩, ⟨F.THERM_STATUS.SUBST, 4, 0, 1⟩, ⟨F.THERM_STATUS.COVERAGE_LOST, 3, 0, 1⟩, ⟨F.THERM_STATUS.SHUTDOWN, 2, 0, 1⟩, ⟨F.THERM_STATUS.THROTTLE, 1, 0, 1⟩, ⟨F.THERM_STATUS.WARNING, 0, 0, 1⟩]⟩,
   -- ranging.rest
   ⟨0x4100, 0x09, 3, .rwe, .stage, false, []⟩,
   -- ranging.recal_period
   ⟨0x4100, 0x0A, 4, .rwe, .immediate, false, [⟨F.P.recalPeriod, 0, 0, 4294967295⟩]⟩]

/-- interval.cNN.* of convoy n (R206). -/
def entsInterval (n : Nat) : List Ent :=
  [⟨0x4110 + n, 1, 4, .rwe, .immediate, false, [⟨(F.TIS_CTRL.SOURCE n), 26, 0, 3⟩, ⟨(F.TIS_CTRL.GATE_EN n), 24, 0, 1⟩, ⟨(F.TIS_CTRL.CHANNEL n), 16, 0, 31⟩, ⟨(F.TIS_CTRL.STOP_INDEX n), 12, 0, 8⟩]⟩,
   ⟨0x4110 + n, 2, 4, .rwe, .immediate, false, [⟨(F.TIS_N n), 0, 0, 1048575⟩]⟩,
   ⟨0x4110 + n, 3, 7, .rwe, .immediate, false, [⟨(F.TIS_GATE_LO n), 0, 0, 4294967295⟩]⟩,
   ⟨0x4110 + n, 4, 7, .rwe, .immediate, false, [⟨(F.TIS_GATE_HI n), 0, 0, 4294967295⟩]⟩,
   ⟨0x4110 + n, 5, 3, .rwe, .immediate, false, [⟨(F.TIS_TIMEOUT n), 0, 0, 65535⟩]⟩,
   ⟨0x4110 + n, 6, 4, .ro, .immediate, false, [⟨(F.TIS_STATUS.COUNT n), 12, 0, 1048575⟩, ⟨(F.TIS_STATUS.ABORTED n), 3, 0, 1⟩, ⟨(F.TIS_STATUS.PARTIAL n), 2, 0, 1⟩, ⟨(F.TIS_STATUS.DONE n), 1, 0, 1⟩, ⟨(F.TIS_STATUS.BUSY n), 0, 0, 1⟩]⟩,
   ⟨0x4110 + n, 7, 7, .ro, .immediate, false, [⟨(F.TIS_MEAN n), 0, 0, 4294967295⟩]⟩,
   ⟨0x4110 + n, 8, 4, .ro, .immediate, false, [⟨(F.TIS_DEV n), 0, 0, 4294967295⟩]⟩,
   ⟨0x4110 + n, 9, 7, .ro, .immediate, false, [⟨(F.TIS_MIN n), 0, 0, 4294967295⟩]⟩,
   ⟨0x4110 + n, 10, 7, .ro, .immediate, false, [⟨(F.TIS_MAX n), 0, 0, 4294967295⟩]⟩,
   ⟨0x4110 + n, 11, 4, .ro, .immediate, false, [⟨(F.TIS_REJECTED n), 0, 0, 4294967295⟩]⟩]

/-- output.sN.* of stream n (R307). -/
def entsOutput (n : Nat) : List Ent :=
  [⟨0x2400, 16 * n + 1, 1, .rw, .frame, false, [⟨(F.OUT_SCFG.EN n), 0, 0, 1⟩]⟩,
   ⟨0x2400, 16 * n + 2, 2, .rw, .frame, false, [⟨(F.OUT_SCFG.FORMAT n), 0, 0, 1⟩]⟩,
   ⟨0x2400, 16 * n + 3, 1, .rw, .frame, false, [⟨(F.OUT_SCFG.COMPRESS n), 0, 0, 1⟩]⟩,
   ⟨0x2400, 16 * n + 4, 2, .rw, .frame, false, [⟨(F.OUT_SCFG.MAX_ECHOES n), 0, 1, 8⟩]⟩,
   ⟨0x2400, 16 * n + 5, 4, .rw, .frame, false, [⟨(F.OUT_SDST n), 0, 0, 4294967295⟩]⟩,
   ⟨0x2400, 16 * n + 6, 4, .rw, .frame, false, [⟨(F.OUT_SPORT.SRC n), 16, 0, 65535⟩, ⟨(F.OUT_SPORT.DST n), 0, 0, 65535⟩]⟩,
   ⟨0x2400, 16 * n + 7, 2, .rw, .frame, false, [⟨(F.OUT_SCFG.PORT n), 0, 0, 2⟩]⟩,
   ⟨0x2400, 16 * n + 8, 3, .rw, .frame, false, [⟨(F.OUT_SRATE.RATE n), 0, 1, 25000⟩]⟩,
   ⟨0x2400, 16 * n + 9, 1, .rw, .frame, false, [⟨(F.OUT_SCFG.OMIT_EMPTY n), 0, 0, 1⟩]⟩,
   ⟨0x4400, 16 * n + 1, 4, .rwe, .frame, false, [⟨(F.OUT_SLAUNCH.OFFSET n), 0, 0, 1000000⟩]⟩,
   ⟨0x4400, 16 * n + 2, 3, .rwe, .frame, false, [⟨(F.OUT_SVLAN.TAG n), 15, 0, 1⟩, ⟨(F.OUT_SVLAN.PCP n), 12, 0, 7⟩, ⟨(F.OUT_SVLAN.VID n), 0, 0, 4095⟩]⟩,
   ⟨0x4400, 16 * n + 3, 3, .rwe, .frame, false, [⟨(F.OUT_SMTU.MTU n), 0, 576, 9000⟩]⟩,
   ⟨0x4400, 16 * n + 4, 2, .rwe, .frame, false, [⟨(F.OUT_SCFG.HISTORY_RESET n), 0, 0, 1⟩]⟩]

/-- acquisition.uN.* of unit u (R335). -/
def entsUnit (u : Nat) : List Ent :=
  [⟨0x4600 + u, 1, 4, .rwe, .immediate, false, [⟨(F.ACQ_CTRL.FIR_EN u), 26, 0, 1⟩, ⟨(F.ACQ_CTRL.SPILL u), 25, 0, 1⟩, ⟨(F.ACQ_CTRL.HOLD_MODE u), 24, 0, 1⟩, ⟨(F.ACQ_CTRL.DEC u), 20, 0, 15⟩, ⟨(F.ACQ_CTRL.MEAS_WORD u), 17, 0, 7⟩, ⟨(F.ACQ_CTRL.ALL_INPUTS u), 16, 0, 1⟩, ⟨(F.ACQ_CTRL.INPUT u), 11, 0, 23⟩, ⟨(F.ACQ_CTRL.SOURCE u), 8, 0, 4⟩, ⟨(F.ACQ_CTRL.MODE u), 0, 0, 1⟩]⟩,
   ⟨0x4600 + u, 2, 4, .rwe, .immediate, false, [⟨(F.ACQ_TRIGMASK u), 0, 0, 2097151⟩]⟩,
   ⟨0x4600 + u, 3, 4, .rwe, .immediate, false, [⟨(F.ACQ_PRE u), 0, 0, 16777215⟩]⟩,
   ⟨0x4600 + u, 4, 4, .rwe, .immediate, false, [⟨(F.ACQ_POST u), 0, 0, 4294967295⟩]⟩,
   ⟨0x4600 + u, 5, 4, .rwe, .immediate, false, [⟨(F.ACQ_HOLD u), 0, 0, 4294967295⟩]⟩,
   ⟨0x4600 + u, 6, 5, .rwe, .immediate, false, [⟨(F.ACQ_BUFBASE u), 32, 0, 4294967295⟩, ⟨(F.ACQ_BUFSIZE u), 0, 0, 4294967295⟩]⟩,
   ⟨0x4600 + u, 7, 4, .rwe, .immediate, false, [⟨(F.ACQ_ET.ET_START u), 16, 0, 255⟩, ⟨(F.ACQ_ET.ET_SAMPLES u), 12, 0, 15⟩, ⟨(F.ACQ_ET.ET_MANIFEST u), 0, 0, 1023⟩]⟩]

/-- acquisition.comparators, comparator c (R335). -/
def entComparator (c : Nat) : Ent :=
  ⟨0x4604, c + 1, 5, .rwe, .immediate, false, [⟨(F.TRIG_CFG.MODE c), 58, 0, 4⟩, ⟨(F.TRIG_CFG.SRC c), 56, 0, 3⟩, ⟨(F.TRIG_CFG.INPUT c), 51, 0, 31⟩, ⟨(F.TRIG_CFG.HYST c), 32, 0, 4095⟩, ⟨(F.TRIG_LEVEL.LEVEL_HI c), 16, 0, 4095⟩, ⟨(F.TRIG_LEVEL.LEVEL c), 0, 0, 4095⟩]⟩

/-- converter.sequences of converter n (R335). -/
def entsSequence (n : Nat) : List Ent :=
  [⟨0x4605, 4 * n + 1, 5, .rwe, .immediate, false, [⟨(F.ADC_SEQ0.SRC n), 60, 0, 5⟩, ⟨(F.ADC_SEQ0.OW_CURRENT n), 56, 0, 2⟩, ⟨(F.ADC_SEQ0.OW_EN n), 55, 0, 1⟩, ⟨(F.ADC_SEQ0.GAIN n), 53, 0, 3⟩, ⟨(F.ADC_SEQ0.INPUT n), 48, 0, 23⟩, ⟨(F.ADC_SEQ0.COUNT n), 32, 0, 65535⟩, ⟨(F.ADC_SEQDLY0.DELAY n), 0, 0, 65535⟩]⟩,
   ⟨0x4605, 4 * n + 2, 5, .rwe, .immediate, false, [⟨(F.ADC_SEQ1.SRC n), 60, 0, 5⟩, ⟨(F.ADC_SEQ1.OW_CURRENT n), 56, 0, 2⟩, ⟨(F.ADC_SEQ1.OW_EN n), 55, 0, 1⟩, ⟨(F.ADC_SEQ1.GAIN n), 53, 0, 3⟩, ⟨(F.ADC_SEQ1.INPUT n), 48, 0, 23⟩, ⟨(F.ADC_SEQ1.COUNT n), 32, 0, 65535⟩, ⟨(F.ADC_SEQDLY1.DELAY n), 0, 0, 65535⟩]⟩,
   ⟨0x4605, 4 * n + 3, 5, .rwe, .immediate, false, [⟨(F.ADC_SEQ2.SRC n), 60, 0, 5⟩, ⟨(F.ADC_SEQ2.OW_CURRENT n), 56, 0, 2⟩, ⟨(F.ADC_SEQ2.OW_EN n), 55, 0, 1⟩, ⟨(F.ADC_SEQ2.GAIN n), 53, 0, 3⟩, ⟨(F.ADC_SEQ2.INPUT n), 48, 0, 23⟩, ⟨(F.ADC_SEQ2.COUNT n), 32, 0, 65535⟩, ⟨(F.ADC_SEQDLY2.DELAY n), 0, 0, 65535⟩]⟩,
   ⟨0x4605, 4 * n + 4, 5, .rwe, .immediate, false, [⟨(F.ADC_SEQ3.SRC n), 60, 0, 5⟩, ⟨(F.ADC_SEQ3.OW_CURRENT n), 56, 0, 2⟩, ⟨(F.ADC_SEQ3.OW_EN n), 55, 0, 1⟩, ⟨(F.ADC_SEQ3.GAIN n), 53, 0, 3⟩, ⟨(F.ADC_SEQ3.INPUT n), 48, 0, 23⟩, ⟨(F.ADC_SEQ3.COUNT n), 32, 0, 65535⟩, ⟨(F.ADC_SEQDLY3.DELAY n), 0, 0, 65535⟩]⟩]

/-- events.gG.* of group g (R479). -/
def entsEvent (g : Nat) : List Ent :=
  [⟨0x9000 + g, 1, 4, .ro, .immediate, false, [⟨(F.EVT_STATUS g), 0, 0, 16777215⟩]⟩,
   ⟨0x9000 + g, 2, 4, .wo, .immediate, false, []⟩,
   ⟨0x9000 + g, 3, 4, .rw, .immediate, false, [⟨(F.EVT_ENABLE g), 0, 0, 16777215⟩]⟩,
   ⟨0x9000 + g, 4, 5, .rwe, .immediate, false, [⟨(F.EVT_ROUTE_HI g), 32, 0, 65535⟩, ⟨(F.EVT_ROUTE_LO g), 0, 0, 4294967295⟩]⟩]

/-- Every scalar entry (R478). -/
def entTable : List Ent :=
  entsR37 ++ entsR74 ++ entsR120 ++ entsR159 ++ entsR206 ++ entsR248 ++ entsR276 ++ entsR307 ++ entsR335 ++ entsR356 ++ entsR395 ++ entsR444 ++ entsR479 ++ entsR517 ++
    (List.range 16).flatMap entsInterval ++ (List.range 2).flatMap entsOutput ++ (List.range 4).flatMap entsUnit ++
    (List.range 16).map entComparator ++ (List.range 2).flatMap entsSequence ++ (List.range 13).flatMap entsEvent

/-- The entry with an index and subindex. -/
def entOf (idx sub : Nat) : Option Ent := entTable.find? fun e => e.idx = idx && e.sub = sub

end Sys2Proof.Machine
end

