-- ==== Sys2Proof/Machine/Dict.lean ====
section
/-! DEFINITION. What a scalar dictionary entry reads as and what a write of it does (R7, R36, R61, R79, R82, R126, R177, R206,
R246, R248, R270, R317, R343, R371, R458–R461, R555). -/

namespace Sys2Proof.Machine

/-! ## Values -/

/-- Bits of a value that only act when written (R203, R331, R332). -/
def woMask (idx sub : Nat) : Nat :=
  if 0x4110 ≤ idx && idx < 0x4120 && sub = 1 then 2 ^ 31
  else if 0x4600 ≤ idx && idx < 0x4604 && sub = 1 then 7 * 2 ^ 29
  else if idx = 0x4605 && sub ≤ 8 then 2 ^ 63
  else 0

/-- A part of a value is in its range. -/
def Part.ok (p : Part) (v : Nat) : Bool := inR (bits v p.pos (Fld.width p.fld)) p.lo p.hi

/-- Bits of a value that the parts hold. -/
def partsMask (l : List Part) : Nat := l.foldl (fun a p => Nat.lor a ((2 ^ Fld.width p.fld - 1) * 2 ^ p.pos)) 0

/-- A value is in the range of its entry (R555): every part is, a BOOL is 0 or 1, and bits that no field holds are 0. -/
def Ent.inRange (e : Ent) (v : Nat) : Bool :=
  (e.ty ≠ 1 || v ≤ 1) &&
    (e.parts.isEmpty || (e.parts.all (·.ok v) && Nat.lor (Nat.lor v (woMask e.idx e.sub)) (partsMask e.parts) =
      Nat.lor (woMask e.idx e.sub) (partsMask e.parts)))

/-- A value put together from its parts. -/
def Ent.join (e : Ent) (f : Fld → Nat) : Nat := (e.parts.map fun p => f p.fld * 2 ^ p.pos).sum

/-- Bitmap of the convoys for which a field is 1. -/
def Dev.cvyMap (d : Dev) (f : Nat → Fld) : Nat := maskOf 16 fun c => d.flag (f c)

/-- The clutter table field of a basic entry: byte offset, lowest bit, width (R269, R270, R276). -/
def clutField (sub : Nat) : Nat × Nat × Nat :=
  match sub with
  | 0x14 => (0, 0, 8)
  | 0x15 => (1, 0, 1)
  | 0x16 => (1, 1, 1)
  | 0x17 => (2, 0, 16)
  | _ => (1, 2, 1)

/-- Reads a clutter field. -/
def clutRead (t : Bytes) (sub : Nat) : Nat :=
  let f := clutField sub
  if f.2.2 = 16 then rd 2 t f.1 else bits (rd 1 t f.1) f.2.1 f.2.2

/-- Writes a clutter field. -/
def clutWrite (t : Bytes) (sub v : Nat) : Bytes :=
  let f := clutField sub
  if f.2.2 = 16 then patch t f.1 (be 2 v)
  else
    let old := rd 1 t f.1
    patch t f.1 (be 1 (old - bits old f.2.1 f.2.2 * 2 ^ f.2.1 + v * 2 ^ f.2.1))

/-- The entry is one of the basic clutter entries. -/
def isClut (e : Ent) : Bool := e.idx = 0x2100 && 0x14 ≤ e.sub && e.sub ≤ 0x18

/-- The value in effect of an entry without fields, for a request in a role (R74, R206, R276, R444, R479, R517). -/
def Dev.ownValue (d : Dev) (role : Nat) (e : Ent) : Nat :=
  if isClut e then clutRead (clutterOf (d.tab 0x7040)) e.sub
  else match e.idx, e.sub with
    | 0x1002, 0x00 => if d.get F.DEV_STATE.REQUEST = 0 then 1 else d.get F.DEV_STATE.REQUEST
    | 0x1100, 0x01 => d.nowNs / 1000000000 * 2 ^ 32 + d.nowNs % 1000000000
    | 0x1100, 0x06 => uns 32 (satS 32 (d.tb.step.getD 0))
    | 0x2100, 0x08 => d.cvyMap F.CVY_STATUS.LOCKED
    | 0x2100, 0x09 => d.cvyMap F.CVY_STATUS.RESTING
    | 0x2100, 0x0A => d.cvyMap F.CVY_STATUS.RETIRED
    | 0x2100, 0x0B => (List.range 512).countP d.chRetired
    | 0x2100, 0x13 => pairGap (d.get F.CLUT_SEED.SEED)
    | 0x4100, 0x08 => d.cvyMap F.CVY_STATUS.CAL_BUSY
    | 0x4100, 0x09 => d.cvyMap F.CVY_STATUS.RESTING
    | 0x2800, 0x08 => rd 4 d.toll.cfg 0
    | 0x1200, 0x01 => role
    | 0x1200, 0x02 => d.flf.sessions.countP (·.opened)
    | 0x1200, 0x04 => d.flf.rejected
    | 0x1200, 0x08 => d.life.fuses
    | _, _ => 0

/-- The value in effect as bytes (R449). -/
def Dev.entBytes (d : Dev) (role : Nat) (e : Ent) : Bytes :=
  if e.ty = 10 then ascii "NX5120"
  else be (tySize e.ty) (if e.parts.isEmpty then d.ownValue role e else e.join d.peek)

/-- Bitmap of ranging.rest as last written, where it waits for its tick (R509). -/
def Dev.restPending (d : Dev) : Option Nat :=
  let want := maskOf 16 fun c => (d.cvy c).restWant
  if d.st.ticks && want ≠ d.cvyMap F.CVY_STATUS.RESTING then some want else none

/-- The pending value of an entry, when a write waits (R7, R451). -/
def Dev.entPending (d : Dev) (e : Ent) : Option Bytes :=
  if isClut e then
    let b := d.bank 0x7040
    let next := if d.clutLater = [] then b.inact else d.clutLater
    if b.committed && clutRead (clutterOf next) e.sub ≠ clutRead (clutterOf b.act) e.sub then
      some (be (tySize e.ty) (clutRead (clutterOf next) e.sub)) else none
  else if e.idx = 0x4100 && e.sub = 0x09 then d.restPending.map (be 2)
  else if e.parts.any fun p => (d.pendingOf p.fld).isSome then
    some (be (tySize e.ty) (e.join fun f => (d.pendingOf f).getD (d.peek f)))
  else none

/-! ## Writes -/

/-- Writes the fields of an entry, in every convoy where it stands for all (R206), at its commit point. -/
def Dev.writeParts (d : Dev) (e : Ent) (v : Nat) (p : Commit) : Dev :=
  e.parts.foldl (fun d q =>
    let x := bits v q.pos (Fld.width q.fld)
    if e.convoys then d.each (List.range 16) fun d c => d.write (q.fld + 134217728 * c) x p else d.write q.fld x p) d

/-- A write of an entry that a preset sets makes ranging.mode custom (R36). -/
def Dev.modeCustom (d : Dev) : Dev := d.write F.P.mode 0xFF .frame

/-- The presets of ranging.mode: T_p, N_s, coarse bin width (R36). -/
def presetOf (mode : Nat) : Nat × Nat × Nat :=
  match mode with
  | 0 => (2048, 8, 0)
  | 1 => (4096, 8, 1)
  | _ => (10240, 16, 2)

/-- A write of ranging.mode (R36). -/
def Dev.writeMode (d : Dev) (v : Nat) : Dev :=
  if v = 0xFF then d.modeCustom
  else if 2 < v then d.answer 4
  else
    let p := presetOf v
    (((d.write F.P.shotPeriod p.1 .frame).write F.P.shotsPerStage p.2.1 .frame).write F.TALLY_CTRL.BIN_WIDTH p.2.2 .frame).write
      F.P.mode v .frame

/-- States in which the emitter outputs, the monitor and the mirror axes can be changed (R79, R121, R317). -/
def Dev.quiet (d : Dev) : Bool := d.st = .boot || d.st = .standby || d.st = .safeHold

/-- A write refused with 0x08 outside the quiet states where it would change a field in effect (R79, R317); one of an emitter field sets
EM_STATUS.WRITE_REFUSED (R79). -/
def Dev.quietWrite (d : Dev) (e : Ent) (v : Nat) : Dev :=
  if !d.quiet && e.join d.get ≠ v then
    (if e.idx = 0x2200 || e.idx = 0x4200 then d.setB F.EM_STATUS.WRITE_REFUSED true else d).answer 8
  else d.writeParts e v e.commit

/-- Bytes of usable memory in units of MiB (R341). -/
def Dev.usableMiB (d : Dev) : Nat := d.life.fitted * 832

/-- An acquisition buffer lies below the stores and the ring and within usable memory (R343). -/
def Dev.bufferOk (d : Dev) (base size : Nat) : Bool := 64 * (base + size) ≤ (d.usableMiB - 512 - d.get F.P.ringSize) * 1048576

/-- Arms a tally snapshot of a channel (R246). -/
def Dev.armSnap (d : Dev) (ch : Nat) : Dev :=
  { (d.writeNow F.SNAP_CTRL.CHANNEL ch).setB F.SNAP_CTRL.DONE false with flf := { d.flf with snapArm := true, snapCh := ch } }

/-- A comparator's state is cleared by a write (R334). -/
def Dev.compClear (d : Dev) (c : Nat) : Dev := { d with acq := { d.acq with comps := upd d.acq.comps c fun _ => {} } }

/-- Calibrations of every convoy of a bitmap, with the status of the first that is refused (R177, R206). -/
def Dev.calibrate (d : Dev) (v : Nat) : Dev :=
  if (bitList 16 v).any fun c => !d.flag (F.CVY_STATUS.CAL_BUSY c) && !d.resting c && !DevState.calibrates d.st then d.answer 8
  else (bitList 16 v).foldl (fun d c => calStart (.dict .engineer) (Fin.ofNat 16 c) d) d

/-- Acts on every unit of a bitmap (R335). -/
def Dev.unitsDo (d : Dev) (v : Nat) (f : Via → Fin 4 → Dev → Dev) : Dev :=
  if 16 ≤ v then d.answer 4
  else
    let l := bitList 4 v
    let r := l.foldl (fun d u => let d1 := f (.dict .engineer) (Fin.ofNat 4 u) d; if d1.flf.status = 0 then d1.answer d.flf.status else d1)
      (d.answer 0)
    r

/-- A write of ACQ_CTRL by its fields and its acting bits (R332): FORCE and DISARM act always, the rest while the unit is not
armed. -/
def Dev.acqCtrl (d : Dev) (u : Fin 4) (via : Via) (v : Nat) : Dev :=
  let armed := (d.unit u).armed
  let fields : List (Fld × Nat × Nat) :=
    [(F.ACQ_CTRL.FIR_EN u, 26, 1), (F.ACQ_CTRL.SPILL u, 25, 1), (F.ACQ_CTRL.HOLD_MODE u, 24, 1), (F.ACQ_CTRL.DEC u, 20, 4),
      (F.ACQ_CTRL.MEAS_WORD u, 17, 3), (F.ACQ_CTRL.ALL_INPUTS u, 16, 1), (F.ACQ_CTRL.INPUT u, 11, 5),
      (F.ACQ_CTRL.SOURCE u, 8, 3), (F.ACQ_CTRL.MODE u, 0, 1)]
  let d1 := if armed then d else fields.foldl (fun d x => d.writeNow x.1 (bits v x.2.1 x.2.2)) d
  let d2 := if bitAt v 30 && !armed then d1.acqArm via u else d1
  let d3 := if bitAt v 29 then acqDisarm via u d2 else d2
  if bitAt v 31 then acqForce via u d3 else d3

/-- Measurement, output map and DRVSPI settings, which must meet Drover's timing (R126, R152–R154). -/
def Dev.drvSettings (d : Dev) (via : Via) (offOnly : Bool) (f : Dev → Dev) : Dev :=
  if offOnly && !d.drvOff then (d.setB F.DRV_STATUS.WRITE_REFUSED true).refuse via 8 else d.drvConfigure via f

/-- The tick lock of a follower and the frame pacing as they would be (R371). -/
def Dev.lockPair (d : Dev) : Nat × Nat := let p := d.projected; (p.get F.BX_STRING.LOCK_MODE, p.get F.P.framePacing)

/-- Lock modes 1 and 2 stand with frame pacing 3 only (R371). -/
def Dev.lockOk (d : Dev) : Bool := let x := d.lockPair; (x.1 ≠ 1 && x.1 ≠ 2) || x.2 = 3

/-- A write in range of an entry with a meaning of its own; `none` for a plain entry. -/
def Dev.ownWrite (d : Dev) (e : Ent) (v : Nat) : Option Dev :=
  let via : Via := .dict .engineer
  let w : Word := BitVec.ofNat 32 v
  match e.idx, e.sub with
  | 0x1002, _ => some (stateRequest via v d)
  | 0x1011, _ => some (clkGateWrite via w d)
  | 0x1100, 0x03 => some (tbTrimWrite via w d)
  | 0x1100, 0x07 => some (Sys2Proof.Machine.acceptStep via v d)
  | 0x1100, 0x14 => some (timeSet .engineer (v / 2 ^ 32) (v % 2 ^ 32) d)
  | 0x2100, 0x01 => some (d.writeMode v)
  | 0x2100, 0x02 | 0x2100, 0x03 | 0x2100, 0x0C => some (d.writeParts e v .frame).modeCustom
  | 0x1100, 0x0D => some (if d.projected.get F.TB_SCHED_PERIOD ≤ v then d.answer 4 else d.writeParts e v .frame)
  | 0x2200, 0x01 | 0x2200, 0x02 | 0x4200, 0x03 | 0x4200, 0x04 | 0x4605, 0x09 => some (d.quietWrite e v)
  | 0x4200, 0x01 => some ((d.writeParts e v .frame).write F.P.rowLeadReg 0 .frame)
  | 0x2300, 0x01 => some (d.drvAxesWrite via v)
  | 0x2300, 0x07 => some (d.drvTickSet via v (d.get F.DRV_TICK.SENSE_DELAY))
  | 0x4300, 0x04 => some (d.drvTickSet via (d.get F.DRV_TICK.PERIOD) v)
  | 0x4300, 0x05 => some (d.drvSettings via false fun d => d.writeParts e v .immediate)
  | 0x4300, 0x06 =>
    some (if (List.range 4).any fun o => bits v (4 * o) 2 = 3 then d.answer 4
      else d.drvSettings via true fun d => d.writeParts e v .immediate)
  | 0x4300, 0x07 => some (d.drvSettings via true fun d => d.writeParts e v .immediate)
  | 0x4300, 0x08 => some (d.drvTestSet via v)
  | 0x4100, 0x08 => some (d.calibrate v)
  | 0x4100, 0x09 => some (rangingRestWrite .engineer v d)
  | 0x4100, 0x0A => some (if v = 0 || inR v 60 86400 then d.writeParts e v .immediate else d.answer 4)
  | 0x4120, 0x0B => some (d.armSnap v)
  | 0x2600, 0x01 => some (d.unitsDo v Sys2Proof.Machine.acqArm)
  | 0x2600, 0x02 => some (d.unitsDo v acqDisarm)
  | 0x2600, 0x03 => some (d.unitsDo v acqForce)
  | 0x2500, 0x03 => some (if inR v 512 (d.usableMiB - 512) then d.writeParts e v .stateChange else d.answer 4)
  | 0x4900, 0x09 => some ((d.write (F.BX_CTRL.MAX_SPEED 0) v .stateChange).write (F.BX_CTRL.MAX_SPEED 1) v .stateChange)
  | 0x1500, 0x04 => some (clearRetirement .engineer v d)
  | 0x4604, _ => some ((d.writeParts e v .immediate).compClear (e.sub - 1))
  | _, _ =>
    if isClut e then
      some (if clutterOk (clutWrite clutterDefault e.sub v) then d.clutterBasic fun t => clutWrite t e.sub v else d.answer 4)
    else if 0x9000 ≤ e.idx && e.idx < 0x900D then none
    else if 0x4110 ≤ e.idx && e.idx < 0x4120 && e.sub = 1 then
      let d1 := d.tisFields (e.idx - 0x4110) v
      some (if bitAt v 31 then d1.tisBegin (e.idx - 0x4110) else d1)
    else if 0x4600 ≤ e.idx && e.idx < 0x4604 && e.sub = 1 then
      let u := Fin.ofNat 4 (e.idx - 0x4600)
      some (if (d.unit u).armed && e.join d.get ≠ v % 2 ^ 29 then (d.acqCtrl u via v).answer 9 else d.acqCtrl u via v)
    else if 0x4600 ≤ e.idx && e.idx < 0x4604 && e.sub = 6 then
      some (if d.bufferOk (v / 2 ^ 32) (v % 2 ^ 32) then d.writeParts e v .immediate else d.answer 4)
    else if e.idx = 0x4605 then
      let n := (e.sub - 1) / 4
      let d1 := d.writeParts e (v % 2 ^ 63) .immediate
      some (if bitAt v 63 then d1.seqStart n ((e.sub - 1) % 4) else d1)
    else none

/-- Steps 4 to 6 of R458 and the write itself, without the commit check: the answer is the status code, and a refused write
changes nothing else. -/
def Dev.applyWrite (d : Dev) (e : Ent) (v : Nat) : Dev :=
  let d0 := d.answer 0
  if !e.inRange v then d0.answer 4
  else
    let d1 := match d0.ownWrite e v with
      | some x => x
      | none => d0.writeParts e v e.commit
    if d1.flf.status = 0 && !d1.lockOk && d1.lockPair ≠ d.lockPair then d0.answer 6 else d1

/-- The change from `d` to `n` touches a term of the commit check: a field it uses, or a bank that is committed (R26). -/
def Dev.touchesTerms (d n : Dev) : Bool :=
  let a := d.projected
  let b := n.projected
  (termFields.any fun f => a.get f ≠ b.get f) || n.tab 0x7040 ≠ d.tab 0x7040 || n.bank 0x7040 ≠ d.bank 0x7040

/-- Step 7 of R458: writes already applied to `n` stand when the commit check passes or is not run; otherwise `d` stays as it
was. -/
def Dev.committed (d n : Dev) : Dev :=
  if n.flf.status ≠ 0 || !d.touchesTerms n then n
  else
    let r := checkTerms d n.projected false
    if r = 0 then n.recordCheck 0 else (d.recordCheck r).answer 6

end Sys2Proof.Machine
end

