-- ==== Sys2Proof/Machine/Tap.lean ====
section
/-! DEFINITION. The test access port: its controller (IEEE 1149.1), what the fuses leave of its instructions, and the pins that
carry cells (R475, R548). No row of the table drives its pins, so in a run it stands in reset, as with TRST_N open (log 111). -/

namespace Sys2Proof.Machine

/-! ## Instructions and fuses (R475) -/

/-- What an instruction acts as under the fuses that act: BSCAN_LOCK leaves BYPASS and IDCODE; TEST_LOCK takes away debug access and
internal scan, and boundary scan remains. An instruction that the port does not implement acts as BYPASS. -/
def tapActs (testLock bscanLock : Bool) (i : TapInstr) : TapInstr :=
  match i with
  | .bypass => .bypass
  | .idcode => .idcode
  | .boundary => if bscanLock then .bypass else .boundary
  | .acBoundary => if bscanLock then .bypass else .acBoundary
  | .debug => if testLock || bscanLock then .bypass else .debug
  | .internalScan => if testLock || bscanLock then .bypass else .internalScan

/-! ## The controller (IEEE 1149.1) -/

/-- The controller's next state at a rising edge of TCK. -/
def TapState.next (c : TapState) (tms : Bool) : TapState :=
  match c with
  | .testLogicReset => if tms then .testLogicReset else .runTestIdle
  | .runTestIdle => if tms then .selectDr else .runTestIdle
  | .selectDr => if tms then .selectIr else .captureDr
  | .captureDr => if tms then .exit1Dr else .shiftDr
  | .shiftDr => if tms then .exit1Dr else .shiftDr
  | .exit1Dr => if tms then .updateDr else .pauseDr
  | .pauseDr => if tms then .exit2Dr else .pauseDr
  | .exit2Dr => if tms then .updateDr else .shiftDr
  | .updateDr => if tms then .selectDr else .runTestIdle
  | .selectIr => if tms then .testLogicReset else .captureIr
  | .captureIr => if tms then .exit1Ir else .shiftIr
  | .shiftIr => if tms then .exit1Ir else .shiftIr
  | .exit1Ir => if tms then .updateIr else .pauseIr
  | .pauseIr => if tms then .exit2Ir else .pauseIr
  | .exit2Ir => if tms then .updateIr else .shiftIr
  | .updateIr => if tms then .selectDr else .runTestIdle

/-- TRST_N changes: low, or open, it holds the port in reset (R548). -/
def Dev.tapReset (d : Dev) (low : Bool) : Dev :=
  let t := d.life.tap
  { d with life := { d.life with tap := if low then {} else { t with trstLow := false } } }

/-- One period of TCK: the controller moves, the bypass register captures 0 and shifts, and Update-IR brings the instruction shifted
in, `code`, as far as the acting fuses leave it. -/
def Dev.tapClock (d : Dev) (tms tdi : Bool) (code : TapInstr) : Dev :=
  let t := d.life.tap
  if t.trstLow then d
  else
    let c := t.ctl.next tms
    let ir := match c with
      | .testLogicReset => .idcode
      | .updateIr => tapActs (d.flag F.FUSE_STATUS.TEST_LOCK) (d.flag F.FUSE_STATUS.BSCAN_LOCK) code
      | _ => t.ir
    let bit := match t.ctl with
      | .captureDr => false
      | .shiftDr => if t.ir = .bypass then tdi else t.bit
      | _ => t.bit
    { d with life := { d.life with tap := { t with ctl := c, ir := ir, bit := bit } } }

/-! ## Pins (R520–R526, R548) -/

/-- Groups of signal pins, as the port tells them apart. -/
inductive PinGroup where
  | vddioGp | vddioEm | memory | ret | start | lane | ain | vref | drv | xtal | pcieRefclk
  deriving DecidableEq, Repr

/-- The cell of a pin. -/
inductive PinCell where
  | single | differential | ac
  deriving DecidableEq, Repr

/-- The cell that covers a pin group; none where the port does not cover it (R548). -/
def PinGroup.cell (g : PinGroup) : Option PinCell :=
  match g with
  | .vddioGp | .vddioEm | .memory => some .single
  | .ret | .start => some .differential
  | .lane => some .ac
  | .ain | .vref | .drv | .xtal | .pcieRefclk => none

end Sys2Proof.Machine
end

