-- ==== Sys2Proof/Machine/Toll.lean ====
section
/-! DEFINITION. The commands of the Toll island: input samples, test windows, readback, off-pulses, the mailbox, rays and safe
telegrams (R397–R435, R444). -/

namespace Sys2Proof.Machine

/-! ## Safe inputs (R402–R408) -/

/-- The two inputs of a pair at a sample, and what the test windows say of them (R402, R403). -/
structure PairSample where
  /-- SInA. -/
  a : Bool
  /-- b′. -/
  b : Bool
  /-- A test sample: an input fed from a source lies in that source's window. -/
  test : Bool
  /-- An input that must read low reads high. -/
  fail : Bool
  deriving DecidableEq, Repr

/-- An instant lies in the part of a test window from `lo` µs to `hi` µs. -/
def inTestWindow (start : Option Nat) (lo hi t : Nat) : Bool :=
  match start with
  | some s => s + 1000 * lo ≤ t && t < s + 1000 * hi
  | none => false

/-- Reads pair i from the 16 input levels: SInA is fed from TP0, SInB from TP1 (R403; log 21). -/
def Dev.readPair (d : Dev) (i levels t : Nat) : PairSample :=
  let flags := pairFlags d.toll.cfg i
  let a := bitAt levels (2 * i)
  let b := bitAt levels (2 * i + 1)
  let ta := bitAt flags 1
  let tb := bitAt flags 2
  let w0 := d.toll.logic.tpStart
  let w1 := d.toll.proc.tpStart
  { a := a, b := b ≠ bitAt flags 0
    test := (ta && inTestWindow w0 0 500 t) || (tb && inTestWindow w1 0 500 t)
    fail := (ta && a && inTestWindow w0 100 400 t) || (tb && b && inTestWindow w1 100 400 t) }

/-- The pair is in demand by the table of R404; `fa` and `fb` are the samples for which only A or only B has read 0. -/
def pairDemand (func filter : Nat) (a b was : Bool) (fa fb : Nat) : Bool :=
  match func with
  | 4 => false
  | 3 => if a && b then false else if (0 < fa && fa ≤ filter) || (0 < fb && fb ≤ filter) then was else true
  | _ => !(a && b)

/-- The discrepancy counter counts (R404). -/
def pairDisagree (func : Nat) (a b : Bool) : Bool := if func = 2 then !a && b else a ≠ b

/-- A latched fault clears at a sample that reads 0, 0 and fails no test (R405). -/
def Pair.unlatch (p : Pair) (x : PairSample) : Pair :=
  if !x.a && !x.b && !x.fail then { p with disc := false, test := false } else p

/-- A used pair after a sample at uptime t (R403–R405, R408). -/
def Pair.sample (p : Pair) (func filter lim t : Nat) (x : PairSample) : Pair :=
  if x.test then { p with test := p.test || x.fail }.unlatch x
  else
    let fa := if !x.a && x.b then p.filtA + 1 else 0
    let fb := if x.a && !x.b then p.filtB + 1 else 0
    let n := if pairDisagree func x.a x.b then p.cnt + 1 else 0
    { p with
      demand := pairDemand func filter x.a x.b p.demand fa fb, cnt := n, disc := p.disc || lim + 1 ≤ n, filtA := fa, filtB := fb
      resetAt := if x.a && x.b then some (p.resetAt.getD t) else none }.unlatch x

/-- The pair gives a reset at this sample: 1, 1 for 100 ms to 5 s, then 0, 0 (R408). -/
def givesReset (p : Pair) (t : Nat) (x : PairSample) : Bool :=
  !x.test && !x.a && !x.b && match p.resetAt with
    | some s => s + 100000000 ≤ t && t ≤ s + 5000000000
    | none => false

/-- A sample of pair i, its events included. -/
def Dev.samplePair (d : Dev) (c : TollChan) (levels t i : Nat) : Dev :=
  let cfg := d.toll.cfg
  if pairFunc cfg i = 0 then d
  else
    let p := at' (d.tollCh c).pairs i {}
    let q := p.sample (pairFunc cfg i) (pairFilter cfg i) (pairD cfg i) t (d.readPair i levels t)
    ((d.modToll c fun x => { x with pairs := upd x.pairs i fun _ => q }).raiseIf (q.test && !p.test) 12 2).raiseIf
      (q.disc && !p.disc) 12 3

/-- A reset of the reset pair, given at this sample: it serves the output pairs of its OUT_MASK and is ignored while a function
with one of them in its own OUT_MASK is in demand (R408; log 22). -/
def Dev.inputReset (d : Dev) (c : TollChan) (before : Dev) (levels t : Nat) : Dev :=
  let cfg := d.toll.cfg
  let i := rd 1 cfg 0x0A
  let serves := pairMask cfg i
  if 8 ≤ i || pairFunc cfg i ≠ 4 || !givesReset (at' (before.tollCh c).pairs i {}) t (before.readPair i levels t) then d
  else if (List.range 25).any fun n => Nat.land (fnMask cfg n) serves ≠ 0 && d.fnDemand c n then d
  else d.modToll c fun x => { x with reset := Nat.lor x.reset serves }

/-- A sample of all inputs by a channel at uptime t: bit 2i of the levels is SIiA, bit 2i + 1 SIiB, as the input filters pass
them (R402). -/
def safeInputSample (c : TollChan) (levels t : Nat) (d : Dev) : Dev :=
  let d0 := d.advanceTo t
  if !d0.chanRuns c then d0
  else d0.settled fun d =>
    let d1 := if c = .logic then d.set F.TOLL_SI_RAW levels else d
    if !d1.toll.cfgOk then d1
    else
      let d2 := d1.each (List.range 8) fun d i => d.samplePair c levels t i
      (d2.inputReset c d1 levels t).islandEval [c]

/-- SAFE_INPUT_SAMPLE (R404). -/
def execSafeInputSample (c : TollChan) (levels t : Nat) (s : State) : Out := onDev (safeInputSample c levels t) s

/-- TP0 of the logic or TP1 of the processor is high: low in a window's first 400 µs and during reset (R403, R539). -/
def Dev.tpHigh (d : Dev) (c : TollChan) : Bool := d.chanRuns c && !(d.tollCh c).tpLow

/-- A test window of the channel's test output starts (R403). -/
def tpWindowStart (c : TollChan) (t : Nat) (d : Dev) : Dev :=
  let d0 := d.advanceTo t
  if d0.chanRuns c then d0.modToll c fun x => { x with tpStart := some t, tpLow := true } else d0

/-- TP_WINDOW_START (R403). -/
def execTpWindowStart (c : TollChan) (t : Nat) (s : State) : Out := onDev (tpWindowStart c t) s

/-- The test output goes high again after the first 400 µs of its window (R403). -/
def tpLowEnd (c : TollChan) (d : Dev) : Dev := d.modToll c fun x => { x with tpLow := false }

/-- TP_LOW_END (R403). -/
def execTpLowEnd (c : TollChan) (s : State) : Out := onDev (tpLowEnd c) s

/-! ## Safe outputs (R418–R422) -/

/-- An output fault of pair p latches (R419, R421). -/
def Dev.outputFault (d : Dev) (p : Nat) : Dev :=
  ({ d with toll := { d.toll with outFault := setBit d.toll.outFault p true } }.raiseIf (!bitAt d.toll.outFault p) 12 5)

/-- The readbacks of pair p disagree with its switches. -/
def Dev.rbWrong (d : Dev) (rb p : Nat) : Bool :=
  bitAt rb (2 * p) ≠ bitAt d.toll.logic.switch p || bitAt rb (2 * p + 1) ≠ bitAt d.toll.proc.switch p

/-- An off-pulse of pair p is in progress. -/
def Dev.pairTested (d : Dev) (p : Nat) : Bool := bitAt d.toll.testA p || bitAt d.toll.testB p

/-- A channel reads back both outputs of every pair: bit 2p is SOpA, bit 2p + 1 SOpB (R419). -/
def outputReadback (c : TollChan) (rb : Nat) (d : Dev) : Dev :=
  if !d.chanRuns c then d
  else
    let bad := (List.range 4).map fun p =>
      let n := at' (d.tollCh c).rbBad p 0
      if d.pairTested p then n else if d.rbWrong rb p then n + 1 else 0
    let d1 := { (d.modToll c fun x => { x with rbBad := bad }) with
      toll := { (d.modToll c fun x => { x with rbBad := bad }).toll with readback := rb } }
    let d2 := d1.each ((List.range 4).filter fun p => 2 ≤ at' bad p 0) Dev.outputFault
    d2.bothEval

/-- OUTPUT_READBACK (R419). -/
def execOutputReadback (c : TollChan) (rb : Nat) (s : State) : Out := onDev (outputReadback c rb) s

/-- The channel that drives a switch: 0 A, 1 B (R396). -/
def switchChan (sw : Nat) : TollChan := if sw = 0 then .logic else .proc

/-- OUT_TEST of the safety configuration (R438). -/
def outTest (cfg : Bytes) : Nat := rd 1 cfg 9

/-- An off-pulse of an energised pair with tests starts: the switch opens (R420). -/
def offPulseStart (pair sw : Nat) (d : Dev) : Dev :=
  let c := switchChan sw
  if bitAt (outTest d.toll.cfg) pair && d.pairOn pair && d.mayClose c pair then
    let d1 := { d with toll := { d.toll with testPass := setBit d.toll.testPass (2 * pair + sw) false } }
    (d1.setPulsing c (setBit (d1.pulsing c) pair true)).islandEval [c]
  else d

/-- OFF_PULSE_START (R420). -/
def execOffPulseStart (pair : Fin 4) (sw : Fin 2) (s : State) : Out := onDev (offPulseStart pair sw) s

/-- The readback of the pulsed output 200 µs after the switch opened (R421); a test that a demand has ended is not judged
(R422), and one that reads low counts as passed when its off-pulse ends (log 71). -/
def offPulseCheck (pair sw : Nat) (high : Bool) (d : Dev) : Dev :=
  let c := switchChan sw
  if !bitAt (d.pulsing c) pair then d
  else if high then ((d.inc F.SO_TEST_FAILS).outputFault pair).bothEval
  else { d with toll := { d.toll with testPass := setBit d.toll.testPass (2 * pair + sw) true } }

/-- OFF_PULSE_CHECK (R421). -/
def execOffPulseCheck (pair : Fin 4) (sw : Fin 2) (high : Bool) (s : State) : Out := onDev (offPulseCheck pair sw high) s

/-- The off-pulse ends after 300 µs: the switch closes again unless its conditions have failed (R420, R422). -/
def offPulseEnd (pair sw : Nat) (d : Dev) : Dev :=
  let c := switchChan sw
  if bitAt (d.pulsing c) pair then
    (d.add F.SO_TESTS (nat (bitAt d.toll.testPass (2 * pair + sw))) |>.setPulsing c (setBit (d.pulsing c) pair false)).islandEval [c]
  else d

/-- OFF_PULSE_END (R420). -/
def execOffPulseEnd (pair : Fin 4) (sw : Fin 2) (s : State) : Out := onDev (offPulseEnd pair sw) s

/-- Faults whose conditions are met clear: output faults at once, field faults at the frame tick (R415, R419, R444). -/
def Dev.clearOutputs (d : Dev) : Dev :=
  let open' (p : Nat) : Bool :=
    !bitAt d.toll.readback (2 * p) && !bitAt d.toll.readback (2 * p + 1) && !bitAt d.toll.logic.switch p && !bitAt d.toll.proc.switch p
  { d with toll := { d.toll with outFault := maskOf 4 fun p => bitAt d.toll.outFault p && !open' p, clearReq := true } }

/-- A write of safety.clear_faults. -/
def safetyClearFaults (role : Role) (v : Nat) (d : Dev) : Dev := d.roleOne role false v Dev.clearOutputs

/-- SAFETY_CLEAR_FAULTS (R444). -/
def execSafetyClearFaults (role : Role) (v : Nat) (s : State) : Out := onDev (safetyClearFaults role v) s

/-! ## The mailbox (R397, R407) -/

/-- The largest clock deviation in 1/100 %: 1 %, or 3 % while the logic runs on the RC oscillator (R397). -/
def Dev.devLimit (d : Dev) : Nat := if d.rootRuns then 100 else 300

/-- Consecutive exchanges in which a used pair's state differs (R407). -/
def Dev.mailboxRuns (d : Dev) : List Nat :=
  (List.range 8).map fun i => if d.fnDemand .logic i ≠ d.fnDemand .proc i then at' d.toll.mbxRun i 0 + 1 else 0

/-- A pair has differed for longer than T_d + 3 ms: exchanges fall every 1 ms, and T_d counts in 100 µs (R407; log 23). -/
def Dev.pairsDiffer (d : Dev) (runs : List Nat) : Bool :=
  (List.range 8).any fun i => pairD d.toll.cfg i + 30 < 10 * (at' runs i 0 - 1)

/-- A mailbox exchange, with the deviation of each channel's clock as the other measures it, in 1/100 % (R397). -/
def mailboxExchange (logicDev procDev : Int) (d : Dev) : Dev :=
  if !d.logicRuns || !d.procRuns then d
  else d.settled fun d =>
    let lim := d.devLimit
    let next (dev : Int) (x : TollCh) : TollCh := { x with clockBad := if lim < dev.natAbs then x.clockBad + 1 else 0 }
    let runs := d.mailboxRuns
    let d1 := (d.modToll .logic (next logicDev)).modToll .proc (next procDev)
    let d2 := { d1 with toll := { d1.toll with mbxRun := runs } }
    if 2 ≤ d2.toll.logic.clockBad || 2 ≤ d2.toll.proc.clockBad then d2.tollFault 3
    else if d2.pairsDiffer runs then d2.tollFault 5
    else d2

/-- MAILBOX_EXCHANGE (R397). -/
def execMailboxExchange (logicDev procDev : Int) (s : State) : Out := onDev (mailboxExchange logicDev procDev) s

/-- A mailbox exchange has been missing for 3 ms; not a fault while the processor is held in reset (R397). -/
def mailboxMissingTimeout (d : Dev) : Dev := if !d.procRuns || d.life.tollReload then d else d.tollFault 2

/-- MAILBOX_MISSING_TIMEOUT (R397). -/
def execMailboxMissingTimeout (s : State) : Out := onDev mailboxMissingTimeout s

/-! ## Rays (R409–R413) -/

/-- The logic decides the ray of a channel in the stage that ended (R410). -/
def logicRayDecision (ch : Nat) (d : Dev) : Dev :=
  let c := d.chan ch
  if !c.rayDue || !d.logicRuns then d
  else
    let i := d.seq.info
    let fields := zoneFields (i.tab 0x7071) (sectorOf (wbAz (wbEntry (i.tab 0x7000) i.index))) ch
    let need (f : Nat) : Nat := fieldHits d.toll.cfg f
    let hits := fields.filter fun f => need f ≤ Tab.getD c.rayHits f 0
    let blind := fields.filter fun f => c.rayBlind || c.rayNc < need f
    (((d.modChan ch fun c => { c with rayDue := false }).modToll .logic fun t => t.ray fields hits blind)).settled Dev.bothEval

/-- LOGIC_RAY_DECISION (R410). -/
def execLogicRayDecision (ch : Fin 512) (s : State) : Out := onDev (logicRayDecision ch) s

/-- The processor decides the ray of a record that the point builder has finished: an echo in a polygon hits that polygon's
field, and a blind ray counts for every field (R411; log 24). -/
def procRayDecision (ch : Nat) (d : Dev) : Dev :=
  let r := Tab.getD d.recs ch {}
  if !r.done || r.ray || !d.procRuns || !d.seq.info.valid then d
  else
    let all := List.range 16
    let hits := (r.tested.flatMap (echoFields411 d.seq.info ch)).eraseDups
    let blind := if bitAt r.flags 14 || bitAt r.flags 15 then all else []
    ({ d with recs := Tab.put d.recs ch { r with ray := true } }.modToll .proc fun t => t.ray all hits blind).settled Dev.bothEval

/-- PROC_RAY_DECISION (R411). -/
def execProcRayDecision (ch : Fin 512) (s : State) : Out := onDev (procRayDecision ch) s

/-! ## Status telegrams (R428–R431) -/

/-- CRC-32C with an initial value (R428). -/
def crcFrom (init : Nat) (bs : Bytes) : Nat := Nat.xor (bs.foldl (crcByte 0x82F63B78) init) 0xFFFFFFFF

/-- CONN_KEY (R438). -/
def connKey (cfg : Bytes) : Nat := rd 4 cfg 0xD4

/-- A value of 32 bits rotated left by 16. -/
def rot16 (v : Nat) : Nat := v % 65536 * 65536 + v / 65536

/-- The two check codes of a telegram (R428). -/
def telegramCrcs (cfg bs : Bytes) : Bytes := be 4 (crcFrom (connKey cfg) bs) ++ be 4 (crcFrom (rot16 (connKey cfg)) bs)

/-- DEMANDS, FAULTS and OUTPUTS (R429). -/
def Dev.tgSays (d : Dev) : List Nat := [maskOf 25 d.inDemand, maskOf 25 d.fnFault, maskOf 4 d.pairOn]

/-- A status telegram (R428, R429). -/
def Dev.statusTelegram (d : Dev) (seq : Nat) : Bytes :=
  let cfg := d.toll.cfg
  let s := d.tgSays
  let head := be 2 0x5446 ++ be 1 1 ++ be 1 1 ++ be 4 (rd 4 cfg 0xCC) ++ be 4 (rd 4 cfg 0xD0) ++ be 4 seq ++ be 4 d.toll.rxSeq ++
    time80 d.nowNs ++ be 1 (nat (d.flag F.PTP_STATUS.LOCKED)) ++ zeros 1
  let body := be 4 (at' s 0 0) ++ be 4 (at' s 1 0) ++ be 1 (at' s 2 0) ++ be 1 d.st.code ++ be 1 (nat d.armed) ++ zeros 1 ++
    be 2 d.muted ++ zeros 2 ++ be 4 (rd 4 cfg 0) ++ be 4 (rd 4 (d.tab 0x7071) 0)
  head ++ body ++ telegramCrcs cfg (head ++ body)

/-- Status telegrams are sent: enabled, both channels up, no Toll channel fault (R427, R435). -/
def Dev.sendsTelegrams (d : Dev) : Bool := d.healthy && tgOn d.toll.cfg && d.st ≠ .faultStop

/-- Two status telegrams are never less than 2 ms apart (R431). -/
def Dev.tgSpaced (d : Dev) (t : Nat) : Bool :=
  match d.toll.txLast with
  | some l => l + 2000000 ≤ t
  | none => true

/-- A telegram enters Q1 of both ports with its launch time; with PRP it goes out as a frame of the pair (R379, R388, R431). -/
def Dev.queueTelegram (d : Dev) (bs : Bytes) : Dev :=
  let u := d.net.unitNo
  let e : QEnt :=
    { launch := some d.nowNs, unit := u, stream := 3, dst := rd 4 d.toll.cfg 0xD8, data := bs, size := bs.length
      prp := d.prpOn, prpSeq := if d.prpOn then d.net.prpSeq else 0, what := "telegram", ports := rd 2 d.toll.cfg 0xDC * 65536 + rd 2 d.toll.cfg 0xDE }
  let d1 := { d with net := { d.net with
    unitNo := u + 1, prpSeq := if d.prpOn then (d.net.prpSeq + 1) % 65536 else d.net.prpSeq } }
  (d1.enqueue 0 1 e).enqueue 1 1 e

/-- A telegram composed alike by both channels goes out; a mismatch suppresses it, and the third within 1 s is a Toll channel
fault (R430, R431). -/
def Dev.composeTelegram (d : Dev) (t : Nat) (alike : Bool) : Dev :=
  if alike then
    let seq := (d.toll.txSeq + 1) % 2 ^ 32
    { d.queueTelegram (d.statusTelegram seq) with toll := { d.toll with
        txSeq := seq, txLast := some t, txSaid := d.tgSays, txSeqs := (seq :: d.toll.txSeqs).take 8 } }
  else
    let l := (d.toll.comp.filter fun x => t < x + 1000000000) ++ [t]
    let d1 := { d with toll := { d.toll with comp := l } }
    if 3 ≤ l.length then d1.tollFault 7 else d1

/-- TX_PERIOD has passed (R431). -/
def telegramTxPeriod (t : Nat) (alike : Bool) (d : Dev) : Dev :=
  let d1 := d.advanceTo t
  if d1.sendsTelegrams && d1.tgSpaced t then d1.settled fun d => d.composeTelegram t alike else d1

/-- TELEGRAM_TX_PERIOD (R431). -/
def execTelegramTxPeriod (t : Nat) (alike : Bool) (s : State) : Out := onDev (telegramTxPeriod t alike) s

/-- DEMANDS, FAULTS or OUTPUTS have changed since they were last reported (R431). -/
def telegramChangeTx (t : Nat) (alike : Bool) (d : Dev) : Dev :=
  let d1 := d.advanceTo t
  if d1.sendsTelegrams && d1.tgSpaced t && d1.tgSays ≠ d1.toll.txSaid then d1.settled fun d => d.composeTelegram t alike else d1

/-- TELEGRAM_CHANGE_TX (R431). -/
def execTelegramChangeTx (t : Nat) (alike : Bool) (s : State) : Out := onDev (telegramChangeTx t alike) s

/-! ## Command telegrams (R432–R435) -/

/-- Difference of two SEQ numbers modulo 2^32. -/
def seqDiff (a b : Nat) : Nat := (a + 2 ^ 32 - b % 2 ^ 32) % 2 ^ 32

/-- SEQ of a telegram. -/
def tgSeq (bs : Bytes) : Nat := rd 4 bs 0x0C

/-- SEND_TIME of a telegram, ns. -/
def tgTime (bs : Bytes) : Nat := rd 6 bs 0x14 * 1000000000 + rd 4 bs 0x1A

/-- Source, header, check codes, reserved bits and configuration of a received copy (R432). -/
def tgForm (cfg : Bytes) (srcIp dstPort : Nat) (bs : Bytes) : Bool :=
  srcIp = rd 4 cfg 0xD8 && dstPort = rd 2 cfg 0xDC && rd 2 bs 0 = 0x5446 && rd 1 bs 2 = 1 && rd 1 bs 3 = 2 &&
    rd 4 bs 4 = rd 4 cfg 0xD0 && rd 4 bs 8 = rd 4 cfg 0xCC && bs.drop 0x38 = telegramCrcs cfg (bs.take 0x38) &&
    rd 1 bs 0x1E < 2 && rd 1 bs 0x1F = 0 && rd 1 bs 0x20 < 2 && rd 3 bs 0x21 = 0 && rd 2 bs 0x26 = 0 &&
    (bs.drop 0x2C).take 12 = zeros 12 && rd 4 bs 0x28 = rd 4 cfg 0

/-- The SEQ and age rules of a received copy (R432). -/
def Dev.tgFresh (d : Dev) (bs : Bytes) : Bool :=
  let echo := rd 4 bs 0x10
  let age : Int := (d.nowNs : Int) - tgTime bs
  (if d.toll.lost && !d.toll.echoOk then d.toll.txSeqs.contains echo
   else 1 ≤ seqDiff (tgSeq bs) d.toll.rxSeq && seqDiff (tgSeq bs) d.toll.rxSeq ≤ 16) &&
    seqDiff d.toll.txSeq echo ≤ 8 &&
    (!(d.flag F.PTP_STATUS.LOCKED && bitAt (rd 1 bs 0x1E) 0) || (decide (-1000000 ≤ age) && decide (age < 1000000 * (rd 2 d.toll.cfg 0xE6 : Nat))))

/-- CMP_WIN, ns. -/
def cmpWin (cfg : Bytes) : Nat := 1000000 * rd 2 cfg 0xE4

/-- WATCHDOG, ns. -/
def watchdog (cfg : Bytes) : Nat := 1000000 * rd 2 cfg 0xE2

/-- The comparison window of a SEQ is decided. -/
def Dev.closeWin (d : Dev) (seq : Nat) : Dev :=
  { d with toll := { d.toll with
      wins := d.toll.wins.filter fun w => tgSeq w.bytes ≠ seq, closed := (seq :: d.toll.closed).take 16 } }

/-- A telegram is accepted: it takes effect and the watchdog restarts; the connection is held from the second one on (R434,
R435). -/
def Dev.acceptTelegram (d : Dev) (bs : Bytes) : Dev :=
  let held := d.toll.echoOk
  ({ d with toll := { d.toll with
      remote := bitAt (rd 1 bs 0x20) 0, mute := rd 2 bs 0x24, rxSeq := tgSeq bs, rxLast := d.up, echoOk := true
      conn := held, lost := !held } }.inc F.TG_ACCEPTED).bothEval

/-- The connection is lost (R435). -/
def Dev.loseTelegrams (d : Dev) : Dev :=
  (({ d with toll := { d.toll with conn := false, echoOk := false, lost := true } }.inc F.TG_LOST).raise 12 9).bothEval

/-- Two copies of one SEQ differ: both are discarded; a second mismatch within 1 s is a loss of the connection, so that two
telegrams must be accepted again before it is held (R433, R435). -/
def Dev.copyMismatch (d : Dev) (t : Nat) : Dev :=
  let second := match d.toll.mism with
    | some m => t < m + 1000000000
    | none => false
  let d1 := ({ d with toll := { d.toll with mism := some t } }.inc F.TG_COPY_MISMATCH).raise 12 7
  if !second then d1 else if d1.toll.conn then d1.loseTelegrams else { d1 with toll := { d1.toll with echoOk := false } }

/-- A copy that both channels find valid meets the comparison window of its SEQ, or opens it (R433). -/
def Dev.validCopy (d : Dev) (port : Nat) (bs : Bytes) (t : Nat) : Dev :=
  match d.toll.wins.find? fun w => tgSeq w.bytes = tgSeq bs with
  | none => { d with toll := { d.toll with wins := d.toll.wins ++ [{ bytes := bs, port := port, t := t }] } }
  | some w =>
    if w.port = port || w.t + cmpWin d.toll.cfg ≤ t then d
    else if w.bytes = bs then (d.closeWin (tgSeq bs)).acceptTelegram bs
    else (d.closeWin (tgSeq bs)).copyMismatch t

/-- Telegrams are received: enabled, and both channels work. -/
def Dev.takesTelegrams (d : Dev) : Bool := d.healthy && tgOn d.toll.cfg

/-- A received datagram on the safe telegram port: one of another length is discarded, an invalid copy is counted, a copy of a SEQ
already decided is a duplicate (R428, R432, R433). -/
def Dev.takeTelegram (d : Dev) (port srcIp dstPort : Nat) (bs : Bytes) : Dev :=
  if !d.takesTelegrams || bs.length ≠ 64 then d
  else if !tgForm d.toll.cfg srcIp dstPort bs then d.inc F.TG_REJECTED
  else if d.toll.closed.contains (tgSeq bs) then d
  else if !d.tgFresh bs then d.inc F.TG_REJECTED
  else d.settled fun d => d.validCopy port bs d.up

/-- A frame with a safe telegram arrives: both copies go to the Toll island (R379). -/
def safeTelegramRx (f : RxFrame) (srcIp dstPort : Nat) (bs : Bytes) (d : Dev) : Dev :=
  d.rxAny f true fun d => d.takeTelegram f.port srcIp dstPort bs

/-- SAFE_TELEGRAM_RX (R432). -/
def execSafeTelegramRx (f : RxFrame) (srcIp _srcPort dstPort : Nat) (bs : Bytes) (s : State) : Out :=
  onDev (safeTelegramRx f srcIp dstPort bs) s

/-- The other port cannot bring a copy: its link is down or its LAN is missing (R380, R433). -/
def Dev.otherDown (d : Dev) (port : Nat) : Bool :=
  let q := 1 - port
  !d.flag (F.ETH_STATUS.LINK q) || d.flag (F.ETH_STATUS.LAN_MISSING q)

/-- The oldest comparison window ends at uptime t with one copy only (R433). -/
def compareWindowEnd (t : Nat) (d : Dev) : Dev :=
  let d1 := d.advanceTo t
  match d1.toll.wins with
  | [] => d1
  | w :: _ =>
    if t < w.t + cmpWin d1.toll.cfg then d1
    else
      let d2 := d1.closeWin (tgSeq w.bytes)
      if bitAt (rd 1 d2.toll.cfg 0xE8) 1 && d2.otherDown w.port then
        d2.settled fun d => (((d.inc F.TG_SINGLE).raise 12 8).acceptTelegram w.bytes)
      else d2

/-- COMPARE_WINDOW_END (R433). -/
def execCompareWindowEnd (t : Nat) (s : State) : Out := onDev (compareWindowEnd t) s

/-- No telegram has been accepted for WATCHDOG ms (R435). -/
def telegramWatchdog (d : Dev) : Dev :=
  if d.toll.conn && tgOn d.toll.cfg then
    (d.advanceTo (d.toll.rxLast + watchdog d.toll.cfg)).settled Dev.loseTelegrams
  else d

/-- TELEGRAM_WATCHDOG (R435). -/
def execTelegramWatchdog (s : State) : Out := onDev telegramWatchdog s

end Sys2Proof.Machine
end

