-- ==== Sys2Proof/Machine/Life.lean ====
section
/-! DEFINITION. Resets, boot, stewards, firmware, the configuration store and fuses (R397, R399, R401, R475–R477, R486,
R496–R517, R527, R530, R531, R546). -/

namespace Sys2Proof.Machine

/-! ## Images and slots (R498–R500) -/

/-- LENGTH of an image's payload. -/
def imgLength (img : Bytes) : Nat := rd 4 img 0x0C

/-- SECURITY_VERSION of an image. -/
def imgSecurity (img : Bytes) : Nat := rd 4 img 8

/-- The payload's digest is the one in the header. -/
def imgDigestOk (img : Bytes) : Bool := sha256 ((img.drop 4096).take (imgLength img)) = (img.drop 0x18).take 32

/-- The signature over the header's first 152 bytes verifies with the header's key. -/
def imgSigned (img : Bytes) : Bool :=
  ecdsaOk (sha256 (img.take 0x98)) (rd 32 img 0x58) (rd 32 img 0x78) (rd 32 img 0x98) (rd 32 img 0xB8)

/-- RESULT of verifying an image (R499, R516): 0 valid; otherwise the first failure. While the key hash is all zero only the
payload digest is checked. -/
def imageResult (keyHash : Bytes) (rollback : Nat) (img : Bytes) : Nat :=
  if keyHash = [] then (if imgDigestOk img then 0 else 3)
  else if rd 4 img 0 ≠ 0x4E58494D then 1
  else if 6287360 < imgLength img || img.length < 4096 + imgLength img then 2
  else if !imgDigestOk img then 3
  else if sha256 ((img.drop 0x58).take 64) ≠ keyHash then 4
  else if !imgSigned img then 5
  else if imgSecurity img < rollback || 64 < imgSecurity img then 6
  else 0

/-- Verifies an image: the code, and image-rejected when it is invalid. -/
def Dev.verifyImage (d : Dev) (img : Bytes) : Nat × Dev :=
  let r := imageResult d.life.keyHash d.life.rollback img
  (r, d.raiseIf (r ≠ 0) 0 3)

/-- Recovery with a RESULT code (R502). -/
def Dev.recover (d : Dev) (code : Nat) : Dev :=
  (((d.setB F.BOOT_STATUS.RECOVERY true).set F.BOOT_STATUS.RESULT code).raise 0 2).print ("BOOT_STATUS.RESULT " ++ toString code)

/-- A slot boots: BOOT_STATUS shows it. -/
def Dev.bootSlot (d : Dev) (slot : Nat) (confirmed : Bool) (tries : Nat) : Dev :=
  let d1 := { d with life := { d.life with active := slot, confirmed := confirmed, tries := tries } }
  ((d1.set F.BOOT_STATUS.SLOT slot).setB F.BOOT_STATUS.CONFIRMED confirmed).set F.BOOT_STATUS.RESULT 0

/-- The slot choice with a valid boot record (R500). -/
def Dev.chooseRecorded (d : Dev) : Dev :=
  let a := d.life.active
  let v := d.verifyImage (d.slot a)
  if v.1 = 0 && (d.life.confirmed || d.life.tries < 3) then
    if d.life.confirmed then v.2.bootSlot a true d.life.tries else (v.2.bootSlot a false (d.life.tries + 1)).recordBoot
  else
    let w := v.2.verifyImage (d.slot (1 - a))
    if w.1 = 0 then (w.2.bootSlot (1 - a) true 0).recordBoot.raise 0 1 else w.2.recover v.1

/-- With no valid boot record: slot A, then slot B (R500). -/
def Dev.chooseUnrecorded (d : Dev) : Dev :=
  let v := d.verifyImage d.life.slotA
  if v.1 = 0 then v.2.bootSlot 0 false 0
  else
    let w := v.2.verifyImage d.life.slotB
    if w.1 = 0 then w.2.bootSlot 1 false 0 else w.2.recover w.1

/-- Boot step 2: a slot, or recovery (R500, R502). -/
def Dev.chooseSlot (d : Dev) : Dev :=
  let d1 := d.setB F.BOOT_STATUS.UNSECURED (d.life.keyHash = [])
  if d1.life.strapRcv then d1.recover 0 else if d1.life.bootValid then d1.chooseRecorded else d1.chooseUnrecorded

/-! ## Stored configuration (R401, R461, R497) -/

/-- A stored table that passes its own checks becomes a committed bank, without the commit check (log 31). -/
def Dev.loadTable (d : Dev) (idx : Nat) (bs : Bytes) : Dev :=
  if d.tableCheck idx bs ≠ 0 then d
  else if idx = 0x7070 then d.acceptSafety bs
  else (d.commitBank idx bs).swapOnAcceptance idx

/-- A stored record is written (R497). -/
def Dev.loadRecord (d : Dev) (r : Saved) : Dev :=
  if r.idx = 0x1200 && r.sub = 5 then { d with flf := { d.flf with opKey := r.val } }
  else if isTable r.idx then d.loadTable r.idx r.val
  else match entOf r.idx r.sub with
    | some e => if r.val.length = tySize e.ty then (d.applyWrite e (ofBe r.val)).answer 0 else d
    | none => d

/-- The configuration store is applied; without a valid copy config-store-error is raised (R497). -/
def Dev.loadStore (d : Dev) : Dev :=
  match d.life.store with
  | some l => l.foldl Dev.loadRecord d
  | none => d.raise 0 11

/-- The stored Toll tables are sent again (R401). -/
def Dev.resendToll (d : Dev) : Dev :=
  ((d.life.store.getD []).filter fun r => tollTable r.idx).foldl Dev.loadRecord d

/-- Stores an operator key that is all zero as none. -/
def keyBytes (k : Bytes) : Bytes := if k = [] then zeros 32 else k

/-- The entries that config.save stores, ranging.mode after those it sets (R36, R497). -/
def savedEnts : List Ent :=
  let l := entTable.filter fun e => e.acc ≠ .ro && (e.commit = .stage || e.commit = .frame || e.commit = .stateChange)
  (l.filter fun e => !(e.idx = 0x2100 && e.sub = 1)) ++ l.filter fun e => e.idx = 0x2100 && e.sub = 1

/-- Indices of the tables. -/
def tableIdx : List Nat := (List.range 0x73).filterMap fun i => if isTable (0x7000 + i) then some (0x7000 + i) else none

/-- What config.save stores (R497). -/
def Dev.saveRecords (d : Dev) : List Saved :=
  (savedEnts.map fun e => { idx := e.idx, sub := e.sub, ty := e.ty, val := d.entBytes 2 e : Saved }) ++
    (tableIdx.map fun i => { idx := i, sub := 0, ty := 11, val := orDefault i (d.tab i) : Saved }) ++
    [{ idx := 0x1200, sub := 5, ty := 11, val := keyBytes d.flf.opKey }]

/-- A write of config.save. -/
def configSave (role : Role) (v : Nat) (d : Dev) : Dev :=
  d.roleOne role true v fun d =>
    if d.life.saving.isSome then d.answer 9 else { d with life := { d.life with saving := some d.saveRecords } }

/-- CONFIG_SAVE (R497). -/
def execConfigSave (role : Role) (v : Nat) (s : State) : Out := onDev (configSave role v) s

/-- The configuration store write completes (R497). -/
def configSaveDone (d : Dev) : Dev :=
  match d.life.saving with
  | some l => { d with life := { d.life with saving := none } }.recordStore l
  | none => d

/-- CONFIG_SAVE_DONE (R497). -/
def execConfigSaveDone (s : State) : Out := onDev configSaveDone s

/-! ## Whole-device reset (R512–R514) -/

/-- Writes listed fields into a register store. -/
def putAll (l : List (Nat × Nat)) (t : Tab Nat) : Tab Nat := l.foldl (fun (t : Tab Nat) (e : Nat × Nat) => Tab.putNat t e.1 (e.2 % 2 ^ Fld.width e.1)) t

/-- What a drive holds when the device resets: an incident in progress stays without an end block (R513). -/
def Rcd.afterReset (r : Rcd) : Rcd :=
  { present := r.present, nBlocks := r.nBlocks, head := r.head, tail := r.tail, next := r.next, superSeq := r.superSeq, sb0 := r.sb0, sb1 := r.sb1
    done := r.done, torn := r.tear, openAtReset := r.tear.isSome, nvme := r.nvme }

/-- What flash, one-time-programmable memory, fuses and the strap samples keep (R513, R527). -/
def Life.afterReset (l : Life) : Life :=
  { boot := 1, slotA := l.slotA, slotB := l.slotB, bootValid := l.bootValid, active := l.active, confirmed := l.confirmed
    tries := l.tries, keyHash := l.keyHash, rollback := l.rollback, serial := l.serial, fitted := l.fitted, fuses := l.fuses
    store := l.store, strapRef := l.strapRef, strapRcv := l.strapRcv, localMaint := l.localMaint, rstLow := l.rstLow, por := l.por
    flashRet := l.flashRet, tap := l.tap, flash := l.flash }

/-- Register fields that reset to what one-time-programmable memory, the fuses and the straps hold (R66, R263, R477). -/
def Dev.resetFields (d : Dev) : Dev :=
  (((d.set F.CLUT_SEED.SEED d.life.serial).setB F.FUSE_STATUS.FIELD_LOCK (bitAt d.life.fuses 0)).setB F.FUSE_STATUS.LOCAL_LOCK
    (bitAt d.life.fuses 1)).setB F.FUSE_STATUS.TEST_LOCK (bitAt d.life.fuses 2) |>.setB F.FUSE_STATUS.BSCAN_LOCK
    (bitAt d.life.fuses 3) |>.setB F.FUSE_STATUS.LOCAL_MAINT d.life.localMaint |>.setB F.CLK_CTRL.REF_SELECT d.life.strapRef

/-- A whole-device reset with its cause code (R512, R513). -/
def Dev.wholeReset (d : Dev) (code : Nat) : Dev :=
  let l := d.life.afterReset
  let d1 := { Dev.reset with
    free := d.free, life := { l with tollFw := imageTollDigest (d.slot d.life.active) }
    toll := { vddOk := d.toll.vddOk }, clk := { refSel := l.strapRef }
    flf := { engKey := d.flf.engKey, engKeySet := d.flf.engKeySet }, rcd := d.rcd.afterReset }
  (d1.set F.RESET_CAUSE.LAST code).resetFields

/-- The straps and LOCAL_MAINT are sampled (R40, R527). -/
def Dev.sampleStraps (d : Dev) (ref rcv maint : Bool) : Dev :=
  { d with life := { d.life with strapRef := ref, strapRcv := rcv, localMaint := maint }, clk := { d.clk with refSel := ref } }.resetFields

/-- The device stays held in reset. -/
def Dev.holdReset (d : Dev) : Dev := { d with held := true, life := { d.life with boot := 0 } }

/-! ## Boot (R501) -/

/-- A steward is retired (R486). -/
def Dev.stewardRetired (d : Dev) (u : Nat) : Bool := d.retiredUnit 8 u

/-- Boot step 3: the serving steward starts the image and the other stands by. -/
def Dev.startStewards (d : Dev) : Dev :=
  let a := d.life.flashRet.any fun r => r.kind = 8 && r.unit = 0
  let b := d.life.flashRet.any fun r => r.kind = 8 && r.unit = 1
  let d1 := { d with life := { d.life with stewRun := [!a, !b] } }
  (d1.set F.STEWARD_STATUS.SERVING (nat a)).setB F.STEWARD_STATUS.STANDBY_READY (!a && !b)

/-- The links come up with the control fields as they stand (R391, R392). -/
def Dev.linkFields (d : Dev) : Dev :=
  d.each [0, 1] fun d p => (d.modPort p fun pt => { pt with cfg := d.ethCtrl p }).modBx p fun b => { b with cfg := d.bxCtrl p }

/-- Boot step 4: the retirement table, the configuration store with the Toll configuration, external memory. -/
def Dev.applyStores (d : Dev) : Dev :=
  let d1 := { d with life := { d.life with retired := d.life.flashRet } }
  let d2 := d1.life.flashRet.foldl (fun d r => d.applyRetire r.kind r.unit) d1
  ((d2.set F.MEM_STATUS.FITTED_GIB d2.life.fitted).loadStore).linkFields

/-- A boot step ends: its console line (R503). -/
def Dev.bootStep (d : Dev) (n : Nat) : Dev :=
  { d with life := { d.life with boot := n + 1 } }.print ("boot " ++ toString n)

/-- Boot steps 1 to 4; in recovery the boot ROM stays after step 2 (R501, R502). -/
def Dev.bootRun (d : Dev) : Dev :=
  let d1 := ({ d with held := false }.bootStep 1).chooseSlot
  if d1.flag F.BOOT_STATUS.RECOVERY then d1
  else (((d1.bootStep 2).startStewards.bootStep 3).applyStores.bootStep 4).tollPending

/-- Power-on reset releases (R512, R530); the boot steps follow at once unless RESET_N is low. -/
def powerOnReset (ref rcv maint : Bool) (d : Dev) : Dev :=
  let d1 := ({ d with life := { d.life with por := false } }.wholeReset 1).sampleStraps ref rcv maint
  if d1.life.rstLow then d1.holdReset else d1.bootRun

/-- POWER_ON_RESET (R530). -/
def execPowerOnReset (ref rcv maint : Bool) (s : State) : Out := onDev (powerOnReset ref rcv maint) s

/-- Power-on reset holds the whole device except the Toll island (R530). -/
def powerOnResetHold (d : Dev) : Dev :=
  let d1 := d.wholeReset 1
  let mirror := d.regs.filter fun e => 0x800000 ≤ Fld.addr e.1 && Fld.addr e.1 < 0x900000
  let d2 := { d1 with toll := d.toll, regs := putAll mirror d1.regs }.holdReset
  { d2 with life := { d2.life with por := true, tollFw := d.life.tollFw } }

/-- POWER_ON_RESET_HOLD (R530). -/
def execPowerOnResetHold (s : State) : Out := onDev powerOnResetHold s

/-- RESET_N low for at least 1 µs resets the whole device and holds it (R512, R546). -/
def Dev.resetLow (d : Dev) : Dev :=
  let d1 := if d.life.por then d else (d.wholeReset 2).holdReset
  { d1 with toll := { vddOk := d.toll.vddOk }, life := { d1.life with rstLow := true } }

/-- RESET_N_ASSERT (R546): a low of `width` ns. Below 100 ns it is ignored; from 100 ns up to 1 µs the outcome is unspecified. -/
def execResetNAssert (width : Nat) (s : State) : Out :=
  if width < 100 then .next s
  else if width < 1000 then .fault .resetPulseUnspecified
  else onDev Dev.resetLow s

/-- RESET_N is released: the straps are sampled and boot starts, unless power-on reset still holds (R501, R527, R530). -/
def resetNRelease (ref rcv maint : Bool) (d : Dev) : Dev :=
  if !d.life.rstLow && d.life.boot ≠ 1 then d
  else
    let d1 := { d with life := { d.life with rstLow := false } }
    if d1.life.por then d1 else (d1.sampleStraps ref rcv maint).bootRun

/-- RESET_N_RELEASE (R501). -/
def execResetNRelease (ref rcv maint : Bool) (s : State) : Out := onDev (resetNRelease ref rcv maint) s

/-- Boot step 5: STANDBY, with diagnostic service (R31, R501); the bridges carry traffic (R55). -/
def bootComplete (d : Dev) : Dev :=
  if d.life.boot ≠ 5 then d
  else
    let d1 := d.relinkAll.bootStep 5
    if d1.diagnostic then d1.goto .standby false else d1

/-- BOOT_COMPLETE (R501). -/
def execBootComplete (s : State) : Out := onDev bootComplete s

/-- A write of device.reset: 0x5253 in an engineer session (R512, R517). -/
def softwareReset (role : Role) (v : Nat) (d : Dev) : Dev :=
  d.roleWrite role true fun d => if v = 0x5253 then (d.wholeReset 3).bootRun else d.answer 4

/-- SOFTWARE_RESET (R512). -/
def execSoftwareReset (role : Role) (v : Nat) (s : State) : Out := onDev (softwareReset role v) s

/-- The image in the load buffer, whose bytes read 0 where nothing has written them (log 3). -/
def Dev.loadedImage (d : Dev) : Bytes :=
  d.life.loadBuf ++ zeros (4096 + imgLength d.life.loadBuf - d.life.loadBuf.length)

/-- The image in the load buffer is verified and runs from steward memory; one larger than 2 MiB fails with RESULT 2 (R502). -/
def Dev.runLoaded (d : Dev) : Dev :=
  let v := if 0x200000 < 4096 + imgLength d.life.loadBuf then (2, d.raise 0 3) else d.verifyImage d.loadedImage
  let d1 := v.2.set F.BOOT_STATUS.RESULT v.1
  if v.1 ≠ 0 then d1.print ("BOOT_STATUS.RESULT " ++ toString v.1)
  else
    let d2 := d1.startStewards
    { d2 with life := { d2.life with recImage := true, boot := 5 } }.setB F.STEWARD_STATUS.STANDBY_READY false

/-- A write of BOOT_CTRL through either view, in recovery (R502, R516). -/
def bootCtrlRun (v : Nat) (d : Dev) : Dev := if d.romOnly && bitAt v 0 then d.runLoaded else d

/-- BOOT_CTRL_RUN (R502). -/
def execBootCtrlRun (v : Nat) (s : State) : Out := onDev (bootCtrlRun v) s

/-- An on-chip monitor finds a supply outside its recommended range (R480, R530). -/
def supplyWarning (_supply : Fin 4) (d : Dev) : Dev := if d.held then d else d.raise 11 6

/-- SUPPLY_WARNING (R530). -/
def execSupplyWarning (supply : Fin 4) (s : State) : Out := onDev (supplyWarning supply) s

/-! ## The Toll island's supply, reset and self-test (R397, R399, R508, R531) -/

/-- A reset of the island alone: the processor runs the ACTIVE slot's Toll firmware, and the steward sends the stored tables
after the self-test (R401, R508, R513). -/
def Dev.islandReset (d : Dev) : Dev :=
  let d1 := d.tollReset
  { d1 with life := { d1.life with tollFw := imageTollDigest (d1.slot d1.life.active) } }.setB F.BOOT_STATUS.TOLL_PENDING false

/-- VDD_TOLL falls below 90 %: the processor is held in reset, the logic opens its switches and turns its enable off, and a device
with ticks enters SAFE_HOLD as loss of ranging service (R397, R531). -/
def vddTollLoss (d : Dev) : Dev :=
  let d1 := { d with toll := { d.toll with vddOk := false } }.openSwitches.disarm
  d1.hold [.service]

/-- VDD_TOLL_LOSS (R531). -/
def execVddTollLoss (s : State) : Out := onDev vddTollLoss s

/-- VDD_TOLL is good again: the island resets (R512, R531). -/
def vddTollGood (d : Dev) : Dev :=
  if d.toll.vddOk then d else { d with toll := { d.toll with vddOk := true } }.islandReset

/-- VDD_TOLL_GOOD (R531). -/
def execVddTollGood (s : State) : Out := onDev vddTollGood s

/-- The self-tests of the two channels are done (R399): a failure is a Toll channel fault; after both pass the steward sends the
stored tables (R401). -/
def tollSelfTestDone (logicOk procOk : Bool) (d : Dev) : Dev :=
  if !d.toll.logic.testing || !d.logicRuns || !d.procRuns then d
  else d.settled fun d =>
    let d1 := (d.modToll .logic fun t => { t with testing := false, selfOk := logicOk }).modToll .proc fun t =>
      { t with testing := false, selfOk := procOk }
    let d2 := { d1 with life := { d1.life with tollReload := false } }
    if !(logicOk && procOk) then d2.tollFault 1 else if 5 ≤ d2.life.boot then d2.resendToll else d2

/-- TOLL_SELF_TEST_DONE (R399). -/
def execTollSelfTestDone (logicOk procOk : Bool) (s : State) : Out := onDev (tollSelfTestDone logicOk procOk) s

/-- A write of firmware.toll_reload (R508). -/
def tollReload (role : Role) (v : Nat) (d : Dev) : Dev :=
  d.roleOne role true v fun d =>
    if d.st ≠ .standby && d.st ≠ .safeHold then d.answer 8
    else if !d.life.confirmed then d.answer 9
    else { d.islandReset with life := { d.islandReset.life with tollReload := true } }

/-- TOLL_RELOAD (R508). -/
def execTollReload (role : Role) (v : Nat) (s : State) : Out := onDev (tollReload role v) s

/-! ## Stewards (R505–R507) -/

/-- The serving steward. -/
def Dev.serving (d : Dev) : Nat := d.get F.STEWARD_STATUS.SERVING

/-- Sessions and transfers end; their banks stay uncommitted (R455, R465, R507). -/
def Dev.endSessions (d : Dev) : Dev := { d with flf := { d.flf with sessions := [], transfers := [] } }

/-- The steward state is that of the latest checkpoint: dictionary values that no register holds, pending writes, request
repeats (R507). -/
def Dev.fromCheckpoint (d : Dev) : Dev :=
  { d with
    regs := putAll d.life.checkpoint (d.regs.filter fun e => Fld.addr e.1 < 0x10000000)
    dues := d.life.ckptDues
    flf := { d.flf with kept := d.flf.kept.filter fun k => k.t ≤ d.life.ckptUp } }.endSessions

/-- The new steward resets before confirmation: the former image serves again (R506). -/
def Dev.revert (d : Dev) : Dev :=
  if d.life.handover ≠ 3 then d
  else
    let slot := 1 - d.life.active
    let d1 := { d with life := { d.life with handover := 0, active := slot, confirmed := true, tries := 0 } }.recordBoot
    (((d1.set F.BOOT_STATUS.SLOT slot).setB F.BOOT_STATUS.CONFIRMED true).raise 0 6).tollPending

/-- A steward stops: it reloads the serving image. -/
def Dev.stewardStop (d : Dev) (u : Nat) : Dev :=
  { d with life := { d.life with stewRun := upd d.life.stewRun u fun _ => false } }.setB F.STEWARD_STATUS.STANDBY_READY false

/-- The serving steward resets: the standby serves from the latest checkpoint, or with none the steward restarts from flash
(R506, R507). -/
def Dev.serveOther (d : Dev) (u : Nat) : Dev :=
  if d.flag F.STEWARD_STATUS.STANDBY_READY then
    ((d.stewardStop u).set F.STEWARD_STATUS.SERVING (1 - u)).fromCheckpoint.revert
  else
    let d1 := (d.stewardStop u).endSessions
    { d1 with life := { d1.life with fwRestart := true } }

/-- A steward resets (R339, R507, R514). -/
def Dev.stewardReset (d : Dev) (u : Nat) : Dev :=
  let d1 := (d.set F.RESET_CAUSE.STEWARD_RESETS (min 65535 (d.get F.RESET_CAUSE.STEWARD_RESETS + 1))).raise 0 7
  (if u = d1.serving then d1.serveOther u else d1.stewardStop u).faultOn 8 u 0 7

/-- The serving steward's watchdog expires (R507). -/
def stewardWatchdogExpiry (d : Dev) : Dev :=
  if d.life.boot < 5 || !at' d.life.stewRun d.serving false then d else d.settled fun d => d.stewardReset d.serving

/-- STEWARD_WATCHDOG_EXPIRY (R507). -/
def execStewardWatchdogExpiry (s : State) : Out := onDev stewardWatchdogExpiry s

/-- A steward has reloaded: it restarts to serve, or stands by (R487, R505–R507). -/
def stewardReloadDone (u : Nat) (d : Dev) : Dev :=
  if d.life.boot < 5 || d.life.recImage || d.stewardRetired u then d
  else
    let d1 := { d with life := { d.life with stewRun := upd d.life.stewRun u fun _ => true } }
    if u = d.serving then
      (if d.life.fwRestart then { d1 with life := { d1.life with fwRestart := false } } else d)
    else if d.life.fwRestart then
      { d1 with life := { d1.life with fwRestart := false } }.set F.STEWARD_STATUS.SERVING u
    else if d.life.handover = 1 || d.life.handover = 2 then d
    else d1.setB F.STEWARD_STATUS.STANDBY_READY true

/-- STEWARD_RELOAD_DONE (R507). -/
def execStewardReloadDone (u : Fin 2) (s : State) : Out := onDev (stewardReloadDone u) s

/-- Every 100 ms while no ticks occur (R507). -/
def stewardCheckpoint (d : Dev) : Dev := if d.st.ticks || d.life.boot < 5 then d else d.checkpoint

/-- STEWARD_CHECKPOINT (R507). -/
def execStewardCheckpoint (s : State) : Out := onDev stewardCheckpoint s

/-! ## Handover and confirmation (R505, R506) -/

/-- An earlier handover is unconfirmed, or still runs: the boot record says so across a reset (R500, R505). -/
def Dev.unconfirmed (d : Dev) : Bool := d.life.handover ≠ 0 || (d.life.bootValid && !d.life.confirmed)

/-- A write of firmware.handover. -/
def firmwareHandover (role : Role) (v : Nat) (d : Dev) : Dev :=
  d.roleOne role true v fun d =>
    if !d.flag F.STEWARD_STATUS.STANDBY_READY || d.unconfirmed ||
        imageResult d.life.keyHash d.life.rollback (d.slot (1 - d.life.active)) ≠ 0 then d.answer 9
    else
      ({ d with life := { d.life with handover := 1 } }.setB F.STEWARD_STATUS.HANDOVER_ACTIVE true).setB
        F.STEWARD_STATUS.STANDBY_READY false

/-- FIRMWARE_HANDOVER (R505). -/
def execFirmwareHandover (role : Role) (v : Nat) (s : State) : Out := onDev (firmwareHandover role v) s

/-- A handover is given up: the standby reloads the serving image (R505). -/
def Dev.handoverAbort (d : Dev) : Dev :=
  ({ d with life := { d.life with handover := 0 } }.setB F.STEWARD_STATUS.HANDOVER_ACTIVE false).raise 0 5

/-- The standby steward has loaded and verified the other slot and reports ready; the state passes at the next frame tick, or at
once when ticks do not occur (R505). -/
def handoverReady (d : Dev) : Dev :=
  if d.life.handover ≠ 1 then d
  else
    let v := d.verifyImage (d.slot (1 - d.life.active))
    if v.1 ≠ 0 then v.2.handoverAbort
    else
      let d1 := { v.2 with life := { v.2.life with handover := 2 } }
      if d1.st.ticks then d1 else d1.handoverPass

/-- HANDOVER_READY (R505). -/
def execHandoverReady (s : State) : Out := onDev handoverReady s

/-- The standby has not reported ready within 10 s (R505). -/
def handoverTimeout (d : Dev) : Dev := if d.life.handover = 1 then d.handoverAbort else d

/-- HANDOVER_TIMEOUT (R505). -/
def execHandoverTimeout (s : State) : Out := onDev handoverTimeout s

/-- The image is confirmed: the record, the rollback counter, and the fallback steward loads it (R506). -/
def Dev.confirmImage (d : Dev) : Dev :=
  if d.life.confirmed then d
  else
    let after := d.life.handover = 3
    let l := { d.life with
      confirmed := true, tries := 0, handover := if after then 0 else d.life.handover
      rollback := max d.life.rollback (imgSecurity (d.slot d.life.active)) }
    let d1 := { d with life := l }.recordBoot.setB F.BOOT_STATUS.CONFIRMED true
    if after then d1.setB F.STEWARD_STATUS.STANDBY_READY false else d1

/-- A write of firmware.confirm. -/
def firmwareConfirm (role : Role) (v : Nat) (d : Dev) : Dev := d.roleOne role true v Dev.confirmImage

/-- FIRMWARE_CONFIRM (R506). -/
def execFirmwareConfirm (role : Role) (v : Nat) (s : State) : Out := onDev (firmwareConfirm role v) s

/-- firmware.confirm_time has passed without a steward reset (R506). -/
def confirmTimeExpiry (d : Dev) : Dev := if d.life.boot < 6 then d else d.confirmImage

/-- CONFIRM_TIME_EXPIRY (R506). -/
def execConfirmTimeExpiry (s : State) : Out := onDev confirmTimeExpiry s

/-! ## Fuses (R475, R476) -/

/-- Fuses blown after an attempt on the named ones, with the mask that read back as confirmed: LOCAL_LOCK is attempted only once
FIELD_LOCK is blown (R476). -/
def blowFuses (fuses named confirmed : Nat) : Nat :=
  let f1 := Nat.lor fuses (Nat.land (Nat.land named confirmed) 0xD)
  if bitAt f1 0 then Nat.lor f1 (Nat.land (Nat.land named confirmed) 2) else f1

/-- Sessions that a fuse just blown forbids end (R455, R457, R475). -/
def Dev.fuseSessions (d : Dev) : Dev :=
  let f := d.life.fuses
  let bad (s : Session) : Bool :=
    s.role = 2 && (if s.spi then bitAt f 1 || (bitAt f 0 && !d.life.localMaint) else bitAt f 0)
  let gone := (d.flf.sessions.filter bad).map (·.id)
  { d with flf := { d.flf with
      sessions := d.flf.sessions.filter fun s => !bad s
      transfers := d.flf.transfers.filter fun t => !gone.contains t.owner } }

/-- A write of security.blow_fuse; the last operand is the mask of fuses that the read-back confirms. -/
def blowFuse (role : Role) (v confirmed : Nat) (d : Dev) : Dev :=
  d.roleWrite role true fun d =>
    let named := v % 16
    if v / 65536 ≠ 0x4655 || 16 ≤ v % 65536 || (bitAt named 1 && !bitAt named 0 && !bitAt d.life.fuses 0) then d.answer 4
    else if d.st ≠ .standby then d.answer 8
    else
      let f := blowFuses d.life.fuses named confirmed
      let d1 := { d with life := { d.life with fuses := f } }.fuseSessions
      if Nat.land f named = named then d1 else d1.answer 9

/-- BLOW_FUSE (R476). -/
def execBlowFuse (role : Role) (v confirmed : Nat) (s : State) : Out := onDev (blowFuse role v confirmed) s

end Sys2Proof.Machine
end

