-- ==== Sys2Proof/Machine/Memory.lean ====
section
/-! DEFINITION. Memory protection, conservation checks, and the commands of the incident recorder (R236, R336–R342, R344–R356,
R488). -/

namespace Sys2Proof.Machine

/-! ## The code (R336–R338) -/

/-- Multiplication by α in GF(2^8) with polynomial 0x11D. -/
def gfStep (a : Nat) : Nat := if a < 128 then 2 * a else Nat.xor (2 * a) 0x11D

/-- Product in GF(2^8), over the lowest `n` bits of the first factor. -/
def gfMulBits : Nat → Nat → Nat → Nat
  | 0, _, _ => 0
  | n + 1, a, b => Nat.xor (if a % 2 = 1 then b else 0) (gfMulBits n (a / 2) (gfStep b))

/-- Product in GF(2^8). -/
def gfMul (a b : Nat) : Nat := gfMulBits 8 a b

/-- Powers of α. -/
def gfPow : Nat → Nat
  | 0 => 1
  | n + 1 => gfStep (gfPow n)

/-- Coefficients c_0 to c_18 of a word given as D0–D15, C0–C2. -/
def codeword (w : Bytes) : List Nat := ((w.drop 16).take 3 ++ w.take 16).map (·.toNat)

/-- Syndrome S_i = c(α^i). -/
def syndrome (c : List Nat) (i : Nat) : Nat := c.foldr (fun x a => Nat.xor x (gfMul a (gfPow i))) 0

/-- What a read finds: no error, an error at position j with the corrected word, or an error that it cannot correct. -/
inductive EccResult where
  | clean
  | corrected (j : Nat) (word : Bytes)
  | uncorrectable
  deriving DecidableEq, Repr

/-- The word with c_j replaced by c_j xor `e` (R338): C0 to C2 are the bytes after D15. -/
def fixWord (w : Bytes) (j e : Nat) : Bytes := upd w (if j < 3 then 16 + j else j - 3) fun x => BitVec.ofNat 8 (Nat.xor x.toNat e)

/-- The outcome of a read (R338). -/
def eccJudge (w : Bytes) : EccResult :=
  let c := codeword w
  let s0 := syndrome c 0
  let s1 := syndrome c 1
  let s2 := syndrome c 2
  if s0 = 0 ∧ s1 = 0 ∧ s2 = 0 then .clean
  else if s0 ≠ 0 ∧ s1 ≠ 0 ∧ s2 ≠ 0 ∧ gfMul s1 s1 = gfMul s0 s2 then
    match (List.range 19).find? fun j => gfMul s0 (gfPow j) = s1 with
    | some j => .corrected j (fixWord (w.take 19) j s0)
    | none => .uncorrectable
  else .uncorrectable

/-- The check bytes C0 to C2 of 16 data bytes (R337): division of Σ D_i x^(i+3) by g(x), highest coefficient first. -/
def checkBytes (data : Bytes) : List Nat :=
  (data.reverse.map (·.toNat)).foldl (fun (r : List Nat) x =>
    let f := Nat.xor x (at' r 2 0)
    [gfMul f 0x08, Nat.xor (at' r 0 0) (gfMul f 0x0E), Nat.xor (at' r 1 0) (gfMul f 0x07)]) [0, 0, 0]

/-! ## External memory (R342, R343) -/

/-- Where a usable address lies: channel, channel address of its group, codeword of the group, and channel addresses of its check bytes
and of the group's TAG (R342). -/
structure MemPlace where
  group : Nat
  channel : Nat
  base : Nat
  code : Nat
  checks : Nat
  tagAt : Nat
  deriving DecidableEq, Repr

/-- The place of usable address `a`: groups of 1,024 physical bytes hold 832 data bytes (R342). -/
def memPlace (a : Nat) : MemPlace :=
  let g := a / 832
  let base := 1024 * (g / 4)
  let n := a % 832 / 16
  { group := g, channel := g % 4, base := base, code := n, checks := base + 832 + 3 * n, tagAt := base + 988 }

/-- TAG of group `g` (R342). -/
def memTag (g : Nat) : Bytes := be 4 g

/-- The 1,024 physical bytes of a group that holds 832 data bytes: data, check bytes of its 52 codewords, TAG, reserved bytes (R337,
R342). -/
def groupImage (g : Nat) (data : Bytes) : Bytes :=
  data ++ ((List.range 52).flatMap fun n => (checkBytes ((data.drop (16 * n)).take 16)).flatMap (be 1)) ++ memTag g ++ zeros 32

/-- The usable address at which the two stores begin: they take the top 512 MiB, the F store first (R343; log 109). -/
def Dev.storeBase (d : Dev) : Nat := (d.usableMiB - 512) * 1048576

/-- The usable address of a byte of an external memory (R343). -/
def Dev.usableAddr (d : Dev) (m : MemKind) (addr : Nat) : Nat :=
  match m with
  | .fStore => d.storeBase + addr
  | .pStore => d.storeBase + 268435456 + addr
  | .ring => d.storeBase - 1048576 * d.get F.P.ringSize + addr
  | .acq u => 64 * d.get (F.ACQ_BUFBASE u) + addr
  | _ => addr

/-- The TAG that a read of external memory brings: 4 bytes after the 19 of the word; a read given without them has the group's own. -/
def readTag (g : Nat) (w : Bytes) : Bytes := if w.length < 23 then memTag g else (w.drop 19).take 4

/-! ## What a corrected and an uncorrectable word do (R236, R339) -/

/-- A memory lies in external memory and its words have usable addresses (R342, R343). -/
def externalMem : MemKind → Bool
  | .fStore | .pStore | .ring | .acq _ => true
  | _ => false

/-- The word of a buffer has been written since the buffer was cleared: its valid bit is 1 (R207, R208). A written word holds a count. -/
def Buf.valid (b : Buf) (word : Nat) : Bool :=
  if word = 0 then b.ovf ≠ 0 || b.zovf ≠ 0 || b.nc ≠ 0
  else if word < 513 then (List.range 10).any fun i => Tab.getD b.coarse (10 * (word - 1) + i) 0 ≠ 0
  else (List.range 8).any fun i => Tab.getD b.zoom (8 * (word - 513) + i) 0 ≠ 0

/-- A word of a tally bank or seed file: whether it lies in the counting buffer, and its number there (R207); `n` words a buffer. -/
def Dev.tallyPlace (d : Dev) (n addr : Nat) : Bool × Nat := (addr / n % 2 = d.seq.side, addr % n)

/-- The counting buffer of a channel, or the one the echo engines hold. -/
def Dev.bufOf (d : Dev) (counts : Bool) (ch : Nat) : Buf := if counts then d.buf ch else Tab.getD d.ech ch {}

/-- The outcome of a read of a memory's word (R338, R342): in external memory every codeword of a group whose TAG differs from its number
is uncorrectable. -/
def Dev.readJudge (d : Dev) (m : MemKind) (addr : Nat) (w : Bytes) : EccResult :=
  let g := (memPlace (d.usableAddr m addr)).group
  if externalMem m && readTag g w ≠ memTag g then .uncorrectable else eccJudge w

/-- What the model holds in a word's place, by which a new write to it shows (R339; log 78). -/
def Dev.wordSeen (d : Dev) (m : MemKind) (addr : Nat) : List Nat :=
  let cut (bs : Bytes) (n a : Nat) : List Nat := ((bs.drop a).take n).map (·.toNat)
  match m with
  | .table idx b => cut (if b.val = 0 then (d.bank idx).b0 else (d.bank idx).b1) 16 addr
  | .tally ch =>
    let p := d.tallyPlace 577 addr
    let b := d.bufOf p.1 ch
    if p.2 = 0 then [b.ovf, b.zovf, b.nc]
    else if p.2 < 513 then (List.range 10).map fun i => Tab.getD b.coarse (10 * (p.2 - 1) + i) 0
    else (List.range 8).map fun i => Tab.getD b.zoom (8 * (p.2 - 513) + i) 0
  | .seed ch => (d.bufOf (d.tallyPlace 2 addr).1 ch).starts
  | .bale n => cut (d.stream n).stateBytes 16 addr
  | .fStore => Tab.getD d.fStore (addr / 32) []
  | .pStore => Tab.getD d.pStore (addr / 32) []
  | .ring => cut ((at' d.rcd.blocks (addr / 65536) {}).ents.flatMap RingEnt.bytes) 16 (addr % 65536)
  | .acq u => ((chunkWords ((d.unit u).ring ++ (d.unit u).post)).drop (addr / 16 * 4)).take 4
  | .steward _ | .toll _ => []

/-- A corrected word is delivered corrected, is counted (R236, R339) and waits for its write-back; a Toll memory's is counted by the
island. -/
def Dev.eccCorrected (d : Dev) (m : MemKind) (addr : Nat) (word : Bytes) : Dev :=
  let back : EccBack := { m := m, addr := addr, word := word, seen := d.wordSeen m addr }
  let d1 := { d with rcd := { d.rcd with delivered := word.take 16, writeback := d.rcd.writeback ++ [back] } }
  match m with
  | .tally _ | .seed _ => (((d1.setB F.MEM_STATUS.CORR true).setB F.TALLY_STATUS.ECC_CORR true).inc F.TALLY_ECC_CORR).raise 5 3
  | .toll _ => { d1 with toll := { d1.toll with eccCorr := d1.toll.eccCorr + 1 } }
  | .table idx b => ((d1.setB F.MEM_STATUS.CORR true).inc F.MEM_CORR).raiseIf (d1.bankNo idx = b.val) 9 3
  | _ => (d1.setB F.MEM_STATUS.CORR true).inc F.MEM_CORR

/-- A word of a tally buffer or seed file is poisoned for the buffer's use: the record of that buffer's stage is absent (R236, R482). -/
def Dev.tallyPoison (d : Dev) (ch word : Nat) (counts : Bool) : Dev :=
  let b := d.bufOf counts ch
  let b1 := { b with poison := b.poison ++ [word] }
  let r := Tab.getD d.recs ch {}
  let d1 := if counts then { d with cnt := Tab.put d.cnt ch b1 }
    else { d with ech := Tab.put d.ech ch b1, recs := if r.done then d.recs else Tab.put d.recs ch { r with flags := setBit r.flags 14 true } }
  (((d1.setB F.TALLY_STATUS.ECC_UNCORR true).inc F.TALLY_ECC_UNCORR).raise 5 4).faultOn 2 ch 5 4

/-- An uncorrectable word of a table's bank (R339). -/
def Dev.tableBad (d : Dev) (idx bank : Nat) : Dev :=
  let active := d.bankNo idx = bank
  let d1 := d.modBank idx fun b =>
    { b with
      bad0 := b.bad0 || bank = 0, bad1 := b.bad1 || bank = 1
      committed := b.committed && active, fixed := b.fixed && active }
  if active then d1.hold [.service] else d1

/-- A ring entry lost to an uncorrectable word is a gap entry (R339, R345). -/
def RingEnt.gap (e : RingEnt) : RingEnt := { e with kind := 3, data := be 4 e.data.length }

/-- The entry that covers an offset becomes a gap entry. -/
def gapEntry : List RingEnt → Nat → List RingEnt
  | [], _ => []
  | e :: t, off => if off < e.bytes.length then e.gap :: t else e :: gapEntry t (off - e.bytes.length)

/-- An uncorrectable word at a byte offset of the ring. -/
def Dev.ringBad (d : Dev) (addr : Nat) : Dev :=
  { d with rcd := { d.rcd with
      blocks := upd d.rcd.blocks (addr / 65536) fun b => { b with ents := gapEntry b.ents (addr % 65536) } } }

/-- The 4 entries of a codeword, from word `i` on, become one gap word holding 4; `o` is the number of the first chunk's first word. -/
def gapFour (i : Nat) : Nat → List (Nat × List Nat) → List (Nat × List Nat)
  | _, [] => []
  | o, c :: t =>
    (c.1, (List.range c.2.length).flatMap fun j =>
      if o + j = i then [gapWord 4] else if i < o + j && o + j < i + 4 then [] else [at' c.2 j 0]) :: gapFour i (o + c.2.length) t

/-- An uncorrectable word at a byte offset of a unit's buffer (R339). -/
def Dev.acqBad (d : Dev) (u addr : Nat) : Dev :=
  let i := addr / 16 * 4
  d.modUnit u fun x => { x with
    ring := gapFour i 0 x.ring, post := gapFour i (chunkWords x.ring).length x.post, rflags := setBit x.rflags 0 true }

/-- An uncorrectable word, by memory (R218, R259, R293, R339). -/
def Dev.eccBad (d : Dev) (m : MemKind) (addr : Nat) : Dev :=
  match m with
  | .tally ch => let p := d.tallyPlace 577 addr; d.tallyPoison ch p.2 p.1
  | .seed ch => let p := d.tallyPlace 2 addr; d.tallyPoison ch (65536 + p.2) p.1
  | .table idx b => d.tableBad idx b
  | .bale n => (d.modStream n Stream.resetState |>.setB F.OUT_STATUS.STATE_ERR true).raise 9 1
  | .steward u => d.stewardReset u
  | .toll _ => d.tollFault 4
  | .fStore => ({ d with fStore := Tab.del d.fStore (addr / 32), seq := { d.seq with fFail := true } }.setB F.TALLY_STATUS.SEED_STORE_ERR true).raise 5 2
  | .pStore => ({ d with pStore := Tab.del d.pStore (addr / 32) }.setB F.TALLY_STATUS.SEED_STORE_ERR true).raise 5 2
  | .ring => d.ringBad addr
  | .acq u => d.acqBad u addr

/-- Every uncorrectable word is counted (R339). -/
def Dev.eccUncorr (d : Dev) (m : MemKind) (addr : Nat) : Dev :=
  let d1 := ((d.setB F.MEM_STATUS.UNCORR true).inc F.MEM_UNCORR).raise 9 4
  (if externalMem m then d1.set F.MEM_LAST_ADDR (d.usableAddr m addr / 64) else d1).eccBad m addr

/-- A word of a tally buffer whose valid bit is 0 reads as all counts 0, whatever stands in it (R208). -/
def Dev.readsZero (d : Dev) (m : MemKind) (addr : Nat) : Bool :=
  match m with
  | .tally ch => let p := d.tallyPlace 577 addr; !(d.bufOf p.1 ch).valid p.2
  | _ => false

/-- External memory does not run on the RC fall-back (R47). -/
def Dev.memRuns (d : Dev) (m : MemKind) : Bool := !d.held && (!externalMem m || d.rootRuns)

/-- A read of a word, by the scrubber or by an access: its 19 bytes as they stand in the memory, in external memory with the TAG of its
group (R338–R340, R342). A word without an error is delivered as it stands. -/
def scrubPass (m : MemKind) (addr : Nat) (w : Bytes) (d : Dev) : Dev :=
  if !d.memRuns m || d.readsZero m addr then d
  else match d.readJudge m addr w with
    | .clean => { d with rcd := { d.rcd with delivered := w.take 16 } }
    | .corrected _ word => d.eccCorrected m addr word
    | .uncorrectable => d.settled fun d => d.eccUncorr m addr

/-- SCRUB_PASS (R340). -/
def execScrubPass (m : MemKind) (addr : Nat) (w : Bytes) (s : State) : Out := onDev (scrubPass m addr w) s

/-- A corrected word is written back, unless a new write to that word has come first (R339). -/
def eccWriteback (m : MemKind) (addr : Nat) (d : Dev) : Dev :=
  if !d.memRuns m then d
  else match d.rcd.writeback.find? fun x => x.m = m && x.addr = addr with
    | none => d
    | some x =>
      let back := if x.seen = d.wordSeen m addr then
        d.rcd.rewritten.filter (fun y => y.1 ≠ (m, addr)) ++ [((m, addr), x.word)] else d.rcd.rewritten
      { d with rcd := { d.rcd with writeback := d.rcd.writeback.erase x, rewritten := back } }

/-- ECC_WRITEBACK (R339). -/
def execEccWriteback (m : MemKind) (addr : Nat) (s : State) : Out := onDev (eccWriteback m addr) s

/-! ## Conservation (R488) -/

/-- The ring's descriptors are out of balance: every block not held is made free (R344, R488). -/
def Dev.ringRebuild (d : Dev) : Dev :=
  let keep := d.rcd.blocks.filter (·.state = 2)
  { d with rcd := { d.rcd with total := max d.rcd.total keep.length, free := d.rcd.total - keep.length, blocks := keep } }.raise 0 12

/-- The credits that a Basxiop sender has consumed exceed its grant (R367). -/
def BxPort.overdrawn (b : BxPort) : Bool :=
  64 < (b.cons0 + 65536 - b.freedRx0) % 65536 || 2048 < (b.cons1 + 65536 - b.freedRx1) % 65536

/-- A Basxiop link out of balance re-links, a link loss fault of its lanes (R488). -/
def Dev.bxRebalance (d : Dev) (p : Nat) : Dev :=
  if d.bxUp p && (d.bxPort p).overdrawn then
    ((d.bxDown p).raise 0 12).each [2 + 2 * p, 3 + 2 * p] fun d l => d.faultOn 5 l 10 (2 + p)
  else d

/-- The check every 1 ms of the ring's descriptors and of the Basxiop credits (R488). -/
def conservationCheck (d : Dev) : Dev :=
  let d1 := if d.rcd.free + d.rcd.blocks.length = d.rcd.total then d else d.ringRebuild
  (d1.bxRebalance 0).bxRebalance 1

/-- CONSERVATION_CHECK (R488). -/
def execConservationCheck (s : State) : Out := onDev conservationCheck s

/-! ## Incident triggers and the post window (R346, R347) -/

/-- A rising edge of INCIDENT_IN at uptime t, high for `width` ns (R346, R546). -/
def incidentInEdge (t width : Nat) (d : Dev) : Dev :=
  let d1 := d.advanceTo t
  if width < 1000 || d1.held then d1 else d1.incidentTrigger 1

/-- INCIDENT_IN_EDGE (R346). -/
def execIncidentInEdge (t width : Nat) (s : State) : Out := onDev (incidentInEdge t width) s

/-- A write of recorder.trigger (R346, R356). -/
def recorderTrigger (role : Role) (v : Nat) (d : Dev) : Dev := d.roleOne role false v fun d => d.incidentTrigger 4

/-- RECORDER_TRIGGER (R346). -/
def execRecorderTrigger (role : Role) (v : Nat) (s : State) : Out := onDev (recorderTrigger role v) s

/-- The post window of the incident in progress closes (R347, R350). -/
def postWindowClose (d : Dev) : Dev :=
  match d.rcd.cur with
  | none => d
  | some c => ((d.advance (c.endT - d.nowNs)).incidentClose 0).incidentNext

/-- POST_WINDOW_CLOSE (R347). -/
def execPostWindowClose (s : State) : Out := onDev postWindowClose s

/-! ## The drive (R349, R352, R353) -/

/-- A drive is inserted. -/
def driveInserted (d : Dev) : Dev :=
  if d.rcd.present || d.held then d else { d with rcd := { d.rcd with present := true } }.raise 9 8

/-- DRIVE_INSERTED (R353). -/
def execDriveInserted (s : State) : Out := onDev driveInserted s

/-- The TIME80 at an offset, in ns since the epoch (R57). -/
def ofTime80 (bs : Bytes) (off : Nat) : Nat := rd 6 bs off * 1000000000 + rd 4 bs (off + 6)

/-- The trigger list of a header block (R350). -/
def trigsOf (bs : Bytes) : List (Nat × Nat) :=
  ((List.range 32).map fun k => (ofTime80 bs (28 + 11 * k), rd 1 bs (38 + 11 * k))).filter fun p => p.2 ≠ 0

/-- An incident as it stands on a drive, from its blocks (R350): without a valid end block it is incomplete. -/
def Incident.ofBytes (bs : Bytes) : Incident :=
  let fin := bs.drop (bs.length - 4096)
  let n := rd 8 fin 0
  let data := (bs.drop 4096).take n
  let ok := 8192 ≤ bs.length && 4096 * cdiv n 4096 + 8192 = bs.length && rd 4 fin 8 = crc32c data
  { no := rd 4 bs 4, cause := rd 1 bs 8, t := ofTime80 bs 9, pre := rd 4 bs 19, postMs := rd 4 bs 23, prot := rd 1 bs 27 = 1
    trigs := trigsOf bs, blocks := bs.length / 4096, ended := if ok then rd 1 fin 16 else 0xFF
    lost := if ok then rd 4 fin 12 else 0, data := if ok then data else bs.drop 4096 }

/-- The drive's superblock is the recorder's own, as it last wrote it. -/
def Rcd.knows (r : Rcd) (sb : Bytes) : Bool := sbPick r.sb0 r.sb1 = some sb

/-- The recorder with the layout of a drive's superblock: its own incidents where the drive is the one it wrote last, otherwise those that
stand in the drive's ring from TAIL (R349, R356; log 33). -/
def Rcd.adopt (r : Rcd) (sb0 sb1 sb : Bytes) (ring : List Bytes) : Rcd :=
  if r.knows sb then { r with ready := true, sb0 := sb0, sb1 := sb1 }
  else
    { r with
      ready := true, nBlocks := rd 8 sb 8, head := rd 8 sb 0x10, tail := rd 8 sb 0x18, next := rd 4 sb 0x20, superSeq := rd 4 sb 4
      sb0 := sb0, sb1 := sb1, done := ring.map Incident.ofBytes, torn := none, openAtReset := false }

/-- An incident without an end block that the drive holds at HEAD: after a reset it gets one with ENDED 2 (R513), otherwise it stays
incomplete and is reported as such (R350; log 109). -/
def Dev.endTorn (d : Dev) : Dev :=
  match d.rcd.torn with
  | none => d
  | some c =>
    let fin := if d.rcd.openAtReset then { c with ended := 2, blocks := c.blocks + 1 } else c
    let d1 := { d with rcd := { d.rcd with torn := none, openAtReset := false }.putIncident fin }
    if d.rcd.openAtReset then (d1.inc F.REC_INCIDENTS).raise 9 7 else d1

/-- The link is trained, the controller initialised and the superblock read: whether the namespace has 4,096-byte blocks, its
blocks, the two superblock copies, and the incidents that stand in the drive's ring from TAIL, block by block (R349, R352, R353). -/
def driveReady (fmt4k : Bool) (space : DriveSpace) (sb0 sb1 : Bytes) (d : Dev) : Dev :=
  if !d.rcd.present || d.get F.REC_STATUS.STATE ≠ 0 || !d.rootRuns || d.held || d.rcd.width = 0 then d
  else
    let cmds : List NvmeCmd := [.identify, .createQueues 1, .createQueues 2] ++ if fmt4k then [.read 0 1, .read 1 1] else []
    let d1 := { d with rcd := { d.rcd with nvme := d.rcd.nvme ++ cmds } }.raise 10 4
    let n := min 67108864 (space.blocks - 256)
    if !fmt4k then d1.set F.REC_STATUS.STATE 4
    else match sbPick sb0 sb1 with
      | some sb => ({ d1 with rcd := d1.rcd.adopt sb0 sb1 sb space.ring }.set F.REC_STATUS.STATE 1).blockCheck.endTorn
      | none => { d1 with rcd := { d1.rcd with nBlocks := n } }.set F.REC_STATUS.STATE 3

/-- DRIVE_READY (R353). -/
def execDriveReady (fmt4k : Bool) (space : DriveSpace) (sb0 sb1 : Bytes) (s : State) : Out :=
  onDev (driveReady fmt4k space sb0 sb1) s

/-- Removal of the drive is sensed, from PCIE_PRSNT_N going high or from loss of the link, a free value (log 109): the incident in progress
ends, its held blocks return to used; a link that was up counts a fault of its width (R353, R482). -/
def driveRemoved (d : Dev) : Dev :=
  if !d.rcd.present then d
  else
    let up := d.get F.REC_STATUS.STATE ≠ 0
    let high := d.takeFree 1
    let d1 := high.2.driveGone
    let d2 := if high.1 = 1 || !up then { d1 with rcd := { d1.rcd with present := false } }.raise 9 8 else d1
    if up then d2.faultOn 7 d2.rcd.width 10 4 else d2

/-- DRIVE_REMOVED (R353). -/
def execDriveRemoved (s : State) : Out := onDev driveRemoved s

/-- The drive writes what it holds (R353). -/
def Rcd.flush (r : Rcd) : Rcd := { r with nvme := r.nvme ++ [.flush] }

/-- A write of recorder.eject: the incident in progress ends with code 1, the drive is flushed and its link goes down, whatever the drive's
layout (R353). -/
def recorderEject (role : Role) (v : Nat) (d : Dev) : Dev :=
  d.roleOne role false v fun d =>
    if d.get F.REC_STATUS.STATE = 0 then d
    else let d1 := d.incidentClose 1; { d1 with rcd := d1.rcd.flush }.driveGone

/-- RECORDER_EJECT (R353). -/
def execRecorderEject (role : Role) (v : Nat) (s : State) : Out := onDev (recorderEject role v) s

/-- A fresh layout: the namespace deallocated, both superblock copies written, nothing recorded. -/
def Rcd.format (r : Rcd) : Rcd :=
  let r1 := { r with ready := true, done := [], head := 0, tail := 0, next := 0, superSeq := 1, torn := none, openAtReset := false }
  { r1 with sb0 := r1.superBytes, sb1 := r1.superBytes, nvme := r1.nvme ++ [.deallocate, .write 0 1 true, .write 1 1 true] }

/-- A write of recorder.format: the drive gets its layout; busy while an incident is written (R353; log 34). -/
def recorderFormat (role : Role) (v : Nat) (d : Dev) : Dev :=
  d.roleOne role true v fun d =>
    if d.get F.REC_STATUS.STATE = 2 then d.answer 9
    else if d.get F.REC_STATUS.STATE = 1 || d.get F.REC_STATUS.STATE = 3 then
      { d with rcd := d.rcd.format }.set F.REC_STATUS.STATE 1
    else d

/-- RECORDER_FORMAT (R353). -/
def execRecorderFormat (role : Role) (v : Nat) (s : State) : Out := onDev (recorderFormat role v) s

/-- The mark of an incident by its number. -/
def markIncident (no : Nat) (on : Bool) (i : Incident) : Incident := if i.no = no then { i with prot := on } else i

/-- A write of recorder.protect: marks the named incident; with bit 31 set it clears the mark, in an engineer session only. An
incident that is not there is out of range (R356; log 34). -/
def recorderProtect (role : Role) (v : Nat) (d : Dev) : Dev :=
  d.roleWrite role (bitAt v 31) fun d =>
    let no := v % 2 ^ 31
    if !d.incidents.any fun i => i.no = no then d.answer 4
    else
      let f := markIncident no (!bitAt v 31)
      { d with rcd := { d.rcd with done := d.rcd.done.map f, cur := d.rcd.cur.map f } }.writeNow F.P.protect v

/-- RECORDER_PROTECT (R356). -/
def execRecorderProtect (role : Role) (v : Nat) (s : State) : Out := onDev (recorderProtect role v) s

end Sys2Proof.Machine
end

