-- ==== Sys2Proof/Machine/Transfer.lean ====
section
/-! DEFINITION. Segmented transfers of tables and other objects, and the table window (R294, R462–R465, R470, R476, R479, R504). -/

namespace Sys2Proof.Machine

/-! ## Objects (R462) -/

/-- Access of an object; none for an index and subindex that name no object. -/
def objAccess (idx sub : Nat) : Option EAcc :=
  if isTable idx then
    match sub with
    | 0 => some (if idx ≤ 0x7002 then .rw else .rwe)
    | 1 => some .ro
    | _ => none
  else match idx, sub with
    | 0x1300, 1 => some .rw
    | 0x1200, 5 | 0x1200, 6 | 0x1400, 2 | 0x1400, 3 | 0x4400, 0x05 | 0x4400, 0x15 => some .rwe
    | 0x8200, 1 | 0x8200, 2 | 0x8400, 2 | 0x8500, 1 | 0x8500, 2 | 0x8500, 3 | 0x8900, 1 | 0x8800, 1 | 0x8700, 1 => some .ro
    | 0x9100, 0 | 0x1500, 5 => some .ro
    | _, _ =>
      if idx = 0x8100 && inR sub 1 6 then some .ro
      else if 0x8600 ≤ idx && idx < 0x8604 && inR sub 1 2 then some .ro
      else none

/-- A role may write an object. -/
def mayWrite (role : Nat) (a : EAcc) : Bool :=
  match a with
  | .ro => false
  | .rw | .wo => 1 ≤ role
  | .rwe => role = 2

/-- Image slot that an object addresses. -/
def imageSlot (idx sub : Nat) : Option Nat := if idx = 0x1400 && (sub = 2 || sub = 3) then some (sub - 2) else none

/-- Total length valid for an object (R463). -/
def objLenOk (idx sub n : Nat) : Bool :=
  if isTable idx then tableLenOk idx n
  else match idx, sub with
    | 0x1300, 1 => n = 32
    | 0x1200, _ => n = 32
    | 0x1400, _ => 4096 ≤ n && n ≤ 6 * 1048576
    | _, _ => n = 6208

/-- A rule of an object that refuses a write of it as it stands: the engineer key is programmed (0x07), the slot is the active one
(0x09). -/
def Dev.objRefuses (d : Dev) (idx sub : Nat) : Nat :=
  if idx = 0x1200 && sub = 6 && d.flf.engKeySet then 7
  else match imageSlot idx sub with
    | some s => if d.life.bootValid && d.life.active = s then 9 else 0
    | none => 0

/-- The inactive bank of a table cannot be written: it is in use (R23), or fixed to swap at the coming tick (R22). An echo
filter bank swaps between two records of its engine, which works on one record at a time, so its previous bank is free at once. -/
def Dev.bankBusy (d : Dev) (idx : Nat) : Bool :=
  isTable idx && ((d.bank idx).prevBusy ≠ 0 || (d.bank idx).fixed)

/-- A transfer of an object is open, or the table window for it (R463, R470). -/
def Dev.objBusy (d : Dev) (idx sub : Nat) : Bool :=
  d.flf.winOpen = some idx || d.flf.transfers.any fun t => t.idx = idx && (isTable idx || t.sub = sub)

/-- The inactive bank loses its committed state (R463). -/
def Dev.uncommit (d : Dev) (idx : Nat) : Dev :=
  if isTable idx then
    let d1 := d.modBank idx fun b => { b with committed := false }
    if idx = 0x7040 then { d1 with clutBasic := false } else d1
  else d

/-- Bytes arrive at an offset of what a write transfer writes: the inactive bank, an image slot; other objects wait for the close. -/
def Dev.patchObj (d : Dev) (idx sub off : Nat) (new : Bytes) : Dev :=
  let put (old : Bytes) : Bytes := patch (old ++ zeros (off - old.length)) off new
  if isTable idx then d.modBank idx fun b => b.setInact (put b.inact)
  else match imageSlot idx sub with
    | some 0 => { d with life := { d.life with slotA := put d.life.slotA } }
    | some _ => { d with life := { d.life with slotB := put d.life.slotB } }
    | none => d

/-- The subscribers that an object names (R479). -/
def subsOf (bs : Bytes) : List (Nat × Nat) := (List.range 4).map fun i => (rd 4 bs (8 * i), rd 2 bs (8 * i + 4))

/-- A complete and intact object takes effect by its own rules; the answer is the status code (R294, R456, R465, R504). -/
def Dev.commitObj (d : Dev) (idx sub : Nat) (bs : Bytes) : Dev :=
  if isTable idx then d.commitTable idx bs
  else match idx, sub with
    | 0x1300, 1 =>
      if (List.range 4).all fun i => rd 2 bs (8 * i + 6) = 0 then { d.answer 0 with flf := { d.flf with subs := subsOf bs, status := 0 } }
      else d.answer 4
    | 0x1200, 5 => { d with flf := { d.flf with opKey := bs, status := 0 } }
    | 0x1200, 6 =>
      if d.flf.engKeySet then d.answer 7 else { d with flf := { d.flf with engKey := bs, engKeySet := true, status := 0 } }
    | 0x1400, _ =>
      let r := d.verifyImage bs
      r.2.answer (if r.1 = 0 then 0 else 4)
    | _, _ =>
      let n := if sub = 0x05 then 0 else 1
      if d.flag (F.OUT_SCFG.EN n) && d.st.armed then d.answer 8 else (d.modStream n fun s => s.ofBytes bs).answer 0

/-! ## Opening and closing (R463–R465) -/

/-- Transfer of an owner. -/
def Dev.transferOf (d : Dev) (owner : Nat) : Option Transfer := d.flf.transfers.find? (·.owner = owner)

/-- Removes the transfer of an owner. -/
def Dev.dropTransfer (d : Dev) (owner : Nat) : Dev :=
  { d with flf := { d.flf with transfers := d.flf.transfers.filter (·.owner ≠ owner) } }

/-- Adds a transfer. -/
def Dev.addTransfer (d : Dev) (t : Transfer) : Dev := { d with flf := { d.flf with transfers := d.flf.transfers ++ [t] } }

/-- Replaces the transfer of an owner. -/
def Dev.setTransfer (d : Dev) (t : Transfer) : Dev :=
  { d with flf := { d.flf with transfers := d.flf.transfers.map fun x => if x.owner = t.owner then t else x } }

/-- The status code of opening a write transfer (R463). -/
def Dev.openWriteCode (d : Dev) (owner role idx sub total : Nat) : Nat :=
  match objAccess idx sub with
  | none => if (entOf idx sub).isSome then 3 else 1
  | some a =>
    if !mayWrite role a then 2
    else if (d.transferOf owner).isSome || d.objBusy idx sub || d.bankBusy idx then 9
    else if d.objRefuses idx sub ≠ 0 then d.objRefuses idx sub
    else if !objLenOk idx sub total then 3
    else 0

/-- Opens a write transfer. -/
def Dev.openWrite (d : Dev) (owner role idx sub total crc : Nat) : Dev :=
  let c := d.openWriteCode owner role idx sub total
  if c ≠ 0 then d.answer c
  else ((d.uncommit idx).addTransfer
    { owner := owner, idx := idx, sub := sub, write := true, total := total, crc := crc, t := d.up }).answer 0

/-- Opens a read transfer with a snapshot of the object (R464). -/
def Dev.openRead (d : Dev) (owner idx sub : Nat) : Dev :=
  match objAccess idx sub with
  | none => d.answer (if (entOf idx sub).isSome then 3 else 1)
  | some _ =>
    if (d.transferOf owner).isSome || d.flf.winOpen = some idx then d.answer 9
    else match d.readObject idx sub with
      | .inr c => d.answer c
      | .inl bs => (d.addTransfer
          { owner := owner, idx := idx, sub := sub, total := bs.length, crc := crc32c bs, data := bs, t := d.up }).answer 0

/-- A write segment: at the next expected offset only, 1 to 1,024 bytes (R464). -/
def Dev.writeSegment (d : Dev) (t : Transfer) (off : Nat) (body : Bytes) : Dev :=
  if body.length = 0 || 1024 < body.length then d.answer 3
  else if off ≠ t.data.length then d.answer 4
  else if t.total < t.data.length + body.length then d.answer 3
  else ((d.patchObj t.idx t.sub off body).setTransfer { t with data := t.data ++ body, t := d.up }).answer 0

/-- A read segment: any offset within the object (R464). -/
def Dev.readSegment (d : Dev) (t : Transfer) (off : Nat) (body : Bytes) : Dev :=
  if body.length ≠ 2 || rd 2 body 0 = 0 || 1024 < rd 2 body 0 then d.answer 3
  else if t.total ≤ off then d.answer 4
  else (d.setTransfer { t with t := d.up }).answer 0

/-- Records that stand behind the first `n` bytes. -/
def dropRead (n : Nat) : List Bytes → List Bytes
  | [] => []
  | r :: t => if r.length ≤ n then dropRead (n - r.length) t else r :: t

/-- Records of an acquisition unit are freed as read (R335). -/
def Dev.freeRead (d : Dev) (t : Transfer) : Dev :=
  if 0x8600 ≤ t.idx && t.idx < 0x8604 && t.sub = 1 then
    let u := t.idx - 0x8600
    let d1 := d.modUnit u fun x => { x with recs := dropRead t.data.length x.recs }
    d1.setB (F.ACQ_STATUS.RECORD_READY u) ((d1.unit u).recs ≠ [])
  else d

/-- DOMAIN_CLOSE with action 0: the checks in the order of R465. -/
def Dev.closeCommit (d : Dev) (t : Transfer) : Dev :=
  let d1 := d.dropTransfer t.owner
  if !t.write then (d1.freeRead t).answer 0
  else if t.data.length ≠ t.total then d1.answer 3
  else if crc32c t.data ≠ t.crc then d1.answer 10
  else d1.commitObj t.idx t.sub t.data

/-- DOMAIN_CLOSE. -/
def Dev.closeTransfer (d : Dev) (owner action : Nat) : Dev :=
  match d.transferOf owner with
  | none => d.answer 1
  | some t => if action = 0 then d.closeCommit t else if action = 1 then (d.dropTransfer owner).answer 0 else d.answer 4

/-- Number that stands for the table window as the owner of a transfer. -/
def winOwner : Nat := 2 ^ 64

/-- A transfer has been idle for 10 s: closed as by action 1 (R465). -/
def transferIdleTimeout (owner : Nat) (d : Dev) : Dev :=
  if owner = winOwner then
    if d.flf.winOpen.isSome then
      let d1 := d.advanceTo (d.flf.winAt + 10000000000)
      { d1 with flf := { d1.flf with winOpen := none } }
    else d
  else match d.transferOf owner with
    | none => d
    | some t => (d.advanceTo (t.t + 10000000000)).dropTransfer owner

/-- TRANSFER_IDLE_TIMEOUT (R465). -/
def execTransferIdleTimeout (owner : Nat) (s : State) : Out := onDev (transferIdleTimeout owner) s

/-! ## The table window (R470) -/

/-- RESULT of the window. -/
def Dev.winResult (d : Dev) (c : Nat) : Dev := d.set F.TBL_WIN.RESULT c

/-- The status code of opening the window for SELECT. -/
def Dev.winOpenCode (d : Dev) (idx : Nat) : Nat :=
  if !isTable idx then 1
  else if d.flf.winOpen.isSome || d.objBusy idx 0 || d.bankBusy idx then 9
  else if !tableLenOk idx (d.get F.TBL_WIN_LEN) then 3
  else 0

/-- START: the window opens for SELECT; the inactive bank takes the length given. -/
def Dev.winStart (d : Dev) : Dev :=
  let idx := 0x7000 + d.get F.TBL_WIN.SELECT
  let c := d.winOpenCode idx
  if c ≠ 0 then d.winResult c
  else
    let n := d.get F.TBL_WIN_LEN
    let d1 := (d.uncommit idx).modBank idx fun b => b.setInact ((orDefault idx b.inact ++ zeros n).take n)
    { d1 with flf := { d1.flf with winOpen := some idx, winAt := d.up } }.winResult 0

/-- COMMIT: the content is checked and committed as by DOMAIN_CLOSE. -/
def Dev.winCommit (d : Dev) : Dev :=
  match d.flf.winOpen with
  | none => d.winResult 1
  | some idx =>
    let d1 := { d with flf := { d.flf with winOpen := none } }
    let bs := (d.bank idx).inact
    let status := d.flf.status
    let d2 := if bs.length ≠ d.get F.TBL_WIN_LEN then d1.answer 3
      else if crc32c bs ≠ d.get F.TBL_WIN_CRC then d1.answer 10
      else d1.commitTable idx bs
    (d2.winResult d2.flf.status).answer status

/-- ABORT: the window closes. -/
def Dev.winAbort (d : Dev) : Dev := { d with flf := { d.flf with winOpen := none } }

/-- The parts of a write of TBL_WIN: SELECT, then START, COMMIT and ABORT. -/
def Dev.winWrite (d : Dev) (v : Nat) : Dev :=
  ((((d.set F.TBL_WIN.SELECT (bits v 0 12)).when (bitAt v 15) Dev.winStart).when (bitAt v 16) Dev.winCommit).when (bitAt v 17)
    Dev.winAbort)

/-- A write of TBL_WIN with START. -/
def tblWinStart (priv : Bool) (v : Word) (d : Dev) : Dev :=
  d.privWrite priv fun d =>
    (d.set F.TBL_WIN.SELECT (bits v.toNat 0 12)).when (bitAt v.toNat 15) Dev.winStart

/-- TBL_WIN_START (R470). -/
def execTblWinStart (priv : Bool) (v : Word) (s : State) : Out := onDev (tblWinStart priv v) s

/-- A write of TBL_WIN with COMMIT. -/
def tblWinCommit (priv : Bool) (v : Word) (d : Dev) : Dev :=
  d.privWrite priv fun d =>
    (d.set F.TBL_WIN.SELECT (bits v.toNat 0 12)).when (bitAt v.toNat 16) Dev.winCommit

/-- TBL_WIN_COMMIT (R470). -/
def execTblWinCommit (priv : Bool) (v : Word) (s : State) : Out := onDev (tblWinCommit priv v) s

/-- A write of TBL_WIN with ABORT. -/
def tblWinAbort (priv : Bool) (v : Word) (d : Dev) : Dev :=
  d.privWrite priv fun d =>
    (d.set F.TBL_WIN.SELECT (bits v.toNat 0 12)).when (bitAt v.toNat 17) Dev.winAbort

/-- TBL_WIN_ABORT (R470). -/
def execTblWinAbort (priv : Bool) (v : Word) (s : State) : Out := onDev (tblWinAbort priv v) s

/-- A word is written to the window (R470): byte 4k from bits [31:24], within the length, under a byte mask. -/
def Dev.winPut (d : Dev) (off v mask : Nat) : Dev :=
  match d.flf.winOpen with
  | some idx =>
    let old := (d.bank idx).inact
    if idx ≠ 0x7000 + d.get F.TBL_WIN.SELECT || old.length ≤ off then d
    else
      let w := Nat.lor (Nat.land v mask) (Nat.land (rd 4 (old ++ zeros 4) off) (2 ^ 32 - 1 - mask))
      let new := (patch (old ++ zeros 4) off (be 4 w)).take old.length
      { (d.modBank idx fun b => b.setInact new) with flf := { d.flf with winAt := d.up } }
  | none => d

end Sys2Proof.Machine
end

