-- ==== Sys2Proof/Machine/Bus.lean ====
section
/-! DEFINITION. Register writes (R4, R50, R79, R113, R317, R331–R334, R460, R466–R474, R502). -/

namespace Sys2Proof.Machine

/-! ## Fields of a written word -/

/-- Bits of a field within its word. -/
def FieldDesc.mask (x : FieldDesc) : Nat := (2 ^ x.w - 1) * 2 ^ x.lo

/-- A write with a mask reaches a field. -/
def FieldDesc.hit (x : FieldDesc) (mask : Nat) : Bool := Nat.land x.mask mask ≠ 0

/-- Values in effect of the fields that a write sets, as a word. -/
def Dev.writable (d : Dev) (r : RegDesc) (a : Nat) : Nat :=
  ((r.fields.filter fun x => x.acc = .rwp).map fun x => d.get (x.key a) * 2 ^ x.lo).sum

/-- The word as written where the mask is 1, and the values in effect where it is 0. -/
def mergeWord (old v mask : Nat) : Nat := Nat.lor (Nat.land v mask) (Nat.land old (2 ^ 32 - 1 - mask))

/-- Writes the rw-p fields that the mask reaches, each at its own commit point (R460). -/
def Dev.putFields (d : Dev) (r : RegDesc) (a w mask : Nat) : Dev :=
  r.fields.foldl (fun d x =>
    if x.acc = .rwp && x.hit mask then d.write (x.key a) (bits w x.lo x.w) x.commit else d) d

/-- Clears the w1c bits written as 1 (R4). -/
def Dev.clearBits (d : Dev) (r : RegDesc) (a v : Nat) : Dev :=
  r.fields.foldl (fun d x =>
    if x.acc = .w1c then d.set (x.key a) (Nat.land (d.get (x.key a)) (2 ^ x.w - 1 - bits v x.lo x.w)) else d) d

/-! ## Registers whose writes act (by block) -/

/-- EM_CTRL: outside BOOT, STANDBY and SAFE_HOLD only SWAP_SRC can change (R79). -/
def Dev.emCtrlWrite (d : Dev) (w mask : Nat) : Dev :=
  let fixed := [(F.EM_CTRL.DRIVE, 10, 2), (F.EM_CTRL.COL_POL, 9, 1), (F.EM_CTRL.ROW_POL, 8, 1), (F.EM_CTRL.START1_EN, 4, 1),
    (F.EM_CTRL.START0_EN, 3, 1)]
  let d1 := if bitAt mask 0 then d.write F.EM_CTRL.SWAP_SRC (bits w 0 1) .immediate else d
  if d.quiet then fixed.foldl (fun d x => d.write x.1 (bits w x.2.1 x.2.2) .immediate) d1
  else if fixed.any fun x => d.get x.1 ≠ bits w x.2.1 x.2.2 then d1.setB F.EM_STATUS.WRITE_REFUSED true
  else d1

/-- ADC_MON: outside BOOT, STANDBY and SAFE_HOLD only MON_WIN can change (R317). -/
def Dev.adcMonWrite (d : Dev) (r : RegDesc) (a w mask : Nat) : Dev :=
  if d.quiet then (d.putFields r a w mask).convRest 0 else d.putFields r a w (Nat.land mask 0xFF0000)

/-- TB_CTRL: a STEP_THRESHOLD of 0 is ignored (R71). -/
def Dev.tbCtrlWrite (d : Dev) (w act mask : Nat) : Dev :=
  let d1 := if bits mask 8 24 ≠ 0 && bits w 8 24 ≠ 0 then d.write F.TB_CTRL.STEP_THRESHOLD (bits w 8 24) .immediate else d
  let d2 := if bitAt mask 0 then d1.settled fun d => d.write F.TB_CTRL.RUN (bits w 0 1) .immediate else d1
  if bitAt act 1 then d2.acceptStep else d2

/-- Clocks and the time base. -/
def Dev.clockWrite (d : Dev) (r : RegDesc) (a w act mask : Nat) : Option Dev :=
  match a with
  | 0x10004 =>
    some (((d.putFields r a w mask).when (bitAt act 4) (clockReturn true)).when (bitAt act 8) (clearFault true))
  | 0x10010 => some (clkGateWrite (.reg true) (BitVec.ofNat 32 w) d)
  | 0x20000 => some (d.tbCtrlWrite w act mask)
  | 0x20010 => some (tbTrimWrite (.reg true) (BitVec.ofNat 32 w) d)
  | 0x20018 => some (tbAdjWrite true (BitVec.ofNat 32 act) d)
  | 0x20034 => some (tbAdjSecWrite true (BitVec.ofNat 32 act) d)
  | _ => none

/-- Convoys, snapshot and emitter. -/
def Dev.rangingWrite (d : Dev) (r : RegDesc) (a w act mask : Nat) : Option Dev :=
  if 0x100000 ≤ a && a < 0x200000 then
    let c := Fin.ofNat 16 ((a - 0x100000) / 0x10000)
    match a % 0x10000 with
    | 0x10 => some ((d.putFields r a w mask).when (bitAt act 8) (calStart (.reg true) c))
    | 0x40 => some (tisStart c true (BitVec.ofNat 32 (w % 2 ^ 31 + act / 2 ^ 31 * 2 ^ 31)) d)
    | _ => none
  else match a with
    | 0x200038 => some (if bitAt act 9 then d.armSnap (bits w 0 9) else d.putFields r a w mask)
    | 0x300000 => some (d.emCtrlWrite w mask)
    | 0x300008 => some ((d.putFields r a w mask).when (bits mask 0 10 ≠ 0) fun d => d.write F.P.rowLeadReg 1 .frame)
    | _ => none

/-- Drover. -/
def Dev.droverWrite (d : Dev) (r : RegDesc) (a w act mask : Nat) : Option Dev :=
  let via : Via := .reg true
  let word : Word := BitVec.ofNat 32 w
  match a with
  | 0x380000 => some ((drvCtrlWrite via word d).when (bitAt act 15) (drvClearFaults true))
  | 0x380008 => some (drvTickWrite via word d)
  | 0x380020 => some (d.drvSettings via true fun d => d.putFields r a w mask)
  | 0x380024 => some (d.drvSettings via true fun d => d.putFields r a w mask)
  | 0x380048 => some (drvSetpointWrite via word d)
  | 0x380050 => some (drvTestStart via word d)
  | _ =>
    if 0x380010 ≤ a && a < 0x380020 then some (d.drvSettings via false fun d => d.putFields r a w mask) else none

/-- Converters and acquisition. -/
def Dev.adcWrite (d : Dev) (r : RegDesc) (a w act mask : Nat) : Option Dev :=
  let via : Via := .reg true
  if a = 0x400040 then some (d.adcMonWrite r a w mask)
  else if 0x400000 ≤ a && a < 0x400200 then
    let n := Fin.ofNat 2 ((a - 0x400000) / 0x100)
    let o := a % 0x100
    if o = 0 then some ((if n = 1 then d.drvConfigure via fun d => d.putFields r a w mask else d.putFields r a w mask).convRest n)
    else if o = 8 then some (d.putFields r a (w / 4 * 4) mask)
    else if 0x10 ≤ o && o < 0x30 && o % 8 = 0 then
      some ((d.putFields r a w mask).when (bitAt act 31) (adcSeqStart via n (Fin.ofNat 4 ((o - 0x10) / 8))))
    else none
  else if 0x400400 ≤ a && a < 0x400500 then
    let u := Fin.ofNat 4 ((a - 0x400400) / 0x40)
    match a % 0x40 with
    | 0x00 => some (d.acqCtrl u via (w % 2 ^ 29 + act / 2 ^ 29 * 2 ^ 29))
    | 0x14 => some (if d.bufferOk w (d.get (F.ACQ_BUFSIZE u)) then d.putFields r a w mask else d.answer 4)
    | 0x18 => some (if d.bufferOk (d.get (F.ACQ_BUFBASE u)) w then d.putFields r a w mask else d.answer 4)
    | 0x1C => some (d.clearBits r a act)
    | _ => none
  else if 0x400800 ≤ a && a < 0x400880 then some ((d.putFields r a w mask).compClear ((a - 0x400800) / 8))
  else none

/-- Identity, links and the rest. -/
def Dev.otherWrite (d : Dev) (r : RegDesc) (a w act mask : Nat) : Option Dev :=
  match a with
  | 0x10 => some (if bits mask 4 3 ≠ 0 then stateRequest (.reg true) (bits w 4 3) d else d)
  | 0x40 => some (d.winWrite (w % 2 ^ 12 + act / 2 ^ 15 * 2 ^ 15))
  | 0x700000 => some ((d.putFields r a w mask).when (bitAt act 9) (·.ethDown 0))
  | 0x700100 => some ((d.putFields r a w mask).when (bitAt act 9) (·.ethDown 1))
  | 0x780000 => some ((d.putFields r a w mask).when (bitAt act 5) (·.bxRestart 0))
  | 0x780100 => some ((d.putFields r a w mask).when (bitAt act 5) (·.bxRestart 1))
  | _ => none

/-- What a write of a register does beyond its plain fields. -/
def Dev.actingWrite (d : Dev) (r : RegDesc) (a w act mask : Nat) : Option Dev :=
  if a < 0x10000 then d.otherWrite r a w act mask
  else if a < 0x100000 then d.clockWrite r a w act mask
  else if a < 0x380000 then d.rangingWrite r a w act mask
  else if a < 0x400000 then d.droverWrite r a w act mask
  else if a < 0x500000 then d.adcWrite r a w act mask
  else d.otherWrite r a w act mask

/-! ## Event status (R472, R474) -/

/-- Sources of a group with route 2. -/
def Dev.irqpSources (d : Dev) (g : Nat) : Nat := maskOf 24 fun s => d.evtRoute g s = 2

/-- Clears event status bits: through the unprivileged view only those whose route is not 2 (R472). -/
def Dev.clearEvents (d : Dev) (priv : Bool) (g v : Nat) : Dev :=
  let keep := if priv then 0 else d.irqpSources g
  let old := d.get (F.EVT_STATUS g)
  d.set (F.EVT_STATUS g) (maskOf 24 fun s => bitAt old s && !(bitAt v s && !bitAt keep s))

/-- A write of EVT_STATUSg or events.gG.clear (R472, R479). -/
def evtStatusClear (via : Via) (g : Fin 13) (v : Nat) (d : Dev) : Dev :=
  match via with
  | .reg priv => d.clearEvents priv g v
  | .dict role => d.roleWrite role false fun d => d.clearEvents (role = .engineer) g v

/-- EVT_STATUS_CLEAR (R472). -/
def execEvtStatusClear (via : Via) (g : Fin 13) (v : Nat) (s : State) : Out := onDev (evtStatusClear via g v) s

/-! ## The bus (R466, R467) -/

/-- A register holds a field that only the privileged view writes: an rw-p field, or a wo field (R467). -/
def RegDesc.privileged (r : RegDesc) : Bool := r.fields.any fun x => x.acc = .rwp || x.acc = .wo

/-- A register holds a field writable in some view. -/
def RegDesc.anyWritable (r : RegDesc) : Bool := r.fields.any fun x => x.acc ≠ .ro

/-- ACQ_STATUS, whose writable bit is written through the privileged view only (R333). -/
def acqStatusAt (a : Nat) : Bool := 0x400400 ≤ a && a < 0x400500 && a % 0x40 = 0x1C

/-- A write of a defined register whose block runs. -/
def Dev.regWrite (d : Dev) (priv : Bool) (r : RegDesc) (a v mask : Nat) : Dev :=
  let act := Nat.land v mask
  if a = 0x34 then bootCtrlRun act d
  else if 0xA00000 ≤ a && a < 0xA000D0 && a % 16 = 0 then d.clearEvents priv ((a - 0xA00000) / 16) act
  else if !r.anyWritable then d.viewIgnored
  else if r.privileged || acqStatusAt a then
    if !priv then d.viewIgnored
    else
      let w := mergeWord (d.writable r a) v mask
      match d.actingWrite r a w act mask with
      | some x => x
      | none => d.putFields r a w mask
  else d.clearBits r a act

/-- The ledger and Toll blocks, read-only (R467). -/
def roBlock (a : Nat) : Bool := (0x340000 ≤ a && a < 0x380000) || (0x800000 ≤ a && a < 0x900000)

/-- The load buffer of recovery takes a word (R502). -/
def Dev.loadPut (d : Dev) (off v mask : Nat) : Dev :=
  let old := d.life.loadBuf ++ zeros (off + 4 - d.life.loadBuf.length)
  let w := mergeWord (rd 4 old off) v mask
  { d with life := { d.life with loadBuf := patch old off (be 4 w) } }

/-- A register write at an offset through a view, with a mask (R50, R54, R466, R467). -/
def Dev.busWrite (d : Dev) (priv : Bool) (addr v mask : Nat) : Dev :=
  let a := addr / 4 * 4 % 0x2000000
  if d.held then d
  else if d.romOnly then
    if !romServes a then d.unmapped
    else if 0x1000000 ≤ a then d.loadPut (a - 0x1000000) v mask
    else if a = 0x34 then bootCtrlRun (Nat.land v mask) d else d
  else if 0x1000000 ≤ a then (if priv then d.winPut (a - 0x1000000) v mask else d.viewIgnored)
  else
    let go (d : Dev) : Dev :=
      match regAt a with
      | none => (if roBlock a then d.viewIgnored else d).unmapped
      | some (r, _) => d.regWrite priv r a v mask
    let cross (d : Dev) : Dev := match d.brokenBridge a with
      | some r => d.bridgeError r
      | none => go d
    match blockOf a with
    | some b => if d.runs b then cross d else d.gatedHit b
    | none => cross d

/-- A register write by a master on chip or through a test path: the view is that of the operand. -/
def registerWrite (priv : Bool) (addr : Nat) (v mask : Word) (d : Dev) : Dev := d.busWrite priv addr v.toNat mask.toNat

/-- REGISTER_WRITE (R466). -/
def execRegisterWrite (priv : Bool) (addr : Nat) (v mask : Word) (s : State) : Out := onDev (registerWrite priv addr v mask) s

end Sys2Proof.Machine
end

