-- ==== Sys2Proof/Machine/Flefen.lean ====
section
/-! DEFINITION. Flefen requests, event messages and the host SPI target (R444–R459, R463–R465, R473, R476, R479, R502). -/

namespace Sys2Proof.Machine

/-! ## The path of a request -/

/-- A request arrives on its path: in an Ethernet frame, or taken from the SPI inbox or from the frames of the string's lead. Over
UDP there is no Flefen in recovery (R502). -/
def Dev.onPath (d : Dev) (h : ReqHdr) (op : Nat) (body : Bytes) (k : Req → Dev → Dev) : Dev :=
  let f := reqFrame h op body
  let q : Req := { path := h.path, src := h.src, port := h.rx.port, frame := f }
  match h.path with
  | .udp => d.rxFrame h.rx fun d => if d.flag F.BOOT_STATUS.RECOVERY then d else k q d
  | .spi =>
    let d1 := d.advanceTo h.rx.t
    if d1.flf.inbox = some f then k q { d1 with flf := { d1.flf with inbox := none } } else d1
  | .bx =>
    let d1 := d.advanceTo h.rx.t
    if d1.bx.inbox.contains f then k q { d1 with bx := { d1.bx with inbox := d1.bx.inbox.erase f } } else d1

/-- A request under the session rules. -/
def Dev.ask (d : Dev) (h : ReqHdr) (op : Nat) (body : Bytes) (act : Asker → Dev → Dev × Bytes × Bool) : Dev :=
  d.onPath h op body fun q d => d.request q act

/-- A result with the body that its success has, and another that it has when it is refused. -/
def Dev.bodies (d : Dev) (ok err : Bytes) : Dev × Bytes × Bool := (d, if d.flf.status = 0 then ok else err, false)

/-! ## READ (R449, R452) -/

/-- Index and subindex in a body. -/
def entKey (idx sub : Nat) : Bytes := be 2 idx ++ be 1 sub

/-- READ of an entry: the value in effect, and with status 0x05 the pending value. -/
def Dev.readEnt (d : Dev) (role idx sub : Nat) : Dev × Bytes × Bool :=
  match entOf idx sub with
  | none =>
    let c := match objAccess idx sub with
      | none => 1
      | some _ => if idx = 0x1200 then 2 else 3
    (d.answer c, entKey idx sub ++ zeros 1, false)
  | some e =>
    if e.acc = .wo then (d.answer 2, entKey idx sub ++ zeros 1, false)
    else
      let body := entKey idx sub ++ be 1 e.ty ++ d.entBytes role e
      match d.entPending e with
      | none => (d.answer 0, body, false)
      | some p => (d.answer 5, body ++ p, false)

/-- A READ request. -/
def flefenRead (h : ReqHdr) (idx sub : Nat) (d : Dev) : Dev :=
  d.ask h 0x01 (entKey idx sub ++ zeros 1) fun a d => d.readEnt a.role idx sub

/-- FLEFEN_READ (R449). -/
def execFlefenRead (hdr : ReqHdr) (idx sub : Nat) (s : State) : Out := onDev (flefenRead hdr idx sub) s

/-! ## WRITE and WRITE_GROUP (R449, R458, R459) -/

/-- Role by its number. -/
def roleOf (r : Nat) : Role := match r with | 0 => .observer | 1 => .operator | _ => .engineer

/-- A write of an entry that acts on the device, the recorder, the fuses, the Toll island or the event controller; `none` for every
other entry. Which fuses read back as blown is open (log 4). -/
def Dev.actEntry (d : Dev) (role : Nat) (idx sub v : Nat) : Option Dev :=
  let r := roleOf role
  match idx, sub with
  | 0x1005, 0 => some (softwareReset r v d)
  | 0x2500, 4 => some (recorderTrigger r v d)
  | 0x2500, 5 => some (recorderEject r v d)
  | 0x2500, 6 => some (recorderProtect r v d)
  | 0x4500, 1 => some (recorderFormat r v d)
  | 0x1400, 4 => some (firmwareHandover r v d)
  | 0x1400, 5 => some (firmwareConfirm r v d)
  | 0x1400, 7 => some (tollReload r v d)
  | 0x1400, 8 => some (configSave r v d)
  | 0x1200, 8 => some (blowFuse r v (Config.freeValue d.free % 16) { d with free := d.free + 1 })
  | 0x2800, 6 => some (safetyClearFaults r v d)
  | _, 2 => if 0x9000 ≤ idx && idx < 0x900D then some (evtStatusClear (.dict r) (Fin.ofNat 13 (idx - 0x9000)) v d) else none
  | _, _ => none

/-- Steps 1 to 6 of R458 for one write, and the write itself; the commit check is still to come. -/
def Dev.entWrite (d : Dev) (role idx sub ty : Nat) (val : Bytes) : Dev :=
  match entOf idx sub with
  | none => d.answer (match objAccess idx sub with | none => 1 | some a => if mayWrite role a then 3 else 2)
  | some e =>
    if !mayWrite role e.acc then d.answer 2
    else if ty ≠ e.ty || val.length ≠ tySize e.ty then d.answer 3
    else match d.actEntry role idx sub (ofBe val) with
      | some x => x
      | none => d.applyWrite e (ofBe val)

/-- A body that a commit report follows when the answer is 0x06. -/
def Dev.withReport (d : Dev) (body : Bytes) : Dev × Bytes × Bool :=
  (d, if d.flf.status = 6 then body ++ be 4 (d.get F.COMMIT_REPORT) else body, false)

/-- A WRITE: the commit check follows it, unless it acts by itself. What a refusal itself leaves (LAST_REJECT, the bit of a refused
write) stands; the write has no other effect. -/
def Dev.writeEnt (d : Dev) (role idx sub ty : Nat) (val : Bytes) : Dev × Bytes × Bool :=
  let n := d.entWrite role idx sub ty val
  (if (d.actEntry role idx sub (ofBe val)).isSome then n else d.committed n).withReport (entKey idx sub ++ zeros 1)

/-- A WRITE request. -/
def flefenWrite (h : ReqHdr) (idx sub ty : Nat) (val : Bytes) (d : Dev) : Dev :=
  d.ask h 0x02 (entKey idx sub ++ be 1 ty ++ val) fun a d => d.writeEnt a.role idx sub ty val

/-- FLEFEN_WRITE (R458). -/
def execFlefenWrite (hdr : ReqHdr) (idx sub ty : Nat) (val : Bytes) (s : State) : Out :=
  onDev (flefenWrite hdr idx sub ty val) s

/-- The writes of a group in order, each upon those before it: the device after them, or the number and status of the first that is
refused. -/
def Dev.groupWrites (role : Nat) : List (Nat × Nat × Nat × Bytes) → Nat → Dev → Dev ⊕ (Nat × Nat)
  | [], _, d => .inl d
  | w :: ws, i, d =>
    let n := d.entWrite role w.1 w.2.1 w.2.2.1 w.2.2.2
    if n.flf.status = 0 then Dev.groupWrites role ws (i + 1) n else .inr (i, n.flf.status)

/-- A WRITE_GROUP: all of its writes or none (R459). -/
def Dev.writeAll (d : Dev) (role : Nat) (ws : List (Nat × Nat × Nat × Bytes)) : Dev × Bytes × Bool :=
  if ws.length = 0 || 32 < ws.length then (d.answer 4, be 1 0xFF ++ zeros 3, false)
  else match Dev.groupWrites role ws 0 (d.answer 0) with
    | .inl n => (d.committed n).withReport (be 1 0xFF ++ zeros 3)
    | .inr r => (d.answer r.2).withReport (be 1 r.1 ++ zeros 3)

/-- A WRITE_GROUP request. -/
def writeGroup (h : ReqHdr) (ws : List (Nat × Nat × Nat × Bytes)) (d : Dev) : Dev :=
  d.ask h 0x03 (be 1 ws.length ++ zeros 3 ++ ws.flatMap fun w => entKey w.1 w.2.1 ++ be 1 w.2.2.1 ++ w.2.2.2) fun a d =>
    d.writeAll a.role ws

/-- WRITE_GROUP (R459). -/
def execWriteGroup (hdr : ReqHdr) (ws : List (Nat × Nat × Nat × Bytes)) (s : State) : Out := onDev (writeGroup hdr ws) s

/-! ## Segmented transfer (R463–R465) -/

/-- DOMAIN_OPEN: the answer carries the length, and for a read the CRC of its snapshot (R449). -/
def Dev.domainOpens (d : Dev) (a : Asker) (idx sub dir total : Nat) (crc : Option Nat) : Dev × Bytes × Bool :=
  if dir = 0 then
    let d1 := d.openRead a.owner idx sub
    match d1.transferOf a.owner with
    | some t => d1.bodies (be 4 t.total ++ be 4 t.crc) []
    | none => (d1, [], false)
  else if dir = 1 then
    match crc with
    | some c => (d.openWrite a.owner a.role idx sub total c).bodies (be 4 total) []
    | none => (d.answer 3, [], false)
  else (d.answer 4, [], false)

/-- A DOMAIN_OPEN request; one that reads may leave out the CRC. -/
def domainOpen (h : ReqHdr) (idx sub dir total : Nat) (crc : Option Nat) (d : Dev) : Dev :=
  d.ask h 0x10 (entKey idx sub ++ be 1 dir ++ be 4 total ++ (match crc with | some c => be 4 c | none => [])) fun a d =>
    d.domainOpens a idx sub dir total crc

/-- DOMAIN_OPEN (R463). -/
def execDomainOpen (hdr : ReqHdr) (idx sub dir total : Nat) (crc : Option Nat) (s : State) : Out :=
  onDev (domainOpen hdr idx sub dir total crc) s

/-- DOMAIN_SEGMENT: a write segment at another offset is answered with the expected one (R464). -/
def Dev.domainSegs (d : Dev) (a : Asker) (off : Nat) (body : Bytes) : Dev × Bytes × Bool :=
  match d.transferOf a.owner with
  | none => (d.answer 1, [], false)
  | some t =>
    if t.write then
      let d1 := d.writeSegment t off body
      (d1, be 4 (if d1.flf.status = 4 then t.data.length else off), d1.flf.status = 0 && off + body.length = t.total)
    else
      let d1 := d.readSegment t off body
      if d1.flf.status = 0 then
        (d1, be 4 off ++ (t.data.drop off).take (rd 2 body 0), t.total ≤ off + rd 2 body 0)
      else (d1, be 4 off, false)

/-- A DOMAIN_SEGMENT request. -/
def domainSegment (h : ReqHdr) (off : Nat) (body : Bytes) (d : Dev) : Dev :=
  d.ask h 0x11 (be 4 off ++ body) fun a d => d.domainSegs a off body

/-- DOMAIN_SEGMENT (R464). -/
def execDomainSegment (hdr : ReqHdr) (off : Nat) (body : Bytes) (s : State) : Out := onDev (domainSegment hdr off body) s

/-- A DOMAIN_CLOSE request; its answer carries the commit report. -/
def domainClose (h : ReqHdr) (action : Nat) (d : Dev) : Dev :=
  d.ask h 0x12 (be 1 action ++ zeros 3) fun a d =>
    let d1 := d.closeTransfer a.owner action
    (d1, be 4 (d1.get F.COMMIT_REPORT), false)

/-- DOMAIN_CLOSE (R465). -/
def execDomainClose (hdr : ReqHdr) (action : Nat) (s : State) : Out := onDev (domainClose hdr action) s

/-! ## Sessions (R453–R457) -/

/-- The key of a role (R456). -/
def Dev.roleKey (d : Dev) (role : Nat) : Bytes := keyBytes (if role = 2 then d.flf.engKey else d.flf.opKey)

/-- The limits of R455 leave no room for a session of a role. -/
def Dev.sessionsFull (d : Dev) (role : Nat) : Bool :=
  4 ≤ d.flf.sessions.countP (·.opened) || (role = 2 && d.flf.sessions.any fun s => s.opened && s.role = 2)

/-- Every SESSION number is taken (log 60). -/
def Dev.numbersGone (d : Dev) : Bool := 65535 ≤ d.flf.sessions.length

/-- The status code of a HELLO (R453, R455, R457). -/
def Dev.helloCode (d : Dev) (path : Carrier) (role : Nat) : Nat :=
  if role ≠ 1 && role ≠ 2 then 4
  else
    let field := d.flag F.FUSE_STATUS.FIELD_LOCK
    let spi := path = .spi
    if role = 2 && (if spi then d.flag F.FUSE_STATUS.LOCAL_LOCK else field) then 7
    else if role = 2 && spi && field && !d.flag F.FUSE_STATUS.LOCAL_MAINT then 2
    else if d.flf.lock.any (·.1 = role) || d.sessionsFull role || d.numbersGone then 9
    else 0

/-- The first session number from `i` on, in a circle of 65,535, that none holds. -/
def unusedId (used : List Nat) : Nat → Nat → Nat
  | 0, i => i % 65535 + 1
  | n + 1, i => if used.contains (i % 65535 + 1) then unusedId used n (i + 1) else i % 65535 + 1

/-- HELLO: assigns a SESSION that none holds and a fresh nonce; which number is open (log 4). -/
def Dev.hellos (d : Dev) (path : Carrier) (role : Nat) (nc : Bytes) : Dev × Bytes × Bool :=
  let c := d.helloCode path role
  if c ≠ 0 then (d.answer c, [], false)
  else
    let ids := d.flf.sessions.map (·.id)
    let id := unusedId ids ids.length (Config.freeValue d.free)
    let nd := (List.range 16).map (Config.nonceByte d.free)
    let s : Session := { id := id, role := role, nc := nc, nd := nd, t := d.up, spi := path = .spi }
    let d1 := { d with free := d.free + 1, flf := { d.flf with sessions := d.flf.sessions ++ [s] } }
    (d1.answer 0, be 2 id ++ zeros 2 ++ nd, false)

/-- A HELLO request. -/
def hello (h : ReqHdr) (role : Nat) (nc : Bytes) (d : Dev) : Dev :=
  d.ask h 0x20 (be 1 role ++ zeros 3 ++ nc) fun _ d => d.hellos h.path role nc

/-- HELLO (R453). -/
def execHello (hdr : ReqHdr) (role : Nat) (nc : Bytes) (s : State) : Out := onDev (hello hdr role nc) s

/-- A wrong proof for a role is counted; the third within 60 s locks HELLO for that role (R453). -/
def Dev.wrongProof (d : Dev) (role : Nat) : Dev :=
  let l := (role, d.up) :: d.flf.wrong.filter fun x => d.up ≤ x.2 + 60000000000
  let d1 := { d with flf := { d.flf with wrong := l } }
  if l.countP (·.1 = role) < 3 || d.flf.lock.any (·.1 = role) then d1
  else { d1 with flf := { d1.flf with lock := (role, d.up) :: d1.flf.lock } }

/-- The proof of a pending session (R453). -/
def Dev.proofOf (d : Dev) (s : Session) : Bytes := hmac (d.roleKey s.role) (ascii "FP" ++ s.nd ++ s.nc ++ be 2 s.id)

/-- The session key (R453). -/
def Dev.sessionKey (d : Dev) (s : Session) : Bytes := hmac (d.roleKey s.role) (ascii "FS" ++ s.nc ++ s.nd)

/-- A proof for a pending session: right, it opens the session; late or wrong, it discards it. -/
def Dev.proves (d : Dev) (q : Req) (s : Session) (proof : Bytes) : Dev :=
  let right := proof = d.proofOf s
  let d1 := d.endSession s.id
  if s.t + 10000000000 < d.up || !right then
    (d1.when (!right) fun d => d.wrongProof s.role).respond q none 2 [] false
  else if d.sessionsFull s.role then d1.respond q none 9 [] false
  else
    let key := d.sessionKey s
    (d.setSession { s with opened := true, key := key, seq := 1, t := d.up }).respond q (some key) 0 [] false

/-- A PROVE: for a pending session with SEQ 1 and no MAC; a session already open takes it as a request that its state refuses
(0x02). -/
def Dev.proveReq (d : Dev) (q : Req) (proof : Bytes) : Dev :=
  let f := q.frame
  if !d.diagnostic || !flefenOk f then d
  else match d.keptAnswer q with
    | some r => d.reply q r
    | none =>
      match d.flf.sessions.find? fun s => !s.opened && s.id = rd 2 f 4 with
      | some s => if frameMac f = [] && rd 4 f 8 = 1 then d.proves q s proof else d.rejectFrame
      | none => d.request q fun _ d => (d.answer 2, [], false)

/-- A PROVE request. -/
def prove (h : ReqHdr) (proof : Bytes) (d : Dev) : Dev := d.onPath h 0x21 proof fun q d => d.proveReq q proof

/-- PROVE (R453). -/
def execProve (hdr : ReqHdr) (proof : Bytes) (s : State) : Out := onDev (prove hdr proof) s

/-- 60 s after the wrong proofs HELLO for the role is accepted again (R453). -/
def helloLockoutEnd (role : Nat) (d : Dev) : Dev :=
  match d.flf.lock.find? (·.1 = role) with
  | none => d
  | some x =>
    let d1 := d.advanceTo (x.2 + 60000000000)
    { d1 with flf := { d1.flf with lock := d1.flf.lock.filter (·.1 ≠ role) } }

/-- HELLO_LOCKOUT_END (R453). -/
def execHelloLockoutEnd (role : Nat) (s : State) : Out := onDev (helloLockoutEnd role) s

/-- An END request closes its session; with SESSION 0 there is none to close. -/
def endSession (h : ReqHdr) (d : Dev) : Dev :=
  d.ask h 0x22 [] fun a d => if a.role = 0 then (d.answer 2, [], false) else ((d.endSession a.owner).answer 0, [], false)

/-- END (R455). -/
def execEndSession (hdr : ReqHdr) (s : State) : Out := onDev (endSession hdr) s

/-- A session has had no accepted frame for session.timeout seconds (R455). -/
def sessionTimeout (id : Nat) (d : Dev) : Dev :=
  match d.session id with
  | none => d
  | some s => (d.advanceTo (s.t + 1000000000 * d.get F.P.sessionTimeout)).endSession id

/-- SESSION_TIMEOUT (R455). -/
def execSessionTimeout (id : Nat) (s : State) : Out := onDev (sessionTimeout id) s

/-! ## Registers over Flefen (R449, R452) -/

/-- A write through the view that an address names; beyond both views nothing is defined (R466, R467). -/
def Dev.viewWrite (d : Dev) (priv : Bool) (addr v mask : Nat) : Dev :=
  if 0x4000000 ≤ addr then d.unmapped else d.busWrite priv (addr % 0x2000000) v mask

/-- REG_READ: 1 to 64 words. -/
def Dev.regReads (d : Dev) (addr count : Nat) : Dev × Bytes × Bool :=
  if count = 0 || 64 < count then (d.answer 4, [], false)
  else
    let r := d.busReads addr count
    (r.2.answer 0, r.1.flatMap (be 4), false)

/-- A REG_READ request. -/
def flefenRegRead (h : ReqHdr) (addr count : Nat) (d : Dev) : Dev :=
  d.ask h 0x30 (be 4 addr ++ be 1 count ++ zeros 3) fun _ d => d.regReads addr count

/-- FLEFEN_REG_READ (R449). -/
def execFlefenRegRead (hdr : ReqHdr) (addr count : Nat) (s : State) : Out := onDev (flefenRegRead hdr addr count) s

/-- ACQ_BUFBASE or ACQ_BUFSIZE, whose write is refused with a status (R343). -/
def bufferAt (a : Nat) : Bool := 0x400400 ≤ a && a < 0x400500 && (a % 0x40 / 4 = 5 || a % 0x40 / 4 = 6)

/-- A REG_WRITE request: in an engineer session through the view that its address names, in an operator's through the unprivileged
one. -/
def flefenRegWrite (h : ReqHdr) (addr val mask : Nat) (d : Dev) : Dev :=
  d.ask h 0x31 (be 4 addr ++ be 4 val ++ be 4 mask) fun a d =>
    if a.role = 0 then (d.answer 2, [], false)
    else
      let d1 := (d.answer 0).viewWrite (a.role = 2 && addr < 0x2000000) addr val mask
      (d1.answer (if bufferAt (addr % 0x2000000) then d1.flf.status else 0), [], false)

/-- FLEFEN_REG_WRITE (R449). -/
def execFlefenRegWrite (hdr : ReqHdr) (addr val mask : Nat) (s : State) : Out := onDev (flefenRegWrite hdr addr val mask) s

/-! ## Event messages (R473) -/

/-- The EVENT frame of a source: occurrences since its last message and the time of the latest. -/
def eventFrame (g s count t : Nat) : Bytes :=
  flefenHeader 0x40 0 0 0 0 0 14 ++ be 1 g ++ be 1 s ++ be 2 count ++ time80 t

/-- A frame goes to every subscriber, over port A or, with its link down, port B. -/
def Dev.toSubscribers (d : Dev) (f : Bytes) : Dev :=
  d.flf.subs.foldl (fun d x =>
    if x.1 = 0 then d
    else d.sendPair (if d.flag (F.ETH_STATUS.LINK 0) then 0 else 1) 5
      { dst := x.1, ports := d.get F.P.udpPort * 65536 + x.2, what := "event", tag := d.mgmtTag, data := f }) d

/-- The earliest instant of a further message of a source. -/
def Dev.afterMessage (d : Dev) (k : Nat) : Dev :=
  match Tab.find d.evt.lastMsg k with
  | some t => d.advanceTo (t + 10000000)
  | none => d

/-- An event message: a source with enable 1 and route 3 that has occurred since its last message, at the earliest 10 ms after
it. -/
def eventMessage (g s : Nat) (d : Dev) : Dev :=
  let k := 24 * g + s
  match Tab.find d.evt.due k with
  | none => d
  | some x =>
    if !d.diagnostic || !d.evtOn g s || d.evtRoute g s ≠ 3 then d
    else
      let d1 := d.afterMessage k
      let f := eventFrame g s x.1 x.2
      let d2 := { d1 with evt := { d1.evt with
        due := Tab.del d1.evt.due k, lastMsg := Tab.put d1.evt.lastMsg k d1.up, msgs := d1.evt.msgs ++ [f] } }
      let d3 := d2.outboxPut f
      if d3.flag F.BOOT_STATUS.RECOVERY then d3 else d3.toSubscribers f

/-- EVENT_MESSAGE (R473). -/
def execEventMessage (g : Fin 13) (src : Fin 24) (s : State) : Out := onDev (eventMessage g src) s

/-! ## The host SPI target (R446, R447, R502) -/

/-- The mailbox commands of the target are served: not in reset, and not by the boot ROM in recovery (R502). -/
def Dev.mailbox (d : Dev) : Bool := !d.held && !d.romOnly

/-- Bytes that an SPI command returns. -/
def Dev.spiReturn (d : Dev) (b : Bytes) : Dev := { d with flf := { d.flf with answer := b } }

/-- STATUS. -/
def spiStatus (d : Dev) : Dev :=
  if !d.mailbox then d
  else d.spiReturn (be 1 (nat (d.flf.outbox ≠ []) + 2 * nat d.flf.inbox.isNone + 4 * nat d.irq + 8 * nat d.irqp))

/-- SPI_STATUS (R446). -/
def execSpiStatus (s : State) : Out := onDev spiStatus s

/-- REG_READ: words from an address on, least significant byte first. -/
def spiRegRead (addr count : Nat) (d : Dev) : Dev :=
  if d.held then d
  else
    let r := d.busReads addr count
    r.2.spiReturn (r.1.flatMap fun w => (be 4 w).reverse)

/-- SPI_REG_READ (R446). -/
def execSpiRegRead (addr count : Nat) (s : State) : Out := onDev (spiRegRead addr count) s

/-- An engineer session is open on the SPI target (R447). -/
def Dev.spiEngineer (d : Dev) : Bool := d.flf.sessions.any fun s => s.opened && s.role = 2 && s.spi

/-- Writes of consecutive words, each through the view that R447 gives its address. -/
def Dev.spiWrites (addr : Nat) : List Word → Dev → Dev
  | [], d => d
  | w :: ws, d => Dev.spiWrites (addr + 4) ws (d.viewWrite (d.spiEngineer && addr < 0x2000000) addr w.toNat 0xFFFFFFFF)

/-- REG_WRITE. -/
def spiRegWrite (addr : Nat) (words : List Word) (d : Dev) : Dev := if d.held then d else Dev.spiWrites (addr / 4 * 4) words d

/-- SPI_REG_WRITE (R447). -/
def execSpiRegWrite (addr : Nat) (words : List Word) (s : State) : Out := onDev (spiRegWrite addr words) s

/-- FRAME_IN: one frame into the free inbox. -/
def frameIn (frame : Bytes) (d : Dev) : Dev :=
  if !d.mailbox || d.flf.inbox.isSome then d
  else d.arrive { path := .spi, src := 0, port := 0, frame := frame } fun d => { d with flf := { d.flf with inbox := some frame } }

/-- FRAME_IN (R446). -/
def execFrameIn (frame : Bytes) (s : State) : Out := onDev (frameIn frame) s

/-- FRAME_OUT: the oldest frame of the outbox, or 16 zero bytes. -/
def frameOut (d : Dev) : Dev :=
  if !d.mailbox then d
  else match d.flf.outbox with
    | [] => d.spiReturn (zeros 16)
    | f :: t => { d with flf := { d.flf with outbox := t } }.spiReturn f

/-- FRAME_OUT (R446). -/
def execFrameOut (s : State) : Out := onDev frameOut s

end Sys2Proof.Machine
end

