-- ==== Sys2Proof/Machine/Dispatch.lean ====
section
/-! DEFINITION. The meaning of each command: one arm per constructor. -/

namespace Sys2Proof.Machine

def exec (i : Instr) (s : State) : Host.Outcome State Fault Refusal :=
  match i with
  | .powerOnReset strapRef strapRcv localMaint => Sys2Proof.Machine.execPowerOnReset strapRef strapRcv localMaint s
  | .resetNAssert width => Sys2Proof.Machine.execResetNAssert width s
  | .resetNRelease strapRef strapRcv localMaint => Sys2Proof.Machine.execResetNRelease strapRef strapRcv localMaint s
  | .bootCtrlRun v => Sys2Proof.Machine.execBootCtrlRun v s
  | .softwareReset role v => Sys2Proof.Machine.execSoftwareReset role v s
  | .vddTollLoss => Sys2Proof.Machine.execVddTollLoss s
  | .vddTollGood => Sys2Proof.Machine.execVddTollGood s
  | .tollSelfTestDone logicOk procOk => Sys2Proof.Machine.execTollSelfTestDone logicOk procOk s
  | .supplyWarning supply => Sys2Proof.Machine.execSupplyWarning supply s
  | .refJudgeWindow count => Sys2Proof.Machine.execRefJudgeWindow count s
  | .refJudgeTimeout => Sys2Proof.Machine.execRefJudgeTimeout s
  | .pllLock => Sys2Proof.Machine.execPllLock s
  | .pllLossOfLock => Sys2Proof.Machine.execPllLossOfLock s
  | .clockReturn priv => Sys2Proof.Machine.execClockReturn priv s
  | .clearFault priv => Sys2Proof.Machine.execClearFault priv s
  | .logicClockStop => Sys2Proof.Machine.execLogicClockStop s
  | .clkGateWrite via v => Sys2Proof.Machine.execClkGateWrite via v s
  | .gateTakesEffect blk => Sys2Proof.Machine.execGateTakesEffect blk s
  | .ungateComplete blk => Sys2Proof.Machine.execUngateComplete blk s
  | .gatedBlockAccess blk write => Sys2Proof.Machine.execGatedBlockAccess blk write s
  | .bridgePeerReset bridge => Sys2Proof.Machine.execBridgePeerReset bridge s
  | .bridgeRelinkDone bridge => Sys2Proof.Machine.execBridgeRelinkDone bridge s
  | .tbNsRead => Sys2Proof.Machine.execTbNsRead s
  | .tbAdjWrite priv v => Sys2Proof.Machine.execTbAdjWrite priv v s
  | .tbAdjSecWrite priv v => Sys2Proof.Machine.execTbAdjSecWrite priv v s
  | .tbTrimWrite via v => Sys2Proof.Machine.execTbTrimWrite via v s
  | .timeSet role sec ns => Sys2Proof.Machine.execTimeSet role sec ns s
  | .acceptStep via v => Sys2Proof.Machine.execAcceptStep via v s
  | .slewComplete => Sys2Proof.Machine.execSlewComplete s
  | .ageingDayElapsed => Sys2Proof.Machine.execAgeingDayElapsed s
  | .ledgerDecision logicInTime procInTime => Sys2Proof.Machine.execLedgerDecision logicInTime procInTime s
  | .rowSelectEdge => Sys2Proof.Machine.execRowSelectEdge s
  | .monitorSlotStart => Sys2Proof.Machine.execMonitorSlotStart s
  | .nominalFireEdge => Sys2Proof.Machine.execNominalFireEdge s
  | .startEdge convoy input n q => Sys2Proof.Machine.execStartEdge convoy input n q s
  | .startWindowClose => Sys2Proof.Machine.execStartWindowClose s
  | .monitorEnergyDelivered base code et => Sys2Proof.Machine.execMonitorEnergyDelivered base code et s
  | .retRisingEdge ch n q => Sys2Proof.Machine.execRetRisingEdge ch n q s
  | .retFallingEdge ch n q => Sys2Proof.Machine.execRetFallingEdge ch n q s
  | .outriderInject => Sys2Proof.Machine.execOutriderInject s
  | .shotEnd => Sys2Proof.Machine.execShotEnd s
  | .stageTick => Sys2Proof.Machine.execStageTick s
  | .frameTick => Sys2Proof.Machine.execFrameTick s
  | .frameSyncOutEnd => Sys2Proof.Machine.execFrameSyncOutEnd s
  | .frameSyncInEdge t => Sys2Proof.Machine.execFrameSyncInEdge t s
  | .scheduleInstant => Sys2Proof.Machine.execScheduleInstant s
  | .stageLockStart => Sys2Proof.Machine.execStageLockStart s
  | .tickTimeout => Sys2Proof.Machine.execTickTimeout s
  | .seederTake => Sys2Proof.Machine.execSeederTake s
  | .echoRecordDone ch => Sys2Proof.Machine.execEchoRecordDone ch s
  | .stageBlockDone => Sys2Proof.Machine.execStageBlockDone s
  | .baleCoded stream => Sys2Proof.Machine.execBaleCoded stream s
  | .datagramLaunch port t => Sys2Proof.Machine.execDatagramLaunch port t s
  | .ledgerHoldoffEnd => Sys2Proof.Machine.execLedgerHoldoffEnd s
  | .armHighCheckExpiry stayedHigh => Sys2Proof.Machine.execArmHighCheckExpiry stayedHigh s
  | .armLowCheckExpiry low => Sys2Proof.Machine.execArmLowCheckExpiry low s
  | .armSettleExpiry => Sys2Proof.Machine.execArmSettleExpiry s
  | .emArmReadback high => Sys2Proof.Machine.execEmArmReadback high s
  | .emFaultRegistered => Sys2Proof.Machine.execEmFaultRegistered s
  | .emFaultRelease => Sys2Proof.Machine.execEmFaultRelease s
  | .controlTick => Sys2Proof.Machine.execControlTick s
  | .droverSenseStart => Sys2Proof.Machine.execDroverSenseStart s
  | .droverMeasureDone samples => Sys2Proof.Machine.execDroverMeasureDone samples s
  | .driveOutputUpdate => Sys2Proof.Machine.execDriveOutputUpdate s
  | .drvspiTransferDone => Sys2Proof.Machine.execDrvspiTransferDone s
  | .drvCtrlWrite via v => Sys2Proof.Machine.execDrvCtrlWrite via v s
  | .drvClearFaults priv => Sys2Proof.Machine.execDrvClearFaults priv s
  | .drvTickWrite via v => Sys2Proof.Machine.execDrvTickWrite via v s
  | .drvSetpointWrite via v => Sys2Proof.Machine.execDrvSetpointWrite via v s
  | .drvTestStart via v => Sys2Proof.Machine.execDrvTestStart via v s
  | .drvTestEnd => Sys2Proof.Machine.execDrvTestEnd s
  | .adcTimerExpiry conv => Sys2Proof.Machine.execAdcTimerExpiry conv s
  | .adcSeqStart via conv m => Sys2Proof.Machine.execAdcSeqStart via conv m s
  | .adcSeqBegin conv m => Sys2Proof.Machine.execAdcSeqBegin conv m s
  | .adcSeqEnd conv m samples => Sys2Proof.Machine.execAdcSeqEnd conv m samples s
  | .acqArm via unit => Sys2Proof.Machine.execAcqArm via unit s
  | .acqDisarm via unit => Sys2Proof.Machine.execAcqDisarm via unit s
  | .acqForce via unit => Sys2Proof.Machine.execAcqForce via unit s
  | .acqTrigger unit bits => Sys2Proof.Machine.execAcqTrigger unit bits s
  | .acqPostWindowEnd unit => Sys2Proof.Machine.execAcqPostWindowEnd unit s
  | .acqRearm unit => Sys2Proof.Machine.execAcqRearm unit s
  | .acqFifoDrain unit n => Sys2Proof.Machine.execAcqFifoDrain unit n s
  | .interpLock convoy => Sys2Proof.Machine.execInterpLock convoy s
  | .interpUnlock convoy => Sys2Proof.Machine.execInterpUnlock convoy s
  | .calStart via convoy => Sys2Proof.Machine.execCalStart via convoy s
  | .calDone convoy hits outr => Sys2Proof.Machine.execCalDone convoy hits outr s
  | .tisStart convoy priv v => Sys2Proof.Machine.execTisStart convoy priv v s
  | .tisRunDone convoy => Sys2Proof.Machine.execTisRunDone convoy s
  | .tisTimeout convoy => Sys2Proof.Machine.execTisTimeout convoy s
  | .rangingRestWrite role v => Sys2Proof.Machine.execRangingRestWrite role v s
  | .recalPeriodExpiry => Sys2Proof.Machine.execRecalPeriodExpiry s
  | .thermalReading r => Sys2Proof.Machine.execThermalReading r s
  | .throttleEval => Sys2Proof.Machine.execThrottleEval s
  | .substituteTimeout => Sys2Proof.Machine.execSubstituteTimeout s
  | .retirementStoreWrite ok => Sys2Proof.Machine.execRetirementStoreWrite ok s
  | .clearRetirement role v => Sys2Proof.Machine.execClearRetirement role v s
  | .scrubPass mem addr word => Sys2Proof.Machine.execScrubPass mem addr word s
  | .eccWriteback mem addr => Sys2Proof.Machine.execEccWriteback mem addr s
  | .conservationCheck => Sys2Proof.Machine.execConservationCheck s
  | .incidentInEdge t width => Sys2Proof.Machine.execIncidentInEdge t width s
  | .recorderTrigger role v => Sys2Proof.Machine.execRecorderTrigger role v s
  | .postWindowClose => Sys2Proof.Machine.execPostWindowClose s
  | .driveInserted => Sys2Proof.Machine.execDriveInserted s
  | .driveReady fmt4k space sb0 sb1 => Sys2Proof.Machine.execDriveReady fmt4k space sb0 sb1 s
  | .driveRemoved => Sys2Proof.Machine.execDriveRemoved s
  | .recorderEject role v => Sys2Proof.Machine.execRecorderEject role v s
  | .recorderFormat role v => Sys2Proof.Machine.execRecorderFormat role v s
  | .recorderProtect role v => Sys2Proof.Machine.execRecorderProtect role v s
  | .stateRequest via code => Sys2Proof.Machine.execStateRequest via code s
  | .firmwareHandover role v => Sys2Proof.Machine.execFirmwareHandover role v s
  | .handoverReady => Sys2Proof.Machine.execHandoverReady s
  | .handoverTimeout => Sys2Proof.Machine.execHandoverTimeout s
  | .firmwareConfirm role v => Sys2Proof.Machine.execFirmwareConfirm role v s
  | .confirmTimeExpiry => Sys2Proof.Machine.execConfirmTimeExpiry s
  | .stewardWatchdogExpiry => Sys2Proof.Machine.execStewardWatchdogExpiry s
  | .stewardCheckpoint => Sys2Proof.Machine.execStewardCheckpoint s
  | .tollReload role v => Sys2Proof.Machine.execTollReload role v s
  | .configSave role v => Sys2Proof.Machine.execConfigSave role v s
  | .configSaveDone => Sys2Proof.Machine.execConfigSaveDone s
  | .blowFuse role v confirmed => Sys2Proof.Machine.execBlowFuse role v confirmed s
  | .flefenRead hdr idx sub => Sys2Proof.Machine.execFlefenRead hdr idx sub s
  | .flefenWrite hdr idx sub ty val => Sys2Proof.Machine.execFlefenWrite hdr idx sub ty val s
  | .writeGroup hdr ws => Sys2Proof.Machine.execWriteGroup hdr ws s
  | .domainOpen hdr idx sub dir total crc => Sys2Proof.Machine.execDomainOpen hdr idx sub dir total crc s
  | .domainSegment hdr off body => Sys2Proof.Machine.execDomainSegment hdr off body s
  | .domainClose hdr action => Sys2Proof.Machine.execDomainClose hdr action s
  | .transferIdleTimeout owner => Sys2Proof.Machine.execTransferIdleTimeout owner s
  | .hello hdr role nc => Sys2Proof.Machine.execHello hdr role nc s
  | .prove hdr proof => Sys2Proof.Machine.execProve hdr proof s
  | .helloLockoutEnd role => Sys2Proof.Machine.execHelloLockoutEnd role s
  | .endSession hdr => Sys2Proof.Machine.execEndSession hdr s
  | .sessionTimeout id => Sys2Proof.Machine.execSessionTimeout id s
  | .flefenRegRead hdr addr count => Sys2Proof.Machine.execFlefenRegRead hdr addr count s
  | .flefenRegWrite hdr addr val mask => Sys2Proof.Machine.execFlefenRegWrite hdr addr val mask s
  | .eventMessage g src => Sys2Proof.Machine.execEventMessage g src s
  | .spiStatus => Sys2Proof.Machine.execSpiStatus s
  | .spiRegRead addr count => Sys2Proof.Machine.execSpiRegRead addr count s
  | .spiRegWrite addr words => Sys2Proof.Machine.execSpiRegWrite addr words s
  | .frameIn frame => Sys2Proof.Machine.execFrameIn frame s
  | .frameOut => Sys2Proof.Machine.execFrameOut s
  | .evtStatusClear via g v => Sys2Proof.Machine.execEvtStatusClear via g v s
  | .tblWinStart priv v => Sys2Proof.Machine.execTblWinStart priv v s
  | .tblWinCommit priv v => Sys2Proof.Machine.execTblWinCommit priv v s
  | .tblWinAbort priv v => Sys2Proof.Machine.execTblWinAbort priv v s
  | .safetyClearFaults role v => Sys2Proof.Machine.execSafetyClearFaults role v s
  | .registerWrite priv addr v mask => Sys2Proof.Machine.execRegisterWrite priv addr v mask s
  | .arpRequestRx f senderIp targetIp => Sys2Proof.Machine.execArpRequestRx f senderIp targetIp s
  | .arpReplyRx f senderIp => Sys2Proof.Machine.execArpReplyRx f senderIp s
  | .arpRetry ip => Sys2Proof.Machine.execArpRetry ip s
  | .arpCacheExpiry ip => Sys2Proof.Machine.execArpCacheExpiry ip s
  | .icmpEchoRx f srcIp body => Sys2Proof.Machine.execIcmpEchoRx f srcIp body s
  | .ethFrameDiscarded f => Sys2Proof.Machine.execEthFrameDiscarded f s
  | .leadFlefenForward f udpPort srcIp srcPort there frame => Sys2Proof.Machine.execLeadFlefenForward f udpPort srcIp srcPort there frame s
  | .ethLinkChange port up speed fec => Sys2Proof.Machine.execEthLinkChange port up speed fec s
  | .ethLinkRestart priv port => Sys2Proof.Machine.execEthLinkRestart priv port s
  | .prpSupervisionTx => Sys2Proof.Machine.execPrpSupervisionTx s
  | .prpSupervisionRx f node => Sys2Proof.Machine.execPrpSupervisionRx f node s
  | .prpNodeExpiry mac => Sys2Proof.Machine.execPrpNodeExpiry mac s
  | .lanMissingTimeout port => Sys2Proof.Machine.execLanMissingTimeout port s
  | .ptpSyncRx port m => Sys2Proof.Machine.execPtpSyncRx port m s
  | .ptpFollowUpRx port m => Sys2Proof.Machine.execPtpFollowUpRx port m s
  | .ptpDelayRespRx port m => Sys2Proof.Machine.execPtpDelayRespRx port m s
  | .ptpAnnounceRx port m => Sys2Proof.Machine.execPtpAnnounceRx port m s
  | .ptpSyncTx => Sys2Proof.Machine.execPtpSyncTx s
  | .ptpHoldoverTimeout announce => Sys2Proof.Machine.execPtpHoldoverTimeout announce s
  | .ppsInEdge t => Sys2Proof.Machine.execPpsInEdge t s
  | .ppsOutSecond => Sys2Proof.Machine.execPpsOutSecond s
  | .ppsOutWidthEnd => Sys2Proof.Machine.execPpsOutWidthEnd s
  | .bxBlockLock lane => Sys2Proof.Machine.execBxBlockLock lane s
  | .bxLockLoss lane => Sys2Proof.Machine.execBxLockLoss lane s
  | .bxPortRestart priv port => Sys2Proof.Machine.execBxPortRestart priv port s
  | .bxBringupTimeout port => Sys2Proof.Machine.execBxBringupTimeout port s
  | .bxRestartDelayEnd port => Sys2Proof.Machine.execBxRestartDelayEnd port s
  | .bxSpeedCountdownEnd port => Sys2Proof.Machine.execBxSpeedCountdownEnd port s
  | .bxAlignRx lane blk => Sys2Proof.Machine.execBxAlignRx lane blk s
  | .bxAlignTx port => Sys2Proof.Machine.execBxAlignTx port s
  | .bxCreditRx port blk => Sys2Proof.Machine.execBxCreditRx port blk s
  | .bxCreditTx port => Sys2Proof.Machine.execBxCreditTx port s
  | .bxTrainCapabilityRx port blk => Sys2Proof.Machine.execBxTrainCapabilityRx port blk s
  | .bxTrainUpdateRx lane blk ready => Sys2Proof.Machine.execBxTrainUpdateRx lane blk ready s
  | .bxTrainStatusRx lane blk => Sys2Proof.Machine.execBxTrainStatusRx lane blk s
  | .bxTrainStepRx port blk => Sys2Proof.Machine.execBxTrainStepRx port blk s
  | .bxTickRx port blk => Sys2Proof.Machine.execBxTickRx port blk s
  | .bxTimeRx port blk t => Sys2Proof.Machine.execBxTimeRx port blk t s
  | .bxTimeSecRx port blk => Sys2Proof.Machine.execBxTimeSecRx port blk s
  | .bxTimeTx => Sys2Proof.Machine.execBxTimeTx s
  | .bxTimeSecTx => Sys2Proof.Machine.execBxTimeSecTx s
  | .bxDelayReqTx port => Sys2Proof.Machine.execBxDelayReqTx port s
  | .bxDelayReqRx port blk t turn => Sys2Proof.Machine.execBxDelayReqRx port blk t turn s
  | .bxDelayRespRx port blk t => Sys2Proof.Machine.execBxDelayRespRx port blk t s
  | .bxDelayRespTimeout port => Sys2Proof.Machine.execBxDelayRespTimeout port s
  | .bxFlefenFrameRx port src dst data term => Sys2Proof.Machine.execBxFlefenFrameRx port src dst data term s
  | .bxForwardFrameRx port src data term => Sys2Proof.Machine.execBxForwardFrameRx port src data term s
  | .bxStatusFrameRx port src data term => Sys2Proof.Machine.execBxStatusFrameRx port src data term s
  | .safeInputSample ch levels t => Sys2Proof.Machine.execSafeInputSample ch levels t s
  | .tpWindowStart ch t => Sys2Proof.Machine.execTpWindowStart ch t s
  | .outputReadback ch rb => Sys2Proof.Machine.execOutputReadback ch rb s
  | .offPulseStart pair sw => Sys2Proof.Machine.execOffPulseStart pair sw s
  | .offPulseCheck pair sw high => Sys2Proof.Machine.execOffPulseCheck pair sw high s
  | .offPulseEnd pair sw => Sys2Proof.Machine.execOffPulseEnd pair sw s
  | .mailboxExchange logicDev procDev => Sys2Proof.Machine.execMailboxExchange logicDev procDev s
  | .mailboxMissingTimeout => Sys2Proof.Machine.execMailboxMissingTimeout s
  | .logicRayDecision ch => Sys2Proof.Machine.execLogicRayDecision ch s
  | .procRayDecision ch => Sys2Proof.Machine.execProcRayDecision ch s
  | .telegramTxPeriod t matched => Sys2Proof.Machine.execTelegramTxPeriod t matched s
  | .telegramChangeTx t matched => Sys2Proof.Machine.execTelegramChangeTx t matched s
  | .safeTelegramRx f srcIp srcPort dstPort bytes => Sys2Proof.Machine.execSafeTelegramRx f srcIp srcPort dstPort bytes s
  | .compareWindowEnd t => Sys2Proof.Machine.execCompareWindowEnd t s
  | .telegramWatchdog => Sys2Proof.Machine.execTelegramWatchdog s
  | .powerOnResetHold => Sys2Proof.Machine.execPowerOnResetHold s
  | .bootComplete => Sys2Proof.Machine.execBootComplete s
  | .tpLowEnd ch => Sys2Proof.Machine.execTpLowEnd ch s
  | .ptpDelayReqTx => Sys2Proof.Machine.execPtpDelayReqTx s
  | .ptpDelayReqRx port m => Sys2Proof.Machine.execPtpDelayReqRx port m s
  | .ptpAnnounceTx => Sys2Proof.Machine.execPtpAnnounceTx s
  | .stewardReloadDone steward => Sys2Proof.Machine.execStewardReloadDone steward s

end Sys2Proof.Machine
end

