-- ==== Sys2Proof/Safety.lean ====
section
/-! DEFINITION. What a safe state of the block is, in the terms the statements use: the laser is disarmed, the Toll outputs are
off, the register store and the tables are in their one canonical form, and the counts of the memory ring agree. -/

namespace Sys2Proof.Machine

/-- The laser is disarmed: at least one arm enable is off, so EM_ARM_N is high (R108, R109). -/
abbrev Dev.laserOff (d : Dev) : Prop := d.armed = false

/-- States in which an arm enable may be on: RANGING and DEGRADED, and SCAN while arming goes on (R30, R108, R424). -/
def mayArm (st : DevState) : Prop := st = .scan ∨ st = .ranging ∨ st = .degraded

/-- An arm enable is on, or an arming goes on, only where the device state admits it. -/
def Laser (st : DevState) (logic proc : Bool) (arming : Nat) : Prop := (logic = true ∨ proc = true ∨ arming ≠ 0) → mayArm st

/-- The arm enables agree with the device state. -/
abbrev Dev.laser (d : Dev) : Prop := Laser d.st d.led.logic.enable d.led.proc.enable d.led.arming

/-- Neither Toll channel closes a switch (R397, R418). -/
abbrev Dev.outputsOff (d : Dev) : Prop := d.toll.logic.switch = 0 ∧ d.toll.proc.switch = 0

/-- The output switches are open where they must be: in FAULT_STOP, before a configuration is accepted, and in a channel that is
without its supply or clock (R397, R398, R401, R418). -/
abbrev Dev.switchesSafe (d : Dev) : Prop :=
  (d.st = .faultStop → d.outputsOff) ∧ (d.toll.cfgOk = false → d.outputsOff) ∧ (d.toll.vddOk = false → d.toll.proc.switch = 0) ∧
    (d.clk.logicClk = false → d.toll.logic.switch = 0)

/-- Every session has a number of its own (R453); at most 4 are open, of which at most one is an engineer's (R455). -/
abbrev Dev.sessionsOk (d : Dev) : Prop :=
  (d.flf.sessions.map (·.id)).Nodup ∧ d.flf.sessions.countP (fun s => s.opened) ≤ 4 ∧ d.flf.sessions.countP (fun s => s.opened && s.role = 2) ≤ 1

/-- The register store is in its one canonical form, keys rising and no entry 0, and every field holds a value of its width
(R3). -/
abbrev RegsOk (r : Tab Nat) : Prop := Tab.canon r ∧ ∀ e ∈ r, e.2 < 2 ^ Fld.width e.1

/-- The form of what bounded stores hold: registers; at most 256 entries in the event log (R471, R479), 8 frames in the SPI outbox
(R446), 16 entries in the ARP cache (R377); at most one transfer for each requester (R463). -/
abbrev Wf (regs : Tab Nat) (log : List LogEnt) (outbox : List Bytes) (arp : List Arp) (transfers : List Transfer) : Prop :=
  RegsOk regs ∧ log.length ≤ 256 ∧ outbox.length ≤ 8 ∧ arp.length ≤ 16 ∧ (transfers.map (·.owner)).Nodup

/-- The block's stores keep their form. -/
abbrev Dev.wf (d : Dev) : Prop := Wf d.regs d.evt.log d.flf.outbox d.net.arp d.flf.transfers

/-- The parts of a Toll channel: 8 input pairs, 16 fields, 4 output pairs (R400, R418). -/
abbrev TollCh.sized (c : TollCh) : Prop :=
  c.pairs.length = 8 ∧ c.hCur.length = 16 ∧ c.bCur.length = 16 ∧ c.hPrev.length = 16 ∧ c.bPrev.length = 16 ∧ c.rays.length = 16 ∧
    c.hold.length = 16 ∧ c.rbBad.length = 4

/-- The parts of a Basxiop port, two lanes of each (R357). -/
abbrev BxPort.sized (p : BxPort) : Prop :=
  p.lanesLock.length = 2 ∧ p.alignSeen.length = 2 ∧ p.taps.length = 2 ∧ p.rdyTx.length = 2 ∧ p.rdyRx.length = 2

/-- The block has as many of each unit as the spec gives it: two converters of four sequences, four capture units, two output streams,
two Ethernet ports of six queues, two Basxiop ports, and the parts of the Toll channels. -/
abbrev Dev.sized (d : Dev) : Prop :=
  d.conv.length = 2 ∧ (∀ c ∈ d.conv, c.seqs.length = 4) ∧ d.acq.units.length = 4 ∧ d.streams.length = 2 ∧
    d.net.ports.length = 2 ∧ (∀ p ∈ d.net.ports, p.queues.length = 6) ∧
    d.bx.ports.length = 2 ∧ (∀ p ∈ d.bx.ports, p.sized) ∧ d.toll.logic.sized ∧ d.toll.proc.sized

/-- What can never be undone in non-volatile memory, from device `a` on: the serial number, the key hash and the fitted memory stay
(R341, R468, R499); the rollback counter does not fall (R499); a blown fuse stays blown (R476); a programmed engineer key stays as it
is (R456). -/
def Lasting (a : Dev) (serial : Nat) (keyHash : Bytes) (fitted rollback fuses : Nat) (engKey : Bytes) (engKeySet : Bool) : Prop :=
  serial = a.life.serial ∧ keyHash = a.life.keyHash ∧ fitted = a.life.fitted ∧ a.life.rollback ≤ rollback ∧
    (∀ i, bitAt a.life.fuses i = true → bitAt fuses i = true) ∧
    (a.flf.engKeySet = true → engKeySet = true ∧ engKey = a.flf.engKey)

/-- From `a` to `b` nothing lasting is undone. -/
abbrev Dev.lasts (a b : Dev) : Prop :=
  Lasting a b.life.serial b.life.keyHash b.life.fitted b.life.rollback b.life.fuses b.flf.engKey b.flf.engKeySet

/-- Tally balance of a buffer: every stop passed to it stands in a coarse bin or in OVF, until the range of either is left
(R210). -/
abbrev Buf.balanced (b : Buf) : Prop := (b.coarse.map (·.2)).sum + b.ovf = b.passed

/-- Ring blocks are free, filling, used or held, and none is lost (R344). -/
abbrev Rcd.balanced (r : Rcd) : Prop := r.free + r.blocks.length = r.total

/-! ## What a command does and what it leaves -/

/-- The command completes: `exec` answers a next state in which the queue is as before and `P` holds of the block. -/
def Does (i : Instr) (s : State) (P : Dev → Prop) : Prop := ∃ t, exec i s = .next { pending := s.pending, dev := t } ∧ P t

/-- The parts of the block, one for each field of `Dev`. -/
inductive DevPart where
  | st | want | wantFixed | lostTerms | causes | up | cyc | free | held | regs | dues | tabs | clutBasic | clutLater | clk | tb | seq
  | chans | cvys | cnt | ech | recs | seeds | fStore | pStore | led | drv | streams | net | bx | conv | acq | mon | rcd
  | toll | flf | evt | therm | life
  deriving DecidableEq, Repr

/-- A part holds the same in both. -/
def DevPart.same (p : DevPart) (a b : Dev) : Prop :=
  match p with
  | .st => b.st = a.st
  | .want => b.want = a.want
  | .wantFixed => b.wantFixed = a.wantFixed
  | .lostTerms => b.lostTerms = a.lostTerms
  | .causes => b.causes = a.causes
  | .up => b.up = a.up
  | .cyc => b.cyc = a.cyc
  | .free => b.free = a.free
  | .held => b.held = a.held
  | .regs => b.regs = a.regs
  | .dues => b.dues = a.dues
  | .tabs => b.tabs = a.tabs
  | .clutBasic => b.clutBasic = a.clutBasic
  | .clutLater => b.clutLater = a.clutLater
  | .clk => b.clk = a.clk
  | .tb => b.tb = a.tb
  | .seq => b.seq = a.seq
  | .chans => b.chans = a.chans
  | .cvys => b.cvys = a.cvys
  | .cnt => b.cnt = a.cnt
  | .ech => b.ech = a.ech
  | .recs => b.recs = a.recs
  | .seeds => b.seeds = a.seeds
  | .fStore => b.fStore = a.fStore
  | .pStore => b.pStore = a.pStore
  | .led => b.led = a.led
  | .drv => b.drv = a.drv
  | .streams => b.streams = a.streams
  | .net => b.net = a.net
  | .bx => b.bx = a.bx
  | .conv => b.conv = a.conv
  | .acq => b.acq = a.acq
  | .mon => b.mon = a.mon
  | .rcd => b.rcd = a.rcd
  | .toll => b.toll = a.toll
  | .flf => b.flf = a.flf
  | .evt => b.evt = a.evt
  | .therm => b.therm = a.therm
  | .life => b.life = a.life

/-- Every part but the listed ones is unchanged from `a` to `b`. -/
def Frame (ps : List DevPart) (a b : Dev) : Prop := ∀ p, p ∉ ps → p.same a b

/-- Every register field but the listed ones reads as before. -/
def Keeps (fs : List Fld) (a b : Dev) : Prop := ∀ f, f ∉ fs → b.get f = a.get f

/-- From `a` to `b` only the listed parts, and of the registers only the listed fields, may change. -/
def Touches (ps : List DevPart) (fs : List Fld) (a b : Dev) : Prop := Frame (.regs :: ps) a b ∧ Keeps fs a b

/-- An occurrence of source `s` of group `g` is recorded: its status bit is set and the newest entry of the event log is its own
(R471). -/
def Dev.occurred (d : Dev) (g s : Nat) : Prop :=
  bitAt (d.get (F.EVT_STATUS g)) s = true ∧ ∃ e l, d.evt.log = e :: l ∧ e.g = g ∧ e.s = s

end Sys2Proof.Machine
end

