-- ==== Sys2Proof/Certificates/Slice0/Obligations.lean ====
section
/-! DEFINITION. The statements for the provers, one for each `Obligations.<Name>`. In `Does i s P` the command `i` answers a next state with
the queue as before, of whose block `P` holds; `Frame`, `Keeps` and `Touches` say what is left as it was. A statement of one command
holds in every state whose stores have their form (`Dev.wf`) and, where the count of the units matters, whose units are as many as the spec
gives (`Dev.sized`); that every step keeps both is stated as well. -/

open Sys2Proof Sys2Proof.Machine

/-- A step is exec of the command at the front on the queue's rest; an empty queue lets 1 ns pass (the model's choice, log 1). -/
def Obligations.StepTakesFrontCommand : Prop :=
  (∀ (c : Instr) (rest : List Instr) (d : Dev), step { pending := c :: rest, dev := d } = exec c { pending := rest, dev := d }) ∧
  (∀ d : Dev, step { pending := [], dev := d } = .next { pending := [], dev := d.advance 1 }) ∧
  (∀ (s : State) (nbits w : Nat), decodeTableWord nbits w = none ∧ s.withFetchWord nbits w = s)

/-- Every command answers a next state and leaves the queue, in every state; a reset pulse of 100 ns to 1 µs alone stops (R546).
Where the spec leaves a point open it meets the model's choice of logs 50, 96. -/
def Obligations.EveryCommandCompletesButShortReset : Prop :=
  (∀ (i : Instr) (s : State),
    (∃ t, exec i s = .next { pending := s.pending, dev := t }) ∨
      ∃ w, i = .resetNAssert w ∧ 100 ≤ w ∧ w < 1000 ∧ exec i s = .fault .resetPulseUnspecified) ∧
  (∀ (s : State) (w : Nat), 100 ≤ w → w < 1000 → exec (.resetNAssert w) s = .fault .resetPulseUnspecified)

/-- Reserved register fields read 0 (R5). -/
def Obligations.ReservedBitsReadZero : Prop :=
  ∀ (d : Dev) (a i : Nat), d.wf →
    (∀ r, regAt a = some r → ∀ x ∈ r.1.fields, i < x.lo ∨ x.lo + x.w ≤ i) → bitAt (d.regWord a) i = false

/-- After reset: BOOT, nothing waits, outputs open, laser disarmed, and the registers at the reset values of their tables. Where
the spec leaves a point open it meets the model's choice of logs 2, 3. -/
def Obligations.RegistersAfterReset : Prop :=
  State.reset.pending = [] ∧ State.reset.dev.st = .boot ∧ State.reset.dev.outputsOff ∧ State.reset.dev.laserOff ∧
    ∀ e ∈ ([(F.DEV_ID.ID, 0x51200001), (F.CLK_STATUS.FALLBACK, 1), (F.CLK_GATE.BLOCK_EN, 0x1FFF), (F.CLK_GATE.CONVOY_EN, 0xFFFF),
      (F.GATE_STATE.RUNNING, 0x1FFFFFFF), (F.TB_CTRL.STEP_THRESHOLD, 100), (F.TB_CTRL.RUN, 1), (F.TB_SCHED_PERIOD, 100000),
      (F.TB_PPS.WIDTH, 100), (F.CVY_CTRL.OUTRIDER_EN 0, 1), (F.CVY_CTRL.OUTRIDER_EN 15, 1), (F.CVY_CTRL.ADAPT_EN 0, 1),
      (F.CVY_CTRL.ADAPT_EN 15, 1), (F.CVY_CTRL.DEAD_TIME 0, 4), (F.CVY_CTRL.DEAD_TIME 15, 4), (F.CVY_TOT.TOT_SLOPE 0, 16),
      (F.CVY_TOT.TOT_SLOPE 15, 16), (F.CVY_TOT.TOT_MAX 0, 320), (F.CVY_TOT.TOT_MAX 15, 320), (F.CVY_TOT.TOT_BASE 0, 64),
      (F.CVY_TOT.TOT_BASE 15, 64), (F.CVY_CAL.HITS_LOG2 0, 20), (F.CVY_CAL.HITS_LOG2 15, 20), (F.CVY_DRIFT_LIM.DRIFT_LIM 0, 48),
      (F.CVY_DRIFT_LIM.DRIFT_LIM 15, 48), (F.TIS_N 0, 0x400), (F.TIS_N 15, 0x400), (F.TALLY_CTRL.FLOOR_MODE, 2),
      (F.TALLY_CTRL.SEED_EXCL, 1), (F.TALLY_CTRL.ZOOM_DEFAULT, 3), (F.TALLY_CTRL.ZOOM_N, 8), (F.CFAR_CFG.MIN_SEP, 3),
      (F.CFAR_CFG.GUARD, 2), (F.CFAR_CFG.REF, 16), (F.CFAR_LEVEL.BETA, 0x200), (F.CFAR_LEVEL.ALPHA, 0x3000), (F.FLOOR_CFG.Q_FRAC,
      0x4000), (F.ZOOM_CFG.SEED_CONF, 32), (F.ZOOM_CFG.ZOOM_HALF, 8), (F.EM_CTRL.DRIVE, 1), (F.EM_CTRL.START0_EN, 1),
      (F.EM_TIMING.START_WIN, 64), (F.EM_TIMING.ROW_LEAD, 200), (F.LEDGER_STATUS.HOLDOFF, 1), (F.DRV_TICK.PERIOD, 10000),
      (F.DRV_TEST_CTRL.HOLD, 1), (F.ADC_CTRL.EN 0, 1), (F.ADC_CTRL.EN 1, 1), (F.ADC_MON.MON_WIN, 128), (F.ADC_MON.EN, 1),
      (F.ACQ_CTRL.DEC 0, 1), (F.ACQ_CTRL.DEC 3, 1), (F.OUT_CTRL.RECORD_STREAM, 1), (F.OUT_SCFG.MAX_ECHOES 0, 8),
      (F.OUT_SCFG.MAX_ECHOES 1, 8), (F.OUT_SCFG.HISTORY_RESET 0, 1), (F.OUT_SCFG.HISTORY_RESET 1, 1), (F.OUT_SCFG.COMPRESS 0, 1),
      (F.OUT_SCFG.COMPRESS 1, 1), (F.OUT_SPORT.SRC 0, 24690), (F.OUT_SPORT.SRC 1, 24691), (F.OUT_SPORT.DST 0, 24690),
      (F.OUT_SPORT.DST 1, 24691), (F.OUT_SRATE.RATE 0, 800), (F.OUT_SRATE.RATE 1, 800), (F.OUT_SLAUNCH.OFFSET 0, 2000),
      (F.OUT_SLAUNCH.OFFSET 1, 2000), (F.OUT_SMTU.MTU 0, 1500), (F.OUT_SMTU.MTU 1, 1500), (F.MEM_SCRUB.HOURS, 4),
      (F.ETH_CTRL.BASER_FEC 0, 1), (F.ETH_CTRL.BASER_FEC 1, 1), (F.ETH_CTRL.RS_FEC 0, 1), (F.ETH_CTRL.RS_FEC 1, 1),
      (F.ETH_CTRL.ADVERTISE 0, 7), (F.ETH_CTRL.ADVERTISE 1, 7), (F.ETH_CTRL.EN 0, 1), (F.ETH_CTRL.EN 1, 1), (F.NET_PRP.EN, 1),
      (F.NET_LAUNCH.LATE_TOL, 10), (F.PTP_CTRL.PRIORITY2, 0x80), (F.PTP_CTRL.PRIORITY1, 0x80), (F.PTP_CTRL.PORT_SELECT, 2),
      (F.PTP_CTRL.SLAVE_ONLY, 1), (F.SERVO_GAIN.KI, 26), (F.SERVO_GAIN.KP, 179), (F.SERVO_FMAX, 200000), (F.SERVO_LIM.UNLOCK_NS,
      1000), (F.SERVO_LIM.LOCK_NS, 100), (F.SERVO_PHASE, 1000), (F.BX_CTRL.LANE_EN 0, 3), (F.BX_CTRL.LANE_EN 1, 3),
      (F.BX_CTRL.MAX_SPEED 0, 3), (F.BX_CTRL.MAX_SPEED 1, 3), (F.BX_CTRL.EN 0, 1), (F.BX_CTRL.EN 1, 1), (F.BX_STRING.LATENCY,
      2000), (F.BX_STRING2.TIMEOUT, 1000), (F.BX_STRING2.SLIP_LIM, 100), (F.BX_FWD.FWD_DELAY, 10), (F.TOLL_STATUS.SAFE_STATE, 1),
      (F.THERM_STATUS.COVERAGE_LOST, 1)] : List (Fld × Nat)), State.reset.dev.get e.1 = e.2

/-- The state after reset meets every invariant stated of a step (R513). Where the spec leaves a point open it meets the model's
choice of logs 2, 3. -/
def Obligations.ResetMeetsTheInvariants : Prop :=
  State.reset.dev.wf ∧ State.reset.dev.sized ∧ State.reset.dev.laser ∧ State.reset.dev.switchesSafe ∧ State.reset.dev.rcd.balanced ∧
    State.reset.dev.sessionsOk

/-- After the reference is judged stable, a disagreeing window is a clock fault (R43). -/
def Obligations.DisagreeingWindowIsClockFault : Prop :=
  ∀ (s : State) (count : Nat), s.dev.wf → count < 65536 →
    (s.dev.clk.judging = false → s.dev.flag F.CLK_STATUS.REF_STABLE = true → (¬(25088 ≤ count ∧ count ≤ 26112)) →
      s.dev.st.ticks = false →
      Does (.refJudgeWindow count) s fun t =>
        t.get F.CLK_STATUS.LAST_COUNT = count ∧ t.get F.CLK_STATUS.STABLE_RUN = 0 ∧
        t.flag F.CLK_STATUS.CLOCK_FAULT = true ∧ t.occurred 1 1 ∧
        Touches [.evt, .life] [F.CLK_STATUS.LAST_COUNT, F.CLK_STATUS.STABLE_RUN, F.CLK_STATUS.CLOCK_FAULT, F.EVT_STATUS 1] s.dev t) ∧
    (s.dev.clk.judging = false → s.dev.flag F.CLK_STATUS.REF_STABLE = true → (¬(25088 ≤ count ∧ count ≤ 26112)) → (s.dev.st =
      .scan ∨ s.dev.st = .ranging ∨ s.dev.st = .degraded) →
      Does (.refJudgeWindow count) s fun t =>
        t.st = .safeHold ∧ t.flag F.CLK_STATUS.CLOCK_FAULT = true ∧ bitAt (t.get (F.EVT_STATUS 1)) 1 = true ∧
        .clockFault ∈ t.causes ∧ t.laserOff)

/-- A read of TB_NS latches the seconds that TB_SEC_LO and TB_SEC_HI return (R58). -/
def Obligations.TbNsReadLatchesSeconds : Prop :=
  ∀ (s : State), s.dev.wf →
    (∀ (n : Nat),
      Does .tbNsRead s fun t =>
        (t.advance n).regWord 0x20008 = s.dev.nowSec % 2 ^ 32 ∧ (t.advance n).regWord 0x2000C = s.dev.nowSec / 2 ^ 32 % 65536) ∧
    (s.dev.held = false → s.dev.romOnly = false →
      Does (.spiRegRead 0x20004 3) s fun t =>
        t.flf.answer = (be 4 (s.dev.nowNs % 1000000000)).reverse ++ (be 4 (s.dev.nowSec % 2 ^ 32)).reverse ++
          (be 4 (s.dev.nowSec / 2 ^ 32 % 65536)).reverse ∧
        t.tb = { s.dev.tb with shadow := s.dev.nowSec, shadowOn := true } ∧ Touches [.flf, .tb] [] s.dev t)

/-- A gated block reads 0, ignores writes, and each access marks it (R50). -/
def Obligations.GatedBlockReadsZeroIgnoresWrites : Prop :=
  ∀ (s : State) (b : Fin 29) (addr : Nat), s.dev.wf → s.dev.held = false → s.dev.romOnly = false → s.dev.runs b = false →
    blockOf (addr / 4 * 4 % 0x2000000) = some b.val → addr < 0x4000000 →
    (Does (.spiRegRead addr 1) s fun t =>
        t.flf.answer = zeros 4 ∧ bitAt (t.get F.GATED_ACCESS.HIT) b = true ∧
        Touches [.flf, .evt, .life] [F.GATED_ACCESS.HIT, F.EVT_STATUS 1] s.dev t) ∧
    (∀ (priv : Bool) (v m : Word),
      Does (.registerWrite priv addr v m) s fun t =>
        bitAt (t.get F.GATED_ACCESS.HIT) b = true ∧ Touches [.evt, .life] [F.GATED_ACCESS.HIT, F.EVT_STATUS 1] s.dev t)

/-- A request for BOOT, DEGRADED, FAULT_STOP or no state is refused (R39). -/
def Obligations.RequestForNoStateIsRefused : Prop :=
  ∀ (s : State) (code : Nat), s.dev.wf →
    ((code = 0 ∨ code = 4 ∨ code = 6 ∨ code = 7) →
      Does (.stateRequest (.reg true) code) s fun t => t.get F.DEV_STATE.LAST_REJECT = 1 ∧ t.st = s.dev.st) ∧
    (∀ (r : Role), Role.canWrite r false = true → 7 ≤ code → code < 256 →
      Does (.stateRequest (.dict r) code) s fun t => t.flf.status = 4 ∧ t.st = s.dev.st) ∧
    (∀ (r : Role), Role.canWrite r false = true → (code = 0 ∨ code = 4 ∨ code = 6) →
      Does (.stateRequest (.dict r) code) s fun t => t.flf.status = 8 ∧ t.st = s.dev.st ∧ t.get F.DEV_STATE.LAST_REJECT = 1)

/-- An accepted command telegram takes effect at once, and F24 follows it (R434). -/
def Obligations.AcceptedTelegramTakesEffect : Prop :=
  ∀ (s : State) (f : RxFrame) (ip sp dp : Nat) (bs : Bytes) (w : Copy), s.dev.wf → s.dev.ethRuns f.port = true → s.dev.vidOk
    f.vid = true → f.trailer = none → s.dev.takesTelegrams = true → bs.length = 64 → tgForm s.dev.toll.cfg ip dp bs = true →
    s.dev.toll.closed.contains (tgSeq bs) = false → s.dev.flag F.PTP_STATUS.LOCKED = false → s.dev.tgFresh bs = true →
    (s.dev.toll.wins.find? fun x => tgSeq x.bytes = tgSeq bs) = some w → w.port ≠ f.port.val → max s.dev.up f.t < w.t + cmpWin
    s.dev.toll.cfg → w.bytes = bs →
    (Does (.safeTelegramRx f ip sp dp bs) s fun t =>
        t.toll.remote = bitAt (rd 1 bs 0x20) 0 ∧ t.toll.mute = rd 2 bs 0x24 ∧ t.toll.rxLast = max s.dev.up f.t ∧
        ∀ c ∈ [TollChan.logic, .proc], t.fnDemand c 24 = (s.dev.toll.cfgOk && tgOn s.dev.toll.cfg && (bitAt (rd 1 bs 0x20) 0 || t.toll.lost)))

/-- Gating of blocks, gated accesses, and the bridges (R49, R50, R52, R53, R54, R55, R74). Where the spec leaves a point open
it meets the model's choice of logs 11, 39, 50, 99, 104. -/
def Obligations.GatesAndBridges : Prop :=
  (∀ (s : State), s.dev.wf →
    (∀ (v : Word), s.dev.gateRefused v.toNat = 0 →
      Does (.clkGateWrite (.reg true) v) s fun t =>
        t.get F.CLK_GATE.CONVOY_EN = v.toNat % 65536 ∧ t.get F.CLK_GATE.BLOCK_EN = v.toNat / 65536 % 8192 ∧
        (∀ b < 29, bitAt t.clk.gateReq b = true ↔
          bitAt v.toNat b = false ∧ (bitAt s.dev.clkGate b = true ∨ bitAt s.dev.clk.gateReq b = true)) ∧
        t.flag F.GATE_STATE.GATE_PENDING = decide (t.clk.gateReq ≠ 0) ∧
        Touches [.clk] [F.CLK_GATE.CONVOY_EN, F.CLK_GATE.BLOCK_EN, F.GATE_STATE.GATE_PENDING] s.dev t) ∧
    (∀ (v : Word), s.dev.gateRefused v.toNat ≠ 0 → v.toNat < 2 ^ 29 →
      Does (.clkGateWrite (.dict .engineer) v) s fun t =>
        t.flag F.GATE_STATE.GATE_REFUSED = true ∧ t.flf.status = 8 ∧ t.occurred 1 6 ∧
        Touches [.evt, .life, .flf] [F.GATE_STATE.GATE_REFUSED, F.EVT_STATUS 1] s.dev t) ∧
    (∀ (blk : Fin 29), bitAt s.dev.clk.gateReq blk = true →
      Does (.gateTakesEffect blk) s fun t =>
        s.dev.clk.gateReq = t.clk.gateReq + 2 ^ blk.val ∧ t.runs blk = false ∧
        (∀ b < 29, b ≠ blk.val → t.runs b = s.dev.runs b) ∧ t.flag F.GATE_STATE.GATE_PENDING = decide (t.clk.gateReq ≠ 0) ∧
        (blk.val < 16 → t.flag (F.CVY_STATUS.LOCKED blk) = false ∧ Touches [.clk, .cvys, .evt, .life]
          [F.GATE_STATE.RUNNING, F.GATE_STATE.GATE_PENDING, F.CVY_STATUS.LOCKED blk, F.EVT_STATUS (cvyGroup blk)] s.dev t) ∧
        (16 ≤ blk.val → blk.val ≠ 19 → blk.val ≠ 20 →
          Touches [.clk] [F.GATE_STATE.RUNNING, F.GATE_STATE.GATE_PENDING] s.dev t) ∧
        Frame [.regs, .clk, .cvys, .conv, .acq, .free, .rcd, .evt, .life] s.dev t) ∧
    (∀ (blk : Fin 29), bitAt s.dev.clkGate blk = true →
      Does (.ungateComplete blk) s fun t =>
        t.runs blk = true ∧ (∀ b < 29, b ≠ blk.val → t.runs b = s.dev.runs b) ∧
        (blk.val < 16 → Touches [.cvys] [F.GATE_STATE.RUNNING] s.dev t) ∧
        (16 ≤ blk.val → Touches [.conv] [F.GATE_STATE.RUNNING] s.dev t) ∧
        (16 ≤ blk.val → blk.val ≠ 19 → blk.val ≠ 20 → t.conv = s.dev.conv)) ∧
    (∀ (blk : Fin 29) (write : Bool), s.dev.runs blk = false →
      Does (.gatedBlockAccess blk write) s fun t =>
        bitAt (t.get F.GATED_ACCESS.HIT) blk = true ∧ t.occurred 1 5 ∧
        Touches [.evt, .life] [F.GATED_ACCESS.HIT, F.EVT_STATUS 1] s.dev t) ∧
    (∀ (blk : Fin 29) (write : Bool), s.dev.runs blk = true →
      Does (.gatedBlockAccess blk write) s fun t => t = s.dev)) ∧
  (∀ (s : State) (b : Fin 12), s.dev.wf →
    (Does (.bridgePeerReset b) s fun t =>
        bitAt (t.get F.BRIDGE_STATUS.PEER_RESET) b = true ∧ bitAt (t.get F.BRIDGE_STATUS.LINK_UP) b = false ∧
        t.clk = { s.dev.clk with bridges := upd s.dev.clk.bridges b fun x => { errs := x.errs + x.outstanding } } ∧
        (bitAt (s.dev.get F.BRIDGE_STATUS.PEER_RESET) b = false → t.occurred 1 7) ∧
        (∀ k < 12, k ≠ b.val → bitAt (t.get F.BRIDGE_STATUS.LINK_UP) k = bitAt (s.dev.get F.BRIDGE_STATUS.LINK_UP) k) ∧
        Touches [.clk, .evt, .life] [F.BRIDGE_STATUS.PEER_RESET, F.BRIDGE_STATUS.LINK_UP, F.EVT_STATUS 1] s.dev t) ∧
    (bitAt (s.dev.get F.BRIDGE_STATUS.LINK_UP) b = false →
      Does (.bridgeRelinkDone b) s fun t =>
        bitAt (t.get F.BRIDGE_STATUS.PEER_RESET) b = false ∧ bitAt (t.get F.BRIDGE_STATUS.LINK_UP) b = true ∧
        t.clk = { s.dev.clk with bridges := upd s.dev.clk.bridges b fun x => { x with req := 3, ack := 3 } } ∧
        (∀ k < 12, k ≠ b.val → bitAt (t.get F.BRIDGE_STATUS.LINK_UP) k = bitAt (s.dev.get F.BRIDGE_STATUS.LINK_UP) k) ∧
        Touches [.clk] [F.BRIDGE_STATUS.PEER_RESET, F.BRIDGE_STATUS.LINK_UP] s.dev t) ∧
    (bitAt (s.dev.get F.BRIDGE_STATUS.LINK_UP) b = true →
      Does (.bridgeRelinkDone b) s fun t => t = s.dev) ∧
    (s.dev.held = false → s.dev.romOnly = false → bitAt (s.dev.get F.BRIDGE_STATUS.LINK_UP) 2 = false →
      Does (.spiRegRead 0x800000 1) s fun t =>
        t.clk = { s.dev.clk with bridges := upd s.dev.clk.bridges 2 fun x => { x with errs := x.errs + 1 } } ∧ Touches [.flf, .clk, .free] [] s.dev t))

/-- Power-on reset, RESET_N and the software reset (R501, R512, R517, R527, R530, R546). Where the spec leaves a point open it
meets the model's choice of logs 88, 96. -/
def Obligations.WholeDeviceResets : Prop :=
  (∀ (s : State) (ref maint : Bool), s.dev.wf →
    (s.dev.life.rstLow = false →
      Does (.powerOnReset ref true maint) s fun t =>
        t.st = .boot ∧ t.up = 0 ∧ t.held = false ∧ t.get F.RESET_CAUSE.LAST = 1 ∧ t.life.boot = 2 ∧
        t.flag F.BOOT_STATUS.RECOVERY = true ∧ t.get F.BOOT_STATUS.RESULT = 0 ∧ t.occurred 0 2 ∧
        t.flag F.CLK_CTRL.REF_SELECT = ref ∧ t.clk.refSel = ref ∧ t.flag F.FUSE_STATUS.LOCAL_MAINT = maint ∧ s.dev.lasts t) ∧
    (s.dev.life.rstLow = false → s.dev.life.bootValid = true → s.dev.life.confirmed = true → s.dev.life.active < 2 →
      s.dev.life.flashRet = [] → s.dev.life.store = none →
      imageResult s.dev.life.keyHash s.dev.life.rollback (s.dev.slot s.dev.life.active) = 0 →
      Does (.powerOnReset ref false maint) s fun t =>
        t.st = .boot ∧ t.up = 0 ∧ t.held = false ∧ t.get F.RESET_CAUSE.LAST = 1 ∧ t.life.boot = 5 ∧
        t.flag F.BOOT_STATUS.RECOVERY = false ∧ t.get F.BOOT_STATUS.RESULT = 0 ∧
        t.get F.BOOT_STATUS.SLOT = s.dev.life.active ∧ t.flag F.BOOT_STATUS.CONFIRMED = true ∧
        bitAt (t.get (F.EVT_STATUS 0)) 11 = true ∧ t.flag F.CLK_CTRL.REF_SELECT = ref ∧ s.dev.lasts t) ∧
    (s.dev.life.rstLow = true →
      Does (.powerOnReset ref true maint) s fun t =>
        t.st = .boot ∧ t.up = 0 ∧ t.held = true ∧ t.life.boot = 0 ∧ t.get F.RESET_CAUSE.LAST = 1 ∧ s.dev.lasts t) ∧
    (Does .powerOnResetHold s fun t =>
        t.held = true ∧ t.life.por = true ∧ t.life.boot = 0 ∧ t.st = .boot ∧ t.up = 0 ∧ t.toll = s.dev.toll ∧
        t.life.tollFw = s.dev.life.tollFw ∧ s.dev.lasts t)) ∧
  (∀ (s : State) (width : Nat), s.dev.wf →
    (width < 100 →
      Does (.resetNAssert width) s fun t => t = s.dev) ∧
    (1000 ≤ width → s.dev.life.por = false →
      Does (.resetNAssert width) s fun t =>
        t.held = true ∧ t.life.boot = 0 ∧ t.life.rstLow = true ∧ t.get F.RESET_CAUSE.LAST = 2 ∧ t.st = .boot ∧ t.up = 0 ∧
        t.toll = { vddOk := s.dev.toll.vddOk } ∧ s.dev.lasts t) ∧
    (∀ (ref maint : Bool), s.dev.life.rstLow = true → s.dev.life.por = false →
      Does (.resetNRelease ref true maint) s fun t =>
        t.held = false ∧ t.life.rstLow = false ∧ t.life.boot = 2 ∧ t.flag F.BOOT_STATUS.RECOVERY = true ∧
        t.get F.BOOT_STATUS.RESULT = 0 ∧ t.flag F.CLK_CTRL.REF_SELECT = ref ∧ t.flag F.FUSE_STATUS.LOCAL_MAINT = maint ∧
        t.up = s.dev.up ∧ t.get F.RESET_CAUSE.LAST = s.dev.get F.RESET_CAUSE.LAST ∧ s.dev.lasts t) ∧
    (∀ (ref maint : Bool), s.dev.life.rstLow = true → s.dev.life.por = false → s.dev.flag F.BOOT_STATUS.RECOVERY = false →
      s.dev.life.bootValid = true → s.dev.life.confirmed = true → s.dev.life.active < 2 → s.dev.life.flashRet = [] →
      s.dev.life.store = none → imageResult s.dev.life.keyHash s.dev.life.rollback (s.dev.slot s.dev.life.active) = 0 →
      Does (.resetNRelease ref false maint) s fun t =>
        t.held = false ∧ t.life.rstLow = false ∧ t.life.boot = 5 ∧ t.flag F.BOOT_STATUS.RECOVERY = false ∧
        t.get F.BOOT_STATUS.RESULT = 0 ∧ t.get F.BOOT_STATUS.SLOT = s.dev.life.active ∧ t.flag F.CLK_CTRL.REF_SELECT = ref ∧
        s.dev.lasts t)) ∧
  (∀ (s : State) (v : Nat), s.dev.wf →
    (s.dev.life.strapRcv = false → s.dev.life.bootValid = true → s.dev.life.confirmed = true → s.dev.life.active < 2 →
      s.dev.life.flashRet = [] → s.dev.life.store = none →
      imageResult s.dev.life.keyHash s.dev.life.rollback (s.dev.slot s.dev.life.active) = 0 →
      Does (.softwareReset .engineer 0x5253) s fun t =>
        t.st = .boot ∧ t.up = 0 ∧ t.held = false ∧ t.get F.RESET_CAUSE.LAST = 3 ∧ t.life.boot = 5 ∧
        t.flag F.BOOT_STATUS.RECOVERY = false ∧ t.get F.BOOT_STATUS.SLOT = s.dev.life.active ∧ s.dev.lasts t) ∧
    (s.dev.life.strapRcv = true →
      Does (.softwareReset .engineer 0x5253) s fun t =>
        t.st = .boot ∧ t.up = 0 ∧ t.held = false ∧ t.get F.RESET_CAUSE.LAST = 3 ∧ t.life.boot = 2 ∧
        t.flag F.BOOT_STATUS.RECOVERY = true ∧ s.dev.lasts t) ∧
    (v ≠ 0x5253 →
      Does (.softwareReset .engineer v) s fun t => t = s.dev.answer 4) ∧
    (∀ r ∈ [Role.observer, .operator], Does (.softwareReset r v) s fun t => t = s.dev.answer 2))

/-- The end of boot, recovery, and the pair of stewards (R31, R487, R501, R502, R505, R506, R507, R516). Where the spec leaves a
point open it meets the model's choice of logs 50, 88, 89, 90. -/
def Obligations.BootAndStewards : Prop :=
  (∀ (s : State), s.dev.wf →
    (s.dev.life.boot = 5 → s.dev.st = .boot → s.dev.held = false → (s.dev.flag F.CLK_STATUS.FALLBACK = true ∨ s.dev.flag
      F.CLK_STATUS.PLL_LOCK = true) → s.dev.flag F.STEWARD_STATUS.STANDBY_READY = true →
      Does .bootComplete s fun t => t.st = .standby ∧ t.life.boot = 6) ∧
    (∀ (v : Nat), s.dev.flag F.BOOT_STATUS.RECOVERY = true → s.dev.life.recImage = false → v % 2 = 1 → 4096 + imgLength
      s.dev.life.loadBuf ≤ 2 ^ 21 → imageResult s.dev.life.keyHash s.dev.life.rollback s.dev.loadedImage = 0 →
      Does (.bootCtrlRun v) s fun t =>
        t.life.recImage = true ∧ t.life.boot = 5 ∧ t.get F.BOOT_STATUS.RESULT = 0 ∧
        Touches [.life] [F.BOOT_STATUS.RESULT, F.STEWARD_STATUS.SERVING, F.STEWARD_STATUS.STANDBY_READY] s.dev t) ∧
    (∀ (v : Nat), s.dev.flag F.BOOT_STATUS.RECOVERY = true → s.dev.life.recImage = false → v % 2 = 1 → 2 ^ 21 < 4096 +
      imgLength s.dev.life.loadBuf →
      Does (.bootCtrlRun v) s fun t =>
        t.get F.BOOT_STATUS.RESULT = 2 ∧ t.life.recImage = false ∧ t.life.boot = s.dev.life.boot ∧
        bitAt (t.get (F.EVT_STATUS 0)) 3 = true ∧ Touches [.life, .evt] [F.BOOT_STATUS.RESULT, F.EVT_STATUS 0] s.dev t)) ∧
  (∀ (s : State), s.dev.wf →
    (5 ≤ s.dev.life.boot → at' s.dev.life.stewRun (s.dev.get F.STEWARD_STATUS.SERVING) false = true → s.dev.flag
      F.STEWARD_STATUS.STANDBY_READY = true → s.dev.st.ticks = false → s.dev.life.checkpoint = [] → s.dev.life.handover = 0 →
      Does .stewardWatchdogExpiry s fun t =>
        t.get F.STEWARD_STATUS.SERVING = 1 - s.dev.get F.STEWARD_STATUS.SERVING ∧
        t.get F.RESET_CAUSE.STEWARD_RESETS = min 65535 (s.dev.get F.RESET_CAUSE.STEWARD_RESETS + 1) ∧
        t.flf.sessions = [] ∧ t.flf.transfers = []) ∧
    (∀ (u : Fin 2), 5 ≤ s.dev.life.boot → s.dev.life.recImage = false → s.dev.retiredUnit 8 u = false → u.val ≠ s.dev.get
      F.STEWARD_STATUS.SERVING → s.dev.life.fwRestart = false → s.dev.life.handover = 0 →
      Does (.stewardReloadDone u) s fun t =>
        t.flag F.STEWARD_STATUS.STANDBY_READY = true ∧
        t.life = { s.dev.life with stewRun := upd s.dev.life.stewRun u fun _ => true } ∧
        Touches [.life] [F.STEWARD_STATUS.STANDBY_READY] s.dev t) ∧
    (s.dev.st.ticks = false → 5 ≤ s.dev.life.boot →
      Does .stewardCheckpoint s fun t =>
        t.life.ckptDues = s.dev.dues ∧ t.life.ckptUp = s.dev.up ∧
        (∀ e ∈ t.life.checkpoint, s.dev.get e.1 = e.2 ∧ 0x10000000 ≤ Fld.addr e.1) ∧ Touches [.life] [] s.dev t))

/-- Firmware handover and confirmation, the configuration store, the fuses (R476, R497, R505, R506). Where the spec leaves a
point open it meets the model's choice of logs 31, 50, 62, 90, 91, 112. -/
def Obligations.FirmwareStoresAndFuses : Prop :=
  (∀ (s : State), s.dev.wf →
    (s.dev.flag F.STEWARD_STATUS.STANDBY_READY = true → s.dev.unconfirmed = false → imageResult s.dev.life.keyHash
      s.dev.life.rollback (s.dev.slot (1 - s.dev.life.active)) = 0 →
      Does (.firmwareHandover .engineer 1) s fun t =>
        t.life = { s.dev.life with handover := 1 } ∧ t.flag F.STEWARD_STATUS.HANDOVER_ACTIVE = true ∧
        t.flag F.STEWARD_STATUS.STANDBY_READY = false ∧ t.flf = { s.dev.flf with status := 0 } ∧
        Touches [.life, .flf] [F.STEWARD_STATUS.HANDOVER_ACTIVE, F.STEWARD_STATUS.STANDBY_READY] s.dev t) ∧
    (s.dev.life.handover = 1 → s.dev.st.ticks = false → imageResult s.dev.life.keyHash s.dev.life.rollback (s.dev.slot (1 -
      s.dev.life.active)) = 0 →
      Does .handoverReady s fun t =>
        t.life.handover = 3 ∧ t.life.active = 1 - s.dev.life.active ∧ t.life.confirmed = false ∧ t.life.tries = 0 ∧
        t.get F.STEWARD_STATUS.SERVING = 1 - s.dev.get F.STEWARD_STATUS.SERVING ∧ t.flag F.BOOT_STATUS.CONFIRMED = false ∧
        t.flag F.STEWARD_STATUS.HANDOVER_ACTIVE = false ∧ t.flag F.STEWARD_STATUS.STANDBY_READY = true ∧
        bitAt (t.get (F.EVT_STATUS 0)) 4 = true ∧ Frame [.regs, .life, .evt] s.dev t) ∧
    (s.dev.life.handover = 1 →
      Does .handoverTimeout s fun t =>
        t.life.handover = 0 ∧ t.flag F.STEWARD_STATUS.HANDOVER_ACTIVE = false ∧ t.occurred 0 5 ∧
        Touches [.life, .evt] [F.STEWARD_STATUS.HANDOVER_ACTIVE, F.EVT_STATUS 0] s.dev t) ∧
    (s.dev.life.confirmed = false → s.dev.life.handover = 0 →
      Does (.firmwareConfirm .engineer 1) s fun t =>
        t.life = { s.dev.life with
          confirmed := true, tries := 0, bootValid := true, rollback := max s.dev.life.rollback (rd 4 (s.dev.slot s.dev.life.active) 8)
          flash := { s.dev.life.flash with boot := s.dev.life.flash.boot.write bootOk t.life.bootBytes } } ∧
        t.flag F.BOOT_STATUS.CONFIRMED = true ∧ t.flf = { s.dev.flf with status := 0 } ∧
        Touches [.life, .flf] [F.BOOT_STATUS.CONFIRMED] s.dev t) ∧
    (6 ≤ s.dev.life.boot → s.dev.life.confirmed = false → s.dev.life.handover = 0 →
      Does .confirmTimeExpiry s fun t =>
        t.life = { s.dev.life with
          confirmed := true, tries := 0, bootValid := true, rollback := max s.dev.life.rollback (rd 4 (s.dev.slot s.dev.life.active) 8)
          flash := { s.dev.life.flash with boot := s.dev.life.flash.boot.write bootOk t.life.bootBytes } } ∧
        t.flag F.BOOT_STATUS.CONFIRMED = true ∧ Touches [.life] [F.BOOT_STATUS.CONFIRMED] s.dev t)) ∧
  (∀ (s : State), s.dev.wf →
    (s.dev.life.saving = none →
      Does (.configSave .engineer 1) s fun t =>
        ({ idx := 0x1200, sub := 5, ty := 11, val := if s.dev.flf.opKey = [] then zeros 32 else s.dev.flf.opKey } : Saved) ∈ t.life.saving.getD [] ∧
        t.life = { s.dev.life with saving := t.life.saving } ∧ t.flf = { s.dev.flf with status := 0 } ∧ Touches [.life, .flf] [] s.dev t) ∧
    (∀ (l : List Saved), s.dev.life.saving = some l →
      Does .configSaveDone s fun t => 
        t.life = { s.dev.life with
          store := some l, saving := none, flash := { s.dev.life.flash with cfg := s.dev.life.flash.cfg.write storeOk (storeBytes l) } } ∧
        Touches [.life] [] s.dev t) ∧
    (∀ (named confirmed : Nat), named < 16 → (bitAt named 1 = false ∨ bitAt named 0 = true ∨ bitAt s.dev.life.fuses 0 = true) →
      s.dev.st = .standby →
      Does (.blowFuse .engineer (0x46550000 + named) confirmed) s fun t =>
        (∀ i < 4, bitAt t.life.fuses i = true ↔ bitAt s.dev.life.fuses i = true ∨
          (bitAt named i = true ∧ bitAt confirmed i = true ∧ (i = 1 → bitAt t.life.fuses 0 = true))) ∧
        (t.flf.status = 0 ∨ t.flf.status = 9) ∧
        (t.flf.status = 0 ↔ ∀ i < 4, bitAt named i = true → bitAt t.life.fuses i = true) ∧
        t.life = { s.dev.life with fuses := t.life.fuses } ∧ Touches [.life, .flf] [] s.dev t))

/-- Supplies, the self-test of the Toll channels, and the Toll reload (R397, R399, R401, R480, R508, R512, R530, R531). Where the
spec leaves a point open it meets the model's choice of logs 73, 92. -/
def Obligations.TollSupplyAndReload : Prop :=
  ∀ (s : State), s.dev.wf →
    (∀ (supply : Fin 4), s.dev.held = false →
      Does (.supplyWarning supply) s fun t => t.occurred 11 6 ∧ Touches [.evt, .life] [F.EVT_STATUS 11] s.dev t) ∧
    (s.dev.st.ticks = false →
      Does .vddTollLoss s fun t =>
        t.toll.vddOk = false ∧ t.outputsOff ∧ t.laserOff ∧ t.flag F.EM_STATUS.ROW_VALID = false ∧
        Touches [.toll, .led] [F.EM_STATUS.ROW_VALID] s.dev t) ∧
    (s.dev.st.ticks = true →
      Does .vddTollLoss s fun t => t.st = .safeHold) ∧
    (s.dev.toll.vddOk = false →
      Does .vddTollGood s fun t =>
        t.toll = { vddOk := true } ∧ t.laserOff ∧ t.led.actCyc = none ∧ t.led.logic.sums = [] ∧ t.led.proc.sums = [] ∧
        t.flag F.TOLL_STATUS.SAFE_STATE = true ∧ t.flag F.LEDGER_STATUS.HOLDOFF = true ∧ t.get (F.EVT_STATUS 12) = 0 ∧
        Frame [.regs, .toll, .led, .life] s.dev t) ∧
    (s.dev.toll.logic.testing = true → s.dev.logicRuns = true → s.dev.procRuns = true → s.dev.st.ticks = false →
      s.dev.life.boot < 5 →
      Does (.tollSelfTestDone true true) s fun t =>
        t.toll = { s.dev.toll with
          logic := { s.dev.toll.logic with testing := false, selfOk := true }
          proc := { s.dev.toll.proc with testing := false, selfOk := true } } ∧
        t.life = { s.dev.life with tollReload := false } ∧ Touches [.toll, .life] [] s.dev t) ∧
    (∀ (a b : Bool), (a && b) = false → s.dev.toll.logic.testing = true → s.dev.logicRuns = true → s.dev.procRuns = true →
      Does (.tollSelfTestDone a b) s fun t => t.st = .faultStop) ∧
    ((s.dev.st = .standby ∨ s.dev.st = .safeHold) → s.dev.life.confirmed = true →
      Does (.tollReload .engineer 1) s fun t =>
        t.life.tollReload = true ∧ t.toll = { vddOk := s.dev.toll.vddOk } ∧ t.laserOff ∧ t.led.actCyc = none ∧
        t.flag F.BOOT_STATUS.TOLL_PENDING = false ∧ t.flf.status = 0 ∧ Frame [.regs, .toll, .led, .life, .flf] s.dev t) ∧
    (s.dev.st ≠ .standby → s.dev.st ≠ .safeHold →
      Does (.tollReload .engineer 1) s fun t => t = s.dev.answer 8)

/-- Arming of the laser, its read-back, and EM_FAULT_N (R102, R108, R110, R424, R425). Where the spec leaves a point open it meets
the model's choice of logs 9, 50. -/
def Obligations.ArmingAndEmitterFault : Prop :=
  (∀ (s : State), s.dev.wf →
    (∀ (a : Nat), s.dev.led.actCyc = some a → s.dev.flag F.LEDGER_STATUS.HOLDOFF = true → s.dev.rootRuns = true →
      Does .ledgerHoldoffEnd s fun t =>
        t.flag F.LEDGER_STATUS.HOLDOFF = false ∧ t.cyc = max s.dev.cyc (a + 65 * bucketLen (s.dev.tab 0x7005) 2) ∧ t.occurred 6 4 ∧
        Touches [.up, .cyc, .tb, .evt, .life] [F.LEDGER_STATUS.HOLDOFF, F.EVT_STATUS 6] s.dev t) ∧
    (s.dev.led.arming = 1 →
      Does (.armHighCheckExpiry true) s fun t =>
        t.up = max s.dev.up (s.dev.led.armAt + 10000) ∧
        t.led = { s.dev.led with arming := 2, armAt := t.up, proc := { s.dev.led.proc with enable := true } } ∧
        Touches [.led, .up, .cyc, .tb] [] s.dev t) ∧
    (s.dev.led.arming = 1 →
      Does (.armHighCheckExpiry false) s fun t => t.st = .faultStop) ∧
    (s.dev.led.arming = 2 →
      Does (.armLowCheckExpiry true) s fun t => t.led = { s.dev.led with arming := 3 } ∧ Touches [.led] [] s.dev t) ∧
    (s.dev.led.arming = 2 →
      Does (.armLowCheckExpiry false) s fun t =>
        t.laserOff ∧ t.led.arming = 0 ∧ t.want = none ∧ t.get F.DEV_STATE.LAST_REJECT = 4 ∧ t.occurred 12 6 ∧
        Touches [.led, .want, .wantFixed, .evt, .life] [F.EM_STATUS.ROW_VALID, F.DEV_STATE.LAST_REJECT, F.EVT_STATUS 12] s.dev t) ∧
    (s.dev.led.arming = 3 →
      Does .armSettleExpiry s fun t =>
        t.led = { s.dev.led with arming := 4 } ∧ t.up = max s.dev.up (s.dev.led.armAt + 1000 * s.dev.get F.P.armSettle) ∧
        Touches [.led, .up, .cyc, .tb] [] s.dev t) ∧
    (s.dev.laserOff →
      Does (.emArmReadback false) s fun t => t.st = .faultStop) ∧
    (Does (.emArmReadback true) s fun t => t = s.dev)) ∧
  (∀ (s : State), s.dev.wf →
    (s.dev.flag F.EM_STATUS.EM_FAULT = false → 4 ≤ s.dev.life.boot →
      Does .emFaultRegistered s fun t =>
        t.flag F.EM_STATUS.EM_FAULT = true ∧ t.get F.EM_FAULT_COUNT = (s.dev.get F.EM_FAULT_COUNT + 1) % 2 ^ 32 ∧ t.occurred 6 3 ∧
        Touches [.evt, .life] [F.EM_STATUS.EM_FAULT, F.EM_FAULT_COUNT, F.EVT_STATUS 6] s.dev t) ∧
    (s.dev.flag F.EM_STATUS.EM_FAULT = true →
      Does .emFaultRelease s fun t =>
        t.flag F.EM_STATUS.EM_FAULT = false ∧ t.seq = { s.dev.seq with emLoss := false } ∧ Touches [.seq] [F.EM_STATUS.EM_FAULT] s.dev t))

/-- Requests for a device state, and writes that a role may not make (R31, R61, R62, R346, R353, R356, R444, R461, R476, R487,
R497, R505, R506, R508, R509). Where the spec leaves a point open it meets the model's choice of logs 42, 69. -/
def Obligations.StateRequestsAndRoles : Prop :=
  ∀ (s : State) (code : Nat), s.dev.wf →
    ((s.dev.st = .ranging ∨ s.dev.st = .degraded) → (code = 1 ∨ code = 2) →
      Does (.stateRequest (.reg true) code) s fun t =>
        t.want = some (if code = 1 then .standby else .scan) ∧ t.get F.DEV_STATE.REQUEST = code ∧ t.get F.DEV_STATE.LAST_REJECT = 0 ∧
        Touches [.want] [F.DEV_STATE.REQUEST, F.DEV_STATE.LAST_REJECT] s.dev t) ∧
    (s.dev.st = .standby → s.dev.diagnostic = true → s.dev.axes ≠ 0 → s.dev.droverLocked = false →
      Does (.stateRequest (.dict .operator) 2) s fun t =>
        t.want = some .scan ∧ t.get F.DEV_STATE.REQUEST = 2 ∧ t.get F.DEV_STATE.LAST_REJECT = 0 ∧ t.flf = { s.dev.flf with status := 0 } ∧
        Touches [.want, .flf] [F.DEV_STATE.REQUEST, F.DEV_STATE.LAST_REJECT] s.dev t) ∧
    (s.dev.st = .safeHold → (s.dev.set F.DEV_STATE.REQUEST 1).causesClear = true → s.dev.causesClear = true →
      Does (.stateRequest (.reg true) 1) s fun t => t.st = .standby ∧ t.want = none) ∧
    ((code = 0 ∨ 4 ≤ code ∧ code < 8) →
      Does (.stateRequest (.reg true) code) s fun t =>
        t.get F.DEV_STATE.REQUEST = code ∧ t.get F.DEV_STATE.LAST_REJECT = 1 ∧
        Touches [] [F.DEV_STATE.REQUEST, F.DEV_STATE.LAST_REJECT] s.dev t) ∧
    (∀ i ∈ [Instr.stateRequest (.dict .observer) code, .rangingRestWrite .observer code, .clearRetirement .operator code, .tollReload .operator code,
          .firmwareHandover .operator code, .firmwareConfirm .operator code, .configSave .operator code, .blowFuse .operator code 15,
          .timeSet .observer code 0, .acceptStep (.dict .observer) code, .recorderEject .observer code, .recorderFormat .observer code,
          .recorderProtect .observer code, .recorderTrigger .observer code, .safetyClearFaults .observer code],
        Does i s fun t => t = s.dev.answer 2)

/-- The Drover control tick from its start to its outputs (R121, R123, R124, R126, R128, R129, R312, R313). Where the spec
leaves a point open it meets the model's choice of logs 13, 48, 51, 52, 107. -/
def Obligations.DroverControlTick : Prop :=
  ∀ (s : State), s.dev.wf →
    (s.dev.drvRuns = true → s.dev.dues = [] →
      Does .controlTick s fun t =>
        t.cyc = s.dev.nextControl ∧ s.dev.cyc ≤ t.cyc ∧ t.drv.tickCyc = t.cyc ∧ t.drv.ticks = s.dev.drv.ticks + 1 ∧
        t.drv.tick.axes = s.dev.axes ∧ t.drv.phase = (if t.drv.measures = 0 then 3 else 1) ∧
        t.get F.DRV_STATUS.MODE_ACTIVE = s.dev.drvMode) ∧
    (s.dev.drvRuns = true → s.dev.axes = 0 → s.dev.dues = [] → s.dev.flag F.DRV_STATUS.LOCKED = false →
      Does .controlTick s fun t =>
        t.get F.DRV_STATUS.MODE_ACTIVE = 0 ∧ t.drv.phase = 3 ∧ t.drv.u = [0, 0] ∧ t.drv.z = [0, 0] ∧
        Frame [.regs, .up, .cyc, .tb, .drv, .conv, .acq, .free, .rcd, .evt, .life] s.dev t) ∧
    (s.dev.drv.phase = 1 → s.dev.sized →
      Does .droverSenseStart s fun t =>
        t.drv = { s.dev.drv with phase := 2 } ∧ (t.convN 1).slot = true ∧ (t.convN 1).slotIn = (s.dev.drv.measSet 0).input ∧
        (t.convN 1).slotGain = (s.dev.drv.measSet 0).gain ∧ (t.convN 1).powered = true ∧
        (s.dev.acqRuns = false → Touches [.drv, .conv, .up, .cyc, .tb, .free] [F.ADC_PREEMPT 1] s.dev t)) ∧
    (∀ (samples : List (List Word)), s.dev.drv.phase = 2 →
      Does (.droverMeasureDone samples) s fun t =>
        t.drv.phase = 3 ∧ t.drv.ticks = s.dev.drv.ticks ∧
        (s.dev.get F.DRV_STATUS.MODE_ACTIVE = 0 → t.drv.u = [0, 0] ∧ t.drv.z = [0, 0] ∧ t.drv.xhat = [0, 0, 0, 0, 0, 0, 0, 0] ∧
          t.get F.DRV_STATUS.SAT = 0 ∧ t.flag F.DRV_STATUS.RESIDUE = false ∧ t.st = s.dev.st) ∧
        (s.dev.get F.DRV_STATUS.MODE_ACTIVE = 1 → t.st = s.dev.st ∧ ∀ j < 2, j < s.dev.drv.tick.axes →
          at' t.drv.u j 0 = clampI (at' s.dev.drv.tick.manual j 0) (drvAxis s.dev.drv.tick.cfg j 2) (drvAxis s.dev.drv.tick.cfg j 3)) ∧
        (s.dev.get F.DRV_STATUS.MODE_ACTIVE = 2 → ∀ j < 2, j < s.dev.drv.tick.axes →
          drvAxis s.dev.drv.tick.cfg j 2 ≤ drvAxis s.dev.drv.tick.cfg j 3 →
          drvAxis s.dev.drv.tick.cfg j 2 ≤ at' t.drv.u j 0 ∧ at' t.drv.u j 0 ≤ drvAxis s.dev.drv.tick.cfg j 3)) ∧
    (s.dev.drv.phase = 3 → s.dev.flag F.DRVSPI_CFG.EN = false →
      Does .driveOutputUpdate s fun t =>
        t.drv.phase = 0 ∧ t.drv.spi = [] ∧ t.getS F.DRV_OUTPUT.U0 = angle16 (at' s.dev.drv.u 0 0) ∧
        t.getS F.DRV_OUTPUT.U1 = angle16 (at' s.dev.drv.u 1 0) ∧
        t.drv = { s.dev.drv with phase := 0, spi := [], code := t.drv.code } ∧
        Touches [.drv, .up, .cyc, .tb] [F.DRV_OUTPUT.U0, F.DRV_OUTPUT.U1] s.dev t) ∧
    (s.dev.drv.phase = 4 →
      Does .drvspiTransferDone s fun t =>
        t.drv = { s.dev.drv with spiLast := s.dev.drv.spi, spi := [], phase := 0 } ∧ Touches [.drv, .up, .cyc, .tb] [] s.dev t)

/-- Writes of the Drover registers and its test (R123, R137, R140, R147, R149). Where the spec leaves a point open it meets the
model's choice of logs 50, 53, 54. -/
def Obligations.DroverRegistersAreWritten : Prop :=
  ∀ (s : State) (v : Word), s.dev.wf →
    (s.dev.runs 18 = true → s.dev.st = .standby →
      Does (.drvCtrlWrite (.reg true) v) s fun t =>
        t.get F.DRV_CTRL.MODE = v.toNat / 4 % 4 ∧ t.get F.DRV_CTRL.TARGET_SRC = v.toNat / 16 % 2 ∧
        t.get F.DRV_CTRL.SCHED = v.toNat / 128 % 2 ∧ t.get F.DRV_CTRL.FORCE_SET = v.toNat / 256 % 8 ∧
        t.get F.DRV_CTRL.TARGET_LEAD = v.toNat / 4096 % 4 ∧
        Touches [.dues] [F.DRV_CTRL.AXES, F.DRV_CTRL.MODE, F.DRV_CTRL.TARGET_SRC, F.DRV_CTRL.SCHED, F.DRV_CTRL.FORCE_SET,
          F.DRV_CTRL.TARGET_LEAD] s.dev t) ∧
    (s.dev.runs 18 = true →
      Does (.drvClearFaults true) s fun t =>
        t.flag F.DRV_STATUS.SENSOR_FAULT = false ∧ t.flag F.DRV_STATUS.INNOV_FAULT = false ∧ t.flag F.DRV_STATUS.NUM_SAT = false ∧
        t.flag F.DRV_STATUS.CFG_ERR = false ∧
        Touches [] [F.DRV_STATUS.SENSOR_FAULT, F.DRV_STATUS.INNOV_FAULT, F.DRV_STATUS.NUM_SAT, F.DRV_STATUS.CFG_ERR] s.dev t) ∧
    (s.dev.runs 18 = true → s.dev.get F.DRV_STATUS.MODE_ACTIVE = 0 → ((s.dev.writeNow F.DRV_TICK.PERIOD (v.toNat %
      65536)).writeNow F.DRV_TICK.SENSE_DELAY (v.toNat / 65536 % 4096)).projected.drvFits = true →
      Does (.drvTickWrite (.reg true) v) s fun t =>
        t.get F.DRV_TICK.PERIOD = v.toNat % 65536 ∧ t.get F.DRV_TICK.SENSE_DELAY = v.toNat / 65536 % 4096 ∧
        Touches [.dues] [F.DRV_TICK.PERIOD, F.DRV_TICK.SENSE_DELAY] s.dev t) ∧
    (s.dev.runs 18 = true → s.dev.get F.DRV_STATUS.MODE_ACTIVE ≠ 0 →
      Does (.drvTickWrite (.reg true) v) s fun t =>
        t.flag F.DRV_STATUS.WRITE_REFUSED = true ∧ Touches [] [F.DRV_STATUS.WRITE_REFUSED] s.dev t) ∧
    (s.dev.runs 18 = true →
      Does (.drvSetpointWrite (.reg true) v) s fun t =>
        t.get F.DRV_SETPOINT.AXIS0 = v.toNat % 65536 ∧ t.get F.DRV_SETPOINT.AXIS1 = v.toNat / 65536 ∧
        Touches [] [F.DRV_SETPOINT.AXIS0, F.DRV_SETPOINT.AXIS1] s.dev t) ∧
    (s.dev.runs 18 = true → (s.dev.st = .scan ∨ v.toNat % 4 = 0) →
      Does (.drvTestStart (.reg true) v) s fun t =>
        t.flag F.DRV_STATUS.TEST_RUN = decide (v.toNat % 4 ≠ 0) ∧ t.flag F.DRV_STATUS.TEST_DONE = false ∧
        t.get F.DRV_TEST_CTRL.WAVE = v.toNat % 4 ∧ t.get F.DRV_TEST_CTRL.HOLD = v.toNat / 256 % 256 ∧
        t.drv = { s.dev.drv with testI := 0, phi := 0, prbs := 511 } ∧
        Touches [.drv] [F.DRV_TEST_CTRL.WAVE, F.DRV_TEST_CTRL.POINT, F.DRV_TEST_CTRL.AXIS, F.DRV_TEST_CTRL.HOLD,
          F.DRV_STATUS.TEST_RUN, F.DRV_STATUS.TEST_DONE] s.dev t) ∧
    (s.dev.flag F.DRV_STATUS.TEST_RUN = true → s.dev.get F.DRV_TEST_LEN ≠ 0 → s.dev.get F.DRV_TEST_LEN ≤ s.dev.drv.testI →
      Does .drvTestEnd s fun t =>
        t.flag F.DRV_STATUS.TEST_RUN = false ∧ t.flag F.DRV_STATUS.TEST_DONE = true ∧
        Touches [] [F.DRV_STATUS.TEST_RUN, F.DRV_STATUS.TEST_DONE] s.dev t) ∧
    (s.dev.runs 18 = false →
      ∀ i ∈ [Instr.drvCtrlWrite (.reg true) v, .drvClearFaults true, .drvTickWrite (.reg true) v, .drvSetpointWrite (.reg true) v,
          .drvTestStart (.reg true) v],
        Does i s fun t => bitAt (t.get F.GATED_ACCESS.HIT) 18 = true ∧ t.occurred 1 5 ∧
          Touches [.evt, .life] [F.GATED_ACCESS.HIT, F.EVT_STATUS 1] s.dev t)

/-- User sequences of the converters: start, wait, begin, end (R311, R312, R313, R314, R331). Where the spec leaves a point
open it meets the model's choice of logs 50, 77, 107. -/
def Obligations.ConverterSequences : Prop :=
  ∀ (s : State) (c : Fin 2) (m : Fin 4), s.dev.wf → s.dev.sized →
    (4 ≤ s.dev.get (F.ADC_TIMER c) → s.dev.flag (F.ADC_CTRL.EN c) = true → (∀ k < 4, (s.dev.seqCfg c k).src = 1 ↔ k = m.val) →
      (s.dev.seqRun c m).running = false → (s.dev.seqRun c m).waiting = false → s.dev.convRuns c = true → s.dev.seqBarred c
      (s.dev.seqCfg c m).input = false →
      Does (.adcTimerExpiry c) s fun t =>
        (t.seqRun c m).waiting = true ∧ (t.seqRun c m).due = s.dev.cyc + (s.dev.seqCfg c m).delay ∧ Touches [.conv] [] s.dev t) ∧
    (s.dev.runs (19 + c) = true → s.dev.flag (F.ADC_CTRL.EN c) = true → (s.dev.seqCfg c m).src ≠ 0 → (s.dev.seqRun c m).running
      = false → (s.dev.seqRun c m).waiting = false → s.dev.seqBarred c (s.dev.seqCfg c m).input = false →
      Does (.adcSeqStart (.reg true) c m) s fun t =>
        (t.seqRun c m).waiting = true ∧ (t.seqRun c m).input = (s.dev.seqCfg c m).input ∧ (t.seqRun c m).left = (s.dev.seqCfg c m).count ∧
        (t.seqRun c m).cont = decide ((s.dev.seqCfg c m).count = 0) ∧ (t.seqRun c m).due = s.dev.cyc + (s.dev.seqCfg c m).delay ∧
        Touches [.conv] [] s.dev t) ∧
    (s.dev.runs (19 + c) = true → s.dev.seqBarred c (s.dev.seqCfg c m).input = true →
      Does (.adcSeqStart (.reg true) c m) s fun t => t = s.dev) ∧
    (s.dev.runs (19 + c) = true → s.dev.flag (F.ADC_CTRL.EN c) = true → (s.dev.seqCfg c m).src ≠ 0 → ((s.dev.seqRun c
      m).running = true ∨ (s.dev.seqRun c m).waiting = true) → s.dev.seqBarred c (s.dev.seqCfg c m).input = false →
      Does (.adcSeqStart (.reg true) c m) s fun t =>
        t.get (F.ADC_BLOCKED c) = (s.dev.get (F.ADC_BLOCKED c) + 1) % 2 ^ 32 ∧ Touches [] [F.ADC_BLOCKED c] s.dev t) ∧
    ((s.dev.seqRun c m).waiting = true → (s.dev.convN c).seqs.any (·.running) = false →
      (∀ k < m.val, (s.dev.seqRun c k).waiting = false) → s.dev.convRuns c = true →
      Does (.adcSeqBegin c m) s fun t =>
        (t.seqRun c m).running = true ∧ (t.seqRun c m).waiting = false ∧ (t.seqRun c m).input = (s.dev.seqRun c m).input ∧
        s.dev.cyc ≤ (t.seqRun c m).first ∧ (s.dev.seqRun c m).due ≤ (t.seqRun c m).first ∧
        (t.seqRun c m).stop = (t.seqRun c m).first + 4 * (s.dev.seqRun c m).left ∧ (t.convN c).powered = true ∧
        (s.dev.acqRuns = false → Touches [.conv, .up, .cyc, .tb] [] s.dev t) ∧
        Frame [.regs, .conv, .up, .cyc, .tb, .acq, .rcd, .evt, .life, .free] s.dev t) ∧
    ((s.dev.seqRun c m).waiting = true → (s.dev.seqRun c m).running = false →
      (s.dev.convN c).seqs.any (fun q => q.running && q.cont) = true → s.dev.convRuns c = true →
      Does (.adcSeqBegin c m) s fun t =>
        (t.seqRun c m).waiting = false ∧ (t.seqRun c m).running = false ∧
        t.get (F.ADC_BLOCKED c) = (s.dev.get (F.ADC_BLOCKED c) + 1) % 2 ^ 32) ∧
    (∀ (samples : List (List Word)), (s.dev.seqRun c m).running = true → (s.dev.seqRun c m).cont = false → s.dev.convRuns c =
      true →
      Does (.adcSeqEnd c m samples) s fun t =>
        (t.seqRun c m).running = false ∧ (t.seqRun c m).next = (s.dev.seqRun c m).stop ∧
        Frame [.conv, .acq, .rcd, .regs, .evt, .life, .free, .up, .cyc, .tb] s.dev t) ∧
    (∀ (samples : List (List Word)), (s.dev.seqRun c m).running = true → (s.dev.seqRun c m).cont = true →
      (s.dev.seqCfg c m).src ≠ 0 → s.dev.convRuns c = true →
      Does (.adcSeqEnd c m samples) s fun t =>
        (t.seqRun c m).running = true ∧ (s.dev.seqRun c m).next ≤ (t.seqRun c m).next ∧
        Frame [.conv, .acq, .rcd, .regs, .evt, .life, .free, .up, .cyc, .tb] s.dev t)

/-- The capture units: arming, triggers, the end of a record, the FIFO (R321, R322, R323, R325, R327, R328, R332). Where the
spec leaves a point open it meets the model's choice of logs 50, 76, 107. -/
def Obligations.AcquisitionUnits : Prop :=
  (∀ (s : State) (u : Fin 4), s.dev.wf → s.dev.sized →
    (s.dev.runs 21 = true → (s.dev.unit u).armed = false → (s.dev.acqNeed u ≤ s.dev.acqBuf u ∨ (s.dev.flag (F.ACQ_CTRL.SPILL u) = true ∧
      s.dev.get (F.ACQ_PRE u) * srcWords (s.dev.acqSrc u) + 16 ≤ s.dev.acqBuf u)) →
      Does (.acqArm (.reg true) u) s fun t =>
        (t.unit u).armed = true ∧ (t.unit u).capturing = false ∧ (t.unit u).ring = [] ∧ (t.unit u).armC = s.dev.cyc ∧
        t.flag (F.ACQ_STATUS.ARMED u) = true ∧
        Touches [.acq] [F.ACQ_STATUS.ARMED u, F.ACQ_STATUS.CAPTURING u, F.ACQ_STATUS.HOLDOFF u, F.ACQ_STATUS.RECORD_READY u] s.dev t) ∧
    (s.dev.runs 21 = true → (s.dev.unit u).armed = false → s.dev.acqBuf u < s.dev.acqNeed u → s.dev.flag (F.ACQ_CTRL.SPILL u) =
      false →
      Does (.acqArm (.reg true) u) s fun t =>
        t.unit u = s.dev.unit u ∧ t.flag (F.ACQ_STATUS.ARM_REFUSED u) = true ∧ Touches [] [F.ACQ_STATUS.ARM_REFUSED u] s.dev t) ∧
    (s.dev.runs 21 = true → (s.dev.unit u).armed = true →
      Does (.acqDisarm (.reg true) u) s fun t =>
        (t.unit u).armed = false ∧ (t.unit u).capturing = false ∧ (t.unit u).closed = false ∧
        t.flag (F.ACQ_STATUS.ARMED u) = false ∧ t.flag (F.ACQ_STATUS.CAPTURING u) = false ∧
        (2 ≤ s.dev.acqSrc u → (s.dev.unit u).capturing = false → (s.dev.unit u).closed = false →
          t.unit u = { s.dev.unit u with armed := false } ∧ Touches [.acq] [F.ACQ_STATUS.ARMED u, F.ACQ_STATUS.CAPTURING u,
            F.ACQ_STATUS.HOLDOFF u, F.ACQ_STATUS.RECORD_READY u] s.dev t) ∧
        (2 ≤ s.dev.acqSrc u → ((s.dev.unit u).capturing = true ∨ (s.dev.unit u).closed = true) →
          (t.unit u).recs.length = (s.dev.unit u).recs.length + 1 ∧ t.flag (F.ACQ_STATUS.RECORD_READY u) = true ∧
          t.get (F.ACQ_RECORDS u) = (s.dev.get (F.ACQ_RECORDS u) + 1) % 2 ^ 32 ∧
          ((s.dev.unit u).capturing = true → bitAt (t.unit u).rflags 2 = true)) ∧
        Frame [.regs, .acq, .conv, .rcd, .evt, .life, .free] s.dev t) ∧
    (s.dev.runs 21 = true → (s.dev.unit u).armed = true → (s.dev.acqSrc u = 2 ∨ s.dev.acqSrc u = 3) →
      bitAt (s.dev.get (F.ACQ_TRIGMASK u)) 16 = true →
      Does (.acqForce (.reg true) u) s fun t =>
        t.unit u = { s.dev.unit u with pend := (s.dev.unit u).pend ++ [(s.dev.cyc, 2 ^ 16)] } ∧ Touches [.acq] [] s.dev t) ∧
    (∀ (k : Nat), k < 21 → (s.dev.unit u).armed = true → (s.dev.acqSrc u = 2 ∨ s.dev.acqSrc u = 3) →
      bitAt (s.dev.get (F.ACQ_TRIGMASK u)) k = true → s.dev.acqRuns = true →
      Does (.acqTrigger u (2 ^ k)) s fun t =>
        t.unit u = { s.dev.unit u with pend := (s.dev.unit u).pend ++ [(s.dev.cyc, 2 ^ k)] } ∧ Touches [.acq] [] s.dev t) ∧
    ((s.dev.unit u).armed = true → (s.dev.unit u).capturing = true → (s.dev.unit u).postLeft = 0 → 2 ≤ s.dev.acqSrc u →
      s.dev.acqRuns = true →
      Does (.acqPostWindowEnd u) s fun t =>
        (t.unit u).capturing = false ∧ (t.unit u).closed = true ∧ (t.unit u).closeT = s.dev.nowNs ∧ (t.unit u).spillGap = 0 ∧
        t.flag (F.ACQ_STATUS.CAPTURING u) = false ∧ t.flag (F.ACQ_STATUS.SPILLING u) = false ∧ t.flag (F.ACQ_STATUS.HOLDOFF u) = true ∧
        Touches [.acq, .rcd, .evt, .life, .free] [F.ACQ_STATUS.ARMED u, F.ACQ_STATUS.CAPTURING u, F.ACQ_STATUS.HOLDOFF u,
          F.ACQ_STATUS.RECORD_READY u, F.ACQ_STATUS.SPILLING u, F.ACQ_GAPS u, F.EVT_STATUS 8, F.EVT_STATUS 9] s.dev t) ∧
    ((s.dev.unit u).armed = true → (s.dev.unit u).closed = true → (s.dev.unit u).capturing = false → 2 ≤ s.dev.acqSrc u →
      s.dev.flag (F.ACQ_CTRL.HOLD_MODE u) = false → s.dev.get (F.ACQ_PRE u) ≤ (s.dev.unit u).after → (s.dev.unit u).freeT = none →
      (s.dev.unit u).trigT + s.dev.get (F.ACQ_HOLD u) ≤ s.dev.nowNs → s.dev.acqRuns = true →
      Does (.acqRearm u) s fun t =>
        (t.unit u).armed = s.dev.flag (F.ACQ_CTRL.MODE u) ∧ (t.unit u).closed = false ∧ (t.unit u).ring = [] ∧
        (t.unit u).recs.length = (s.dev.unit u).recs.length + 1 ∧
        t.get (F.ACQ_RECORDS u) = (s.dev.get (F.ACQ_RECORDS u) + 1) % 2 ^ 32 ∧ t.flag (F.ACQ_STATUS.RECORD_READY u) = true ∧
        Touches [.acq, .up, .cyc, .tb] [F.ACQ_STATUS.ARMED u, F.ACQ_STATUS.CAPTURING u, F.ACQ_STATUS.HOLDOFF u, F.ACQ_STATUS.RECORD_READY u,
          F.ACQ_RECORDS u, F.ACQ_DEAD u] s.dev t) ∧
    (∀ (n : Nat), 0 < n → (s.dev.unit u).fifo ≠ 0 → s.dev.acqRuns = true →
      Does (.acqFifoDrain u n) s fun t =>
        t.acq.turn = (u.val + 1) % 4 ∧
        ((s.dev.unit u).gap = 0 → t.unit u = { s.dev.unit u with
          fifo := (s.dev.unit u).fifo - cdiv (min n (s.dev.unit u).fifo) (s.dev.burst u) * s.dev.burst u }) ∧
        ((s.dev.unit u).gap ≠ 0 → (t.unit u).gap = 0 ∧ bitAt (t.get (F.EVT_STATUS 8)) 3 = true ∧
          (t.unit u).fifo = (s.dev.unit u).fifo - cdiv (min n (s.dev.unit u).fifo) (s.dev.burst u) * s.dev.burst u + 1 ∧
          (bitAt (s.dev.unit u).rflags 1 = false → t.get (F.ACQ_GAPS u) = (s.dev.get (F.ACQ_GAPS u) + 1) % 2 ^ 32)) ∧
        Frame [.regs, .acq, .rcd, .evt, .life, .free] s.dev t)) ∧
  (∀ (s : State) (u : Fin 4), s.dev.wf → s.dev.sized → s.dev.acqRuns = true → (s.dev.unit u).armed = true → s.dev.acqSrc u < 2 →
    s.dev.convRuns (s.dev.acqSrc u) = true → (s.dev.convN (s.dev.acqSrc u)).slot = false → (s.dev.convN (s.dev.acqSrc u)).queue = [] →
    (s.dev.convN (s.dev.acqSrc u)).seqs.any (·.running) = false → (s.dev.convN (s.dev.acqSrc u)).t = instantAt s.dev.cyc →
    (s.dev.unit u).armC ≤ s.dev.cyc → (s.dev.unit u).pend = [] →
    ((s.dev.unit u).capturing = false → (s.dev.unit u).closed = false → 0 < s.dev.get (F.ACQ_POST u) →
      bitAt (s.dev.get (F.ACQ_TRIGMASK u)) 16 = true →
      Does (.acqForce (.reg true) u) s fun t =>
        (t.unit u).capturing = true ∧ (t.unit u).trigNo = 16 ∧ (t.unit u).trigBits = 2 ^ 16 ∧ (t.unit u).trigT = t.nowNs ∧
        (t.unit u).postLeft = s.dev.get (F.ACQ_POST u) - 1 ∧ t.flag (F.ACQ_STATUS.CAPTURING u) = true ∧ t.cyc = instantAt s.dev.cyc ∧
        Frame [.regs, .acq, .conv, .up, .cyc, .tb, .rcd, .evt, .life, .free] s.dev t) ∧
    (∀ (k : Nat), k < 21 → (s.dev.unit u).capturing = false → (s.dev.unit u).closed = false → 0 < s.dev.get (F.ACQ_POST u) →
      bitAt (s.dev.get (F.ACQ_TRIGMASK u)) k = true →
      Does (.acqTrigger u (2 ^ k)) s fun t =>
        (t.unit u).capturing = true ∧ (t.unit u).trigNo = k ∧ (t.unit u).trigBits = 2 ^ k ∧ (t.unit u).trigT = t.nowNs ∧
        t.flag (F.ACQ_STATUS.CAPTURING u) = true ∧
        (s.dev.acqBuf u < s.dev.acqNeed u → bitAt (t.unit u).rflags 1 = true ∧ t.flag (F.ACQ_STATUS.SPILLING u) = true) ∧
        Frame [.regs, .acq, .conv, .up, .cyc, .tb, .rcd, .evt, .life, .free] s.dev t) ∧
    (∀ (k : Nat), k < 21 → (s.dev.unit u).capturing = true → 0 < (s.dev.unit u).postLeft →
      bitAt (s.dev.get (F.ACQ_TRIGMASK u)) k = true →
      Does (.acqTrigger u (2 ^ k)) s fun t =>
        (t.unit u).capturing = true ∧ (t.unit u).overl = (s.dev.unit u).overl + 1 ∧
        t.get (F.ACQ_OVERLAP u) = (s.dev.get (F.ACQ_OVERLAP u) + 1) % 2 ^ 32 ∧ bitAt (t.get (F.EVT_STATUS 8)) 2 = true) ∧
    ((s.dev.unit u).capturing = true →
      Does (.acqPostWindowEnd u) s fun t => (t.unit u).capturing = false ∧ (t.unit u).closed = true ∧ (t.unit u).postLeft = 0))

/-- The interpolators of the Convoys: lock, loss of lock, calibration (R175, R176, R177, R180, R199, R201, R487). Where the
spec leaves a point open it meets the model's choice of logs 4, 50, 55. -/
def Obligations.InterpolatorsLockAndCalibrate : Prop :=
  ∀ (s : State) (c : Fin 16), s.dev.wf →
    (s.dev.locked c = false → s.dev.rootRuns = true → s.dev.cvyRuns c = true →
      Does (.interpLock c) s fun t =>
        t.locked c = true ∧ bitAt (t.get (F.EVT_STATUS (3 + c.val / 8))) (3 * (c.val % 8)) = true ∧
        (s.dev.st.ticks = true ∨ s.dev.resting c = false → t.occurred (3 + c.val / 8) (3 * (c.val % 8)) ∧
          Touches [.evt, .life] [F.CVY_STATUS.LOCKED c, F.EVT_STATUS (3 + c.val / 8)] s.dev t) ∧
        (s.dev.st.ticks = false → s.dev.restFree c = true → t.resting c = false)) ∧
    (s.dev.locked c = true →
      Does (.interpUnlock c) s fun t =>
        t.locked c = false ∧ t.flag (F.CVY_STATUS.UNLOCK_SEEN c) = true ∧
        t.get (F.CVY_UNLOCKS c) = (s.dev.get (F.CVY_UNLOCKS c) + 1) % 2 ^ 32 ∧
        (s.dev.st.ticks = false → (t.cvy c).unlocked = true ∧ (t.cvy c).absent = true ∧ (t.cvy c).start = none)) ∧
    (s.dev.runs c = true → s.dev.flag (F.CVY_STATUS.CAL_BUSY c) = false → s.dev.flag (F.TIS_STATUS.BUSY c) = false → s.dev.st =
      .standby →
      Does (.calStart (.reg true) c) s fun t =>
        t.flag (F.CVY_STATUS.CAL_BUSY c) = true ∧ t.resting c = true ∧ (t.cvy c).calWasResting = s.dev.resting c ∧
        Touches [.cvys] [F.CVY_STATUS.CAL_BUSY c, F.CVY_STATUS.RESTING c] s.dev t) ∧
    (s.dev.runs c = true → s.dev.flag (F.CVY_STATUS.CAL_BUSY c) = false → s.dev.resting c = false → s.dev.st = .ranging →
      Does (.calStart (.dict .engineer) c) s fun t => t = s.dev.answer 8) ∧
    (∀ (hits : List Nat) (outr : List (List (Int × Nat))), s.dev.flag (F.CVY_STATUS.CAL_BUSY c) = true → hits.length = 64 → (∀
      x ∈ hits, s.dev.calHits c ≤ 256 * x ∧ 256 * x ≤ 7 * s.dev.calHits c) → s.dev.st = .scan → (s.dev.cvy c).calWasResting =
      true → (s.dev.cvy c).returning = false →
      Does (.calDone c hits outr) s fun t =>
        t.flag (F.CVY_STATUS.CAL_BUSY c) = false ∧ (t.bank (0x7010 + c)).committed = true ∧ (t.bank (0x7020 + c)).committed = true ∧
        (t.bank (0x7020 + c)).inact.length = 128 ∧ (t.bank (0x7010 + c)).inact.length = 136 ∧ (t.cvy c).recalTurn = false ∧
        t.occurred (3 + c.val / 8) (3 * (c.val % 8) + 2) ∧
        Touches [.cvys, .tabs, .evt, .life] [F.CVY_STATUS.CAL_BUSY c, F.CVY_CAL_RESULT.WIDEST c, F.CVY_CAL_RESULT.NARROWEST c,
          F.EVT_STATUS (3 + c.val / 8)] s.dev t) ∧
    (∀ (hits : List Nat) (outr : List (List (Int × Nat))), s.dev.flag (F.CVY_STATUS.CAL_BUSY c) = true → hits.length ≠ 64 →
      s.dev.st.ticks = false →
      Does (.calDone c hits outr) s fun t =>
        t.flag (F.CVY_STATUS.CAL_BUSY c) = false ∧ t.flag (F.CVY_STATUS.CAL_FAIL c) = true ∧ t.retiredUnit 3 c = true)

/-- Statistics runs of a Convoy, and the resting of Convoys (R192, R461, R509, R510). Where the spec leaves a point open it meets
the model's choice of logs 50, 56. -/
def Obligations.StatisticsRunsAndConvoyRest : Prop :=
  (∀ (s : State) (c : Fin 16), s.dev.wf →
    (∀ (v : Word), s.dev.runs c = true → bitAt v.toNat 31 = true →
      Does (.tisStart c true v) s fun t =>
        t.flag (F.TIS_STATUS.BUSY c) = true ∧ t.flag (F.TIS_STATUS.DONE c) = false ∧ t.get (F.TIS_STATUS.COUNT c) = 0 ∧
        (t.cvy c).tis = {
          src := v.toNat / 2 ^ 26 % 4
          gate := bitAt v.toNat 24
          chan := v.toNat / 2 ^ 16 % 32
          stopIdx := min 8 (v.toNat / 2 ^ 12 % 16)
          target := max 1 (s.dev.get (F.TIS_N c)) } ∧
        Touches [.cvys] [F.TIS_CTRL.SOURCE c, F.TIS_CTRL.GATE_EN c, F.TIS_CTRL.CHANNEL c, F.TIS_CTRL.STOP_INDEX c, F.TIS_STATUS.BUSY c,
          F.TIS_STATUS.ABORTED c, F.TIS_STATUS.PARTIAL c, F.TIS_STATUS.DONE c, F.TIS_STATUS.COUNT c, F.TIS_MEAN c, F.TIS_DEV c,
          F.TIS_MIN c, F.TIS_MAX c, F.TIS_REJECTED c] s.dev t) ∧
    (s.dev.flag (F.TIS_STATUS.BUSY c) = true → (s.dev.cvy c).tis.target ≤ (s.dev.cvy c).tis.n →
      Does (.tisRunDone c) s fun t =>
        t.flag (F.TIS_STATUS.BUSY c) = false ∧ t.flag (F.TIS_STATUS.DONE c) = true ∧ t.occurred (3 + c.val / 8) (3 * (c.val % 8) + 2) ∧
        Touches [.evt, .life] [F.TIS_STATUS.BUSY c, F.TIS_STATUS.DONE c, F.TIS_MEAN c, F.TIS_DEV c, F.TIS_MIN c, F.TIS_MAX c,
          F.EVT_STATUS (3 + c.val / 8)] s.dev t) ∧
    (s.dev.flag (F.TIS_STATUS.BUSY c) = true → s.dev.get (F.TIS_TIMEOUT c) ≠ 0 → s.dev.get (F.TIS_TIMEOUT c) ≤ (s.dev.cvy
      c).tis.ticks → (s.dev.cvy c).tis.n < (s.dev.cvy c).tis.target →
      Does (.tisTimeout c) s fun t =>
        t.flag (F.TIS_STATUS.BUSY c) = false ∧ t.flag (F.TIS_STATUS.PARTIAL c) = true ∧ t.occurred (3 + c.val / 8) (3 * (c.val % 8) + 2) ∧
        Touches [.evt, .life] [F.TIS_STATUS.BUSY c, F.TIS_STATUS.PARTIAL c, F.TIS_MEAN c, F.TIS_DEV c, F.TIS_MIN c, F.TIS_MAX c,
          F.EVT_STATUS (3 + c.val / 8)] s.dev t)) ∧
  (∀ (s : State), s.dev.wf →
    (∀ (v : Nat), v < 65536 → (v = 0 ∨ s.dev.restLeaves v = true) → s.dev.st.ticks = true →
      Does (.rangingRestWrite .engineer v) s fun t =>
        (∀ c < 16, t.cvy c = { s.dev.cvy c with restWant := bitAt v c }) ∧ t.flf = { s.dev.flf with status := 0 } ∧
        Touches [.cvys, .flf] [] s.dev t) ∧
    (∀ (v : Nat), v < 65536 → v ≠ 0 → s.dev.restLeaves v = false →
      Does (.rangingRestWrite .engineer v) s fun t => t = s.dev.answer 9) ∧
    (s.dev.get F.P.recalPeriod ≠ 0 → s.dev.st.armed = true → (∀ c < 16, s.dev.resting c = false) → s.dev.cvyRetired
      ((s.dev.life.recalLast + 1) % 16) = false →
      Does .recalPeriodExpiry s fun t =>
        t.life = { s.dev.life with recalLast := (s.dev.life.recalLast + 1) % 16 } ∧
        (t.cvy ((s.dev.life.recalLast + 1) % 16)).recalTurn = true ∧ Touches [.cvys, .life] [] s.dev t))

/-- The coming shot: ledger decision, row, monitor slot, fire edge; idle slots (R11, R75, R76, R97, R312, R315). Where the spec
leaves a point open it meets the model's choice of logs 13, 30, 45, 50. -/
def Obligations.ComingShotAndIdleSlot : Prop :=
  (∀ (s : State) (inL inP : Bool), s.dev.wf → s.dev.st.armed = true → s.dev.seq.prep = false → s.dev.seq.j < s.dev.ns →
    s.dev.seq.acc + s.dev.therm.inEffect < 8 → s.dev.emTabs.wb ≠ [] → s.dev.armed = true →
    (s.dev.seq.dec.made = false → s.dev.emTabs.dark (mfEntry s.dev.emTabs.man (wbShot (wbEntry s.dev.emTabs.wb s.dev.seq.stage)
      s.dev.seq.j)) = false →
      Does (.ledgerDecision inL inP) s fun t =>
        let w := wbEntry s.dev.emTabs.wb s.dev.seq.stage
        let f := mfEntry s.dev.emTabs.man (wbShot w s.dev.seq.j)
        let lim := s.dev.tab 0x7005
        let a := s.dev.cycleTo (s.dev.slotEndCyc - 300)
        t.seq.dec.made = true ∧ t.seq.dec.decided = true ∧ t.seq.dec.faultLow = s.dev.flag F.EM_STATUS.EM_FAULT ∧
        t.seq.dec.eL = s.dev.emTabs.energy lim f ∧ t.seq.dec.cellL = cellOf f (wbAz w) ∧
        t.seq.dec.logicOk = (inL && s.dev.logicLedger && a.refusing lim s.dev.led.logic t.seq.dec.cellL t.seq.dec.eL = 0) ∧
        t.seq.dec.procOk = (inP && s.dev.procLedger && a.refusing lim s.dev.led.proc t.seq.dec.cellP t.seq.dec.ePred = 0) ∧
        t.get F.LEDGER_LOGIC_DEBITS = (s.dev.get F.LEDGER_LOGIC_DEBITS + nat t.seq.dec.logicOk) % 2 ^ 32 ∧
        t.get F.LEDGER_PROC_DEBITS = (s.dev.get F.LEDGER_PROC_DEBITS + nat t.seq.dec.procOk) % 2 ^ 32 ∧
        (t.seq.dec.logicOk = false → t.led.logic = s.dev.led.logic) ∧ (t.seq.dec.procOk = false → t.led.proc = s.dev.led.proc) ∧
        (t.seq.dec.logicOk = false → t.seq.dec.procOk = false →
          t.get F.REFUSED_BOTH = (s.dev.get F.REFUSED_BOTH + 1) % 2 ^ 32 ∧ t.get F.LEDGER_LAST_REFUSAL.CHANNELS = 3) ∧
        Touches [.up, .cyc, .tb, .led, .seq, .evt, .life] [F.LEDGER_LOGIC_DEBITS, F.LEDGER_PROC_DEBITS, F.LEDGER_LAST_REFUSAL.CELL,
          F.LEDGER_LAST_REFUSAL.WINDOW, F.LEDGER_LAST_REFUSAL.CHANNELS, F.REFUSED_BOTH, F.REFUSED_ONE_SIDED, F.EVT_STATUS 6] s.dev t) ∧
    (Does .rowSelectEdge s fun t =>
        t.flag F.EM_STATUS.ROW_VALID = true ∧
        t.get F.EM_STATUS.ROW = mfRow (mfEntry s.dev.emTabs.man (wbShot (wbEntry s.dev.emTabs.wb s.dev.seq.stage) s.dev.seq.j)) ∧
        Touches [.up, .cyc, .tb] [F.EM_STATUS.ROW, F.EM_STATUS.ROW_VALID] s.dev t) ∧
    (s.dev.willFire = true → s.dev.flag F.ADC_MON.EN = true → s.dev.sized →
      Does .monitorSlotStart s fun t =>
        (t.convN 0).slot = true ∧ (t.convN 0).slotGain = s.dev.get F.ADC_MON.GAIN ∧
        (t.convN 0).slotIn = mfStart (mfEntry s.dev.emTabs.man (wbShot (wbEntry s.dev.emTabs.wb s.dev.seq.stage) s.dev.seq.j)) ∧
        (t.convN 0).slotFrom = instantBefore (s.dev.slotEndCyc - 48) ∧ (t.convN 0).powered = true ∧
        (s.dev.acqRuns = false → Touches [.conv, .up, .cyc, .tb, .free] [F.ADC_PREEMPT 0] s.dev t) ∧
        Frame [.regs, .conv, .up, .cyc, .tb, .acq, .rcd, .evt, .life, .free] s.dev t) ∧
    (s.dev.seq.shot = none → s.dev.seq.stageDue = false → s.dev.seq.frameDue = false → s.dev.seq.stageLock = false →
      s.dev.seq.dec.made = true →
      Does .nominalFireEdge s fun t =>
        t.seq.shot.map (fun sh => (sh.idle, sh.j, sh.start, sh.fired)) = some (false, s.dev.seq.j, s.dev.cyc, s.dev.willFire) ∧
        t.seq.j = s.dev.seq.j + 1 ∧ t.get F.CLUT_LFSR.STATE = (ditherNext (s.dev.get F.CLUT_LFSR.STATE)).1 ∧
        t.get F.LEDGER_SHOTS_FIRED = (s.dev.get F.LEDGER_SHOTS_FIRED + nat s.dev.willFire) % 2 ^ 32)) ∧
  (∀ (s : State), s.dev.wf →
    (s.dev.st.ticks = true → s.dev.seq.prep = false → s.dev.seq.shot = none → s.dev.seq.stageDue = false → s.dev.seq.frameDue =
      false → s.dev.seq.stageLock = false → s.dev.ns ≤ s.dev.seq.j →
      Does .nominalFireEdge s fun t =>
        t.seq.shot.map (fun sh => (sh.idle, sh.j, sh.start, sh.len, sh.fired)) = some (true, s.dev.seq.j, s.dev.cyc, s.dev.tp, false) ∧
        t.seq.j = s.dev.seq.j + 1 ∧ t.seq.idleCnt = s.dev.seq.idleCnt + 1 ∧ t.flag F.EM_STATUS.ROW_VALID = false ∧
        t.get F.LEDGER_SHOTS_FIRED = s.dev.get F.LEDGER_SHOTS_FIRED ∧ t.get F.CLUT_LFSR.STATE = s.dev.get F.CLUT_LFSR.STATE))

/-- Within a shot: start, return edges, monitor, Outrider, end (R10, R89, R90, R164, R165, R184, R315). Where the spec leaves a
point open it meets the model's choice of logs 29, 50. -/
def Obligations.EdgesWithinAShot : Prop :=
  ∀ (s : State) (sh : Shot), s.dev.wf → s.dev.seq.shot = some sh →
    (∀ (c : Fin 16) (k : Fin 2) (n : Nat) (q : Fin 64), sh.fired = true → sh.missing = false → sh.startSel = k.val → s.dev.flag
      (if k.val = 0 then F.EM_CTRL.START0_EN else F.EM_CTRL.START1_EN) = true → s.dev.locked c = true → s.dev.resting c = false
      → s.dev.cvyRetired c = false → s.dev.cvyRuns c = true → s.dev.rootRuns = true → (s.dev.cvy c).start = none → 0 ≤ rhu (1024
      * n + s.dev.nl c q + s.dev.sskew c k) 16 → rhu (1024 * n + s.dev.nl c q + s.dev.sskew c k) 16 < 64 * s.dev.startWin →
      Does (.startEdge c k n q) s fun t =>
        (t.cvy c).start = some (rhu (1024 * n + s.dev.nl c q + s.dev.sskew c k) 16) ∧
        t.seq = { s.dev.seq with shot := some { sh with startSeen := true } }) ∧
    (sh.fired = true → sh.startSeen = false → sh.missing = false →
      Does .startWindowClose s fun t =>
        t.seq.shot = some { sh with missing := true } ∧ t.get F.EM_START_MISSING = (s.dev.get F.EM_START_MISSING + 1) % 2 ^ 32 ∧
        bitAt (t.get (F.EVT_STATUS 6)) 0 = true ∧ t.st = s.dev.st) ∧
    (∀ (base fin : Nat) (et : List Nat), sh.fired = true → sh.toppedUp = false → s.dev.flag F.ADC_MON.EN = true →
      Does (.monitorEnergyDelivered base fin et) s fun t =>
        t.mon = (base, fin - base) ∧ t.seq.shot = some { sh with toppedUp := true } ∧ t.st = s.dev.st) ∧
    (∀ (ch : Fin 512) (n : Nat) (q : Fin 64), s.dev.stamps ch = true → (s.dev.chan ch).openEv = none → (s.dev.chan ch).lastAcc
      = none →
      Does (.retRisingEdge ch n q) s fun t =>
        (t.chan ch).openEv.map (·.tRise) = some (rhu (s.dev.stamp ch n q) 16) ∧ (t.chan ch).lastAcc = some (s.dev.arrival ch n q) ∧
        (t.chan ch).stops = (s.dev.chan ch).stops ∧ Touches [.chans] [] s.dev t) ∧
    (∀ (ch : Fin 512) (n : Nat) (q : Fin 64), s.dev.stamps ch = true → (s.dev.chan ch).openEv ≠ none →
      Does (.retFallingEdge ch n q) s fun t => (t.chan ch).openEv = none ∧ Frame [.chans, .cnt, .cvys, .regs] s.dev t) ∧
    (sh.idle = false →
      Does .outriderInject s fun t =>
        t.seq = { s.dev.seq with shot := some { sh with orInj := true } } ∧ Touches [.seq, .up, .cyc, .tb] [] s.dev t) ∧
    (s.dev.rootRuns = true →
      Does .shotEnd s fun t =>
        t.seq.shot = none ∧ t.seq.stageDue = s.dev.seq.prep ∧ t.cyc = max s.dev.cyc (sh.start + sh.len) ∧
        t.seq.counting = s.dev.seq.counting + nat (!sh.idle && !sh.refused && !sh.missing && (sh.dark || sh.startSeen)) ∧
        ((s.dev.convN 0).slot = false → Frame [.seq, .up, .cyc, .tb, .chans, .cnt, .cvys, .regs] s.dev t) ∧
        Frame [.seq, .up, .cyc, .tb, .chans, .cnt, .cvys, .regs, .conv, .acq, .rcd, .free, .evt, .life] s.dev t)

/-- Stage ticks and frame ticks (R22, R31, R61, R64, R105, R110, R385). Where the spec leaves a point open it meets the model's
choice of logs 10, 13, 26, 27, 50. -/
def Obligations.StageAndFrameTicks : Prop :=
  (∀ (s : State), s.dev.wf →
    (s.dev.st.ticks = true → s.dev.seq.stageDue = true → s.dev.seq.prepFrame = true →
      Does .stageTick s fun t => t.seq.stageDue = false ∧ (t.st.ticks = true → t.seq.frameDue = true ∧ t.life.ticks = s.dev.life.ticks + 1)) ∧
    (s.dev.st.ticks = true → s.dev.seq.stageDue = true → s.dev.seq.prepFrame = false → s.dev.get F.BX_STRING.ROLE ≠ 2 →
      s.dev.dues = [] →
      Does .stageTick s fun t =>
        t.st.ticks = true → t.seq.stage = s.dev.seq.stage + 1 ∧ t.seq.j = 0 ∧ t.seq.stageDue = false ∧ t.seq.prep = false ∧
          t.seq.stageStart = s.dev.cyc ∧ t.seq.stageStamp = s.dev.tb.t40 ∧ t.ech = s.dev.cnt)) ∧
  (∀ (s : State), s.dev.wf →
    (s.dev.st = .scan → s.dev.seq.frameDue = true → s.dev.want = none →
      Does .frameTick s fun t =>
        t.st.ticks = true → t.st = .scan ∧ t.seq.frame = s.dev.seq.frame + 1 ∧ t.seq.frameDue = false ∧ t.seq.j = 0 ∧
          t.seq.frameStart = s.dev.cyc ∧ t.seq.frameStamp = s.dev.tb.t40 ∧ t.seq.stageStamp = s.dev.tb.t40 ∧ t.net.fsoHigh = true) ∧
    (s.dev.st = .ranging → s.dev.seq.frameDue = true → s.dev.want = some .standby → s.dev.wantFixed = some .standby →
      Does .frameTick s fun t => t.st = .standby ∧ t.seq.frameDue = false ∧ t.want = none) ∧
    (s.dev.net.fsoHigh = true →
      Does .frameSyncOutEnd s fun t => t.net = { s.dev.net with fsoHigh := false } ∧ Touches [.net] [] s.dev t))

/-- Pacing of frames and stages: FRAME_SYNC_IN, the schedule, the string (R19, R371, R386, R546). Where the spec leaves a
point open it meets the model's choice of logs 13, 50, 87, 102. -/
def Obligations.PacingOfFrames : Prop :=
  ∀ (s : State), s.dev.wf →
    (∀ (at' : Nat), s.dev.seq.lastSyncIn.any (fun p => decide (at' < p + 1000)) = false → s.dev.st.ticks = true → s.dev.get
      F.P.framePacing = 2 →
      Does (.frameSyncInEdge at') s fun t =>
        t.seq = { s.dev.seq with lastSyncIn := some at', syncSwap := true, pace := true } ∧ t.up = max s.dev.up at' ∧
        Touches [.seq, .up, .cyc, .tb] [] s.dev t) ∧
    (∀ (at' p : Nat), s.dev.seq.lastSyncIn = some p → at' < p + 1000 →
      Does (.frameSyncInEdge at') s fun t => t.seq = s.dev.seq ∧ Touches [.up, .cyc, .tb] [] s.dev t) ∧
    (∀ (x : Nat), s.dev.net.nextT = some x → s.dev.get F.P.framePacing = 1 → s.dev.timeValid = true → s.dev.st.ticks = true →
      (s.dev.tbCounts = true ∨ x ≤ s.dev.nowNs) → x < 2 ^ 78 →
      Does .scheduleInstant s fun t =>
        t.net = { s.dev.net with nextT := none } ∧ t.seq = { s.dev.seq with pace := true } ∧ x ≤ t.nowNs ∧
        (x ≤ s.dev.nowNs → t.cyc = s.dev.cyc) ∧ Touches [.net, .seq, .up, .cyc, .tb] [] s.dev t) ∧
    (s.dev.st.ticks = true → s.dev.seq.stageLock = true → s.dev.stageLocks = true → s.dev.bx.tickNew = true →
      s.dev.nowNs ≤ s.dev.bx.tickT + s.dev.get F.BX_STRING.LATENCY →
      (s.dev.tbCounts = true ∨ s.dev.nowNs = s.dev.bx.tickT + s.dev.get F.BX_STRING.LATENCY) → s.dev.bx.tickT < 2 ^ 78 →
      Does .stageLockStart s fun t =>
        t.seq = { s.dev.seq with stageLock := false, stage := s.dev.bx.tickStage } ∧ t.bx = { s.dev.bx with tickNew := false } ∧
        t.get F.BX_SKIPS = (s.dev.get F.BX_SKIPS + ((s.dev.bx.tickStage : Int) - s.dev.seq.stage).natAbs) % 2 ^ 32 ∧
        s.dev.bx.tickT + s.dev.get F.BX_STRING.LATENCY ≤ t.nowNs ∧ Touches [.seq, .bx, .up, .cyc, .tb, .drv] [F.BX_SKIPS] s.dev t) ∧
    (s.dev.st.ticks = true → s.dev.seq.stageLock = true → s.dev.stageLocks = true → s.dev.bx.tickNew = true →
      s.dev.bx.tickStage = s.dev.seq.stage →
      s.dev.bx.tickT + s.dev.get F.BX_STRING.LATENCY + s.dev.get F.BX_STRING2.SLIP_LIM < s.dev.nowNs →
      Does .stageLockStart s fun t =>
        t.seq = { s.dev.seq with stageLock := false } ∧ t.bx = { s.dev.bx with tickNew := false } ∧
        t.get F.BX_SLIPS = (s.dev.get F.BX_SLIPS + 1) % 2 ^ 32 ∧ t.occurred 10 7 ∧
        Touches [.seq, .bx, .evt, .life] [F.BX_SLIPS, F.EVT_STATUS 10] s.dev t) ∧
    (s.dev.get F.BX_STRING.ROLE = 2 → s.dev.flag F.BX_STRING.POSITIONED = true →
      (s.dev.get F.BX_STRING.LOCK_MODE = 1 ∨ s.dev.get F.BX_STRING.LOCK_MODE = 2) → s.dev.bx.tickNew = false → s.dev.bx.tickLost = false → s.dev.st.ticks = true →
      Does .tickTimeout s fun t =>
        t.bx = { s.dev.bx with tickLost := true } ∧ t.seq = { s.dev.seq with stageLock := false } ∧
        t.flag F.BX_STRING.TICK_LOCKED = false ∧ t.occurred 10 8 ∧
        t.up = max s.dev.up (s.dev.bx.tickDue + 1000 * s.dev.get F.BX_STRING2.TIMEOUT) ∧
        Touches [.bx, .seq, .up, .cyc, .tb, .evt, .life] [F.BX_STRING.TICK_LOCKED, F.EVT_STATUS 10] s.dev t)

/-- Seeds, echo records, stage blocks and bales (R217, R218, R222, R250, R284, R289). Where the spec leaves a point open it meets
the model's choice of logs 28, 50, 57. -/
def Obligations.EchoesPointsAndBales : Prop :=
  ∀ (s : State), s.dev.wf →
    (s.dev.seq.prep = true → s.dev.seq.frameDue = false → (s.dev.nextSlot s.dev.ahead).isSome = true → s.dev.seq.info.valid =
      false →
      Does .seederTake s fun t =>
        (∀ e ∈ t.seeds, e.1 < 512 ∧ e.2 ≠ [] ∧ e.2.length ≤ 8) ∧ Touches [.seeds, .up, .cyc, .tb] [F.TALLY_SEEDS_LATE] s.dev t) ∧
    (∀ (ch : Fin 512), s.dev.seq.info.valid = true → s.dev.recDone ch = false → bitAt (Tab.getD s.dev.recs ch.val {}).flags 14
      = true → bitAt (Tab.getD s.dev.recs ch.val {}).flags 10 = true →
      Does (.echoRecordDone ch) s fun t =>
        t.recDone ch = true ∧ (Tab.getD t.recs ch.val {}).echoes = [] ∧ Tab.find t.fStore (512 * s.dev.seq.info.index + ch.val) = some [] ∧
        t.get F.CLUT_SUN_BLINDED = (s.dev.get F.CLUT_SUN_BLINDED + 1) % 2 ^ 32 ∧
        Touches [.recs, .fStore, .pStore, .ech, .tabs] [F.CLUT_SUN_BLINDED] s.dev t) ∧
    (∀ (ch : Fin 512), s.dev.seq.info.valid = true → s.dev.recDone ch = false → bitAt (Tab.getD s.dev.recs ch.val {}).flags 14
      = false →
      Does (.echoRecordDone ch) s fun t =>
        t.recDone ch = true ∧ (∀ k < 512, k ≠ ch.val → t.recDone k = s.dev.recDone k) ∧
        (Tab.find t.fStore (512 * s.dev.seq.info.index + ch.val)).isSome = true ∧
        Frame [.recs, .fStore, .pStore, .ech, .tabs, .seq, .regs] s.dev t) ∧
    (s.dev.st.ticks = true → s.dev.takesStage 0 = true → (∀ k < 512, s.dev.recDone k = true) → (s.dev.stream 0).block = none →
      (s.dev.stream 0).unit = none → s.dev.sized →
      Does .stageBlockDone s fun t => (t.stream 0).block.isSome = true ∧ Frame [.streams, .seq, .regs] s.dev t) ∧
    (∀ (n : Fin 2), s.dev.st.ticks = true → s.dev.takesStage n = true → (s.dev.stageCfg n).bales = true → (s.dev.stream n).unit
      = none → (s.dev.stream n).block.isSome = true → s.dev.sized →
      Does (.baleCoded n) s fun t =>
        (t.stream n).unit.isSome = true ∧ (t.stream n).baleSeq = ((s.dev.stream n).baleSeq + 1) % 2 ^ 32 ∧
        t.seq = { s.dev.seq with shrinkAt := t.seq.shrinkAt } ∧ Frame [.streams, .seq, .regs, .evt, .life] s.dev t)

/-- The safe input pairs in each channel (R402, R404). Where the spec leaves a point open it meets the model's choice of logs 22,
71. -/
def Obligations.SafeInputPairs : Prop :=
  ∀ (s : State) (c : TollChan) (levels at' : Nat) (i : Fin 8), s.dev.wf → s.dev.chanRuns c = true → s.dev.toll.cfgOk = true →
    (s.dev.sized → (pairFunc s.dev.toll.cfg i = 1 ∨ pairFunc s.dev.toll.cfg i = 2 ∨ pairFunc s.dev.toll.cfg i = 3) →
      (s.dev.readPair i levels (max s.dev.up at')).test = false → (s.dev.readPair i levels (max s.dev.up at')).a = true →
      (s.dev.readPair i levels (max s.dev.up at')).b = true → s.dev.up ≤ at' →
      Does (.safeInputSample c levels at') s fun t =>
        ((t.tollCh c).pairs.getD i {}).demand = false ∧ ((t.tollCh c).pairs.getD i {}).cnt = 0) ∧
    (s.dev.sized → pairFunc s.dev.toll.cfg i = 1 → (s.dev.readPair i levels at').test = false → ((s.dev.readPair i levels
      at').a && (s.dev.readPair i levels at').b) = false → s.dev.up ≤ at' →
      Does (.safeInputSample c levels at') s fun t =>
        ((t.tollCh c).pairs.getD i {}).demand = true ∧
        ((t.tollCh c).pairs.getD i {}).cnt =
          (if (s.dev.readPair i levels at').a ≠ (s.dev.readPair i levels at').b then ((s.dev.tollCh c).pairs.getD i {}).cnt + 1 else 0)) ∧
    (s.dev.sized → pairFunc s.dev.toll.cfg i = 2 → (s.dev.readPair i levels at').test = false → ((s.dev.readPair i levels
      at').a && (s.dev.readPair i levels at').b) = false → s.dev.up ≤ at' →
      Does (.safeInputSample c levels at') s fun t =>
        ((t.tollCh c).pairs.getD i {}).demand = true ∧
        ((t.tollCh c).pairs.getD i {}).cnt = (if (s.dev.readPair i levels at').b then ((s.dev.tollCh c).pairs.getD i {}).cnt + 1 else 0)) ∧
    (s.dev.sized → pairFunc s.dev.toll.cfg i = 3 → (s.dev.readPair i levels at').test = false → (s.dev.readPair i levels at').a
      = false → (s.dev.readPair i levels at').b = true → ((s.dev.tollCh c).pairs.getD i {}).filtA < pairFilter s.dev.toll.cfg i
      → s.dev.up ≤ at' →
      Does (.safeInputSample c levels at') s fun t =>
        ((t.tollCh c).pairs.getD i {}).demand = ((s.dev.tollCh c).pairs.getD i {}).demand ∧
        ((t.tollCh c).pairs.getD i {}).cnt = ((s.dev.tollCh c).pairs.getD i {}).cnt + 1) ∧
    (s.dev.sized → (pairFunc s.dev.toll.cfg i = 1 ∨ pairFunc s.dev.toll.cfg i = 3) → (s.dev.readPair i levels at').test = false
      → (s.dev.readPair i levels at').a ≠ (s.dev.readPair i levels at').b → pairD s.dev.toll.cfg i ≤ ((s.dev.tollCh
      c).pairs.getD i {}).cnt → s.dev.up ≤ at' →
      Does (.safeInputSample c levels at') s fun t =>
        ((t.tollCh c).pairs.getD i {}).disc = true ∧
        (((s.dev.tollCh c).pairs.getD i {}).disc = false → bitAt (t.get (F.EVT_STATUS 12)) 3 = true)) ∧
    (s.dev.sized → pairFunc s.dev.toll.cfg i ≠ 0 → (s.dev.readPair i levels at').test = true → s.dev.up ≤ at' →
      Does (.safeInputSample c levels at') s fun t =>
        ((t.tollCh c).pairs.getD i {}).demand = ((s.dev.tollCh c).pairs.getD i {}).demand ∧
        ((t.tollCh c).pairs.getD i {}).cnt = ((s.dev.tollCh c).pairs.getD i {}).cnt ∧
        ((s.dev.readPair i levels at').fail = true → ((t.tollCh c).pairs.getD i {}).test = true ∧
          (((s.dev.tollCh c).pairs.getD i {}).test = false → bitAt (t.get (F.EVT_STATUS 12)) 2 = true))) ∧
    (s.dev.st.ticks = false →
      Does (.safeInputSample c levels at') s fun t =>
        (c = .logic → t.get F.TOLL_SI_RAW = levels % 2 ^ 16) ∧
        Touches [.toll, .up, .cyc, .tb, .rcd, .evt, .life] [F.TOLL_SI_RAW, F.EVT_STATUS 12, F.EVT_STATUS 9, F.REC_LOST, F.REC_STATUS.STATE, F.TRIGGERS_DROPPED] s.dev t)

/-- Test pulses of inputs and outputs, the read-back, the clearing of faults (R403, R419, R420, R421, R422, R444). Where the spec
leaves a point open it meets the model's choice of logs 20, 50, 71. -/
def Obligations.OutputTestsAndReadBack : Prop :=
  (∀ (s : State), s.dev.wf →
    (∀ (c : TollChan) (at' : Nat), s.dev.chanRuns c = true →
      Does (.tpWindowStart c at') s fun t =>
        (t.tollCh c).tpStart = some at' ∧ (t.tollCh c).tpLow = true ∧ Touches [.toll, .up, .cyc, .tb] [] s.dev t) ∧
    (∀ (c : TollChan),
      Does (.tpLowEnd c) s fun t => (t.tollCh c).tpLow = false ∧ (t.tollCh c).tpStart = (s.dev.tollCh c).tpStart ∧ Touches [.toll] [] s.dev t) ∧
    (∀ (pair : Fin 4), bitAt (outTest s.dev.toll.cfg) pair = true → s.dev.pairOn pair = true → s.dev.mayClose .logic pair =
      true →
      Does (.offPulseStart pair 0) s fun t =>
        bitAt t.toll.testA pair = true ∧ bitAt t.toll.logic.switch pair = false ∧ t.toll.proc.switch = s.dev.toll.proc.switch ∧
        (t.toll.fault = s.dev.toll.fault) ∧ Frame [.toll, .regs, .evt, .life, .rcd] s.dev t) ∧
    (∀ (pair : Fin 4), bitAt (outTest s.dev.toll.cfg) pair = true → s.dev.pairOn pair = true → s.dev.mayClose .proc pair = true
      →
      Does (.offPulseStart pair 1) s fun t =>
        bitAt t.toll.testB pair = true ∧ bitAt t.toll.proc.switch pair = false ∧ t.toll.logic.switch = s.dev.toll.logic.switch ∧
        Frame [.toll, .regs, .evt, .life, .rcd] s.dev t) ∧
    (∀ (pair : Fin 4) (sw : Fin 2), bitAt (s.dev.pulsing (switchChan sw)) pair = true →
      Does (.offPulseCheck pair sw false) s fun t =>
        bitAt t.toll.testPass (2 * pair.val + sw.val) = true ∧ t.get F.SO_TESTS = s.dev.get F.SO_TESTS ∧ Touches [.toll] [] s.dev t) ∧
    (∀ (pair : Fin 4) (sw : Fin 2), bitAt (s.dev.pulsing (switchChan sw)) pair = true →
      Does (.offPulseCheck pair sw true) s fun t =>
        t.get F.SO_TEST_FAILS = (s.dev.get F.SO_TEST_FAILS + 1) % 2 ^ 32 ∧ bitAt t.toll.outFault pair = true ∧
        t.pairOn pair = false ∧ (bitAt s.dev.toll.outFault pair = false → bitAt (t.get (F.EVT_STATUS 12)) 5 = true) ∧
        Frame [.toll, .regs, .evt, .life, .rcd] s.dev t) ∧
    (∀ (pair : Fin 4) (sw : Fin 2), bitAt (s.dev.pulsing (switchChan sw)) pair = true → s.dev.mayClose (switchChan sw) pair =
      true →
      Does (.offPulseEnd pair sw) s fun t =>
        bitAt (t.pulsing (switchChan sw)) pair = false ∧ bitAt (t.tollCh (switchChan sw)).switch pair = true ∧
        t.get F.SO_TESTS = (s.dev.get F.SO_TESTS + nat (bitAt s.dev.toll.testPass (2 * pair.val + sw.val))) % 2 ^ 32 ∧
        Frame [.toll, .regs, .evt, .life, .rcd] s.dev t) ∧
    (∀ (pair : Fin 4) (sw : Fin 2) (high : Bool), bitAt (s.dev.pulsing (switchChan sw)) pair = false →
      Does (.offPulseCheck pair sw high) s fun t => t = s.dev)) ∧
  (∀ (s : State), s.dev.wf →
    (∀ (c : TollChan) (rb : Nat) (p : Fin 4), s.dev.chanRuns c = true → s.dev.pairTested p = false → s.dev.rbWrong rb p = true
      → 1 ≤ (s.dev.tollCh c).rbBad.getD p 0 →
      Does (.outputReadback c rb) s fun t =>
        bitAt t.toll.outFault p = true ∧ t.pairOn p = false ∧ (bitAt s.dev.toll.outFault p = false → bitAt (t.get (F.EVT_STATUS 12)) 5 = true) ∧
        t.toll.readback = rb ∧ Frame [.toll, .regs, .evt, .life, .rcd] s.dev t) ∧
    (∀ (c : TollChan) (rb : Nat), s.dev.chanRuns c = true → (∀ p < 4, s.dev.pairTested p = false ∧ s.dev.rbWrong rb p = false)
      →
      Does (.outputReadback c rb) s fun t =>
        t.toll.outFault = s.dev.toll.outFault ∧ (t.tollCh c).rbBad = [0, 0, 0, 0] ∧ Frame [.toll, .regs, .evt, .life, .rcd] s.dev t) ∧
    (∀ (r : Role), Role.canWrite r false = true →
      Does (.safetyClearFaults r 1) s fun t =>
        t.toll.clearReq = true ∧ t.toll.fieldFault = s.dev.toll.fieldFault ∧
        (∀ p < 4, bitAt t.toll.outFault p = (bitAt s.dev.toll.outFault p && !(!bitAt s.dev.toll.readback (2 * p) &&
          !bitAt s.dev.toll.readback (2 * p + 1) && !bitAt s.dev.toll.logic.switch p && !bitAt s.dev.toll.proc.switch p))) ∧
        Touches [.toll, .flf] [] s.dev t))

/-- Ethernet links, and datagrams that start (R306, R376, R388, R391, R482). Where the spec leaves a point open it meets the
model's choice of logs 50, 81, 83, 106. -/
def Obligations.EthernetLinksAndLaunch : Prop :=
  (∀ (s : State) (p : Fin 2), s.dev.wf →
    (∀ (fec speed : Nat), bitAt (s.dev.port p).cfg 0 = true → s.dev.retiredUnit 6 p = false → s.dev.rootRuns = true →
      s.dev.runs (25 + p) = true → speedAllowed (s.dev.port p).cfg speed = true → fecAllowed (s.dev.port p).cfg speed fec = true
      →
      Does (.ethLinkChange p true speed fec) s fun t =>
        t.flag (F.ETH_STATUS.LINK p) = true ∧ t.flag (F.ETH_STATUS.BLOCK_LOCK p) = true ∧ t.get (F.ETH_STATUS.SPEED p) = speed ∧
        t.get (F.ETH_STATUS.FEC p) = fec ∧ bitAt (t.get (F.EVT_STATUS 10)) p = (!s.dev.flag (F.ETH_STATUS.LINK p) || bitAt (s.dev.get (F.EVT_STATUS 10)) p) ∧
        Touches [.evt, .life] [F.ETH_STATUS.LINK p, F.ETH_STATUS.BLOCK_LOCK p, F.ETH_STATUS.SPEED p, F.ETH_STATUS.FEC p, F.ETH_STATUS.AN_DONE p,
          F.EVT_STATUS 10] s.dev t) ∧
    (s.dev.flag (F.ETH_STATUS.LINK p) = true →
      Does (.ethLinkChange p false 0 0) s fun t => t.flag (F.ETH_STATUS.LINK p) = false ∧ bitAt (t.get (F.EVT_STATUS 10)) p = true) ∧
    (s.dev.runs (25 + p) = true →
      Does (.ethLinkRestart true p) s fun t =>
        t.flag (F.ETH_STATUS.LINK p) = false ∧ (∀ q : Fin 2, q ≠ p → t.flag (F.ETH_STATUS.LINK q) = s.dev.flag (F.ETH_STATUS.LINK q))) ∧
    (s.dev.runs (25 + p) = true →
      Does (.ethLinkRestart false p) s fun t =>
        t.flag F.BUS_STATUS.VIEW_IGNORED = true ∧ Touches [] [F.BUS_STATUS.VIEW_IGNORED] s.dev t)) ∧
  (∀ (s : State) (p : Fin 2) (at' q mac : Nat) (e : QEnt), s.dev.wf → s.dev.ethRuns p = true → s.dev.sized → s.dev.up = at' →
    (s.dev.port p).nextQueue s.dev.nowNs = some (q, e) → s.dev.macOf e = some mac → e.what ≠ "ptp" →
    (s.dev.late q e = false →
      Does (.datagramLaunch p at') s fun t =>
        t.net.sent = s.dev.net.sent ++ [{ port := p, what := e.what, mac := mac, ip := e.dst, ports := e.ports, tag := e.tag, data := e.data
                                          df := decide (e.stream ≤ 2)
                                          trailer := if e.prp then some { seq := e.prpSeq, lan := 0xA + p, size := e.lsdu % 4096 } else none }] ∧
        (t.port p).queues.getD q [] = ((s.dev.port p).queues.getD q []).drop 1 ∧
        (∀ n < 2, t.get (F.OUT_SENT_BYTES n) =
          (s.dev.get (F.OUT_SENT_BYTES n) + if e.stream = n ∧ e.counted = false then e.data.length - 24 else 0) % 2 ^ 32) ∧
        Touches [.net, .up, .cyc, .tb] [F.OUT_SENT_BYTES 0, F.OUT_SENT_BYTES 1] s.dev t) ∧
    (s.dev.late q e = true → s.dev.dropBit q = false →
      Does (.datagramLaunch p at') s fun t =>
        t.net.sent.length = s.dev.net.sent.length + 1 ∧
        t.get (F.ETH_LATE_SENT p) = (s.dev.get (F.ETH_LATE_SENT p) + 1) % 2 ^ 32 ∧
        t.get (F.ETH_LATE_DROPPED p) = s.dev.get (F.ETH_LATE_DROPPED p) ∧
        (s.dev.net.lateAt ≠ some s.dev.seq.frameStart → t.occurred 10 10) ∧
        Touches [.net, .up, .cyc, .tb, .evt, .life] [F.ETH_LATE_SENT p, F.OUT_SENT_BYTES 0, F.OUT_SENT_BYTES 1, F.EVT_STATUS 10] s.dev t))

/-- PPS_IN and PPS_OUT (R385). Where the spec leaves a point open it meets the model's choice of logs 50, 82. -/
def Obligations.PulsePerSecondInAndOut : Prop :=
  ∀ (s : State), s.dev.wf →
    (∀ (at' : Nat), s.dev.get F.TB_SOURCE.SOURCE ≠ 2 →
      Does (.ppsInEdge at') s fun t => t.up = max s.dev.up at' ∧ Touches [.up, .cyc, .tb] [] s.dev t) ∧
    (s.dev.get F.TB_SOURCE.SOURCE = 2 → s.dev.tb.setOnce = true → s.dev.rootRuns = true → s.dev.tb.step = none → s.dev.tb.rem =
      0 → s.dev.timeValid = false → s.dev.tb.t40 = 999999990 * 2 ^ 40 →
      Does (.ppsInEdge s.dev.up) s fun t => t.get F.PTP_OFFSET = 10 ∧ t.nowNs = 1000000000 ∧ t.timeValid = true) ∧
    (s.dev.tbCounts = true → s.dev.timeValid = true → s.dev.nowSec < 2 ^ 48 →
      Does .ppsOutSecond s fun t =>
        s.dev.nowSec < t.nowSec ∧ t.net.ppsRise = some t.up ∧ t.up = s.dev.up + s.dev.secondCycles ∧ Touches [.net, .up, .cyc, .tb] [] s.dev t) ∧
    (s.dev.timeValid = false →
      Does .ppsOutSecond s fun t => t = s.dev) ∧
    (∀ (r : Nat), s.dev.net.ppsRise = some r →
      Does .ppsOutWidthEnd s fun t =>
        t.net = { s.dev.net with ppsRise := none } ∧ t.up = max s.dev.up (r + 1000000 * s.dev.get F.TB_PPS.WIDTH) ∧
        Touches [.net, .up, .cyc, .tb] [] s.dev t)

/-- The time protocol: received and sent messages, holdover (R381, R382, R383, R384). Where the spec leaves a point open it meets
the model's choice of logs 40, 50, 82. -/
def Obligations.PtpReceivedAndSent : Prop :=
  (∀ (s : State) (p : Fin 2) (m : PtpMsg), s.dev.wf → s.dev.ethRuns p = true → s.dev.vidOk m.vid = true → m.domain = s.dev.get
    F.PTP_CTRL.DOMAIN → m.source / 65536 ≠ s.dev.ptpIdent p / 65536 → m.t = s.dev.up → s.dev.sized →
    (m.peer = false → s.dev.fromMaster p m = true → m.twoStep = true →
      Does (.ptpSyncRx p m) s fun t =>
        t.port p = { s.dev.port p with syncSeq := some m.seq, syncRx := s.dev.rxStamp p, syncCorr := m.corr } ∧
        Touches [.net, .up, .cyc, .tb] [] s.dev t) ∧
    (m.peer = false → s.dev.fromMaster p m = true → m.twoStep = false → s.dev.get F.TB_SOURCE.SOURCE ≠ 1 →
      Does (.ptpSyncRx p m) s fun t =>
        t.port p = { s.dev.port p with syncSeq := none, reqMaster := some (s.dev.rxStamp p * 4096 - ptpTime m - m.corr) } ∧
        Touches [.net, .up, .cyc, .tb] [] s.dev t) ∧
    (m.peer = false → s.dev.fromMaster p m = true → (s.dev.port p).syncSeq = some m.seq → s.dev.get F.TB_SOURCE.SOURCE ≠ 1 →
      Does (.ptpFollowUpRx p m) s fun t =>
        (t.port p).syncSeq = none ∧
        (t.port p).reqMaster = some ((s.dev.port p).syncRx * 4096 - ptpTime m - (s.dev.port p).syncCorr - m.corr) ∧
        Touches [.net, .up, .cyc, .tb] [] s.dev t) ∧
    (∀ (t1 delta : Int), m.peer = false → s.dev.fromMaster p m = true → s.dev.as = false → m.requester = s.dev.ptpIdent p →
      m.seq = (s.dev.port p).reqSeq → (s.dev.port p).reqT1 = some t1 → (s.dev.port p).reqMaster = some delta →
      Does (.ptpDelayRespRx p m) s fun t =>
        (t.port p).path = rhu (delta + (ptpTime m - m.corr - t1 * 4096)) 2 ∧ (t.port p).reqT1 = none ∧
        (s.dev.ptpPort = p.val → t.get F.PTP_PATH = uns 32 (rhu (t.port p).path 4096)) ∧
        Touches [.net, .up, .cyc, .tb] [F.PTP_PATH] s.dev t) ∧
    (m.peer = false → (s.dev.port p).master = none →
      Does (.ptpAnnounceRx p m) s fun t =>
        (t.port p).master = some { rank := [m.prio1, m.quality, m.prio2, m.gm, m.steps], source := m.source } ∧
        (s.dev.flag F.PTP_CTRL.SLAVE_ONLY = true → t.net.isMaster = false) ∧
        Touches [.net, .up, .cyc, .tb] [F.PTP_STATUS.ACTIVE_PORT, F.PTP_PATH] s.dev t) ∧
    (m.peer = false → s.dev.net.isMaster = true → s.dev.as = false →
      Does (.ptpDelayReqRx p m) s fun t =>
        t.net.unitNo = s.dev.net.unitNo + 1 ∧ Touches [.net, .up, .cyc, .tb, .evt, .life] [F.ETH_QOVF p, F.EVT_STATUS 10] s.dev t)) ∧
  (∀ (s : State), s.dev.wf →
    (s.dev.net.isMaster = true → s.dev.rootRuns = true →
      ∀ i ∈ [Instr.ptpSyncTx, .ptpAnnounceTx], Does i s fun t =>
        t.net.unitNo = s.dev.net.unitNo + 2 ∧ (i = .ptpSyncTx → t.net.syncSeqTx = (s.dev.net.syncSeqTx + 1) % 65536) ∧
        Touches [.net, .evt, .life] [F.ETH_QOVF 0, F.ETH_QOVF 1, F.EVT_STATUS 10] s.dev t) ∧
    (s.dev.net.isMaster = false →
      ∀ i ∈ [Instr.ptpSyncTx, .ptpAnnounceTx], Does i s fun t => t = s.dev) ∧
    (s.dev.rootRuns = true → s.dev.net.isMaster = false → s.dev.as = false → s.dev.sized → (s.dev.port 0).master.isSome = true
      → (s.dev.port 1).master = none →
      Does .ptpDelayReqTx s fun t =>
        (t.port 0).reqSeq = ((s.dev.port 0).reqSeq + 1) % 65536 ∧ (t.port 0).reqT1 = none ∧ t.port 1 = s.dev.port 1 ∧
        Touches [.net, .evt, .life] [F.ETH_QOVF 0, F.EVT_STATUS 10] s.dev t) ∧
    (s.dev.get F.TB_SOURCE.SOURCE = 1 → s.dev.net.isMaster = false → s.dev.flag F.PTP_STATUS.HOLDOVER = false →
      Does (.ptpHoldoverTimeout false) s fun t =>
        t.flag F.PTP_STATUS.HOLDOVER = true ∧ t.flag F.PTP_STATUS.LOCKED = false ∧ t.occurred 2 1 ∧
        t.net = { s.dev.net with lockRun := 0, unlRun := 0 } ∧ t.get F.TB_TRIM = s.dev.get F.TB_TRIM ∧
        Touches [.net, .evt, .life] [F.PTP_STATUS.HOLDOVER, F.PTP_STATUS.LOCKED, F.EVT_STATUS 2] s.dev t))

/-- Control blocks of Basxiop: damaged blocks, credits, alignment, link delay (R360, R361, R363, R366, R367, R368, R369,
R370, R371). Where the spec leaves a point open it meets the model's choice of logs 50, 84. -/
def Obligations.ControlBlocksAndLinkDelay : Prop :=
  (∀ (s : State) (p : Fin 2) (blk : BitVec 64), s.dev.wf → s.dev.bxRuns p = true →
    (bxParse blk = none →
      ∀ i ∈ [Instr.bxCreditRx p blk, .bxTrainCapabilityRx p blk, .bxTrainStepRx p blk, .bxTickRx p blk, .bxTimeSecRx p blk],
        Does i s fun t => t.get (F.BX_CTRL_ERR p) = (s.dev.get (F.BX_CTRL_ERR p) + 1) % 2 ^ 32 ∧ Touches [] [F.BX_CTRL_ERR p] s.dev t) ∧
    (∀ (v : Nat), bxParse blk = some (0x33, v) → s.dev.bxUp p = true → s.dev.sized → (s.dev.bxPort p).wait0 = [] →
      (s.dev.bxPort p).waitOwn = [] → (s.dev.bxPort p).waitRelay = [] →
      Does (.bxCreditRx p blk) s fun t =>
        (t.bxPort p).freedRx0 = bits v 32 16 ∧ (t.bxPort p).freedRx1 = bits v 16 16 ∧
        t.bxPort (1 - p.val) = s.dev.bxPort (1 - p.val) ∧ Touches [.bx] [] s.dev t) ∧
    (s.dev.bxUp p = true → s.dev.sized →
      Does (.bxCreditTx p) s fun t =>
        (t.bxPort p).tx = (s.dev.bxPort p).tx ++ [(0x33, (s.dev.bxPort p).freed0 * 2 ^ 32 + (s.dev.bxPort p).freed1 * 2 ^ 16)] ∧
        Touches [.bx] [] s.dev t) ∧
    (2 ≤ (s.dev.bxPort p).step → s.dev.sized → (s.dev.bxPort p).lanes = [0, 1] →
      Does (.bxAlignTx p) s fun t =>
        (t.bxPort p).tx = (s.dev.bxPort p).tx ++ [(0x2D, 0), (0x2D, 2 ^ 40)] ∧ t.bxPort (1 - p.val) = s.dev.bxPort (1 - p.val) ∧
        Touches [.bx] [] s.dev t)) ∧
  (∀ (s : State) (p : Fin 2), s.dev.wf → s.dev.bxRuns p = true → s.dev.sized → s.dev.bxUp p = true →
    (Does (.bxDelayReqTx p) s fun t =>
        (t.bxPort p).delaySeq = ((s.dev.bxPort p).delaySeq + 1) % 256 ∧ (t.bxPort p).delayT1 = some (s.dev.stamp16, s.dev.up) ∧
        (t.bxPort p).tx = (s.dev.bxPort p).tx ++ [(0x78, (t.bxPort p).delaySeq * 2 ^ 40)] ∧ Touches [.bx] [] s.dev t) ∧
    (∀ (blk : BitVec 64) (v turn : Nat), bxParse blk = some (0x78, v) →
      Does (.bxDelayReqRx p blk s.dev.up turn) s fun t =>
        (t.bxPort p).tx = (s.dev.bxPort p).tx ++ [(0x87, bits v 40 8 * 2 ^ 40 + turn % 2 ^ 24 * 2 ^ 16)] ∧ Touches [.bx, .up, .cyc, .tb] [] s.dev t) ∧
    (∀ (blk : BitVec 64) (v u : Nat) (t1 : Int), bxParse blk = some (0x87, v) → (s.dev.bxPort p).delayT1 = some (t1, u) → bits
      v 40 8 = (s.dev.bxPort p).delaySeq → s.dev.up ≤ u + 100000 →
      Does (.bxDelayRespRx p blk s.dev.up) s fun t =>
        (t.bxPort p).delayT1 = none ∧
        (t.bxPort p).delays = ((s.dev.stamp16 - t1 - bits v 16 24 + 2 * s.dev.getS (F.BX_ASYM p)) :: (s.dev.bxPort p).delays).take 16 ∧
        t.get (F.BX_DELAY p) = uns 32 (rhu (t.bxPort p).delays.sum (2 * (t.bxPort p).delays.length)) ∧
        Touches [.bx, .up, .cyc, .tb] [F.BX_DELAY p] s.dev t) ∧
    (∀ (u : Nat) (t1 : Int), (s.dev.bxPort p).delayT1 = some (t1, u) →
      Does (.bxDelayRespTimeout p) s fun t =>
        t.bxPort p = { s.dev.bxPort p with delayT1 := none } ∧ t.up = max s.dev.up (u + 100000) ∧
        t.get (F.BX_DELAY p) = s.dev.get (F.BX_DELAY p) ∧ Touches [.bx, .up, .cyc, .tb] [] s.dev t))

/-- Basxiop links come up: lock, alignment, training, speed steps, restarts (R359, R360, R362, R363, R369, R392, R482). Where
the spec leaves a point open it meets the model's choice of logs 50, 81, 84, 110. -/
def Obligations.LinkBringUpAndTraining : Prop :=
  (∀ (s : State) (p : Fin 2), s.dev.wf → s.dev.bxRuns p = true → s.dev.sized →
    (∀ (l : Fin 2), 2 ≤ (s.dev.bxPort p).step → (s.dev.bxPort p).laneRetired.getD l false = false →
      Does (.bxBlockLock (Fin.ofNat 4 (2 * p.val + l.val))) s fun t =>
        (t.bxPort p).lanesLock.getD l false = true ∧
        ((s.dev.bxPort p).step = 2 → (t.bxPort p).step = (if (t.bxPort p).allLanes (fun k => (t.bxPort p).lanesLock.getD k false) then 3 else 2)) ∧
        t.bxPort (1 - p.val) = s.dev.bxPort (1 - p.val) ∧ Touches [.bx] [] s.dev t) ∧
    (∀ (l : Fin 2), (s.dev.bxPort p).lanesLock.getD l false = true →
      Does (.bxLockLoss (Fin.ofNat 4 (2 * p.val + l.val))) s fun t =>
        t.get (F.BX_LOCK_LOSS p) = (s.dev.get (F.BX_LOCK_LOSS p) + 1) % 2 ^ 32 ∧ t.flag (F.BX_STATUS.LINK_UP p) = false ∧
        (t.bxPort p).step ≠ 8) ∧
    (Does (.bxPortRestart true p) s fun t =>
        t.flag (F.BX_STATUS.LINK_UP p) = false ∧ t.flag (F.BX_STATUS.FALLBACK p) = false ∧ (t.bxPort p).step = 2 ∧
        (t.bxPort p).cfg = s.dev.bxCtrl p ∧ t.bxPort (1 - p.val) = s.dev.bxPort (1 - p.val)) ∧
    ((s.dev.bxPort p).step = 2 → (s.dev.bxPort p).speed = 0 →
      Does (.bxBringupTimeout p) s fun t =>
        (t.bxPort p).step = 1 ∧ t.flag (F.BX_STATUS.TRAINING p) = false ∧ Touches [.bx] [F.BX_STATUS.TRAINING p] s.dev t) ∧
    ((2 ≤ (s.dev.bxPort p).step ∧ (s.dev.bxPort p).step ≤ 5) → (s.dev.bxPort p).speed ≠ 0 →
      Does (.bxBringupTimeout p) s fun t =>
        (t.bxPort p).step = 2 ∧ (t.bxPort p).speed = (s.dev.bxPort p).speed - 1 ∧ (t.bxPort p).fell = true ∧
        t.flag (F.BX_STATUS.FALLBACK p) = true ∧ t.occurred 10 5 ∧
        Touches [.bx, .evt, .life] [F.BX_STATUS.TRAINING p, F.BX_STATUS.FALLBACK p, F.EVT_STATUS 10] s.dev t) ∧
    ((s.dev.bxPort p).step = 1 →
      Does (.bxRestartDelayEnd p) s fun t => (t.bxPort p).step = 2 ∧ (t.bxPort p).lanesLock = [false, false] ∧ Touches [.bx] [] s.dev t) ∧
    (∀ (n : Nat), (s.dev.bxPort p).step = 6 → (s.dev.bxPort p).countdown = some n →
      Does (.bxSpeedCountdownEnd p) s fun t =>
        (t.bxPort p).step = 2 ∧ (t.bxPort p).speed = (s.dev.bxPort p).target ∧ (t.bxPort p).countdown = none ∧ Touches [.bx] [] s.dev t) ∧
    (∀ (l : Fin 2) (blk : BitVec 64) (v : Nat), bxParse blk = some (0x2D, v) → (s.dev.bxPort p).step = 3 → bits v 40 8 = l.val
      → (s.dev.bxPort p).lanes = [0, 1] → (s.dev.bxPort p).alignSeen = [true, true] →
      Does (.bxAlignRx (Fin.ofNat 4 (2 * p.val + l.val)) blk) s fun t =>
        (t.bxPort p).step = 4 ∧ (t.bxPort p).tx = (s.dev.bxPort p).tx ++ [(0x4B, s.dev.bxCapability p)] ∧ Touches [.bx] [] s.dev t)) ∧
  (∀ (s : State) (p : Fin 2) (blk : BitVec 64) (v : Nat), s.dev.wf → s.dev.bxRuns p = true → s.dev.sized → bxParse blk = some
    (0x4B, v) →
    (bits v 44 4 = 0 → (s.dev.bxPort p).step = 4 → s.dev.role ≠ 2 →
      Does (.bxTrainCapabilityRx p blk) s fun t =>
        (t.bxPort p).step = 5 ∧ (t.bxPort p).peerMax = bits v 42 2 ∧ (t.bxPort p).peerLanes = bits v 36 2 ∧
        t.get (F.BX_STATUS.PEER_ROLE p) = bits v 40 2 ∧ t.get (F.BX_STATUS.PEER_POSITION p) = bits v 38 2 ∧
        t.flag (F.BX_STATUS.TRAINING p) = true ∧ (t.bxPort p).tx.length = (s.dev.bxPort p).tx.length + (t.bxPort p).lanes.length ∧
        Touches [.bx, .free] [F.BX_STATUS.PEER_ROLE p, F.BX_STATUS.PEER_POSITION p, F.BX_STATUS.TRAINING p] s.dev t) ∧
    (bits v 44 4 = 0 → (s.dev.bxPort 1).step = 4 → p = 1 → s.dev.role = 2 →
      Does (.bxTrainCapabilityRx p blk) s fun t =>
        (bits v 40 2 = 1 → t.get F.BX_STRING.POSITION = 1 ∧ t.flag F.BX_STRING.POSITIONED = true) ∧
        (bits v 40 2 = 2 → bits v 38 2 ≠ 0 → bits v 38 2 < 3 → t.get F.BX_STRING.POSITION = bits v 38 2 + 1 ∧ t.flag F.BX_STRING.POSITIONED = true) ∧
        (bits v 40 2 = 0 → t.get F.BX_STRING.POSITION = 0 ∧ t.flag F.BX_STRING.POSITIONED = false ∧ t.occurred 10 6)) ∧
    (∀ (l : Fin 2) (ready : Bool), bits v 44 4 = 1 → (s.dev.bxPort p).step = 5 → (s.dev.bxPort p).allLanes (fun k =>
      (s.dev.bxPort p).rdyRx.getD k false) = false →
      Does (.bxTrainUpdateRx (Fin.ofNat 4 (2 * p.val + l.val)) blk ready) s fun t =>
        (bitAt v 37 = true → (t.bxPort p).taps.getD l [] = [0, 63, 0]) ∧
        (bitAt v 37 = false → bits v 38 6 = 0 → (t.bxPort p).taps.getD l [] = (s.dev.bxPort p).taps.getD l []) ∧
        (t.bxPort p).tx = (s.dev.bxPort p).tx ++
          [(0x4B, 2 * 2 ^ 44 + (tapUpdate ((s.dev.bxPort p).taps.getD l []) v).2 * 2 ^ 38 + nat ready * 2 ^ 37)] ∧
        Touches [.bx] [] s.dev t) ∧
    (∀ (l : Fin 2), bits v 44 4 = 2 → (s.dev.bxPort p).step = 5 → (s.dev.bxPort p).allLanes (fun k => (s.dev.bxPort
      p).rdyTx.getD k false) = false →
      Does (.bxTrainStatusRx (Fin.ofNat 4 (2 * p.val + l.val)) blk) s fun t =>
        (t.bxPort p).rdyRx.getD l false = ((s.dev.bxPort p).rdyRx.getD l false || bitAt v 37) ∧ (t.bxPort p).step = 5 ∧
        (t.bxPort p).tx.length = (s.dev.bxPort p).tx.length + nat (!(s.dev.bxPort p).rdyTx.getD l false) ∧
        Touches [.bx, .free] [] s.dev t) ∧
    (bits v 44 4 = 2 → (s.dev.bxPort p).step = 5 → (s.dev.bxPort p).lanes = [0, 1] → (s.dev.bxPort p).rdyTx = [true, true] →
      (s.dev.bxPort p).rdyRx = [true, true] → (s.dev.bxPort p).nextSpeed = none →
      Does (.bxTrainStatusRx (Fin.ofNat 4 (2 * p.val)) blk) s fun t =>
        (t.bxPort p).step = 8 ∧ t.bxUp p = true ∧ t.get (F.BX_STATUS.SPEED p) = (s.dev.bxPort p).speed % 4 ∧
        t.get (F.BX_STATUS.LANES_ACTIVE p) = 3 ∧ t.flag (F.BX_STATUS.TRAINING p) = false ∧ t.occurred 10 (2 + p.val) ∧
        (t.bxPort p).credits 0 = 64 ∧ (t.bxPort p).credits 1 = 2048) ∧
    (bits v 44 4 = 3 → p = 1 → (s.dev.bxPort 1).step = 6 → (s.dev.bxPort 1).nextSpeed = some (bits v 42 2) →
      Does (.bxTrainStepRx p blk) s fun t =>
        (t.bxPort 1).countdown = some (4 * bits v 32 8) ∧ (t.bxPort 1).target = bits v 42 2 ∧ Touches [.bx] [] s.dev t))

/-- Time and ticks of the string (R366, R370, R371). Where the spec leaves a point open it meets the model's choice of logs 50,
85. -/
def Obligations.StringTimeAndTicks : Prop :=
  ∀ (s : State) (blk : BitVec 64) (v : Nat), s.dev.wf → s.dev.bxRuns 1 = true → s.dev.bxUp 1 = true → s.dev.sized →
    (bxParse blk = some (0x55, v) → s.dev.follows = true → s.dev.bxRuns 0 = true → s.dev.bxUp 0 = true → bitAt v 47 = false →
      Does (.bxTickRx 1 blk) s fun t =>
        (t.bxPort 0).tx = (s.dev.bxPort 0).tx ++ [(0x55, v)] ∧ t.bx.tickStage = bits v 33 14 ∧ t.bx.tickFrame = false ∧ t.bx.tickNew = true ∧
        t.bx.tickLost = s.dev.bx.tickLost ∧ Touches [.bx] [] s.dev t) ∧
    (bxParse blk = some (0x55, v) → s.dev.follows = true → bitAt v 47 = true → s.dev.seq.stageLock = false → s.dev.get
      F.P.framePacing ≠ 3 → s.dev.get F.BX_STRING.LOCK_MODE = 1 →
      Does (.bxTickRx 1 blk) s fun t =>
        t.bx.tickFrame = true ∧ t.bx.tickNew = true ∧ t.bx.tickLost = false ∧ t.flag F.BX_STRING.TICK_LOCKED = true ∧
        Touches [.bx, .seq] [F.BX_STRING.TICK_LOCKED] s.dev t) ∧
    (bxParse blk = some (0x69, v) →
      Does (.bxTimeSecRx 1 blk) s fun t =>
        t.bx.timeSec = (if s.dev.follows then some v else s.dev.bx.timeSec) ∧ t.bx.ports = s.dev.bx.ports ∧ Touches [.bx] [] s.dev t) ∧
    (bxParse blk = some (0x66, v) → s.dev.stringTime = true → s.dev.timeValid = false → s.dev.bx.timeSec = none →
      Does (.bxTimeRx 1 blk s.dev.up) s fun t => Touches [.up, .cyc, .tb] [] s.dev t) ∧
    (∀ (sec : Nat), bxParse blk = some (0x66, v) → s.dev.stringTime = true → s.dev.timeValid = false → s.dev.bx.timeSec = some
      sec → s.dev.tb.step = none → s.dev.tb.rem = 0 → s.dev.get (F.BX_DELAY 1) = 16 → bits v 32 16 = sec % 65536 → sec < 2 ^ 47
      → bits v 0 32 < 1000000000 → s.dev.tb.t40 = 0 →
      Does (.bxTimeRx 1 blk s.dev.up) s fun t => t.nowNs = sec * 1000000000 + bits v 0 32 + 1 ∧ t.timeValid = true) ∧
    (s.dev.sendsTime = true → s.dev.bxUp 0 = true →
      ∀ x ∈ [(Instr.bxTimeTx, 0x66, s.dev.nowSec % 65536 * 2 ^ 32 + s.dev.nowNs % 1000000000), (.bxTimeSecTx, 0x69, s.dev.nowSec % 2 ^ 48)],
        Does x.1 s fun t => (t.bxPort 0).tx = (s.dev.bxPort 0).tx ++ [(x.2.1, x.2.2)] ∧ Touches [.bx] [] s.dev t) ∧
    (s.dev.sendsTime = false →
      ∀ i ∈ [Instr.bxTimeTx, .bxTimeSecTx], Does i s fun t => t = s.dev)

/-- Frames on Basxiop, and Flefen frames through the lead (R364, R373, R375, R377). Where the spec leaves a point open it
meets the model's choice of logs 50, 61, 85, 106, 110. -/
def Obligations.FramesOnBasxiop : Prop :=
  (∀ (s : State) (p : Fin 2) (src dst : Fin 4) (data : Bytes) (term : Option (BitVec 48)), s.dev.wf → s.dev.bxRuns p = true →
    s.dev.bxUp p = true → s.dev.sized → data.length % 8 = 0 →
    (termOk data term = false →
      Does (.bxStatusFrameRx p src data term) s fun t =>
        t.get (F.BX_FRAME_ERR p) = (s.dev.get (F.BX_FRAME_ERR p) + 1) % 2 ^ 32 ∧
        (t.bxPort p).freed0 = ((s.dev.bxPort p).freed0 + cdiv (cdiv data.length 8) 8) % 65536 ∧ t.bx.status = s.dev.bx.status ∧
        ((s.dev.bxPort p).frErrAt = none → t.occurred 10 12) ∧
        Touches [.bx, .evt, .life] [F.BX_FRAME_ERR p, F.EVT_STATUS 10] s.dev t) ∧
    (termOk data term = true → (1 ≤ data.length ∧ data.length ≤ 4096) →
      Does (.bxStatusFrameRx p src data term) s fun t =>
        Tab.find t.bx.status src.val = some (unpad data term) ∧
        (t.bxPort p).freed0 = ((s.dev.bxPort p).freed0 + cdiv (cdiv data.length 8) 8) % 65536 ∧ Touches [.bx] [] s.dev t) ∧
    (termOk data term = true → s.dev.role = 0 → (1 ≤ data.length ∧ data.length ≤ 9600) →
      Does (.bxForwardFrameRx p src data term) s fun t =>
        (t.bxPort p).freed1 = ((s.dev.bxPort p).freed1 + cdiv (cdiv data.length 8) 8) % 65536 ∧
        t.get F.BX_FWD_DROPPED = (s.dev.get F.BX_FWD_DROPPED + (if p = 0 then 1 else 0)) % 2 ^ 32 ∧ t.net = s.dev.net ∧
        Touches [.bx] [F.BX_FWD_DROPPED] s.dev t) ∧
    (p = 0 → termOk data term = true → s.dev.role = 2 → s.dev.flag F.BX_STRING.POSITIONED = true →
      (1 ≤ data.length ∧ data.length ≤ 9600) → s.dev.bxUp
      1 = true → (s.dev.bxPort 1).waitOwn = [] → (s.dev.bxPort 1).waitRelay = [] → (s.dev.bxPort 1).wait0 = [] → cdiv (cdiv
      data.length 8) 8 ≤ (s.dev.bxPort 1).credits 1 →
      Does (.bxForwardFrameRx p src data term) s fun t =>
        (t.bxPort 1).frames = (s.dev.bxPort 1).frames ++
          [{ kind := 1, src := src, seq := (s.dev.bxPort 1).seqTx1, data := unpad data term }] ∧
        (t.bxPort 1).cons1 = ((s.dev.bxPort 1).cons1 + cdiv (cdiv data.length 8) 8) % 65536 ∧
        (t.bxPort 1).line.out.length = (s.dev.bxPort 1).line.out.length + 2 + cdiv data.length 8 ∧
        (t.bxPort 0).freed1 = ((s.dev.bxPort 0).freed1 + cdiv (cdiv data.length 8) 8) % 65536 ∧
        (t.bxPort 0).frames = (s.dev.bxPort 0).frames ∧ Touches [.bx] [] s.dev t) ∧
    (∀ (n : Fin 2) (q : Fin 2), p = 0 → termOk data term = true → s.dev.role = 1 → (8 ≤ (unpad data term).length ∧ data.length ≤ 9600) →
      rd 1 (unpad data term) 0 = n.val → (∀ k
      < 2, (sCfg s.dev.get n).goes k = true ↔ k = q.val) → (s.dev.fwdUnit n ((unpad data term).drop 8)).1 ∉ (s.dev.port q).droppedUnit →
      (((s.dev.port q).queues.getD 4 []).map (·.size)).sum + data.length ≤ 524288 →
      Does (.bxForwardFrameRx p src data term) s fun t =>
        ((t.port q).queues.getD 4 []).map (fun e => (e.dst, e.data)) =
          ((s.dev.port q).queues.getD 4 []).map (fun e => (e.dst, e.data)) ++ [(s.dev.get (F.OUT_SDST n), (unpad data term).drop 8)] ∧
        t.port (1 - q.val) = s.dev.port (1 - q.val) ∧ Touches [.bx, .net] [] s.dev t) ∧
    (termOk data term = true → s.dev.role = 0 → (1 ≤ data.length ∧ data.length ≤ 4096) →
      Does (.bxFlefenFrameRx p src dst data term) s fun t =>
        (t.bxPort p).freed0 = ((s.dev.bxPort p).freed0 + cdiv (cdiv data.length 8) 8) % 65536 ∧ t.bx.inbox = s.dev.bx.inbox ∧ Touches [.bx] [] s.dev t) ∧
    (∀ (x : BxFwd), termOk data term = true → s.dev.role = 1 → (1 ≤ data.length ∧ data.length ≤ 4096) → s.dev.bx.fwd = [x] →
      x.pos = src.val → x.session = rd 2 (unpad data term) 4 → x.tag = rd 2 (unpad data term) 6 → s.dev.prpOn = false →
      Does (.bxFlefenFrameRx 0 src 0 data term) s fun t =>
        (s.dev.bxRuns 0 = true → s.dev.bxUp 0 = true → t.bx.fwd = [] ∧ t.net.unitNo = s.dev.net.unitNo + 1))) ∧
  (∀ (s : State), s.dev.wf →
    (∀ (f : RxFrame) (pos ip sp : Nat) (frame : Bytes), s.dev.ethRuns f.port = true → s.dev.vidOk f.vid = true → f.trailer = none →
      s.dev.role = 1 → (1 ≤ pos ∧ pos ≤ 3) → s.dev.bxUp 0 = true →
      Does (.leadFlefenForward f (24680 + pos) ip sp true frame) s fun t =>
        t.bx.fwd = s.dev.bx.fwd ++ [{ pos := pos, session := rd 2 frame 4, tag := rd 2 frame 6, ip := ip, udp := sp, port := f.port }] ∧
        Touches [.bx, .up, .cyc, .tb] [] s.dev t) ∧
    (∀ (f : RxFrame) (udp ip sp : Nat) (there : Bool) (frame : Bytes), s.dev.ethRuns f.port = true → s.dev.vidOk f.vid = true →
      f.trailer = none → s.dev.role ≠ 1 →
      Does (.leadFlefenForward f udp ip sp there frame) s fun t =>
        t.get (F.ETH_RX_DISCARD f.port) = (s.dev.get (F.ETH_RX_DISCARD f.port) + 1) % 2 ^ 32 ∧
        Touches [.up, .cyc, .tb] [F.ETH_RX_DISCARD f.port] s.dev t))

/-- Scrubbing of the memories, write-backs, conservation (R338, R339, R340, R488). Where the spec leaves a point open it
meets the model's choice of logs 50, 78, 109. -/
def Obligations.MemoryWordsAreScrubbed : Prop :=
  ∀ (s : State) (w : Bytes) (addr : Nat), s.dev.wf → s.dev.held = false →
    (∀ (m : MemKind), s.dev.memRuns m = true → s.dev.readsZero m addr = false → s.dev.readJudge m addr w = .clean →
      Does (.scrubPass m addr w) s fun t => t = { s.dev with rcd := { s.dev.rcd with delivered := w.take 16 } }) ∧
    (∀ (m : MemKind), (s.dev.memRuns m = false ∨ s.dev.readsZero m addr = true) →
      Does (.scrubPass m addr w) s fun t => t = s.dev) ∧
    (∀ (m : MemKind) (j : Nat) (word : Bytes), s.dev.rootRuns = true → s.dev.readJudge m addr w = .corrected j word →
      (m = .fStore ∨ m = .pStore ∨ m = .ring) →
      Does (.scrubPass m addr w) s fun t =>
        t.flag F.MEM_STATUS.CORR = true ∧ t.get F.MEM_CORR = (s.dev.get F.MEM_CORR + 1) % 2 ^ 32 ∧
        t.rcd = { s.dev.rcd with
          delivered := word.take 16
          writeback := s.dev.rcd.writeback ++ [{ m := m, addr := addr, word := word, seen := s.dev.wordSeen m addr }] } ∧
        Touches [.rcd] [F.MEM_STATUS.CORR, F.MEM_CORR] s.dev t) ∧
    (∀ (ch : Fin 512) (j : Nat) (word : Bytes), s.dev.readsZero (.tally ch) addr = false →
      s.dev.readJudge (.tally ch) addr w = .corrected j word →
      Does (.scrubPass (.tally ch) addr w) s fun t =>
        t.flag F.MEM_STATUS.CORR = true ∧ t.flag F.TALLY_STATUS.ECC_CORR = true ∧
        t.get F.TALLY_ECC_CORR = (s.dev.get F.TALLY_ECC_CORR + 1) % 2 ^ 32 ∧ t.rcd.delivered = word.take 16 ∧ t.occurred 5 3 ∧
        Touches [.rcd, .evt, .life] [F.MEM_STATUS.CORR, F.TALLY_STATUS.ECC_CORR, F.TALLY_ECC_CORR, F.EVT_STATUS 5] s.dev t) ∧
    (s.dev.rootRuns = true → s.dev.readJudge .fStore addr w = .uncorrectable → s.dev.st.ticks = false →
      Does (.scrubPass .fStore addr w) s fun t =>
        t.flag F.MEM_STATUS.UNCORR = true ∧ t.get F.MEM_UNCORR = (s.dev.get F.MEM_UNCORR + 1) % 2 ^ 32 ∧
        t.get F.MEM_LAST_ADDR = s.dev.usableAddr .fStore addr / 64 % 2 ^ 32 ∧ t.flag F.TALLY_STATUS.SEED_STORE_ERR = true ∧
        Tab.find t.fStore (addr / 32) = none ∧ t.occurred 5 2 ∧
        Touches [.fStore, .seq, .evt, .life] [F.MEM_STATUS.UNCORR, F.MEM_UNCORR, F.MEM_LAST_ADDR, F.TALLY_STATUS.SEED_STORE_ERR, F.EVT_STATUS 9, F.EVT_STATUS 5] s.dev t) ∧
    (∀ (u : TollChan), s.dev.readJudge (.toll u) addr w = .uncorrectable → s.dev.toll.fault = 0 →
      Does (.scrubPass (.toll u) addr w) s fun t => t.st = .faultStop ∧ t.toll.fault = 4 ∧ t.outputsOff) ∧
    (∀ (m : MemKind) (x : EccBack), s.dev.memRuns m = true →
      s.dev.rcd.writeback.find? (fun y => y.m = m && y.addr = addr) = some x →
      Does (.eccWriteback m addr) s fun t =>
        t.rcd = { s.dev.rcd with
          writeback := s.dev.rcd.writeback.erase x
          rewritten := if x.seen = s.dev.wordSeen m addr then
              s.dev.rcd.rewritten.filter (fun y => y.1 ≠ (m, addr)) ++ [((m, addr), x.word)]
            else s.dev.rcd.rewritten } ∧
        Touches [.rcd] [] s.dev t) ∧
    (∀ (m : MemKind), (s.dev.memRuns m = false ∨ s.dev.rcd.writeback.find? (fun y => y.m = m && y.addr = addr) = none) →
      Does (.eccWriteback m addr) s fun t => t = s.dev) ∧
    (s.dev.rcd.balanced → (s.dev.bxUp 0 = false ∨ (s.dev.bxPort 0).overdrawn = false) → (s.dev.bxUp 1 = false ∨ (s.dev.bxPort
      1).overdrawn = false) →
      Does .conservationCheck s fun t => t = s.dev) ∧
    (s.dev.rcd.free + s.dev.rcd.blocks.length ≠ s.dev.rcd.total →
      Does .conservationCheck s fun t => t.rcd.balanced ∧ t.rcd.blocks = s.dev.rcd.blocks.filter (·.state = 2) ∧ bitAt (t.get (F.EVT_STATUS 0)) 12 = true) ∧
    (∀ (p : Fin 2), s.dev.bxUp p = true → (s.dev.bxPort p).overdrawn = true →
      Does .conservationCheck s fun t => t.bxUp p = false ∧ bitAt (t.get (F.EVT_STATUS 0)) 12 = true)

/-- Incidents: triggers, their merging, the end of the post window, protection (R346, R347, R350, R356, R546). Where the spec
leaves a point open it meets the model's choice of logs 50, 79, 80, 109. -/
def Obligations.IncidentsAreRecorded : Prop :=
  ∀ (s : State), s.dev.wf →
    (∀ (at' width : Nat), width < 1000 →
      Does (.incidentInEdge at' width) s fun t => Touches [.up, .cyc, .tb] [] s.dev t) ∧
    (s.dev.rcd.ready = false → s.dev.held = false →
      ∀ i ∈ [Instr.incidentInEdge s.dev.up 1000, .recorderTrigger .operator 1],
        Does i s fun t => t.get F.REC_LOST = (s.dev.get F.REC_LOST + 1) % 2 ^ 32 ∧ t.rcd = s.dev.rcd ∧
          Touches [.up, .cyc, .tb, .flf] [F.REC_LOST] s.dev t) ∧
    (s.dev.rcd.ready = true → s.dev.rcd.cur = none → s.dev.held = false → takenBlocks s.dev.rcd.done + s.dev.reserve ≤
      s.dev.rcd.nBlocks →
      ∀ x ∈ [(Instr.incidentInEdge s.dev.up 1000, 1), (.recorderTrigger .operator 1, 4)],
        Does x.1 s fun t => t.get F.REC_STATUS.STATE = 2 ∧
          t.rcd.cur.map (fun c => (c.no, c.cause, c.t, c.endT, c.trigs)) =
            some (s.dev.rcd.next, x.2, s.dev.nowNs, s.dev.nowNs + 1000000 * s.dev.get F.P.postWindow, [(s.dev.nowNs, x.2)]) ∧
          t.rcd.done = s.dev.rcd.done ∧ t.rcd.next = s.dev.rcd.next ∧
          t.rcd.nvme = s.dev.rcd.nvme ++ ringWrites s.dev.rcd.nBlocks s.dev.rcd.head 1 ∧
          Touches [.rcd, .up, .cyc, .tb, .flf] [F.REC_STATUS.STATE] s.dev t) ∧
    (∀ (c : Incident), s.dev.rcd.ready = true → s.dev.rcd.cur = some c → s.dev.nowNs < c.endT → c.t < s.dev.nowNs →
      c.trigs.length < 32 →
      Does (.recorderTrigger .operator 1) s fun t =>
        t.rcd.cur = some { c with
          trigs := c.trigs ++ [(s.dev.nowNs, 4)]
          endT := max c.endT (min (s.dev.nowNs + 1000000 * s.dev.get F.P.postWindow) (c.t + 120000000000))
          data := c.data ++ entriesIn c.endT
            (max c.endT (min (s.dev.nowNs + 1000000 * s.dev.get F.P.postWindow) (c.t + 120000000000))) s.dev.rcd.blocks } ∧
        t.get F.TRIGGERS_DROPPED = s.dev.get F.TRIGGERS_DROPPED ∧ Touches [.rcd, .flf] [] s.dev t) ∧
    (Does (.recorderTrigger .observer 1) s fun t => t = s.dev.answer 2) ∧
    (∀ (c : Incident), s.dev.rcd.ready = true → s.dev.rcd.cur = some c → c.endT ≤ s.dev.nowNs →
      Does (.recorderTrigger .operator 1) s fun t =>
        t.rcd = { s.dev.rcd with queued := s.dev.rcd.queued ++ [(s.dev.nowNs, 4)] } ∧ Touches [.rcd, .flf] [] s.dev t) ∧
    (∀ (c : Incident), s.dev.rcd.cur = some c → s.dev.rcd.queued = [] → s.dev.rcd.head < s.dev.rcd.nBlocks →
      s.dev.rcd.head ≠ s.dev.rcd.headOf →
      Does .postWindowClose s fun t =>
        t.rcd.cur = none ∧ t.rcd.head = t.rcd.headOf ∧ bitAt (t.get (F.EVT_STATUS 0)) 12 = true) ∧
    (∀ (c : Incident), s.dev.rcd.cur = some c → s.dev.rcd.queued = [] → s.dev.rcd.head = s.dev.rcd.headOf →
      Does .postWindowClose s fun t =>
        t.rcd.cur = none ∧ t.rcd.done = s.dev.rcd.done ++ [{ c with blocks := 2 + cdiv c.data.length 4096, ended := 0 }] ∧
        t.get F.REC_STATUS.STATE = 1 ∧ t.get F.REC_INCIDENTS = (s.dev.get F.REC_INCIDENTS + 1) % 2 ^ 32 ∧ t.occurred 9 7 ∧
        t.rcd.next = (s.dev.rcd.next + 1) % 2 ^ 32 ∧ t.rcd.head = t.rcd.headOf ∧ (∀ b ∈ t.rcd.blocks, b.state ≠ 2) ∧
        Touches [.rcd, .up, .cyc, .tb, .evt, .life] [F.REC_STATUS.STATE, F.REC_INCIDENTS, F.EVT_STATUS 9] s.dev t) ∧
    (∀ (r : Role) (no : Fin 1000), Role.canWrite r false = true → s.dev.incidents.any (fun i => i.no = no.val) = true →
      Does (.recorderProtect r no.val) s fun t =>
        (∀ i ∈ t.rcd.done, i.no = no.val → i.prot = true) ∧ t.rcd.done.length = s.dev.rcd.done.length ∧ t.flf = { s.dev.flf with status := 0 } ∧
        Touches [.rcd, .flf, .dues] [F.P.protect] s.dev t) ∧
    (∀ (no : Fin 1000),
      Does (.recorderProtect .operator (2 ^ 31 + no.val)) s fun t => t = s.dev.answer 2)

/-- The drive: insertion, readiness, removal, eject, format (R349, R350, R353, R482, R513). Where the spec leaves a point
open it meets the model's choice of logs 33, 34, 50, 79, 109. -/
def Obligations.DriveComesAndGoes : Prop :=
  (∀ (s : State), s.dev.wf →
    (s.dev.rcd.present = false → s.dev.held = false →
      Does .driveInserted s fun t =>
        t.rcd = { s.dev.rcd with present := true } ∧ t.occurred 9 8 ∧ Touches [.rcd, .evt, .life] [F.EVT_STATUS 9] s.dev t) ∧
    (∀ (n : DriveSpace) (a b : Bytes), s.dev.rcd.present = true → s.dev.get F.REC_STATUS.STATE = 0 → s.dev.rootRuns = true →
      s.dev.held = false → s.dev.rcd.width ≠ 0 →
      Does (.driveReady false n a b) s fun t =>
        t.get F.REC_STATUS.STATE = 4 ∧ t.occurred 10 4 ∧
        t.rcd = { s.dev.rcd with nvme := s.dev.rcd.nvme ++ [.identify, .createQueues 1, .createQueues 2] } ∧
        Touches [.rcd, .evt, .life] [F.REC_STATUS.STATE, F.EVT_STATUS 10] s.dev t) ∧
    (∀ (n : DriveSpace) (a b : Bytes), s.dev.rcd.present = true → s.dev.get F.REC_STATUS.STATE = 0 → s.dev.rootRuns = true →
      s.dev.held = false → s.dev.rcd.width ≠ 0 → sbOk a = false → sbOk b = false →
      Does (.driveReady true n a b) s fun t =>
        t.get F.REC_STATUS.STATE = 3 ∧
        t.rcd = { s.dev.rcd with
          nBlocks := min 67108864 (n.blocks - 256)
          nvme := s.dev.rcd.nvme ++ [.identify, .createQueues 1, .createQueues 2, .read 0 1, .read 1 1] } ∧
        Touches [.rcd, .evt, .life] [F.REC_STATUS.STATE, F.EVT_STATUS 10] s.dev t) ∧
    (∀ (n : DriveSpace) (a b : Bytes), s.dev.rcd.present = true → s.dev.get F.REC_STATUS.STATE = 0 → s.dev.rootRuns = true →
      s.dev.held = false → s.dev.rcd.width ≠ 0 → sbOk a = true → sbOk b = false → s.dev.rcd.knows a = false →
      rd 8 a 0x10 = (rd 8 a 0x18 + takenBlocks (n.ring.map Incident.ofBytes)) % max 1 (rd 8 a 8) →
      Does (.driveReady true n a b) s fun t =>
        t.get F.REC_STATUS.STATE = 1 ∧ t.rcd.ready = true ∧ t.rcd.nBlocks = rd 8 a 8 ∧ t.rcd.head = rd 8 a 0x10 ∧
        t.rcd.tail = rd 8 a 0x18 ∧ t.rcd.next = rd 4 a 0x20 ∧ t.rcd.superSeq = rd 4 a 4 ∧
        t.rcd.done = n.ring.map Incident.ofBytes ∧ Touches [.rcd, .evt, .life] [F.REC_STATUS.STATE, F.EVT_STATUS 10] s.dev t) ∧
    (∀ (n : DriveSpace) (a b : Bytes) (c : Incident), s.dev.rcd.present = true → s.dev.get F.REC_STATUS.STATE = 0 →
      s.dev.rootRuns = true → s.dev.held = false → s.dev.rcd.width ≠ 0 → sbPick a b = some a → s.dev.rcd.knows a = true →
      s.dev.rcd.head = s.dev.rcd.headOf → s.dev.rcd.torn = some c → s.dev.rcd.openAtReset = true →
      Does (.driveReady true n a b) s fun t =>
        t.get F.REC_STATUS.STATE = 1 ∧ t.rcd.ready = true ∧ t.rcd.torn = none ∧
        t.rcd.done = s.dev.rcd.done ++ [{ c with ended := 2, blocks := c.blocks + 1 }] ∧
        t.get F.REC_INCIDENTS = (s.dev.get F.REC_INCIDENTS + 1) % 2 ^ 32 ∧ t.occurred 9 7)) ∧
  (∀ (s : State), s.dev.wf →
    (s.dev.rcd.present = true → s.dev.get F.REC_STATUS.STATE = 0 →
      Does .driveRemoved s fun t =>
        t.rcd.present = false ∧ t.rcd.ready = false ∧ t.rcd.cur = none ∧ (∀ b ∈ t.rcd.blocks, b.state ≠ 2) ∧
        t.get F.REC_STATUS.STATE = 0 ∧ t.occurred 9 8 ∧
        Touches [.rcd, .free, .evt, .life] [F.REC_STATUS.STATE, F.REC_LOST, F.EVT_STATUS 9] s.dev t) ∧
    (s.dev.rcd.present = true → s.dev.get F.REC_STATUS.STATE ≠ 0 →
      Does .driveRemoved s fun t =>
        t.rcd.ready = false ∧ t.rcd.cur = none ∧ (∀ b ∈ t.rcd.blocks, b.state ≠ 2) ∧ t.get F.REC_STATUS.STATE = 0 ∧
        bitAt (t.get (F.EVT_STATUS 10)) 4 = true ∧ (t.rcd.present = false → bitAt (t.get (F.EVT_STATUS 9)) 8 = true)) ∧
    (∀ (r : Role) (c : Incident), Role.canWrite r false = true → s.dev.get F.REC_STATUS.STATE ≠ 0 → s.dev.rcd.cur = some c →
      s.dev.rcd.head = s.dev.rcd.headOf → s.dev.rcd.queued = [] →
      Does (.recorderEject r 1) s fun t =>
        t.rcd.ready = false ∧ t.rcd.cur = none ∧ t.rcd.done = s.dev.rcd.done ++ [{ c with blocks := 2 + cdiv c.data.length 4096, ended := 1 }] ∧
        t.rcd.nvme.getLast? = some .flush ∧
        t.get F.REC_STATUS.STATE = 0 ∧ t.get F.REC_INCIDENTS = (s.dev.get F.REC_INCIDENTS + 1) % 2 ^ 32 ∧
        Touches [.rcd, .flf, .evt, .life] [F.REC_STATUS.STATE, F.REC_INCIDENTS, F.EVT_STATUS 9, F.EVT_STATUS 10] s.dev t) ∧
    (∀ (r : Role), Role.canWrite r false = true → s.dev.get F.REC_STATUS.STATE ≠ 0 → s.dev.rcd.cur = none → s.dev.rcd.queued = [] →
      Does (.recorderEject r 1) s fun t =>
        t.rcd = { s.dev.rcd with ready := false, blocks := unhold s.dev.rcd.blocks, nvme := s.dev.rcd.nvme ++ [.flush] } ∧
        t.get F.REC_STATUS.STATE = 0 ∧ t.occurred 10 4 ∧
        Touches [.rcd, .flf, .evt, .life] [F.REC_STATUS.STATE, F.EVT_STATUS 10] s.dev t) ∧
    ((s.dev.get F.REC_STATUS.STATE = 1 ∨ s.dev.get F.REC_STATUS.STATE = 3) →
      Does (.recorderFormat .engineer 1) s fun t =>
        t.rcd.done = [] ∧ t.rcd.head = 0 ∧ t.rcd.tail = 0 ∧ t.rcd.next = 0 ∧ t.rcd.ready = true ∧ t.get F.REC_STATUS.STATE = 1 ∧
        sbOk t.rcd.sb0 = true ∧ t.rcd.sb1 = t.rcd.sb0 ∧
        t.rcd.nvme = s.dev.rcd.nvme ++ [.deallocate, .write 0 1 true, .write 1 1 true] ∧
        t.flf = { s.dev.flf with status := 0 } ∧ Touches [.rcd, .flf] [F.REC_STATUS.STATE] s.dev t) ∧
    (s.dev.get F.REC_STATUS.STATE = 2 →
      Does (.recorderFormat .engineer 1) s fun t => t = s.dev.answer 9) ∧
    (Does (.recorderFormat .operator 1) s fun t => t = s.dev.answer 2))

/-- Requests outside a session: reads, refused writes, HELLO, an exact repeat (R449, R453, R455, R458, R459, R463, R464, R465).
Where the spec leaves a point open it meets the model's choice of logs 60, 61, 63, 64, 65. -/
def Obligations.UnauthenticatedRequests : Prop :=
  (∀ (s : State) (h : ReqHdr), s.dev.wf → h.path = .udp → s.dev.ethRuns h.rx.port = true → s.dev.vidOk h.rx.vid = true →
    h.rx.trailer = none → s.dev.flag F.BOOT_STATUS.RECOVERY = false → s.dev.diagnostic = true → h.session = 0 → h.seq = 0 →
    h.mac = [] → h.tag < 65536 → (∀ k ∈ s.dev.flf.kept, k.src ≠ h.src) →
    (∀ (idx sub : Nat), idx < 65536 → sub < 256 → entOf idx sub = none → objAccess idx sub = none →
      Does (.flefenRead h idx sub) s fun t =>
        t.flf.answer = flefenHeader 1 0 h.tag 0 1 1 4 ++ entKey idx sub ++ zeros 1 ∧
        Touches [.flf, .net, .up, .cyc, .tb, .evt, .life] [F.ETH_QOVF 0, F.ETH_QOVF 1, F.EVT_STATUS 10] s.dev t) ∧
    (Does (.flefenRead h 0x1001 0) s fun t =>
        t.flf.answer = flefenHeader 1 0 h.tag 0 0 1 5 ++ [0x10, 0x01, 0, 2] ++ be 1 s.dev.st.code ∧
        Touches [.flf, .net, .up, .cyc, .tb, .evt, .life] [F.ETH_QOVF 0, F.ETH_QOVF 1, F.EVT_STATUS 10] s.dev t) ∧
    (∀ (idx sub ty : Nat) (val : Bytes), idx < 65536 → sub < 256 → ty < 256 → val.length < 100 → (entOf idx sub).isSome = true
      →
      Does (.flefenWrite h idx sub ty val) s fun t =>
        t.flf.status = 2 ∧ t.flf.answer = flefenHeader 2 0 h.tag 0 2 1 4 ++ entKey idx sub ++ zeros 1 ∧
        Touches [.flf, .net, .up, .cyc, .tb, .evt, .life] [F.ETH_QOVF 0, F.ETH_QOVF 1, F.EVT_STATUS 10] s.dev t) ∧
    (∀ (idx sub ty : Nat) (val : Bytes), idx < 65536 → sub < 256 → val.length = tySize ty → (1 ≤ ty ∧ ty ≤ 9) → (entOf idx
      sub).isSome = true →
      Does (.writeGroup h [(idx, sub, ty, val)]) s fun t =>
        t.flf.status = 2 ∧ t.flf.answer = flefenHeader 3 0 h.tag 0 2 1 4 ++ zeros 4 ∧
        Touches [.flf, .net, .up, .cyc, .tb, .evt, .life] [F.ETH_QOVF 0, F.ETH_QOVF 1, F.EVT_STATUS 10] s.dev t) ∧
    (∀ (idx total crc : Nat), isTable idx = true → (total < 2 ^ 32 ∧ crc < 2 ^ 32) →
      Does (.domainOpen h idx 0 1 total (some crc)) s fun t => t.flf.status = 2 ∧ t.flf.transfers = s.dev.flf.transfers ∧ t.tabs = s.dev.tabs) ∧
    (∀ (off : Nat) (body : Bytes), body.length < 100 → s.dev.transferOf (65536 + h.src) = none →
      ∀ i ∈ [Instr.domainSegment h off body, .domainClose h 0],
        Does i s fun t => t.flf.status = 1 ∧ t.flf.transfers = s.dev.flf.transfers ∧ t.tabs = s.dev.tabs) ∧
    (∀ (addr val mask : Nat),
      Does (.flefenRegWrite h addr val mask) s fun t =>
        t.flf.status = 2 ∧ Touches [.flf, .net, .up, .cyc, .tb, .evt, .life] [F.ETH_QOVF 0, F.ETH_QOVF 1, F.EVT_STATUS 10] s.dev t) ∧
    (Does (.flefenRegRead h 0 2) s fun t =>
        t.flf.answer = flefenHeader 0x30 0 h.tag 0 0 1 8 ++ be 4 (s.dev.regWord 0) ++ be 4 (s.dev.regWord 4) ∧
        Touches [.flf, .net, .up, .cyc, .tb, .evt, .life] [F.ETH_QOVF 0, F.ETH_QOVF 1, F.EVT_STATUS 10] s.dev t) ∧
    (∀ (role : Nat) (nc : Bytes), nc.length = 16 → role < 256 → role ≠ 1 → role ≠ 2 →
      Does (.hello h role nc) s fun t => t.flf.status = 4 ∧ t.flf.sessions = s.dev.flf.sessions ∧ t.free = s.dev.free) ∧
    (∀ (nc : Bytes), nc.length = 16 → s.dev.flf.lock = [] → s.dev.sessionsFull 1 = false → s.dev.numbersGone = false →
      Does (.hello h 1 nc) s fun t =>
        t.flf.status = 0 ∧ t.free = s.dev.free + 1 ∧
        t.flf.sessions.map (fun x => (x.role, x.nc, x.nd, x.t, x.opened)) =
          s.dev.flf.sessions.map (fun x => (x.role, x.nc, x.nd, x.t, x.opened)) ++
            [(1, nc, (List.range 16).map (Config.nonceByte s.dev.free), max s.dev.up h.rx.t, false)] ∧
        (t.flf.sessions.map (·.id)).getLast? = some (unusedId (s.dev.flf.sessions.map (·.id)) s.dev.flf.sessions.length (Config.freeValue s.dev.free))) ∧
    (Does (.endSession h) s fun t => t.flf.status = 2 ∧ t.flf.sessions = s.dev.flf.sessions)) ∧
  (∀ (s : State) (h : ReqHdr) (k : Kept), s.dev.wf → h.path = .udp → s.dev.ethRuns h.rx.port = true → s.dev.vidOk h.rx.vid =
    true → h.rx.trailer = none → s.dev.flag F.BOOT_STATUS.RECOVERY = false → s.dev.diagnostic = true → h.session = 0 → h.seq = 0
    → h.mac = [] → s.dev.flf.kept = [k] → k.src = h.src → max s.dev.up h.rx.t ≤ k.t + 1000000000 →
    (∀ (nc : Bytes), nc.length = 16 → k.req = reqFrame h 0x20 (be 1 1 ++ zeros 3 ++ nc) →
      Does (.hello h 1 nc) s fun t =>
        t.flf = { s.dev.flf with answer := k.resp } ∧ t.free = s.dev.free ∧
        Touches [.flf, .net, .up, .cyc, .tb, .evt, .life] [F.ETH_QOVF 0, F.ETH_QOVF 1, F.EVT_STATUS 10] s.dev t))

/-- Requests within a session: the MAC, writes, groups, transfers, END (R449, R455, R458, R459, R463, R464, R465). Where the spec
leaves a point open it meets the model's choice of logs 61, 64, 65, 67. -/
def Obligations.RequestsInASession : Prop :=
  ∀ (s : State) (h : ReqHdr) (ss : Session), s.dev.wf → h.path = .udp → s.dev.ethRuns h.rx.port = true → s.dev.vidOk h.rx.vid
    = true → h.rx.trailer = none → s.dev.flag F.BOOT_STATUS.RECOVERY = false → s.dev.diagnostic = true → (1 ≤ h.session ∧
    h.session < 65536) → s.dev.session h.session = some ss → h.seq < 2 ^ 32 → h.tag < 65536 → h.mac.length = 16 → (∀ k ∈
    s.dev.flf.kept, k.src ≠ h.src) →
    (∀ (idx sub : Nat), idx < 65536 → sub < 256 → (h.mac ≠ frameTag ss.key (reqFrame h 1 (entKey idx sub ++ zeros 1)) ∨ h.seq ≤
      ss.seq) →
      Does (.flefenRead h idx sub) s fun t =>
        t.flf = { s.dev.flf with rejected := (s.dev.flf.rejected + 1) % 2 ^ 32 } ∧ Touches [.flf, .up, .cyc, .tb] [] s.dev t) ∧
    (∀ (v : Nat), (10 ≤ v ∧ v ≤ 3600) → ss.role = 2 → ss.seq < h.seq → h.mac = frameTag ss.key (reqFrame h 2 (entKey 0x1200 3
      ++ be 1 3 ++ be 2 v)) →
      Does (.flefenWrite h 0x1200 3 3 (be 2 v)) s fun t =>
        t.flf.status = 0 ∧ t.get F.P.sessionTimeout = v ∧
        Touches [.flf, .net, .up, .cyc, .tb, .evt, .life, .dues] [F.P.sessionTimeout, F.ETH_QOVF 0, F.ETH_QOVF 1, F.EVT_STATUS 10] s.dev t) ∧
    (∀ (v : Nat), (3600 < v ∧ v < 65536) → ss.role = 2 → ss.seq < h.seq → h.mac = frameTag ss.key (reqFrame h 2 (entKey 0x1200
      3 ++ be 1 3 ++ be 2 v)) →
      Does (.flefenWrite h 0x1200 3 3 (be 2 v)) s fun t =>
        t.flf.status = 4 ∧ Touches [.flf, .net, .up, .cyc, .tb, .evt, .life] [F.ETH_QOVF 0, F.ETH_QOVF 1, F.EVT_STATUS 10] s.dev t) ∧
    (∀ (v : Nat), (10 ≤ v ∧ v ≤ 3600) → ss.role = 2 → ss.seq < h.seq → h.mac = frameTag ss.key (reqFrame h 3 (be 1 1 ++ zeros 3
      ++ entKey 0x1200 3 ++ be 1 3 ++ be 2 v)) →
      Does (.writeGroup h [(0x1200, 3, 3, be 2 v)]) s fun t =>
        t.flf.status = 0 ∧ t.get F.P.sessionTimeout = v ∧
        Touches [.flf, .net, .up, .cyc, .tb, .evt, .life, .dues] [F.P.sessionTimeout, F.ETH_QOVF 0, F.ETH_QOVF 1, F.EVT_STATUS 10] s.dev t) ∧
    (∀ (v w : Nat), (10 ≤ v ∧ v ≤ 3600) → (3600 < w ∧ w < 65536) → ss.role = 2 → ss.seq < h.seq → h.mac = frameTag ss.key
      (reqFrame h 3 (be 1 2 ++ zeros 3 ++ entKey 0x1200 3 ++ be 1 3 ++ be 2 v ++ entKey 0x1200 3 ++ be 1 3 ++ be 2 w)) →
      Does (.writeGroup h [(0x1200, 3, 3, be 2 v), (0x1200, 3, 3, be 2 w)]) s fun t =>
        t.flf.status = 4 ∧ t.get F.P.sessionTimeout = s.dev.get F.P.sessionTimeout ∧
        Touches [.flf, .net, .up, .cyc, .tb, .evt, .life] [F.ETH_QOVF 0, F.ETH_QOVF 1, F.EVT_STATUS 10] s.dev t) ∧
    (∀ (crc : Nat), crc < 2 ^ 32 → ss.role = 2 → ss.seq < h.seq → ss.id = h.session → s.dev.transferOf h.session = none →
      s.dev.objBusy 0x7050 0 = false → s.dev.bankBusy 0x7050 = false → h.mac = frameTag ss.key (reqFrame h 0x10 (entKey 0x7050 0
      ++ be 1 1 ++ be 4 4096 ++ be 4 crc)) →
      Does (.domainOpen h 0x7050 0 1 4096 (some crc)) s fun t =>
        t.flf.status = 0 ∧
        t.flf.transfers = s.dev.flf.transfers ++ [{ owner := h.session, idx := 0x7050, sub := 0, write := true, total := 4096, crc := crc, t := t.up }] ∧
        t.tab 0x7050 = s.dev.tab 0x7050) ∧
    (∀ (x : Transfer) (off : Nat) (body : Bytes), ss.seq < h.seq → ss.id = h.session → s.dev.transferOf h.session = some x →
      x.write = true → off < 2 ^ 32 → off = x.data.length → (1 ≤ body.length ∧ body.length ≤ 1024) → x.data.length + body.length
      ≤ x.total → h.mac = frameTag ss.key (reqFrame h 0x11 (be 4 off ++ body)) →
      Does (.domainSegment h off body) s fun t =>
        t.flf.status = 0 ∧ (t.transferOf h.session).map (fun y => (y.data, y.t)) = some (x.data ++ body, t.up) ∧
        t.tab x.idx = s.dev.tab x.idx) ∧
    (∀ (x : Transfer), ss.seq < h.seq → ss.id = h.session → s.dev.transferOf h.session = some x → h.mac = frameTag ss.key
      (reqFrame h 0x12 (be 1 1 ++ zeros 3)) →
      Does (.domainClose h 1) s fun t =>
        t.flf.status = 0 ∧ t.transferOf h.session = none ∧ t.tabs = s.dev.tabs ∧
        Touches [.flf, .net, .up, .cyc, .tb, .evt, .life] [F.ETH_QOVF 0, F.ETH_QOVF 1, F.EVT_STATUS 10] s.dev t) ∧
    (∀ (x : Transfer), ss.seq < h.seq → ss.id = h.session → s.dev.transferOf h.session = some x → x.write = true →
      x.data.length = x.total → crc32c x.data ≠ x.crc → h.mac = frameTag ss.key (reqFrame h 0x12 (zeros 4)) →
      Does (.domainClose h 0) s fun t => t.flf.status = 10 ∧ t.transferOf h.session = none ∧ t.tabs = s.dev.tabs) ∧
    (ss.role ≠ 0 → ss.id = h.session → ss.seq < h.seq → h.mac = frameTag ss.key (reqFrame h 0x22 []) →
      Does (.endSession h) s fun t =>
        t.flf.status = 0 ∧ t.session h.session = none ∧ t.transferOf h.session = none ∧
        Touches [.flf, .net, .up, .cyc, .tb, .evt, .life] [F.ETH_QOVF 0, F.ETH_QOVF 1, F.EVT_STATUS 10] s.dev t) ∧
    (∀ (v : Nat), ss.role = 1 → ss.seq < h.seq → v < 2 ^ 32 → h.mac = frameTag ss.key (reqFrame h 0x31 (be 4 0x20010 ++ be 4 v
      ++ be 4 0xFFFFFFFF)) → s.dev.held = false →
      Does (.flefenRegWrite h 0x20010 v 0xFFFFFFFF) s fun t =>
        t.flf.status = 0 ∧ t.flag F.BUS_STATUS.VIEW_IGNORED = true ∧ t.get F.TB_TRIM = s.dev.get F.TB_TRIM ∧
        Touches [.flf, .net, .up, .cyc, .tb, .evt, .life] [F.BUS_STATUS.VIEW_IGNORED, F.ETH_QOVF 0, F.ETH_QOVF 1, F.EVT_STATUS 10] s.dev t) ∧
    (∀ (v : Nat), ss.role = 2 → ss.seq < h.seq → v < 2 ^ 32 → h.mac = frameTag ss.key (reqFrame h 0x31 (be 4 0x20010 ++ be 4 v
      ++ be 4 0xFFFFFFFF)) → s.dev.held = false →
      Does (.flefenRegWrite h 0x20010 v 0xFFFFFFFF) s fun t => t.flf.status = 0 ∧ t.get F.TB_TRIM = v)

/-- PROVE, lockouts, and the ends of sessions and transfers by time (R453, R455, R465). Where the spec leaves a point open it
meets the model's choice of logs 50, 63, 65. -/
def Obligations.SessionsOpenAndEnd : Prop :=
  ∀ (s : State), s.dev.wf →
    (∀ (h : ReqHdr) (ss : Session) (proof : Bytes), h.path = .udp → s.dev.ethRuns h.rx.port = true → s.dev.vidOk h.rx.vid =
      true → h.rx.trailer = none → s.dev.flag F.BOOT_STATUS.RECOVERY = false → s.dev.diagnostic = true → (1 ≤ h.session ∧
      h.session < 65536) → (s.dev.flf.sessions.find? fun x => !x.opened && x.id = h.session) = some ss → h.seq = 1 → h.mac = []
      → (∀ k ∈ s.dev.flf.kept, k.src ≠ h.src) → proof.length = 32 → proof = s.dev.proofOf ss → max s.dev.up h.rx.t ≤ ss.t +
      10000000000 → s.dev.sessionsFull ss.role = false → s.dev.flf.sessions = [ss] →
      Does (.prove h proof) s fun t =>
        t.flf.sessions = [{ ss with opened := true, key := s.dev.sessionKey ss, seq := 1, t := max s.dev.up h.rx.t }] ∧
        t.flf.wrong = s.dev.flf.wrong) ∧
    (∀ (h : ReqHdr) (ss : Session) (proof : Bytes), h.path = .udp → s.dev.ethRuns h.rx.port = true → s.dev.vidOk h.rx.vid =
      true → h.rx.trailer = none → s.dev.flag F.BOOT_STATUS.RECOVERY = false → s.dev.diagnostic = true → (1 ≤ h.session ∧
      h.session < 65536) → (s.dev.flf.sessions.find? fun x => !x.opened && x.id = h.session) = some ss → h.seq = 1 → h.mac = []
      → (∀ k ∈ s.dev.flf.kept, k.src ≠ h.src) → proof.length = 32 → proof ≠ s.dev.proofOf ss → s.dev.flf.sessions = [ss] →
      Does (.prove h proof) s fun t =>
        t.flf.sessions = [] ∧ t.flf.wrong = (ss.role, max s.dev.up h.rx.t) :: s.dev.flf.wrong.filter (fun x => max s.dev.up h.rx.t ≤ x.2 + 60000000000)) ∧
    (∀ (role at' : Nat), (s.dev.flf.lock.find? fun x => x.1 = role) = some (role, at') →
      Does (.helloLockoutEnd role) s fun t =>
        t.flf = { s.dev.flf with lock := s.dev.flf.lock.filter (·.1 ≠ role) } ∧ t.up = max s.dev.up (at' + 60000000000) ∧
        Touches [.flf, .up, .cyc, .tb] [] s.dev t) ∧
    (∀ (id : Nat) (ss : Session), s.dev.session id = some ss →
      Does (.sessionTimeout id) s fun t =>
        t.flf = { s.dev.flf with sessions := s.dev.flf.sessions.filter (·.id ≠ id), transfers := s.dev.flf.transfers.filter (·.owner ≠ id) } ∧
        t.up = max s.dev.up (ss.t + 1000000000 * s.dev.get F.P.sessionTimeout) ∧ Touches [.flf, .up, .cyc, .tb] [] s.dev t) ∧
    (∀ (owner : Nat) (x : Transfer), owner ≠ winOwner → s.dev.transferOf owner = some x →
      Does (.transferIdleTimeout owner) s fun t =>
        t.flf = { s.dev.flf with transfers := s.dev.flf.transfers.filter (·.owner ≠ owner) } ∧ t.up = max s.dev.up (x.t + 10000000000) ∧
        Touches [.flf, .up, .cyc, .tb] [] s.dev t) ∧
    (s.dev.flf.winOpen.isSome = true →
      Does (.transferIdleTimeout winOwner) s fun t =>
        t.flf = { s.dev.flf with winOpen := none } ∧ t.up = max s.dev.up (s.dev.flf.winAt + 10000000000) ∧ Touches [.flf, .up, .cyc, .tb] [] s.dev t)

/-- Event messages, event status, and the host's SPI (R446, R447, R472, R473, R479). Where the spec leaves a point open it meets
the model's choice of logs 50, 61, 68, 69. -/
def Obligations.EventMessagesAndHostInterface : Prop :=
  ∀ (s : State), s.dev.wf →
    (∀ (g : Fin 13) (src : Fin 24) (n at' : Nat), Tab.find s.dev.evt.due (24 * g.val + src.val) = some (n, at') →
      s.dev.diagnostic = true → s.dev.evtOn g src = true → s.dev.evtRoute g src = 3 → Tab.find s.dev.evt.lastMsg (24 * g.val +
      src.val) = none → s.dev.flf.outbox.length < 8 → s.dev.flf.subs = [] →
      Does (.eventMessage g src) s fun t =>
        t.flf = { s.dev.flf with outbox := s.dev.flf.outbox ++ [eventFrame g src n at'] } ∧
        t.evt.msgs = s.dev.evt.msgs ++ [eventFrame g src n at'] ∧ Tab.find t.evt.due (24 * g.val + src.val) = none ∧
        Tab.find t.evt.lastMsg (24 * g.val + src.val) = some s.dev.up ∧ Touches [.flf, .evt] [] s.dev t) ∧
    (∀ (g : Fin 13) (src : Fin 24), Tab.find s.dev.evt.due (24 * g.val + src.val) = none →
      Does (.eventMessage g src) s fun t => t = s.dev) ∧
    (∀ (priv : Bool) (g : Fin 13) (v : Nat),
      Does (.evtStatusClear (.reg priv) g v) s fun t =>
        (∀ k < 24, bitAt (t.get (F.EVT_STATUS g)) k = (bitAt (s.dev.get (F.EVT_STATUS g)) k && !(bitAt v k && (priv || decide (s.dev.evtRoute g k ≠ 2))))) ∧
        Touches [] [F.EVT_STATUS g] s.dev t) ∧
    (∀ (g : Fin 13) (v : Nat),
      Does (.evtStatusClear (.dict .observer) g v) s fun t => t = s.dev.answer 2) ∧
    (∀ (g : Fin 13) (v : Nat),
      Does (.evtStatusClear (.dict .engineer) g v) s fun t =>
        (∀ k < 24, bitAt (t.get (F.EVT_STATUS g)) k = (bitAt (s.dev.get (F.EVT_STATUS g)) k && !bitAt v k)) ∧ Touches [.flf] [F.EVT_STATUS g] s.dev t) ∧
    (s.dev.mailbox = true →
      Does .spiStatus s fun t =>
        t.flf = { s.dev.flf with
          answer := be 1 (nat (s.dev.flf.outbox ≠ []) + 2 * nat s.dev.flf.inbox.isNone + 4 * nat s.dev.irq + 8 * nat s.dev.irqp) } ∧
        Touches [.flf] [] s.dev t) ∧
    (s.dev.held = false → s.dev.romOnly = false →
      Does (.spiRegRead 0 1) s fun t => t.flf = { s.dev.flf with answer := (be 4 (s.dev.regWord 0)).reverse } ∧ Touches [.flf] [] s.dev t) ∧
    (∀ (v : Word), s.dev.held = false → s.dev.romOnly = false → s.dev.spiEngineer = false →
      Does (.spiRegWrite 0x20010 [v]) s fun t =>
        t.flag F.BUS_STATUS.VIEW_IGNORED = true ∧ t.get F.TB_TRIM = s.dev.get F.TB_TRIM ∧ Touches [] [F.BUS_STATUS.VIEW_IGNORED] s.dev t) ∧
    (∀ (v : Word), s.dev.held = false → s.dev.romOnly = false → s.dev.spiEngineer = true →
      Does (.spiRegWrite 0x20010 [v]) s fun t =>
        t.get F.TB_TRIM = v.toNat ∧ Touches [.evt, .life] [F.TB_TRIM, F.TB_STATUS.TRIM_SAT, F.EVT_STATUS 1] s.dev t) ∧
    (∀ (frame : Bytes), s.dev.mailbox = true → s.dev.flf.inbox = none → flefenOk frame = true → spelled (rd 1 frame 3)
      (frameBody frame) = 0 →
      Does (.frameIn frame) s fun t => t.flf = { s.dev.flf with inbox := some frame } ∧ Touches [.flf] [] s.dev t) ∧
    (∀ (frame : Bytes), (s.dev.mailbox = false ∨ s.dev.flf.inbox.isSome = true ∨ flefenOk frame = false) →
      Does (.frameIn frame) s fun t => t = s.dev) ∧
    (∀ (f : Bytes) (rest : List Bytes), s.dev.mailbox = true → s.dev.flf.outbox = f :: rest →
      Does .frameOut s fun t => t.flf = { s.dev.flf with outbox := rest, answer := f } ∧ Touches [.flf] [] s.dev t) ∧
    (s.dev.mailbox = true → s.dev.flf.outbox = [] →
      Does .frameOut s fun t => t.flf = { s.dev.flf with answer := zeros 16 } ∧ Touches [.flf] [] s.dev t)

/-- Register writes through both views, and the table window (R466, R470). Where the spec leaves a point open it meets the model's
choice of logs 50, 66, 67. -/
def Obligations.RegisterViewsAndTableWindow : Prop :=
  ∀ (s : State), s.dev.wf →
    (∀ (v : Word),
      ∀ i ∈ [Instr.tblWinStart false v, .tblWinCommit false v, .tblWinAbort false v],
        Does i s fun t => t.flag F.BUS_STATUS.VIEW_IGNORED = true ∧ Touches [] [F.BUS_STATUS.VIEW_IGNORED] s.dev t) ∧
    (∀ (v : Word), bitAt v.toNat 15 = true → s.dev.winOpenCode (0x7000 + bits v.toNat 0 12) = 0 →
      Does (.tblWinStart true v) s fun t =>
        t.get F.TBL_WIN.RESULT = 0 ∧ t.get F.TBL_WIN.SELECT = bits v.toNat 0 12 ∧ t.flf = { s.dev.flf with winOpen := some (0x7000 + bits v.toNat 0 12), winAt := s.dev.up } ∧
        (t.bank (0x7000 + bits v.toNat 0 12)).inact.length = s.dev.get F.TBL_WIN_LEN ∧ t.tab (0x7000 + bits v.toNat 0 12) = s.dev.tab (0x7000 + bits v.toNat 0 12) ∧
        Touches [.flf, .tabs, .clutBasic] [F.TBL_WIN.SELECT, F.TBL_WIN.RESULT] s.dev t) ∧
    (∀ (v : Word), bitAt v.toNat 15 = true → s.dev.winOpenCode (0x7000 + bits v.toNat 0 12) ≠ 0 →
      Does (.tblWinStart true v) s fun t =>
        t.get F.TBL_WIN.RESULT = s.dev.winOpenCode (0x7000 + bits v.toNat 0 12) ∧ Touches [] [F.TBL_WIN.SELECT, F.TBL_WIN.RESULT] s.dev t) ∧
    (∀ (v : Word) (idx : Nat), bitAt v.toNat 16 = true → s.dev.flf.winOpen = some idx → (s.dev.bank idx).inact.length ≠
      s.dev.get F.TBL_WIN_LEN →
      Does (.tblWinCommit true v) s fun t =>
        t.get F.TBL_WIN.RESULT = 3 ∧ t.flf = { s.dev.flf with winOpen := none } ∧ Touches [.flf] [F.TBL_WIN.SELECT, F.TBL_WIN.RESULT] s.dev t) ∧
    (∀ (v : Word), bitAt v.toNat 16 = true → s.dev.flf.winOpen = none →
      Does (.tblWinCommit true v) s fun t => t.get F.TBL_WIN.RESULT = 1 ∧ Touches [] [F.TBL_WIN.SELECT, F.TBL_WIN.RESULT] s.dev t) ∧
    (∀ (v : Word), bitAt v.toNat 17 = true →
      Does (.tblWinAbort true v) s fun t => t.flf = { s.dev.flf with winOpen := none } ∧ Touches [.flf] [F.TBL_WIN.SELECT] s.dev t) ∧
    (∀ (priv : Bool) (addr : Nat) (v m : Word), s.dev.held = false → s.dev.romOnly = false → addr / 4 * 4 % 0x2000000 <
      0x1000000 → regAt (addr / 4 * 4 % 0x2000000) = none → blockOf (addr / 4 * 4 % 0x2000000) = none → roBlock (addr / 4 * 4 %
      0x2000000) = false →
      Does (.registerWrite priv addr v m) s fun t => t.flag F.BUS_STATUS.UNMAPPED = true ∧ Touches [] [F.BUS_STATUS.UNMAPPED] s.dev t) ∧
    (∀ (v m : Word), s.dev.held = false → s.dev.romOnly = false →
      Does (.registerWrite false 0x20010 v m) s fun t => t.flag F.BUS_STATUS.VIEW_IGNORED = true ∧ Touches [] [F.BUS_STATUS.VIEW_IGNORED] s.dev t) ∧
    (∀ (v : Word), s.dev.held = false → s.dev.romOnly = false →
      Does (.registerWrite true 0x20010 v 0xFFFFFFFF) s fun t =>
        t.get F.TB_TRIM = v.toNat ∧ Touches [.evt, .life] [F.TB_TRIM, F.TB_STATUS.TRIM_SAT, F.EVT_STATUS 1] s.dev t) ∧
    (∀ (c : Fin 16) (priv : Bool) (v m : Word), s.dev.held = false → s.dev.romOnly = false → s.dev.runs c = false →
      Does (.registerWrite priv (0x100010 + 0x10000 * c.val) v m) s fun t =>
        bitAt (t.get F.GATED_ACCESS.HIT) c = true ∧ t.occurred 1 5 ∧ Touches [.evt, .life] [F.GATED_ACCESS.HIT, F.EVT_STATUS 1] s.dev t)

/-- The reference is judged window by window; lock and loss of the root clock (R41, R42, R43, R44, R46, R47, R65, R66, R398).
Where the spec leaves a point open it meets the model's choice of logs 13, 38, 50, 101, 104. -/
def Obligations.ReferenceAndRootClock : Prop :=
  (∀ (s : State) (count : Nat), s.dev.wf → count < 65536 →
    (s.dev.clk.judging = true →
      Does (.refJudgeWindow count) s fun t =>
        let run := if 25088 ≤ count ∧ count ≤ 26112 then min 8 (s.dev.get F.CLK_STATUS.STABLE_RUN + 1) else 0
        t.get F.CLK_STATUS.LAST_COUNT = count ∧ t.get F.CLK_STATUS.STABLE_RUN = run ∧
        t.clk = { s.dev.clk with windows := s.dev.clk.windows + 1, judging := decide (run ≠ 8) } ∧
        (run = 8 → t.flag F.CLK_STATUS.REF_STABLE = true ∧ t.flag F.CLK_STATUS.REF_IN_USE = s.dev.clk.refSel) ∧
        Touches [.clk] [F.CLK_STATUS.LAST_COUNT, F.CLK_STATUS.STABLE_RUN, F.CLK_STATUS.REF_STABLE, F.CLK_STATUS.REF_IN_USE] s.dev t) ∧
    (s.dev.clk.judging = true → 64 ≤ s.dev.clk.windows →
      Does .refJudgeTimeout s fun t =>
        t.clk = { s.dev.clk with judging := false } ∧ t.occurred 1 0 ∧ Touches [.clk, .evt, .life] [F.EVT_STATUS 1] s.dev t)) ∧
  (∀ (s : State), s.dev.wf →
    (s.dev.flag F.CLK_STATUS.REF_STABLE = true → s.dev.flag F.CLK_STATUS.PLL_LOCK = false →
      Does .pllLock s fun t =>
        t.flag F.CLK_STATUS.PLL_LOCK = true ∧ t.flag F.CLK_STATUS.FALLBACK = false ∧
        t.clk = { s.dev.clk with relCyc := s.dev.cyc } ∧ (∀ c < 16, t.cvyRuns c = true → (t.cvy c).dllRan = true) ∧
        Touches [.clk, .cvys] [F.CLK_STATUS.PLL_LOCK, F.CLK_STATUS.FALLBACK] s.dev t) ∧
    (s.dev.flag F.CLK_STATUS.PLL_LOCK = true → s.dev.st.ticks = false →
      Does .pllLossOfLock s fun t =>
        t.flag F.CLK_STATUS.PLL_LOCK = false ∧ t.flag F.CLK_STATUS.FALLBACK = true ∧ t.flag F.CLK_STATUS.REF_STABLE = false ∧
        t.flag F.CLK_STATUS.CLOCK_FAULT = true ∧ t.clk.judging = false ∧ t.rcd.ready = false ∧
        (∀ p < 2, t.flag (F.ETH_STATUS.LINK p) = false ∧ t.flag (F.BX_STATUS.LINK_UP p) = false) ∧
        (∀ c < 16, t.locked c = false) ∧ Frame [.regs, .clk, .cvys, .net, .bx, .rcd, .evt, .life] s.dev t) ∧
    (s.dev.flag F.CLK_STATUS.FALLBACK = true →
      Does (.clockReturn true) s fun t =>
        t.flag F.CLK_STATUS.REF_STABLE = false ∧ t.get F.CLK_STATUS.STABLE_RUN = 0 ∧
        t.clk = { s.dev.clk with judging := true, windows := 0, refSel := s.dev.flag F.CLK_CTRL.REF_SELECT } ∧
        Touches [.clk] [F.CLK_STATUS.REF_STABLE, F.CLK_STATUS.STABLE_RUN] s.dev t) ∧
    (Does (.clearFault true) s fun t =>
        t.flag F.CLK_STATUS.CLOCK_FAULT =
          (if 25088 ≤ s.dev.get F.CLK_STATUS.LAST_COUNT ∧ s.dev.get F.CLK_STATUS.LAST_COUNT ≤ 26112 then false
            else s.dev.flag F.CLK_STATUS.CLOCK_FAULT) ∧
        Touches [] [F.CLK_STATUS.CLOCK_FAULT] s.dev t) ∧
    (∀ i ∈ [Instr.clockReturn false, .clearFault false],
        Does i s fun t => t.flag F.BUS_STATUS.VIEW_IGNORED = true ∧ Touches [] [F.BUS_STATUS.VIEW_IGNORED] s.dev t) ∧
    (s.dev.st.ticks = false →
      Does .logicClockStop s fun t =>
        t.clk = { s.dev.clk with logicClk := false } ∧
        t.toll = { s.dev.toll with logic := { s.dev.toll.logic with switch := 0 } } ∧ Touches [.clk, .toll] [] s.dev t))

/-- Device time: offsets, steps, slews, trim, time.set, the ageing day (R56, R58, R59, R60, R61, R62, R73). Where the spec
leaves a point open it meets the model's choice of logs 35, 36, 37, 50, 101. -/
def Obligations.DeviceTimeIsWrittenAndSlewed : Prop :=
  (∀ (s : State) (v : Word), s.dev.wf →
    (Does .tbNsRead s fun t =>
        t.tb = { s.dev.tb with shadow := s.dev.tb.t40 / 1099511627776 / 1000000000, shadowOn := true } ∧ Touches [.tb] [] s.dev t) ∧
    (Does (.tbAdjSecWrite true v) s fun t => t.tb = { s.dev.tb with adjSec := v.toInt } ∧ Touches [.tb] [] s.dev t) ∧
    (s.dev.timeValid = false → 0 ≤ s.dev.tb.t40 + (s.dev.tb.adjSec * 1000000000 + v.toInt) * 2 ^ 40 → s.dev.tb.t40 +
      (s.dev.tb.adjSec * 1000000000 + v.toInt) * 2 ^ 40 < 2 ^ 48 * 1000000000 * 2 ^ 40 →
      Does (.tbAdjWrite true v) s fun t =>
        (t.tb.t40 : Int) = s.dev.tb.t40 + (s.dev.tb.adjSec * 1000000000 + v.toInt) * 2 ^ 40 ∧
        t.tb = { s.dev.tb with t40 := t.tb.t40, adjSec := 0 } ∧ t.flag F.TB_STATUS.VALID = true ∧
        (s.dev.st.ticks = false → t.net = s.dev.net) ∧
        Touches [.tb, .net] [F.TB_STATUS.VALID, F.TB_SOURCE.SCHED_FALLBACK] s.dev t) ∧
    (s.dev.timeValid = true → 0 ≤ s.dev.tb.t40 + v.toInt * 2 ^ 40 → s.dev.tb.t40 + v.toInt * 2 ^ 40 < 2 ^ 48 * 1000000000 * 2 ^
      40 → s.dev.tb.rem = 0 → s.dev.tb.adjSec = 0 → v.toInt.natAbs ≤ 1000 * s.dev.get F.TB_CTRL.STEP_THRESHOLD →
      Does (.tbAdjWrite true v) s fun t =>
        t.tb = { s.dev.tb with rem := v.toInt * 2 ^ 40 } ∧ Touches [.tb, .evt, .life] [F.TB_STATUS.TRIM_SAT, F.EVT_STATUS 1] s.dev t) ∧
    (s.dev.timeValid = true → 0 ≤ s.dev.tb.t40 + v.toInt * 2 ^ 40 → s.dev.tb.t40 + v.toInt * 2 ^ 40 < 2 ^ 48 * 1000000000 * 2 ^
      40 → s.dev.tb.rem = 0 → s.dev.tb.adjSec = 0 → 1000 * s.dev.get F.TB_CTRL.STEP_THRESHOLD < v.toInt.natAbs →
      Does (.tbAdjWrite true v) s fun t =>
        t.tb = { s.dev.tb with step := some v.toInt, accepted := false } ∧ t.flag F.TB_STATUS.STEP_PENDING = true ∧
        t.flag F.TB_STATUS.STEP_REFUSED = true ∧ t.occurred 1 3 ∧
        Touches [.tb, .evt, .life] [F.TB_STATUS.STEP_PENDING, F.TB_STATUS.STEP_REFUSED, F.EVT_STATUS 1] s.dev t) ∧
    (-(2 ^ 31) ≤ v.toInt + s.dev.tb.ageing + slewTerm s.dev.tb.rem → v.toInt + s.dev.tb.ageing + slewTerm s.dev.tb.rem < 2 ^ 31
      →
      Does (.tbTrimWrite (.reg true) v) s fun t =>
        t.getS F.TB_TRIM = v.toInt ∧ t.flag F.TB_STATUS.TRIM_SAT = false ∧ Touches [] [F.TB_TRIM, F.TB_STATUS.TRIM_SAT] s.dev t) ∧
    (∀ i ∈ [Instr.tbAdjWrite false v, .tbAdjSecWrite false v, .tbTrimWrite (.reg false) v],
        Does i s fun t => t.flag F.BUS_STATUS.VIEW_IGNORED = true ∧ Touches [] [F.BUS_STATUS.VIEW_IGNORED] s.dev t)) ∧
  (∀ (s : State), s.dev.wf →
    (∀ (sec ns : Nat), s.dev.timeValid = false → sec < 2 ^ 48 → ns < 1000000000 →
      Does (.timeSet .operator sec ns) s fun t =>
        t.tb = { s.dev.tb with t40 := (sec * 1000000000 + ns) * 2 ^ 40, setOnce := true } ∧ t.flag F.TB_STATUS.VALID = true ∧
        t.flf.status = 0 ∧ (s.dev.st.ticks = false → t.net = s.dev.net) ∧
        Touches [.tb, .flf, .net] [F.TB_STATUS.VALID, F.TB_SOURCE.SCHED_FALLBACK] s.dev t) ∧
    (∀ (sec ns : Nat), (2 ^ 48 ≤ sec ∨ 1000000000 ≤ ns) →
      Does (.timeSet .operator sec ns) s fun t => t = s.dev.answer 4) ∧
    (∀ (o : Int), s.dev.tb.step = some o → 0 ≤ s.dev.tb.t40 + o * 2 ^ 40 → s.dev.st.ticks = false →
      Does (.acceptStep (.reg true) 1) s fun t =>
        (t.tb.t40 : Int) = s.dev.tb.t40 + o * 2 ^ 40 ∧ t.tb = { s.dev.tb with t40 := t.tb.t40, step := none, accepted := false } ∧
        t.flag F.TB_STATUS.STEP_PENDING = false ∧ t.flag F.TB_STATUS.STEP_REFUSED = false ∧ t.occurred 2 3 ∧
        Touches [.tb, .evt, .life] [F.TB_STATUS.STEP_PENDING, F.TB_STATUS.STEP_REFUSED, F.EVT_STATUS 2] s.dev t) ∧
    (∀ (o : Int), s.dev.tb.step = some o → s.dev.st.ticks = true →
      Does (.acceptStep (.reg true) 1) s fun t => t.tb = { s.dev.tb with accepted := true } ∧ Touches [.tb] [] s.dev t) ∧
    (s.dev.flag F.TB_CTRL.RUN = true → s.dev.rootRuns = true → s.dev.tb.rem ≠ 0 → -(2 ^ 31) ≤ s.dev.trimBase - 109951163 →
      s.dev.trimBase + 109951163 < 2 ^ 31 →
      Does .slewComplete s fun t =>
        t.tb.rem = 0 ∧ t.up = s.dev.up + cdiv s.dev.tb.rem.natAbs 109951163 ∧
        t.cyc = s.dev.cyc + cdiv s.dev.tb.rem.natAbs 109951163 ∧ Touches [.up, .cyc, .tb] [] s.dev t) ∧
    (∀ (n : Nat), s.dev.flag F.TB_CTRL.RUN = true → s.dev.rootRuns = true → s.dev.slewCycles = some n →
      Does .slewComplete s fun t =>
        t.tb.rem = 0 ∧ t.up = s.dev.up + n ∧ t.cyc = s.dev.cyc + n ∧
        Touches [.up, .cyc, .tb, .evt, .life] [F.TB_STATUS.TRIM_SAT, F.EVT_STATUS 1] s.dev t) ∧
    (s.dev.tb.rem ≠ 0 → s.dev.slewCycles = none →
      Does .slewComplete s fun t => t = s.dev) ∧
    (s.dev.flag F.TB_CTRL.RUN = true → s.dev.rootRuns = true → s.dev.tb.rem = 0 → s.dev.tb.days * 86400 * 1000000000 * 2 ^ 40 ≤
      s.dev.tb.counted → s.dev.tb.counted ≤ (s.dev.tb.days + 1) * 86400 * 1000000000 * 2 ^ 40 →
      Does .ageingDayElapsed s fun t =>
        t.tb.days = s.dev.tb.days + 1 ∧ t.tb.ageing = s.dev.tb.ageing + s.dev.getS F.TB_AGEING ∧
        (t.tb.days) * 86400 * 1000000000 * 2 ^ 40 ≤ t.tb.counted ∧
        Touches [.up, .cyc, .tb, .evt, .life] [F.TB_STATUS.TRIM_SAT, F.EVT_STATUS 1] s.dev t))

/-- Temperatures and the throttle level; retirements are stored and cleared (R31, R34, R486, R487, R490, R493, R494). Where
the spec leaves a point open it meets the model's choice of logs 4, 50, 59, 93, 112. -/
def Obligations.HeatAndRetirement : Prop :=
  (∀ (s : State) (r : List Int), s.dev.wf →
    (s.dev.held = false → s.dev.st.ticks = false →
      Does (.thermalReading r) s fun t =>
        t.therm.sens.length = 24 ∧ (∀ i < 24, (at' t.therm.sens i {}).reading = at' r i 0) ∧
        Frame [.regs, .therm, .evt, .life, .free] s.dev t) ∧
    (r = List.replicate 24 720 → s.dev.held = false → s.dev.st.ticks = false → s.dev.therm.sens = [] → s.dev.therm.subst = [] →
      Does (.thermalReading r) s fun t =>
        (∀ i < 24, (at' t.therm.sens i {}).failed = false) ∧ t.getS F.THERM_STATUS.TJ = 720 ∧
        t.flag F.THERM_STATUS.COVERAGE_LOST = false ∧ t.flag F.THERM_STATUS.SHUTDOWN = false) ∧
    (∀ (k j : Nat), s.dev.therm.sens ≠ [] → k < 7 → j < 20 → s.dev.getS F.THERM_STATUS.TJ = 1840 + 20 * k + j →
      s.dev.therm.level ≤ k →
      Does .throttleEval s fun t =>
        t.therm = { s.dev.therm with level := k + 1, levelDue := decide (k + 1 ≠ s.dev.therm.inEffect) } ∧ Touches [.therm] [] s.dev t) ∧
    (s.dev.therm.sens ≠ [] → s.dev.getS F.THERM_STATUS.TJ < 1760 → s.dev.therm.subst = [] →
      Does .throttleEval s fun t =>
        t.therm = { s.dev.therm with level := 0, levelDue := decide (0 ≠ s.dev.therm.inEffect) } ∧ Touches [.therm] [] s.dev t) ∧
    (∀ (i : Nat) (v : Int), s.dev.therm.subst = [(i, v, false)] → s.dev.st.ticks = false →
      Does .substituteTimeout s fun t =>
        t.therm.subst = [(i, v, true)] ∧ Frame [.regs, .therm, .evt, .life, .free] s.dev t)) ∧
  (∀ (s : State), s.dev.wf →
    (∀ (k u : Nat), s.dev.life.retired = [{ kind := k, unit := u }] → s.dev.life.flashRet.length < 1024 →
      Does (.retirementStoreWrite true) s fun t =>
        t.life = { s.dev.life with
          flashRet := s.dev.life.flashRet ++ [{ kind := k, unit := u, stored := true }], retired := [{ kind := k, unit := u, stored := true }]
          flash := { s.dev.life.flash with
            ret := s.dev.life.flash.ret.write retiredOk (retiredBytes (s.dev.life.flashRet ++ [{ kind := k, unit := u, stored := true }])) } } ∧
        Touches [.life] [] s.dev t) ∧
    (∀ (k u : Nat), s.dev.life.retired = [{ kind := k, unit := u }] →
      Does (.retirementStoreWrite false) s fun t =>
        t.life.flashRet = s.dev.life.flashRet ∧ t.life.retired = [{ kind := k, unit := u, lost := true }] ∧ t.occurred 0 10 ∧
        Touches [.life, .evt] [F.EVT_STATUS 0] s.dev t) ∧
    (∀ (u : Fin 2), s.dev.retiredUnit 6 u = true → (s.dev.seq.retireDue.any fun q => q.1 = 6 && q.2.1 = u.val) = false →
      Does (.clearRetirement .engineer (6 * 2 ^ 24 + u.val)) s fun t =>
        t.retiredUnit 6 u = false ∧ at' t.life.portRet u false = false ∧
        (∀ q ∈ s.dev.life.retired, q.kind ≠ 6 ∨ q.unit ≠ u.val → q ∈ t.life.retired) ∧ t.occurred 0 9 ∧
        t.flf = { s.dev.flf with status := 0 } ∧ Touches [.life, .seq, .evt, .flf] [F.EVT_STATUS 0] s.dev t))

/-- Frames that the Ethernet ports receive; ages of the ARP cache and the PRP nodes (R377, R378, R379, R380, R388, R432). Where
the spec leaves a point open it meets the model's choice of logs 40, 50, 81. -/
def Obligations.FramesAndNeighboursOnEthernet : Prop :=
  (∀ (s : State) (f : RxFrame), s.dev.wf → s.dev.ethRuns f.port = true → s.dev.vidOk f.vid = true → f.trailer = none →
    (∀ (ip : Nat), s.dev.prpOn = false →
      Does (.arpRequestRx f ip (s.dev.get F.NET_IP)) s fun t =>
        t.net.unitNo = s.dev.net.unitNo + 1 ∧ t.net.arp = s.dev.net.arp ∧
        Touches [.net, .up, .cyc, .tb, .evt, .life] [F.ETH_QOVF f.port, F.EVT_STATUS 10] s.dev t) ∧
    (∀ (ip target : Nat), target ≠ s.dev.get F.NET_IP →
      Does (.arpRequestRx f ip target) s fun t =>
        t.get (F.ETH_RX_DISCARD f.port) = (s.dev.get (F.ETH_RX_DISCARD f.port) + 1) % 2 ^ 32 ∧
        Touches [.up, .cyc, .tb] [F.ETH_RX_DISCARD f.port] s.dev t) ∧
    (∀ (ip : Nat),
      Does (.arpReplyRx f ip) s fun t =>
        (t.net.arp.find? fun a => a.ip = ip).map (fun a => (a.mac, a.time)) = some (f.mac, max s.dev.up f.t) ∧ t.net.arp.length ≤ 16 ∧
        (∀ x ∈ t.net.arpWait, x.1 ≠ ip) ∧ t.net.ports = s.dev.net.ports ∧ Touches [.net, .up, .cyc, .tb] [] s.dev t) ∧
    (∀ (ip : Nat) (body : Bytes), s.dev.prpOn = false → queueFits 5 (((s.dev.port f.port).queues).getD 5 []) {} = true →
      s.dev.net.unitNo ∉ (s.dev.port f.port).droppedUnit → s.dev.sized →
      Does (.icmpEchoRx f ip body) s fun t =>
        (((t.port f.port).queues).getD 5 []).map (fun e => (e.dst, e.data)) =
          (((s.dev.port f.port).queues).getD 5 []).map (fun e => (e.dst, e.data)) ++ [(ip, body)] ∧
        Touches [.net, .up, .cyc, .tb] [] s.dev t) ∧
    (Does (.ethFrameDiscarded f) s fun t =>
        t.get (F.ETH_RX_DISCARD f.port) = (s.dev.get (F.ETH_RX_DISCARD f.port) + 1) % 2 ^ 32 ∧
        Touches [.up, .cyc, .tb] [F.ETH_RX_DISCARD f.port] s.dev t) ∧
    (∀ (node : Nat),
      Does (.prpSupervisionRx f node) s fun t =>
        t.net = { s.dev.net with nodes := { mac := node, seen := max s.dev.up f.t } :: s.dev.net.nodes.filter (·.mac ≠ node) } ∧
        Touches [.net, .up, .cyc, .tb] [] s.dev t)) ∧
  (∀ (s : State) (f : RxFrame), s.dev.wf → s.dev.ethRuns f.port = true →
    (s.dev.vidOk f.vid = false →
      ∀ i ∈ [Instr.ethFrameDiscarded f, .arpRequestRx f 0 0, .arpReplyRx f 0, .icmpEchoRx f 0 [], .prpSupervisionRx f 0, .safeTelegramRx f 0 0 0 []],
        Does i s fun t => t.get (F.ETH_RX_DISCARD f.port) = (s.dev.get (F.ETH_RX_DISCARD f.port) + 1) % 2 ^ 32 ∧
          Touches [.up, .cyc, .tb] [F.ETH_RX_DISCARD f.port] s.dev t) ∧
    (∀ (seq lan : Nat), s.dev.vidOk f.vid = true → f.trailer = some (seq, lan) → s.dev.prpOn = true → lan = 0xA + f.port.val →
      s.dev.up ≤ f.t → s.dev.net.dups.any (fun x => x.mac = f.mac && x.seq = seq && x.port ≠ f.port.val && f.t ≤ x.time +
      400000000) = true →
      ∀ i ∈ [Instr.ethFrameDiscarded f, .arpReplyRx f 0, .prpSupervisionRx f 0],
        Does i s fun t => t.get F.PRP_DUP = (s.dev.get F.PRP_DUP + 1) % 2 ^ 32 ∧ t.flag (F.ETH_STATUS.LAN_MISSING f.port) = false ∧
          t.net.arp = s.dev.net.arp ∧ t.net.nodes = s.dev.net.nodes ∧
          Touches [.net, .up, .cyc, .tb] [F.PRP_DUP, F.ETH_STATUS.LAN_MISSING f.port] s.dev t) ∧
    (∀ (seq lan : Nat), s.dev.vidOk f.vid = true → f.trailer = some (seq, lan) → s.dev.prpOn = true → lan ≠ 0xA + f.port.val →
      Does (.ethFrameDiscarded f) s fun t => t.get F.PRP_WRONG_LAN = (s.dev.get F.PRP_WRONG_LAN + 1) % 2 ^ 32 ∧
        t.get F.PRP_DUP = s.dev.get F.PRP_DUP ∧ Touches [.net, .up, .cyc, .tb] [F.PRP_WRONG_LAN, F.ETH_STATUS.LAN_MISSING f.port, F.ETH_RX_DISCARD f.port] s.dev t)) ∧
  (∀ (s : State), s.dev.wf →
    (∀ (ip : Nat) (a : Arp), (s.dev.net.arp.find? fun x => x.ip = ip) = some a →
      Does (.arpCacheExpiry ip) s fun t =>
        t.net = { s.dev.net with arp := s.dev.net.arp.filter (·.ip ≠ ip) } ∧ t.up = max s.dev.up (a.time + 300000000000) ∧
        Touches [.net, .up, .cyc, .tb] [] s.dev t) ∧
    (∀ (ip p at' : Nat), (s.dev.net.arpWait.find? fun x => x.1 = ip) = some (ip, p, at') →
      Does (.arpRetry ip) s fun t =>
        t.up = max s.dev.up (at' + 1000000000) ∧ (t.net.arpWait.find? fun x => x.1 = ip) = some (ip, p, t.up) ∧
        t.net.arp = s.dev.net.arp ∧ Touches [.net, .up, .cyc, .tb, .evt, .life] [F.ETH_QOVF 0, F.ETH_QOVF 1, F.ETH_QOVF p, F.EVT_STATUS 10] s.dev t) ∧
    (∀ (mac : Nat) (n : Node), (s.dev.net.nodes.find? fun x => x.mac = mac) = some n →
      Does (.prpNodeExpiry mac) s fun t =>
        t.net = { s.dev.net with nodes := s.dev.net.nodes.filter (·.mac ≠ mac) } ∧ t.up = max s.dev.up (n.seen + 60000000000) ∧
        Touches [.net, .up, .cyc, .tb] [] s.dev t) ∧
    (∀ (p : Fin 2) (x : Nat), s.dev.prpOn = true → (s.dev.port (1 - p.val)).lastTrailer = some x → (s.dev.port
      p).lastTrailer.getD 0 < x → s.dev.flag (F.ETH_STATUS.LAN_MISSING p) = false →
      Does (.lanMissingTimeout p) s fun t =>
        t.flag (F.ETH_STATUS.LAN_MISSING p) = true ∧ t.occurred 10 9 ∧ t.up = max s.dev.up ((s.dev.port p).lastTrailer.getD 0 + 8000000000) ∧
        Touches [.up, .cyc, .tb, .evt, .life] [F.ETH_STATUS.LAN_MISSING p, F.EVT_STATUS 10] s.dev t) ∧
    (s.dev.prpOn = true → s.dev.rootRuns = true →
      Does .prpSupervisionTx s fun t =>
        t.net.supSeq = (s.dev.net.supSeq + 1) % 65536 ∧ t.net.prpSeq = (s.dev.net.prpSeq + 1) % 65536 ∧
        Touches [.net, .evt, .life] [F.ETH_QOVF 0, F.ETH_QOVF 1, F.EVT_STATUS 10] s.dev t))

/-- The exchange between the Toll channels, and the rays of the protective fields (R397, R410, R411). Where the spec leaves a
point open it meets the model's choice of logs 23, 24, 50, 71. -/
def Obligations.MailboxAndRaysOfTheIsland : Prop :=
  (∀ (s : State), s.dev.wf →
    (∀ (a b : Int), s.dev.logicRuns = true → s.dev.procRuns = true → s.dev.devLimit < a.natAbs → 1 ≤ s.dev.toll.logic.clockBad
      → s.dev.toll.fault = 0 →
      Does (.mailboxExchange a b) s fun t => t.st = .faultStop ∧ t.toll.fault = 3 ∧ t.outputsOff ∧ (s.dev.st ≠ .faultStop → t.laserOff)) ∧
    (∀ (a b : Int), s.dev.logicRuns = true → s.dev.procRuns = true → s.dev.st.ticks = false → a.natAbs ≤ s.dev.devLimit →
      b.natAbs ≤ s.dev.devLimit → (∀ i < 8, s.dev.fnDemand .logic i = s.dev.fnDemand .proc i) →
      Does (.mailboxExchange a b) s fun t =>
        t.toll = { s.dev.toll with
          mbxRun := [0, 0, 0, 0, 0, 0, 0, 0]
          logic := { s.dev.toll.logic with clockBad := 0 }
          proc := { s.dev.toll.proc with clockBad := 0 } } ∧
        Touches [.toll] [] s.dev t) ∧
    (∀ (a b : Int) (i : Fin 8), s.dev.logicRuns = true → s.dev.procRuns = true → a.natAbs ≤ s.dev.devLimit → b.natAbs ≤
      s.dev.devLimit → s.dev.fnDemand .logic i ≠ s.dev.fnDemand .proc i → pairD s.dev.toll.cfg i + 30 < 10 *
      s.dev.toll.mbxRun.getD i 0 → s.dev.toll.fault = 0 →
      Does (.mailboxExchange a b) s fun t => t.st = .faultStop ∧ t.toll.fault = 5 ∧ t.outputsOff) ∧
    (s.dev.procRuns = true → s.dev.life.tollReload = false → s.dev.toll.fault = 0 →
      Does .mailboxMissingTimeout s fun t => t.st = .faultStop ∧ t.toll.fault = 2 ∧ t.outputsOff) ∧
    (s.dev.procRuns = false →
      Does .mailboxMissingTimeout s fun t => t = s.dev)) ∧
  (∀ (s : State), s.dev.wf →
    (∀ (ch : Fin 512), (s.dev.chan ch).rayDue = true → s.dev.logicRuns = true → zoneFields (s.dev.seq.info.tab 0x7071)
      (sectorOf (wbAz (wbEntry (s.dev.seq.info.tab 0x7000) s.dev.seq.info.index))) ch = [] → s.dev.st.ticks = false →
      Does (.logicRayDecision ch) s fun t =>
        (t.chan ch).rayDue = false ∧ (∀ k < 512, k ≠ ch.val → t.chan k = s.dev.chan k) ∧ t.toll.logic.rays = s.dev.toll.logic.rays ∧
        Frame [.chans, .toll, .regs, .rcd, .evt, .life] s.dev t) ∧
    (∀ (ch : Fin 512) (f : Fin 16), (s.dev.chan ch).rayDue = true → s.dev.logicRuns = true → f.val ∈ zoneFields
      (s.dev.seq.info.tab 0x7071) (sectorOf (wbAz (wbEntry (s.dev.seq.info.tab 0x7000) s.dev.seq.info.index))) ch → s.dev.sized
      →
      Does (.logicRayDecision ch) s fun t =>
        t.toll.logic.rays.getD f 0 = s.dev.toll.logic.rays.getD f 0 + 1 ∧
        t.toll.logic.hCur.getD f 0 = s.dev.toll.logic.hCur.getD f 0 + nat (fieldHits s.dev.toll.cfg f ≤ Tab.getD (s.dev.chan ch).rayHits f 0) ∧
        t.toll.logic.bCur.getD f 0 = s.dev.toll.logic.bCur.getD f 0 + nat ((s.dev.chan ch).rayBlind || (s.dev.chan ch).rayNc < fieldHits s.dev.toll.cfg f) ∧
        t.toll.proc.rays = s.dev.toll.proc.rays) ∧
    (∀ (ch : Fin 512) (f : Fin 16), s.dev.recDone ch = true → (Tab.getD s.dev.recs ch.val {}).ray = false → s.dev.procRuns =
      true → s.dev.seq.info.valid = true → (bitAt (Tab.getD s.dev.recs ch.val {}).flags 14 = true ∨ bitAt (Tab.getD s.dev.recs
      ch.val {}).flags 15 = true) → s.dev.sized →
      Does (.procRayDecision ch) s fun t =>
        t.toll.proc.rays.getD f 0 = s.dev.toll.proc.rays.getD f 0 + 1 ∧ t.toll.proc.bCur.getD f 0 = s.dev.toll.proc.bCur.getD f 0 + 1 ∧
        t.toll.logic.rays = s.dev.toll.logic.rays ∧ (Tab.getD t.recs ch.val {}).ray = true) ∧
    (∀ (ch : Fin 512), s.dev.recDone ch = true → (Tab.getD s.dev.recs ch.val {}).ray = false → s.dev.procRuns = true →
      s.dev.seq.info.valid = true → s.dev.st.ticks = false →
      Does (.procRayDecision ch) s fun t =>
        (Tab.getD t.recs ch.val {}).ray = true ∧ (Tab.getD t.recs ch.val {}).echoes = (Tab.getD s.dev.recs ch.val {}).echoes ∧
        Frame [.recs, .toll, .regs, .rcd, .evt, .life] s.dev t))

/-- Status telegrams sent, command telegrams judged, compare windows, the watchdog (R379, R431, R432, R433, R435). Where the spec
leaves a point open it meets the model's choice of logs 50, 72. -/
def Obligations.TelegramsOfTheIsland : Prop :=
  (∀ (s : State) (at' : Nat), s.dev.wf → s.dev.sendsTelegrams = true → s.dev.tgSpaced at' = true → s.dev.st.ticks = false →
    (Does (.telegramTxPeriod at' true) s fun t =>
        t.toll = { s.dev.toll with
          txSeq := (s.dev.toll.txSeq + 1) % 2 ^ 32
          txLast := some at'
          txSaid := s.dev.tgSays
          txSeqs := ((s.dev.toll.txSeq + 1) % 2 ^ 32 :: s.dev.toll.txSeqs).take 8 } ∧
        t.net.unitNo = s.dev.net.unitNo + 1 ∧ Touches [.toll, .net, .up, .cyc, .tb, .evt, .life] [] s.dev t) ∧
    (((s.dev.toll.comp.filter fun x => at' < x + 1000000000) ++ [at']).length < 3 →
      Does (.telegramTxPeriod at' false) s fun t =>
        t.toll = { s.dev.toll with comp := (s.dev.toll.comp.filter fun x => at' < x + 1000000000) ++ [at'] } ∧
        Touches [.toll, .up, .cyc, .tb] [] s.dev t) ∧
    (3 ≤ ((s.dev.toll.comp.filter fun x => at' < x + 1000000000) ++ [at']).length →
      Does (.telegramTxPeriod at' false) s fun t => t.st = .faultStop ∧ t.toll.fault = 7 ∧ t.outputsOff) ∧
    (s.dev.tgSays ≠ s.dev.toll.txSaid →
      Does (.telegramChangeTx at' true) s fun t =>
        t.toll.txSeq = (s.dev.toll.txSeq + 1) % 2 ^ 32 ∧ t.toll.txSaid = s.dev.tgSays ∧ t.toll.txLast = some at') ∧
    (s.dev.tgSays = s.dev.toll.txSaid →
      Does (.telegramChangeTx at' true) s fun t => Touches [.up, .cyc, .tb] [] s.dev t)) ∧
  (∀ (s : State) (f : RxFrame) (ip sp dp : Nat) (bs : Bytes), s.dev.wf → s.dev.ethRuns f.port = true → s.dev.vidOk f.vid = true
    → f.trailer = none → s.dev.takesTelegrams = true →
    (bs.length = 64 → tgForm s.dev.toll.cfg ip dp bs = false →
      Does (.safeTelegramRx f ip sp dp bs) s fun t =>
        t.get F.TG_REJECTED = (s.dev.get F.TG_REJECTED + 1) % 2 ^ 32 ∧ Touches [.up, .cyc, .tb] [F.TG_REJECTED] s.dev t) ∧
    (bs.length ≠ 64 →
      Does (.safeTelegramRx f ip sp dp bs) s fun t => Touches [.up, .cyc, .tb] [] s.dev t) ∧
    (bs.length = 64 → tgForm s.dev.toll.cfg ip dp bs = true → s.dev.toll.closed.contains (tgSeq bs) = false → s.dev.flag
      F.PTP_STATUS.LOCKED = false → s.dev.tgFresh bs = true → (s.dev.toll.wins.find? fun x => tgSeq x.bytes = tgSeq bs) = none →
      s.dev.st.ticks = false →
      Does (.safeTelegramRx f ip sp dp bs) s fun t =>
        t.toll = { s.dev.toll with wins := s.dev.toll.wins ++ [{ bytes := bs, port := f.port, t := max s.dev.up f.t }] } ∧
        Touches [.toll, .up, .cyc, .tb] [] s.dev t) ∧
    (∀ (w : Copy), bs.length = 64 → tgForm s.dev.toll.cfg ip dp bs = true → s.dev.toll.closed.contains (tgSeq bs) = false →
      s.dev.flag F.PTP_STATUS.LOCKED = false → s.dev.tgFresh bs = true → (s.dev.toll.wins.find? fun x => tgSeq x.bytes = tgSeq
      bs) = some w → w.port ≠ f.port.val → max s.dev.up f.t < w.t + cmpWin s.dev.toll.cfg → w.bytes = bs →
      Does (.safeTelegramRx f ip sp dp bs) s fun t =>
        t.toll.rxSeq = tgSeq bs ∧ t.toll.remote = bitAt (rd 1 bs 0x20) 0 ∧ t.toll.mute = rd 2 bs 0x24 ∧ t.toll.rxLast = max s.dev.up f.t ∧
        t.toll.conn = s.dev.toll.echoOk ∧ t.toll.echoOk = true ∧ t.get F.TG_ACCEPTED = (s.dev.get F.TG_ACCEPTED + 1) % 2 ^ 32) ∧
    (∀ (w : Copy), bs.length = 64 → tgForm s.dev.toll.cfg ip dp bs = true → s.dev.toll.closed.contains (tgSeq bs) = false →
      s.dev.flag F.PTP_STATUS.LOCKED = false → s.dev.tgFresh bs = true → (s.dev.toll.wins.find? fun x => tgSeq x.bytes = tgSeq
      bs) = some w → w.port ≠ f.port.val → max s.dev.up f.t < w.t + cmpWin s.dev.toll.cfg → w.bytes ≠ bs → s.dev.toll.mism =
      none →
      Does (.safeTelegramRx f ip sp dp bs) s fun t =>
        t.get F.TG_COPY_MISMATCH = (s.dev.get F.TG_COPY_MISMATCH + 1) % 2 ^ 32 ∧ t.toll.mism = some (max s.dev.up f.t) ∧
        t.toll.rxSeq = s.dev.toll.rxSeq ∧ bitAt (t.get (F.EVT_STATUS 12)) 7 = true ∧ t.toll.conn = s.dev.toll.conn)) ∧
  (∀ (s : State), s.dev.wf →
    (∀ (at' : Nat) (w : Copy) (rest : List Copy), s.dev.toll.wins = w :: rest → w.t + cmpWin s.dev.toll.cfg ≤ at' → (bitAt (rd
      1 s.dev.toll.cfg 0xE8) 1 = false ∨ s.dev.otherDown w.port = false) →
      Does (.compareWindowEnd at') s fun t =>
        t.toll = { s.dev.toll with
          wins := s.dev.toll.wins.filter fun x => tgSeq x.bytes ≠ tgSeq w.bytes
          closed := (tgSeq w.bytes :: s.dev.toll.closed).take 16 } ∧ Touches [.toll, .up, .cyc, .tb] [] s.dev t) ∧
    (∀ (at' : Nat) (w : Copy) (rest : List Copy), s.dev.toll.wins = w :: rest → w.t + cmpWin s.dev.toll.cfg ≤ at' → bitAt (rd 1
      s.dev.toll.cfg 0xE8) 1 = true → s.dev.otherDown w.port = true →
      Does (.compareWindowEnd at') s fun t =>
        t.get F.TG_SINGLE = (s.dev.get F.TG_SINGLE + 1) % 2 ^ 32 ∧ t.get F.TG_ACCEPTED = (s.dev.get F.TG_ACCEPTED + 1) % 2 ^ 32 ∧
        t.toll.rxSeq = tgSeq w.bytes ∧ bitAt (t.get (F.EVT_STATUS 12)) 8 = true) ∧
    (s.dev.toll.conn = true → tgOn s.dev.toll.cfg = true →
      Does .telegramWatchdog s fun t =>
        t.toll.conn = false ∧ t.toll.lost = true ∧ t.toll.echoOk = false ∧ t.get F.TG_LOST = (s.dev.get F.TG_LOST + 1) % 2 ^ 32 ∧
        bitAt (t.get (F.EVT_STATUS 12)) 9 = true ∧ t.muted = 0 ∧ (s.dev.toll.cfgOk = true → t.fnDemand .logic 24 = true ∧ t.fnDemand .proc 24 = true)) ∧
    (s.dev.toll.conn = false →
      Does .telegramWatchdog s fun t => t = s.dev))

/-- Every step keeps the form of the stores: registers within their widths, event log, outbox, ARP cache, one transfer a requester
(R3, R5, R377, R446, R463, R471, R479). Where the spec leaves a point open it meets the model's choice of log 98. -/
def Obligations.StoresKeepTheirForm : Prop :=
  ∀ s t : State, s.dev.wf → step s = .next t → t.dev.wf

/-- Every step keeps the numbers of units: converters, sequences, capture units, streams, ports, queues, lanes, pairs, fields
(R312, R357, R388, R400, R418). Where the spec leaves a point open it meets the model's choice of log 98. -/
def Obligations.UnitsKeepTheirCounts : Prop :=
  ∀ s t : State, s.dev.sized → step s = .next t → t.dev.sized

/-- Every step keeps: an arm enable is on, or an arming goes on, only in SCAN, RANGING or DEGRADED (R30, R31, R108, R109, R424).
-/
def Obligations.LaserIsArmedOnlyWhereAdmitted : Prop :=
  ∀ s t : State, s.dev.laser → step s = .next t → t.dev.laser

/-- Every step keeps the output switches open in FAULT_STOP, without an accepted configuration, and without supply or clock (R397,
R398, R401, R418). -/
def Obligations.OutputSwitchesStayOpenWhereTheyMust : Prop :=
  ∀ s t : State, s.dev.switchesSafe → step s = .next t → t.dev.switchesSafe

/-- Every step keeps: free, filling, used and held blocks of the ring are all its blocks (R344). -/
def Obligations.MemoryRingIsConserved : Prop :=
  ∀ s t : State, s.dev.rcd.balanced → step s = .next t → t.dev.rcd.balanced

/-- Every step keeps: each session has a number of its own, at most 4 are open, at most one of them an engineer's (R455). -/
def Obligations.SessionsStayWithinTheirLimits : Prop :=
  ∀ s t : State, s.dev.sessionsOk → step s = .next t → t.dev.sessionsOk

/-- FAULT_STOP is left only by a reset: power-on, RESET_N, or device.reset (R31, R512). Where the spec leaves a point open it
meets the model's choice of log 92. -/
def Obligations.FaultStopEndsOnlyByReset : Prop :=
  ∀ s t : State, s.dev.st = .faultStop → step s = .next t →
    t.dev.st = .faultStop ∨ ∃ c rest, s.pending = c :: rest ∧
      ((∃ a b m, c = .powerOnReset a b m) ∨ c = .powerOnResetHold ∨ (∃ w, c = .resetNAssert w ∧ 1000 ≤ w) ∨
        (∃ v, c = .softwareReset .engineer v) ∨ (∃ h i u y v, c = .flefenWrite h i u y v) ∨ ∃ h w, c = .writeGroup h w)

/-- No step undoes what lasts: serial number, key hash, fitted memory, rollback counter, blown fuses, engineer key (R341, R456,
R468, R476, R499). -/
def Obligations.NothingLastingIsUndone : Prop :=
  ∀ s t : State, step s = .next t → s.dev.lasts t.dev
end

