-- ==== Sys2Proof/Laws/Tab.lean ====
section
/-! SUPPORT. Laws of the sparse tables: what a listed value reads as after a change, and that every operation keeps the canonical
form. -/

namespace Sys2Proof.Machine

@[simp] theorem Tab.find_nil {α : Type} (k : Nat) : Tab.find ([] : Tab α) k = none := rfl

/-- A listed value reads back. -/
theorem Tab.find_put_same {α : Type} (t : Tab α) (k : Nat) (v : α) : Tab.find (Tab.put t k v) k = some v := by
  induction t with
  | nil => simp [Tab.put, Tab.find]
  | cons e t ih =>
    obtain ⟨j, w⟩ := e
    simp only [Tab.put]
    split
    · simp [Tab.find]
    · split
      · simp [Tab.find]
      · rename_i h1 h2
        simp [Tab.find, h1, h2, ih]

/-- Other keys read as before. -/
theorem Tab.find_put_other {α : Type} (t : Tab α) (k k' : Nat) (v : α) (h : k' ≠ k) :
    Tab.find (Tab.put t k v) k' = Tab.find t k' := by
  induction t with
  | nil =>
    simp only [Tab.put, Tab.find]
    split
    · omega
    · split <;> rfl
  | cons e t ih =>
    obtain ⟨j, w⟩ := e
    simp only [Tab.put]
    split
    · rename_i h1
      subst h1
      simp only [Tab.find]
      repeat' split
      all_goals first | rfl | omega
    · split
      · simp only [Tab.find]
        repeat' split
        all_goals first | rfl | omega
      · simp only [Tab.find, ih]

/-- A key below every listed key is not listed. -/
theorem Tab.find_lt {α : Type} (t : Tab α) (k : Nat) (h : ∀ e ∈ t, k < e.1) : Tab.find t k = none := by
  cases t with
  | nil => rfl
  | cons e t =>
    obtain ⟨j, w⟩ := e
    have hj : k < j := h (j, w) (by simp)
    simp [Tab.find, Nat.ne_of_gt hj, hj]

/-- A removed key is not listed. -/
theorem Tab.find_del_same {α : Type} (t : Tab α) (k : Nat) (hw : Tab.wf t) : Tab.find (Tab.del t k) k = none := by
  induction t with
  | nil => rfl
  | cons e t ih =>
    obtain ⟨j, w⟩ := e
    have hc := List.pairwise_cons.mp hw
    simp only [Tab.del]
    split
    · rename_i h1
      subst h1
      exact Tab.find_lt t j fun e he => hc.1 e.1 (List.mem_map_of_mem he)
    · split
      · rename_i h1 h2
        simp [Tab.find, h1, h2]
      · rename_i h1 h2
        simp only [Tab.find, h1, h2, if_false]
        exact ih hc.2

/-- Other keys read as before. -/
theorem Tab.find_del_other {α : Type} (t : Tab α) (k k' : Nat) (hw : Tab.wf t) (h : k' ≠ k) :
    Tab.find (Tab.del t k) k' = Tab.find t k' := by
  induction t with
  | nil => rfl
  | cons e t ih =>
    obtain ⟨j, w⟩ := e
    have hc := List.pairwise_cons.mp hw
    simp only [Tab.del]
    split
    · rename_i h1
      subst h1
      simp only [Tab.find]
      split
      · omega
      · split
        · rename_i h3
          exact Tab.find_lt t k' fun e he => Nat.lt_trans h3 (hc.1 e.1 (List.mem_map_of_mem he))
        · rfl
    · split
      · rfl
      · simp only [Tab.find, ih hc.2]

/-- Keys of a table after a key is listed. -/
theorem Tab.mem_put {α : Type} (t : Tab α) (k : Nat) (v : α) (e : Nat × α) (h : e ∈ Tab.put t k v) : e = (k, v) ∨ e ∈ t := by
  induction t with
  | nil => simpa [Tab.put] using h
  | cons a t ih =>
    obtain ⟨j, w⟩ := a
    simp only [Tab.put] at h
    split at h
    · rcases List.mem_cons.mp h with h | h
      · exact .inl h
      · exact .inr (List.mem_cons_of_mem _ h)
    · split at h
      · rcases List.mem_cons.mp h with h | h
        · exact .inl h
        · exact .inr h
      · rcases List.mem_cons.mp h with h | h
        · exact .inr (h ▸ List.mem_cons_self)
        · rcases ih h with h | h
          · exact .inl h
          · exact .inr (List.mem_cons_of_mem _ h)

/-- A removal lists nothing new. -/
theorem Tab.mem_del {α : Type} (t : Tab α) (k : Nat) (e : Nat × α) (h : e ∈ Tab.del t k) : e ∈ t := by
  induction t with
  | nil => simp [Tab.del] at h
  | cons a t ih =>
    obtain ⟨j, w⟩ := a
    simp only [Tab.del] at h
    split at h
    · exact List.mem_cons_of_mem _ h
    · split at h
      · exact h
      · rcases List.mem_cons.mp h with h | h
        · exact h ▸ List.mem_cons_self
        · exact List.mem_cons_of_mem _ (ih h)

/-- Listing a value keeps the keys rising. -/
theorem Tab.wf_put {α : Type} (t : Tab α) (k : Nat) (v : α) (hw : Tab.wf t) : Tab.wf (Tab.put t k v) := by
  induction t with
  | nil => simp [Tab.put, Tab.wf]
  | cons a t ih =>
    obtain ⟨j, w⟩ := a
    have hc := List.pairwise_cons.mp hw
    simp only [Tab.put]
    split
    · rename_i h1
      subst h1
      exact List.pairwise_cons.mpr hc
    · split
      · rename_i h2
        refine List.pairwise_cons.mpr ⟨fun x hx => ?_, hw⟩
        rcases List.mem_cons.mp hx with h | h
        · exact h ▸ h2
        · exact Nat.lt_trans h2 (hc.1 x h)
      · rename_i h1 h2
        refine List.pairwise_cons.mpr ⟨fun x hx => ?_, ih hc.2⟩
        obtain ⟨e, he, rfl⟩ := List.mem_map.mp hx
        rcases Tab.mem_put t k v e he with h | h
        · subst h
          show j < k
          omega
        · exact hc.1 e.1 (List.mem_map_of_mem h)

/-- A removal keeps the keys rising. -/
theorem Tab.wf_del {α : Type} (t : Tab α) (k : Nat) (hw : Tab.wf t) : Tab.wf (Tab.del t k) := by
  induction t with
  | nil => exact hw
  | cons a t ih =>
    obtain ⟨j, w⟩ := a
    have hc := List.pairwise_cons.mp hw
    simp only [Tab.del]
    split
    · exact hc.2
    · split
      · exact hw
      · refine List.pairwise_cons.mpr ⟨fun x hx => ?_, ih hc.2⟩
        obtain ⟨e, he, rfl⟩ := List.mem_map.mp hx
        exact hc.1 e.1 (List.mem_map_of_mem (Tab.mem_del t k e he))

/-- A table filtered by its entries keeps its keys rising. -/
theorem Tab.wf_filter {α : Type} (t : Tab α) (p : Nat × α → Bool) (hw : Tab.wf t) : Tab.wf (t.filter p) :=
  List.Pairwise.sublist (List.filter_sublist.map _) hw

/-- Storing a number keeps the canonical form. -/
theorem Tab.canon_putNat (t : Tab Nat) (k v : Nat) (h : Tab.canon t) : Tab.canon (Tab.putNat t k v) := by
  unfold Tab.putNat
  split
  · exact ⟨Tab.wf_del t k h.1, fun e he => h.2 e (Tab.mem_del t k e he)⟩
  · rename_i hv
    refine ⟨Tab.wf_put t k v h.1, fun e he => ?_⟩
    rcases Tab.mem_put t k v e he with h' | h'
    · subst h'
      exact hv
    · exact h.2 e h'

/-- A filtered canonical table is canonical. -/
theorem Tab.canon_filter (t : Tab Nat) (p : Nat × Nat → Bool) (h : Tab.canon t) : Tab.canon (t.filter p) :=
  ⟨Tab.wf_filter t p h.1, fun e he => h.2 e (List.mem_filter.mp he).1⟩

/-- A stored number reads back, 0 included. -/
theorem Tab.getD_putNat_same (t : Tab Nat) (k v : Nat) (h : Tab.wf t) : Tab.getD (Tab.putNat t k v) k 0 = v := by
  unfold Tab.putNat Tab.getD
  split
  · rename_i hv
    rw [Tab.find_del_same t k h, hv]
    rfl
  · rw [Tab.find_put_same]
    rfl

/-- Other keys read as before. -/
theorem Tab.getD_putNat_other (t : Tab Nat) (k k' v : Nat) (h : Tab.wf t) (hk : k' ≠ k) :
    Tab.getD (Tab.putNat t k v) k' 0 = Tab.getD t k' 0 := by
  unfold Tab.putNat Tab.getD
  split
  · rw [Tab.find_del_other t k k' h hk]
  · rw [Tab.find_put_other t k k' v hk]

/-- A unit replaced in its table reads back. -/
theorem Tab.getD_put_same {α : Type} (t : Tab α) (k : Nat) (v x : α) : Tab.getD (Tab.put t k v) k x = v := by
  unfold Tab.getD
  rw [Tab.find_put_same]
  rfl

/-- Other units read as before. -/
theorem Tab.getD_put_other {α : Type} (t : Tab α) (k k' : Nat) (v x : α) (h : k' ≠ k) :
    Tab.getD (Tab.put t k v) k' x = Tab.getD t k' x := by
  unfold Tab.getD
  rw [Tab.find_put_other t k k' v h]

/-- What a table listed from key `s` on holds at a key. -/
theorem Tab.find_range {α : Type} (f : Nat → α) : ∀ (n s k : Nat), s ≤ k → k < s + n →
    Tab.find ((List.range' s n).map fun k => (k, f k)) k = some (f k) := by
  intro n
  induction n with
  | zero => intro s k h1 h2; omega
  | succ n ih =>
    intro s k h1 h2
    by_cases h : s = k
    · subst h; simp [List.range'_succ, Tab.find]
    · have : ¬ k < s := by omega
      simpa [List.range'_succ, Tab.find, h, this] using ih (s + 1) k (by omega) (by omega)

/-- What `Tab.ofFn` holds at a key. -/
theorem Tab.find_ofFn {α : Type} (n : Nat) (f : Nat → α) (k : Nat) (h : k < n) : Tab.find (Tab.ofFn n f) k = some (f k) := by
  simpa [Tab.ofFn, List.range_eq_range'] using Tab.find_range f n 0 k (by omega) (by omega)

end Sys2Proof.Machine
end

