-- ==== Sys2Proof/Laws/Evolves.lean ====
section
/-! SUPPORT. What any change of the block keeps, as one relation: the stores keep their form, the arm enables agree with the device
state, FAULT_STOP stays, and nothing lasting is undone; and that the operations which write the fields concerned keep it. -/

namespace Sys2Proof.Machine

/-- What holds of the fields of a later device when it is reached from `a`; with `r` a reset may lie between. -/
def Follows (r : Bool) (a : Dev) (regs : Tab Nat) (log : List LogEnt) (outbox : List Bytes) (arp : List Arp) (transfers : List Transfer)
    (st : DevState) (logic proc : Bool) (arming : Nat) (serial : Nat) (keyHash : Bytes) (fitted rollback fuses : Nat)
    (engKey : Bytes) (engKeySet : Bool) : Prop :=
  (a.wf → Wf regs log outbox arp transfers) ∧ (a.laser → Laser st logic proc arming) ∧
    (r = true ∨ (a.st = .faultStop → st = .faultStop)) ∧ Lasting a serial keyHash fitted rollback fuses engKey engKeySet

/-- Device `b` is reached from `a`; with `r` a reset may lie between. -/
abbrev Evolves (r : Bool) (a b : Dev) : Prop :=
  Follows r a b.regs b.evt.log b.flf.outbox b.net.arp b.flf.transfers b.st b.led.logic.enable b.led.proc.enable b.led.arming
    b.life.serial b.life.keyHash b.life.fitted b.life.rollback b.life.fuses b.flf.engKey b.flf.engKeySet

theorem Evolves.refl (r : Bool) (a : Dev) : Evolves r a a :=
  ⟨id, id, .inr id, rfl, rfl, rfl, Nat.le_refl _, fun _ h => h, fun h => ⟨h, rfl⟩⟩

/-- A reset may lie between: then FAULT_STOP need not stay. -/
theorem Evolves.reset {r : Bool} {a b : Dev} (h : Evolves r a b) : Evolves true a b := ⟨h.1, h.2.1, .inl rfl, h.2.2.2⟩

theorem RegsOk.putNat {r : Tab Nat} (h : RegsOk r) (f v : Nat) : RegsOk (Tab.putNat r f (v % 2 ^ Fld.width f)) := by
  refine ⟨Tab.canon_putNat r f _ h.1, fun e he => ?_⟩
  unfold Tab.putNat at he
  split at he
  · exact h.2 e (Tab.mem_del r f e he)
  · rcases Tab.mem_put r f _ e he with h' | h'
    · subst h'
      exact Nat.mod_lt _ (Nat.two_pow_pos _)
    · exact h.2 e h'

theorem RegsOk.filter {r : Tab Nat} (h : RegsOk r) (p : Nat × Nat → Bool) : RegsOk (r.filter p) :=
  ⟨Tab.canon_filter r p h.1, fun e he => h.2 e (List.mem_filter.mp he).1⟩

theorem RegsOk.putAll {r : Tab Nat} (h : RegsOk r) (l : List (Nat × Nat)) : RegsOk (putAll l r) := by
  induction l generalizing r with
  | nil => exact h
  | cons e l ih => exact ih (h.putNat e.1 e.2)

theorem ite_ev {r : Bool} {a x y : Dev} {c : Prop} [Decidable c] (hx : c → Evolves r a x) (hy : ¬c → Evolves r a y) :
    Evolves r a (if c then x else y) := by
  split
  · exact hx ‹_›
  · exact hy ‹_›

theorem foldl_ev {r : Bool} {a : Dev} {α : Type} {l : List α} {f : Dev → α → Dev} {d : Dev} (h : Evolves r a d)
    (hf : ∀ d x, Evolves r a d → Evolves r a (f d x)) : Evolves r a (l.foldl f d) := by
  induction l generalizing d with
  | nil => exact h
  | cons x l ih => exact ih (hf d x h)

theorem foldl_ev1 {r : Bool} {a : Dev} {α β : Type} {l : List α} {f : Dev × β → α → Dev × β} {d : Dev × β}
    (h : Evolves r a d.1) (hf : ∀ d x, Evolves r a d.1 → Evolves r a (f d x).1) : Evolves r a (l.foldl f d).1 := by
  induction l generalizing d with
  | nil => exact h
  | cons x l ih => exact ih (hf d x h)

/-- A device put together from devices reached from `a`, group by group of the fields concerned. -/
theorem Follows.mix {r : Bool} {a : Dev} {r1 r2 r3 r4 r5 r6 : Tab Nat} {l1 l2 l3 l4 l5 l6 : List LogEnt}
    {o1 o2 o3 o4 o5 o6 : List Bytes} {p1 p2 p3 p4 p5 p6 : List Arp} {t1 t2 t3 t4 t5 t6 : List Transfer}
    {s1 s2 s3 s4 s5 s6 : DevState} {x1 x2 x3 x4 x5 x6 y1 y2 y3 y4 y5 y6 : Bool} {m1 m2 m3 m4 m5 m6 n1 n2 n3 n4 n5 n6 : Nat}
    {k1 k2 k3 k4 k5 k6 : Bytes} {f1 f2 f3 f4 f5 f6 b1 b2 b3 b4 b5 b6 z1 z2 z3 z4 z5 z6 : Nat} {e1 e2 e3 e4 e5 e6 : Bytes}
    {v1 v2 v3 v4 v5 v6 : Bool}
    (h1 : Follows r a r1 l1 o1 p1 t1 s1 x1 y1 m1 n1 k1 f1 b1 z1 e1 v1)
    (h2 : Follows r a r2 l2 o2 p2 t2 s2 x2 y2 m2 n2 k2 f2 b2 z2 e2 v2)
    (h3 : Follows r a r3 l3 o3 p3 t3 s3 x3 y3 m3 n3 k3 f3 b3 z3 e3 v3)
    (h4 : Follows r a r4 l4 o4 p4 t4 s4 x4 y4 m4 n4 k4 f4 b4 z4 e4 v4)
    (h5 : Follows r a r5 l5 o5 p5 t5 s5 x5 y5 m5 n5 k5 f5 b5 z5 e5 v5)
    (h6 : Follows r a r6 l6 o6 p6 t6 s6 x6 y6 m6 n6 k6 f6 b6 z6 e6 v6) :
    Follows r a r1 l2 o3 p4 t3 s5 x5 y5 m5 n6 k6 f6 b6 z6 e3 v3 :=
  ⟨fun w => ⟨(h1.1 w).1, (h2.1 w).2.1, (h3.1 w).2.2.1, (h4.1 w).2.2.2.1, (h3.1 w).2.2.2.2⟩, h5.2.1, h5.2.2.1,
    h6.2.2.2.1, h6.2.2.2.2.1, h6.2.2.2.2.2.1, h6.2.2.2.2.2.2.1, h6.2.2.2.2.2.2.2.1, h3.2.2.2.2.2.2.2.2⟩

/-- A device that may be there is reached from `a`. -/
@[irreducible] def SomeEv (r : Bool) (a : Dev) (o : Option Dev) : Prop := ∀ b, o = some b → Evolves r a b

theorem some_ev {r : Bool} {a b : Dev} (h : Evolves r a b) : SomeEv r a (some b) := by
  unfold SomeEv
  intro c hc
  cases hc
  exact h

theorem none_ev {r : Bool} {a : Dev} : SomeEv r a none := by
  unfold SomeEv
  exact fun _ h => nomatch h

theorem SomeEv.get {r : Bool} {a b : Dev} {o : Option Dev} (h : SomeEv r a o) (e : o = some b) : Evolves r a b := by
  unfold SomeEv at h
  exact h b e

theorem iteSome_ev {r : Bool} {a : Dev} {x y : Option Dev} {c : Prop} [Decidable c] (hx : c → SomeEv r a x)
    (hy : ¬c → SomeEv r a y) : SomeEv r a (if c then x else y) := by
  split
  · exact hx ‹_›
  · exact hy ‹_›

/-- A frame joins an outbox with room. -/
theorem push_ev {r : Bool} {a x : Dev} {f : Bytes} (h : Evolves r a x) (hl : x.flf.outbox.length < 8) :
    Follows r a x.regs x.evt.log (x.flf.outbox ++ [f]) x.net.arp x.flf.transfers x.st x.led.logic.enable x.led.proc.enable
      x.led.arming x.life.serial x.life.keyHash x.life.fitted x.life.rollback x.life.fuses x.flf.engKey x.flf.engKeySet :=
  ⟨fun w => ⟨(h.1 w).1, (h.1 w).2.1, by simp; omega, (h.1 w).2.2.2⟩, h.2⟩

/-- The rollback counter rises. -/
theorem rollback_ev {r : Bool} {a : Dev} {rg : Tab Nat} {l : List LogEnt} {o : List Bytes} {p : List Arp} {t : List Transfer}
    {s : DevState} {x y : Bool} {m n : Nat} {k : Bytes} {f b z v : Nat} {e : Bytes} {w : Bool}
    (h : Follows r a rg l o p t s x y m n k f b z e w) : Follows r a rg l o p t s x y m n k f (max b v) z e w :=
  ⟨h.1, h.2.1, h.2.2.1, h.2.2.2.1, h.2.2.2.2.1, h.2.2.2.2.2.1, Nat.le_trans h.2.2.2.2.2.2.1 (Nat.le_max_left _ _),
    h.2.2.2.2.2.2.2⟩

/-- The engineer key is programmed once. -/
theorem engKey_ev {r : Bool} {a : Dev} {rg : Tab Nat} {l : List LogEnt} {o : List Bytes} {p : List Arp} {t : List Transfer}
    {s : DevState} {x y : Bool} {m n : Nat} {k : Bytes} {f b z : Nat} {e e' : Bytes} {w : Bool}
    (h : Follows r a rg l o p t s x y m n k f b z e w) (hw : ¬w = true) : Follows r a rg l o p t s x y m n k f b z e' true :=
  ⟨h.1, h.2.1, h.2.2.1, h.2.2.2.1, h.2.2.2.2.1, h.2.2.2.2.2.1, h.2.2.2.2.2.2.1, h.2.2.2.2.2.2.2.1,
    fun q => absurd (h.2.2.2.2.2.2.2.2 q).1 hw⟩

@[simp] theorem LedgerCh.debit_enable (ch : LedgerCh) (cell : Nat) (bs : List Nat) (e : Nat) :
    (ch.debit cell bs e).enable = ch.enable := rfl

@[simp] theorem LedgerCh.refund_enable (ch : LedgerCh) (r : Debit) : (ch.refund r).enable = ch.enable := rfl

@[simp] theorem Dev.advance_led (d : Dev) (n : Nat) : (d.advance n).led = d.led := by
  unfold Dev.advance
  dsimp only
  repeat' split
  all_goals rfl

@[simp] theorem Dev.advanceTo_led (d : Dev) (t : Nat) : (d.advanceTo t).led = d.led := Dev.advance_led _ _

theorem logAdd_length (up now g s : Nat) (l : List LogEnt) (h : l.length ≤ 256) : (logAdd up now g s l).length ≤ 256 := by
  cases l with
  | nil => simp [logAdd]
  | cons e t =>
    simp only [logAdd]
    split
    · exact h
    · exact List.length_take_le _ _

theorem bitAt_eq_testBit (v i : Nat) : bitAt v i = v.testBit i := by
  rw [Nat.testBit_eq_decide_div_mod_eq]; rfl

theorem lor_keeps {f : Nat} (g : Nat) {i : Nat} (h : bitAt f i = true) : bitAt (Nat.lor f g) i = true := by
  rw [bitAt_eq_testBit] at *
  show Nat.testBit (f ||| g) i = true
  simp [h]

/-- A blown fuse stays blown (R476). -/
theorem blowFuses_keeps (f n c i : Nat) (h : bitAt f i = true) : bitAt (blowFuses f n c) i = true := by
  unfold blowFuses
  dsimp only
  split
  · exact lor_keeps _ (lor_keeps _ h)
  · exact lor_keeps _ h

/-- Listed from key `k` on, in rising order, with no 0 and each value within its width. -/
def okFrom : Nat → Tab Nat → Bool
  | _, [] => true
  | k, e :: t => decide (k ≤ e.1) && decide (e.2 ≠ 0) && decide (e.2 < 2 ^ Fld.width e.1) && okFrom (e.1 + 1) t

theorem okFrom_ok {k : Nat} {t : Tab Nat} (h : okFrom k t = true) : RegsOk t ∧ ∀ e ∈ t, k ≤ e.1 := by
  induction t generalizing k with
  | nil => exact ⟨⟨⟨List.Pairwise.nil, by simp⟩, by simp⟩, by simp⟩
  | cons e t ih =>
    simp only [okFrom, Bool.and_eq_true, decide_eq_true_eq] at h
    obtain ⟨⟨⟨h1, h2⟩, h3⟩, h4⟩ := h
    obtain ⟨⟨⟨w, z⟩, b⟩, l⟩ := ih h4
    refine ⟨⟨⟨List.pairwise_cons.mpr ⟨fun x hx => ?_, w⟩, ?_⟩, ?_⟩, ?_⟩
    · obtain ⟨q, hq, rfl⟩ := List.mem_map.mp hx
      exact l q hq
    · intro q hq
      rcases List.mem_cons.mp hq with rfl | hq
      · exact h2
      · exact z q hq
    · intro q hq
      rcases List.mem_cons.mp hq with rfl | hq
      · exact h3
      · exact b q hq
    · intro q hq
      rcases List.mem_cons.mp hq with rfl | hq
      · exact h1
      · exact Nat.le_trans h1 (Nat.le_trans (Nat.le_succ _) (l q hq))

/-- The register fields after reset keep the form. -/
theorem resetCells_ok : RegsOk resetCells := by
  have h : okFrom 0 resetCells = true := by decide +kernel
  exact (okFrom_ok h).1

theorem Dev.set_ev (r : Bool) (a d : Dev) (f : Fld) (v : Nat) (h : Evolves r a d) : Evolves r a (d.set f v) :=
  ⟨fun w => ⟨(h.1 w).1.putNat f v, (h.1 w).2⟩, h.2⟩

end Sys2Proof.Machine
end

