-- ==== Sys2Proof/Laws/EvolvesShared.lean ====
section
/-! SUPPORT. One lemma `<operation>_ev` for each operation of the shared operations over registers, events, pending writes, units and device states:
what it answers is reached from wherever its argument is (`Evolves`). The operations that may reset are stated with `true`. -/

namespace Sys2Proof.Machine

theorem Dev.when_ev {rst : Bool} {dev0 : Dev} (d : Dev) (c : Bool) (f : Dev → Dev) (h0 : Evolves rst dev0 d) (h2 : ∀ x0, Evolves rst dev0
    x0 → Evolves rst dev0 (f x0)) : Evolves rst dev0 (Dev.when d c f) := by
  unfold Dev.when
  repeat' first
    | (with_reducible first | assumption | apply h2 | apply ite_ev)
    | intro _

theorem Dev.setB_ev {rst : Bool} {dev0 : Dev} (d : Dev) (f : Fld) (b : Bool) (h0 : Evolves rst dev0 d) : Evolves rst dev0 (Dev.setB d f b) := by
  unfold Dev.setB
  repeat' first
    | (with_reducible first | assumption | apply Dev.set_ev)

theorem Dev.setS_ev {rst : Bool} {dev0 : Dev} (d : Dev) (f : Fld) (v : Int) (h0 : Evolves rst dev0 d) : Evolves rst dev0 (Dev.setS d f v) := by
  unfold Dev.setS
  repeat' first
    | (with_reducible first | assumption | apply Dev.set_ev)

theorem Dev.inc_ev {rst : Bool} {dev0 : Dev} (d : Dev) (f : Fld) (h0 : Evolves rst dev0 d) : Evolves rst dev0 (Dev.inc d f) := by
  unfold Dev.inc
  repeat' first
    | (with_reducible first | assumption | apply Dev.set_ev)

theorem Dev.add_ev {rst : Bool} {dev0 : Dev} (d : Dev) (f : Fld) (n : Nat) (h0 : Evolves rst dev0 d) : Evolves rst dev0 (Dev.add d f n) := by
  unfold Dev.add
  repeat' first
    | (with_reducible first | assumption | apply Dev.set_ev)

theorem Dev.setBitOf_ev {rst : Bool} {dev0 : Dev} (d : Dev) (f : Fld) (i : Nat) (b : Bool) (h0 : Evolves rst dev0 d) : Evolves rst dev0
    (Dev.setBitOf d f i b) := by
  unfold Dev.setBitOf
  repeat' first
    | (with_reducible first | assumption | apply Dev.set_ev)

theorem Dev.modChan_ev {rst : Bool} {dev0 : Dev} (d : Dev) (c : Nat) (f : Chan → Chan) (h0 : Evolves rst dev0 d) : Evolves rst dev0
    (Dev.modChan d c f) := by
  unfold Dev.modChan
  repeat' first
    | (with_reducible first | assumption)
    | (extract_lets +onlyGivenNames x; subst x)

theorem Dev.mapChans_ev {rst : Bool} {dev0 : Dev} (d : Dev) (f : Nat → Chan → Chan) (h0 : Evolves rst dev0 d) : Evolves rst dev0
    (Dev.mapChans d f) := by
  unfold Dev.mapChans
  repeat' first
    | (with_reducible first | assumption)
    | intro _ | (extract_lets +onlyGivenNames x; subst x) | (dsimp -zeta only)

theorem Dev.modCvy_ev {rst : Bool} {dev0 : Dev} (d : Dev) (i : Nat) (f : Convoy → Convoy) (h0 : Evolves rst dev0 d) : Evolves rst dev0
    (Dev.modCvy d i f) := by
  unfold Dev.modCvy
  repeat' first
    | (with_reducible first | assumption)
    | (extract_lets +onlyGivenNames x; subst x)

theorem Dev.each_ev {rst : Bool} {dev0 : Dev} (d : Dev) (l : List Nat) (f : Dev → Nat → Dev) (h0 : Evolves rst dev0 d) (h2 : ∀ x0 x1,
    Evolves rst dev0 x0 → Evolves rst dev0 (f x0 x1)) : Evolves rst dev0 (Dev.each d l f) := by
  unfold Dev.each
  repeat' first
    | (with_reducible first | assumption | apply h2 | apply foldl_ev)

theorem Dev.takeFree_ev {rst : Bool} {dev0 : Dev} (d : Dev) (w : Nat) (h0 : Evolves rst dev0 d) : Evolves rst dev0 (Dev.takeFree d w).2 := by
  unfold Dev.takeFree
  repeat' first
    | (with_reducible first | assumption)
    | (extract_lets +onlyGivenNames x; subst x)

theorem Dev.modBank_ev {rst : Bool} {dev0 : Dev} (d : Dev) (idx : Nat) (f : Bank → Bank) (h0 : Evolves rst dev0 d) : Evolves rst dev0
    (Dev.modBank d idx f) := by
  unfold Dev.modBank
  repeat' first
    | (with_reducible first | assumption)
    | (extract_lets +onlyGivenNames x; subst x)

theorem Dev.countTime_ev {rst : Bool} {dev0 : Dev} (d : Dev) (n : Nat) (h0 : Evolves rst dev0 d) : Evolves rst dev0 (Dev.countTime d n) := by
  unfold Dev.countTime
  repeat' first
    | (with_reducible first | assumption)
    | (extract_lets +onlyGivenNames x; refine (fun (hx : Evolves rst dev0 x) => ?_) ?_; clear_value x; rotate_left
       subst x; rotate_right)
    | (extract_lets +onlyGivenNames x; subst x)

theorem Dev.advance_ev {rst : Bool} {dev0 : Dev} (d : Dev) (n : Nat) (h0 : Evolves rst dev0 d) : Evolves rst dev0 (Dev.advance d n) := by
  unfold Dev.advance
  repeat' first
    | (with_reducible first | assumption | apply Dev.countTime_ev | apply ite_ev)
    | intro _
    | (extract_lets +onlyGivenNames x; refine (fun (hx : Evolves rst dev0 x) => ?_) ?_; clear_value x; rotate_left
       subst x; rotate_right)
    | (extract_lets +onlyGivenNames x; subst x)

theorem Dev.advanceTo_ev {rst : Bool} {dev0 : Dev} (d : Dev) (t : Nat) (h0 : Evolves rst dev0 d) : Evolves rst dev0 (Dev.advanceTo d t) := by
  unfold Dev.advanceTo
  repeat' first
    | (with_reducible first | assumption | apply Dev.advance_ev)

theorem Dev.cycleTo_ev {rst : Bool} {dev0 : Dev} (d : Dev) (c : Nat) (h0 : Evolves rst dev0 d) : Evolves rst dev0 (Dev.cycleTo d c) := by
  unfold Dev.cycleTo
  repeat' first
    | (with_reducible first | assumption | apply Dev.advance_ev)

theorem Dev.print_ev {rst : Bool} {dev0 : Dev} (d : Dev) (line : String) (h0 : Evolves rst dev0 d) : Evolves rst dev0 (Dev.print d line) := by
  unfold Dev.print
  repeat' first
    | (with_reducible first | assumption | apply ite_ev)
    | intro _
    | (extract_lets +onlyGivenNames x; refine (fun (hx : Evolves rst dev0 x) => ?_) ?_; clear_value x; rotate_left
       subst x; rotate_right)
    | (extract_lets +onlyGivenNames x; subst x)

theorem Dev.record_ev {rst : Bool} {dev0 : Dev} (d : Dev) (g : Nat) (s : Nat) (h0 : Evolves rst dev0 d) : Evolves rst dev0 (Dev.record d g
    s) := by
  unfold Dev.record
  have h1 := Dev.setBitOf_ev d (F.EVT_STATUS g) s true h0
  exact ⟨fun w => ⟨(h1.1 w).1, logAdd_length _ _ _ _ _ (h0.1 w).2.1, (h1.1 w).2.2⟩, h1.2⟩

theorem Dev.raise_ev {rst : Bool} {dev0 : Dev} (d : Dev) (g : Nat) (s : Nat) (h0 : Evolves rst dev0 d) : Evolves rst dev0 (Dev.raise d g
    s) := by
  unfold Dev.raise
  repeat' first
    | (with_reducible first | assumption | apply Dev.record_ev | apply Dev.print_ev | apply ite_ev)
    | intro _ | (extract_lets +onlyGivenNames x; subst x)

theorem Dev.raiseIf_ev {rst : Bool} {dev0 : Dev} (d : Dev) (c : Bool) (g : Nat) (s : Nat) (h0 : Evolves rst dev0 d) : Evolves rst dev0
    (Dev.raiseIf d c g s) := by
  unfold Dev.raiseIf
  repeat' first
    | (with_reducible first | assumption | apply Dev.raise_ev | apply ite_ev)
    | intro _

theorem Dev.answer_ev {rst : Bool} {dev0 : Dev} (d : Dev) (code : Nat) (h0 : Evolves rst dev0 d) : Evolves rst dev0 (Dev.answer d code) := by
  unfold Dev.answer
  repeat' first
    | (with_reducible first | assumption)
    | (extract_lets +onlyGivenNames x; subst x)

theorem Dev.writeNow_ev {rst : Bool} {dev0 : Dev} (d : Dev) (f : Fld) (v : Nat) (h0 : Evolves rst dev0 d) : Evolves rst dev0 (Dev.writeNow
    d f v) := by
  unfold Dev.writeNow
  repeat' first
    | (with_reducible first | assumption | apply Dev.set_ev)
    | (extract_lets +onlyGivenNames x; subst x)

theorem Dev.writeLater_ev {rst : Bool} {dev0 : Dev} (d : Dev) (f : Fld) (v : Nat) (p : Commit) (h0 : Evolves rst dev0 d) : Evolves rst
    dev0 (Dev.writeLater d f v p) := by
  unfold Dev.writeLater
  repeat' first
    | (with_reducible first | assumption | apply ite_ev)
    | intro _
    | (extract_lets +onlyGivenNames x; refine (fun (hx : Evolves rst dev0 x) => ?_) ?_; clear_value x; rotate_left
       subst x; rotate_right)
    | (extract_lets +onlyGivenNames x; subst x) | (dsimp -zeta only)

theorem Dev.write_ev {rst : Bool} {dev0 : Dev} (d : Dev) (f : Fld) (v : Nat) (p : Commit) (h0 : Evolves rst dev0 d) : Evolves rst dev0
    (Dev.write d f v p) := by
  unfold Dev.write
  repeat' first
    | (with_reducible first | assumption | apply Dev.writeNow_ev | apply Dev.writeLater_ev | apply ite_ev)
    | intro _
    | (extract_lets +onlyGivenNames x; refine (fun (hx : Evolves rst dev0 x) => ?_) ?_; clear_value x; rotate_left
       subst x; rotate_right)
    | (extract_lets +onlyGivenNames x; subst x)

theorem fireDues_ev {rst : Bool} {dev0 : Dev} (fires : Due → Bool) (a1 : List Due) (a2 : List Due) (a3 : Dev) (h3 : Evolves rst dev0 a3) :
    Evolves rst dev0 (fireDues fires a1 a2 a3) := by
  induction a1 generalizing a2 a3 with
  | nil => exact h3
  | cons x t ih =>
    unfold fireDues
    split
    · exact ih _ _ (Dev.set_ev _ _ _ _ _ h3)
    · exact ih _ _ h3

theorem Dev.commitPoint_ev {rst : Bool} {dev0 : Dev} (d : Dev) (p : Commit) (all : Bool) (h0 : Evolves rst dev0 d) : Evolves rst dev0
    (Dev.commitPoint d p all) := by
  unfold Dev.commitPoint
  repeat' first
    | (with_reducible first | assumption | apply fireDues_ev)
    | intro _ | (extract_lets +onlyGivenNames x; subst x) | (dsimp -zeta only)

theorem Dev.fixDues_ev {rst : Bool} {dev0 : Dev} (d : Dev) (frame : Bool) (h0 : Evolves rst dev0 d) : Evolves rst dev0 (Dev.fixDues d
    frame) := by
  unfold Dev.fixDues
  repeat' first
    | (with_reducible first | assumption | apply ite_ev)
    | intro _ | (extract_lets +onlyGivenNames x; subst x) | (dsimp -zeta only)

theorem Dev.freeDues_ev {rst : Bool} {dev0 : Dev} (d : Dev) (h0 : Evolves rst dev0 d) : Evolves rst dev0 (Dev.freeDues d) := by
  unfold Dev.freeDues
  repeat' first
    | (with_reducible first | assumption)
    | intro _
    | (extract_lets +onlyGivenNames x; refine (fun (hx : Evolves rst dev0 x) => ?_) ?_; clear_value x; rotate_left
       subst x; rotate_right)
    | (extract_lets +onlyGivenNames x; subst x) | split | (dsimp -zeta only)

theorem Dev.projected_ev {rst : Bool} {dev0 : Dev} (d : Dev) (h0 : Evolves rst dev0 d) : Evolves rst dev0 (Dev.projected d) := by
  unfold Dev.projected
  repeat' first
    | (with_reducible first | assumption | apply fireDues_ev | apply ite_ev)
    | intro _
    | (extract_lets +onlyGivenNames x; refine (fun (hx : Evolves rst dev0 x) => ?_) ?_; clear_value x; rotate_left
       subst x; rotate_right)
    | (extract_lets +onlyGivenNames x; subst x) | (dsimp -zeta only)

theorem Dev.modBuf_ev {rst : Bool} {dev0 : Dev} (d : Dev) (ch : Nat) (f : Buf → Buf) (h0 : Evolves rst dev0 d) : Evolves rst dev0
    (Dev.modBuf d ch f) := by
  unfold Dev.modBuf
  repeat' first
    | (with_reducible first | assumption)
    | (extract_lets +onlyGivenNames x; subst x)

theorem Dev.tisSample_ev {rst : Bool} {dev0 : Dev} (d : Dev) (c : Nat) (x : Int) (h0 : Evolves rst dev0 d) : Evolves rst dev0
    (Dev.tisSample d c x) := by
  unfold Dev.tisSample
  repeat' first
    | (with_reducible first | assumption | apply Dev.inc_ev | apply Dev.set_ev | apply Dev.modCvy_ev | apply ite_ev)
    | intro _
    | (extract_lets +onlyGivenNames x; refine (fun (hx : Evolves rst dev0 x) => ?_) ?_; clear_value x; rotate_left
       subst x; rotate_right)
    | (extract_lets +onlyGivenNames x; subst x) | (dsimp -zeta only)

theorem Dev.tisStop_ev {rst : Bool} {dev0 : Dev} (d : Dev) (ch : Nat) (k : Nat) (delta : Int) (tot : Int) (h0 : Evolves rst dev0 d) :
    Evolves rst dev0 (Dev.tisStop d ch k delta tot) := by
  unfold Dev.tisStop
  repeat' first
    | (with_reducible first | assumption | apply Dev.tisSample_ev | apply ite_ev)
    | intro _
    | (extract_lets +onlyGivenNames x; refine (fun (hx : Evolves rst dev0 x) => ?_) ?_; clear_value x; rotate_left
       subst x; rotate_right)
    | (extract_lets +onlyGivenNames x; subst x)

theorem Dev.tisEnd_ev {rst : Bool} {dev0 : Dev} (d : Dev) (c : Nat) (how : Fld) (h0 : Evolves rst dev0 d) : Evolves rst dev0 (Dev.tisEnd d
    c how) := by
  unfold Dev.tisEnd
  repeat' first
    | (with_reducible first | assumption | apply Dev.setB_ev | apply Dev.setS_ev | apply Dev.set_ev | apply Dev.raise_ev)
    | (with_reducible first | apply ite_ev)
    | intro _
    | (extract_lets +onlyGivenNames x; refine (fun (hx : Evolves rst dev0 x) => ?_) ?_; clear_value x; rotate_left
       subst x; rotate_right)
    | (extract_lets +onlyGivenNames x; subst x)

theorem Dev.tisAbort_ev {rst : Bool} {dev0 : Dev} (d : Dev) (c : Nat) (h0 : Evolves rst dev0 d) : Evolves rst dev0 (Dev.tisAbort d c) := by
  unfold Dev.tisAbort
  repeat' first
    | (with_reducible first | assumption | apply Dev.tisEnd_ev | apply ite_ev)
    | intro _

theorem Dev.countStop_ev {rst : Bool} {dev0 : Dev} (d : Dev) (ch : Nat) (ev : Ev) (ts : Int) (h0 : Evolves rst dev0 d) : Evolves rst dev0
    (Dev.countStop d ch ev ts) := by
  unfold Dev.countStop
  repeat' first
    | (with_reducible first | assumption | apply Dev.modChan_ev | apply Dev.tisStop_ev | apply Dev.inc_ev)
    | (with_reducible first | apply Dev.modBuf_ev | apply ite_ev)
    | intro _
    | (extract_lets +onlyGivenNames x; refine (fun (hx : Evolves rst dev0 x) => ?_) ?_; clear_value x; rotate_left
       subst x; rotate_right)
    | (extract_lets +onlyGivenNames x; subst x) | (dsimp -zeta only)

theorem Dev.deliver_ev {rst : Bool} {dev0 : Dev} (d : Dev) (sh : Shot) (ch : Nat) (ev : Ev) (h0 : Evolves rst dev0 d) : Evolves rst dev0
    (Dev.deliver d sh ch ev) := by
  unfold Dev.deliver
  repeat' first
    | (with_reducible first | assumption | apply Dev.countStop_ev | apply Dev.modChan_ev | apply ite_ev)
    | intro _ | (extract_lets +onlyGivenNames x; subst x) | split | (dsimp -zeta only)

theorem Dev.risingEdge_ev {rst : Bool} {dev0 : Dev} (d : Dev) (sh : Shot) (ch : Nat) (n : Nat) (q : Nat) (h0 : Evolves rst dev0 d) :
    Evolves rst dev0 (Dev.risingEdge d sh ch n q) := by
  unfold Dev.risingEdge
  repeat' first
    | (with_reducible first | assumption | apply Dev.modChan_ev | apply ite_ev)
    | intro _
    | (extract_lets +onlyGivenNames x; refine (fun (hx : Evolves rst dev0 x) => ?_) ?_; clear_value x; rotate_left
       subst x; rotate_right)
    | (extract_lets +onlyGivenNames x; subst x) | split | (dsimp -zeta only)

theorem Dev.outriderSeen_ev {rst : Bool} {dev0 : Dev} (d : Dev) (ch : Nat) (ev : Ev) (h0 : Evolves rst dev0 d) : Evolves rst dev0
    (Dev.outriderSeen d ch ev) := by
  unfold Dev.outriderSeen
  repeat' first
    | (with_reducible first | assumption | apply Dev.modChan_ev | apply Dev.tisSample_ev | apply ite_ev)
    | intro _
    | (extract_lets +onlyGivenNames x; refine (fun (hx : Evolves rst dev0 x) => ?_) ?_; clear_value x; rotate_left
       subst x; rotate_right)
    | (extract_lets +onlyGivenNames x; subst x) | (dsimp -zeta only)

theorem Dev.closeEvent_ev {rst : Bool} {dev0 : Dev} (d : Dev) (sh : Shot) (ch : Nat) (ev : Ev) (h0 : Evolves rst dev0 d) : Evolves rst
    dev0 (Dev.closeEvent d sh ch ev) := by
  unfold Dev.closeEvent
  repeat' first
    | (with_reducible first | assumption | apply Dev.modChan_ev | apply Dev.outriderSeen_ev | apply Dev.deliver_ev)
    | (with_reducible first | apply ite_ev)
    | intro _
    | (extract_lets +onlyGivenNames x; refine (fun (hx : Evolves rst dev0 x) => ?_) ?_; clear_value x; rotate_left
       subst x; rotate_right)
    | (extract_lets +onlyGivenNames x; subst x) | (dsimp -zeta only)

theorem Dev.fallingEdge_ev {rst : Bool} {dev0 : Dev} (d : Dev) (sh : Shot) (ch : Nat) (n : Nat) (q : Nat) (h0 : Evolves rst dev0 d) :
    Evolves rst dev0 (Dev.fallingEdge d sh ch n q) := by
  unfold Dev.fallingEdge
  repeat' first
    | (with_reducible first | assumption | apply Dev.closeEvent_ev)
    | (extract_lets +onlyGivenNames x; subst x) | split

theorem Dev.flushHeld_ev {rst : Bool} {dev0 : Dev} (d : Dev) (ch : Nat) (ts : Int) (h0 : Evolves rst dev0 d) : Evolves rst dev0
    (Dev.flushHeld d ch ts) := by
  unfold Dev.flushHeld
  repeat' first
    | (with_reducible first | assumption | apply Dev.countStop_ev | apply Dev.modChan_ev | apply foldl_ev)
    | intro _
    | (extract_lets +onlyGivenNames x; refine (fun (hx : Evolves rst dev0 x) => ?_) ?_; clear_value x; rotate_left
       subst x; rotate_right)
    | (extract_lets +onlyGivenNames x; subst x) | (dsimp -zeta only)

theorem Dev.takeCarried_ev {rst : Bool} {dev0 : Dev} (d : Dev) (sh : Shot) (ch : Nat) (h0 : Evolves rst dev0 d) : Evolves rst dev0
    (Dev.takeCarried d sh ch) := by
  unfold Dev.takeCarried
  repeat' first
    | (with_reducible first | assumption | apply Dev.deliver_ev | apply Dev.modChan_ev | apply foldl_ev)
    | intro _
    | (extract_lets +onlyGivenNames x; refine (fun (hx : Evolves rst dev0 x) => ?_) ?_; clear_value x; rotate_left
       subst x; rotate_right)
    | (extract_lets +onlyGivenNames x; subst x) | (dsimp -zeta only)

theorem Dev.endShotChan_ev {rst : Bool} {dev0 : Dev} (d : Dev) (sh : Shot) (ch : Nat) (h0 : Evolves rst dev0 d) : Evolves rst dev0
    (Dev.endShotChan d sh ch) := by
  unfold Dev.endShotChan
  repeat' first
    | (with_reducible first | assumption | apply Dev.closeEvent_ev | apply Dev.modBuf_ev | apply Dev.modChan_ev | apply ite_ev)
    | intro _
    | (extract_lets +onlyGivenNames x; refine (fun (hx : Evolves rst dev0 x) => ?_) ?_; clear_value x; rotate_left
       subst x; rotate_right)
    | (extract_lets +onlyGivenNames x; subst x) | split | (dsimp -zeta only)

theorem Dev.modToll_ev {rst : Bool} {dev0 : Dev} (d : Dev) (c : TollChan) (f : TollCh → TollCh) (h0 : Evolves rst dev0 d) : Evolves rst
    dev0 (Dev.modToll d c f) := by
  unfold Dev.modToll
  repeat' first
    | (with_reducible first | assumption)
    | (extract_lets +onlyGivenNames x; subst x) | split

theorem Dev.stageIn_ev {rst : Bool} {dev0 : Dev} (d : Dev) (e : RingEnt) (h0 : Evolves rst dev0 d) : Evolves rst dev0 (Dev.stageIn d e).1
    := by
  unfold Dev.stageIn
  repeat' first
    | (with_reducible first | assumption | apply Dev.takeFree_ev | apply ite_ev)
    | intro _
    | (extract_lets +onlyGivenNames x; refine (fun (hx : Evolves rst dev0 x) => ?_) ?_; clear_value x; rotate_left
       subst x; rotate_right)
    | (extract_lets +onlyGivenNames x; refine (fun (hx : Evolves rst dev0 x.1) => ?_) ?_; clear_value x; rotate_left
       subst x; rotate_right)
    | (extract_lets +onlyGivenNames x; refine (fun (hx : Evolves rst dev0 x.2) => ?_) ?_; clear_value x; rotate_left
       subst x; rotate_right)
    | (extract_lets +onlyGivenNames x; subst x) | split | (dsimp -zeta only)
    | (with_reducible apply Follows.mix <;> with_reducible assumption)

theorem Dev.stage_ev {rst : Bool} {dev0 : Dev} (d : Dev) (e : RingEnt) (h0 : Evolves rst dev0 d) : Evolves rst dev0 (Dev.stage d e).1 :=
    by
  unfold Dev.stage
  repeat' first
    | (with_reducible first | assumption | apply none_ev | apply some_ev | apply Dev.stageIn_ev)
    | (with_reducible first | apply ite_ev)
    | intro _
    | (extract_lets +onlyGivenNames x; refine (fun (hx : Evolves rst dev0 x) => ?_) ?_; clear_value x; rotate_left
       subst x; rotate_right)
    | (extract_lets +onlyGivenNames x; subst x) | split | (dsimp -zeta only)
    | (with_reducible apply Follows.mix <;> with_reducible assumption)

theorem Dev.incidentGap_ev {rst : Bool} {dev0 : Dev} (d : Dev) (e : RingEnt) (h0 : Evolves rst dev0 d) : Evolves rst dev0 (Dev.incidentGap
    d e) := by
  unfold Dev.incidentGap
  repeat' first
    | (with_reducible first | assumption | apply Dev.raise_ev)
    | (extract_lets +onlyGivenNames x; refine (fun (hx : Evolves rst dev0 x) => ?_) ?_; clear_value x; rotate_left
       subst x; rotate_right)
    | (extract_lets +onlyGivenNames x; subst x)

theorem Dev.incidentEntry_ev {rst : Bool} {dev0 : Dev} (d : Dev) (e : RingEnt) (h0 : Evolves rst dev0 d) : Evolves rst dev0
    (Dev.incidentEntry d e) := by
  unfold Dev.incidentEntry
  repeat' first
    | (with_reducible first | assumption | apply Dev.stage_ev | apply Dev.incidentGap_ev | apply ite_ev)
    | intro _
    | (extract_lets +onlyGivenNames x; refine (fun (hx : Evolves rst dev0 x) => ?_) ?_; clear_value x; rotate_left
       subst x; rotate_right)
    | (extract_lets +onlyGivenNames x; refine (fun (hx : Evolves rst dev0 x.1) => ?_) ?_; clear_value x; rotate_left
       subst x; rotate_right)
    | (extract_lets +onlyGivenNames x; refine (fun (hx : Evolves rst dev0 x.2) => ?_) ?_; clear_value x; rotate_left
       subst x; rotate_right)
    | (extract_lets +onlyGivenNames x; subst x)

theorem Dev.ringPush_ev {rst : Bool} {dev0 : Dev} (d : Dev) (e : RingEnt) (h0 : Evolves rst dev0 d) : Evolves rst dev0 (Dev.ringPush d e) := by
  unfold Dev.ringPush
  repeat' first
    | (with_reducible first | assumption | apply Dev.incidentEntry_ev | apply Dev.inc_ev)
    | (extract_lets +onlyGivenNames x; subst x) | split

theorem Dev.incidentLost_ev {rst : Bool} {dev0 : Dev} (d : Dev) (h0 : Evolves rst dev0 d) : Evolves rst dev0 (Dev.incidentLost d) := by
  unfold Dev.incidentLost
  repeat' first
    | (with_reducible first | assumption | apply Dev.raise_ev | apply Dev.inc_ev)

theorem Dev.incidentStart_ev {rst : Bool} {dev0 : Dev} (d : Dev) (t : Nat) (cause : Nat) (h0 : Evolves rst dev0 d) : Evolves rst dev0
    (Dev.incidentStart d t cause) := by
  unfold Dev.incidentStart
  repeat' first
    | (with_reducible first | assumption | apply Dev.incidentLost_ev | apply Dev.set_ev)
    | intro _
    | (extract_lets +onlyGivenNames x; refine (fun (hx : Evolves rst dev0 x) => ?_) ?_; clear_value x; rotate_left
       subst x; rotate_right)
    | (extract_lets +onlyGivenNames x; subst x) | split | (dsimp -zeta only)

theorem Dev.incidentJoin_ev {rst : Bool} {dev0 : Dev} (d : Dev) (c : Incident) (t : Nat) (cause : Nat) (h0 : Evolves rst dev0 d) : Evolves
    rst dev0 (Dev.incidentJoin d c t cause) := by
  unfold Dev.incidentJoin
  repeat' first
    | (with_reducible first | assumption | apply some_ev | apply ite_ev)
    | intro _
    | (extract_lets +onlyGivenNames x; refine (fun (hx : Evolves rst dev0 x) => ?_) ?_; clear_value x; rotate_left
       subst x; rotate_right)
    | (extract_lets +onlyGivenNames x; subst x) | split | (dsimp -zeta only)

theorem Dev.triggerAt_ev {rst : Bool} {dev0 : Dev} (d : Dev) (t : Nat) (cause : Nat) (h0 : Evolves rst dev0 d) : Evolves rst dev0
    (Dev.triggerAt d t cause) := by
  unfold Dev.triggerAt
  repeat' first
    | (with_reducible first | assumption | apply Dev.inc_ev | apply Dev.incidentJoin_ev | apply Dev.incidentStart_ev)
    | (with_reducible first | apply none_ev | apply some_ev | apply ite_ev)
    | intro _
    | (extract_lets +onlyGivenNames x; refine (fun (hx : Evolves rst dev0 x) => ?_) ?_; clear_value x; rotate_left
       subst x; rotate_right)
    | (extract_lets +onlyGivenNames x; subst x) | split | (dsimp -zeta only)

theorem Dev.incidentTrigger_ev {rst : Bool} {dev0 : Dev} (d : Dev) (cause : Nat) (h0 : Evolves rst dev0 d) : Evolves rst dev0
    (Dev.incidentTrigger d cause) := by
  unfold Dev.incidentTrigger
  repeat' first
    | (with_reducible first | assumption | apply Dev.triggerAt_ev)
    | intro _
    | (extract_lets +onlyGivenNames x; refine (fun (hx : Evolves rst dev0 x) => ?_) ?_; clear_value x; rotate_left
       subst x; rotate_right)
    | (extract_lets +onlyGivenNames x; subst x) | split | (dsimp -zeta only)

theorem Dev.incidentDrop_ev {rst : Bool} {dev0 : Dev} (d : Dev) (h0 : Evolves rst dev0 d) : Evolves rst dev0 (Dev.incidentDrop d) := by
  unfold Dev.incidentDrop
  repeat' first
    | (with_reducible first | assumption | apply Dev.add_ev | apply none_ev)
    | intro _
    | (extract_lets +onlyGivenNames x; refine (fun (hx : Evolves rst dev0 x) => ?_) ?_; clear_value x; rotate_left
       subst x; rotate_right)
    | (extract_lets +onlyGivenNames x; subst x) | split | (dsimp -zeta only)

theorem Dev.blockCheck_ev {rst : Bool} {dev0 : Dev} (d : Dev) (h0 : Evolves rst dev0 d) : Evolves rst dev0 (Dev.blockCheck d) := by
  unfold Dev.blockCheck
  repeat' first
    | (with_reducible first | assumption | apply Dev.raise_ev | apply ite_ev)
    | intro _
    | (extract_lets +onlyGivenNames x; refine (fun (hx : Evolves rst dev0 x) => ?_) ?_; clear_value x; rotate_left
       subst x; rotate_right)
    | (extract_lets +onlyGivenNames x; subst x) | split | (dsimp -zeta only)

theorem Dev.incidentClose_ev {rst : Bool} {dev0 : Dev} (d : Dev) (ended : Nat) (h0 : Evolves rst dev0 d) : Evolves rst dev0
    (Dev.incidentClose d ended) := by
  unfold Dev.incidentClose
  repeat' first
    | (with_reducible first | assumption | apply Dev.blockCheck_ev | apply Dev.inc_ev | apply none_ev)
    | (with_reducible first | apply Dev.raise_ev | apply Dev.set_ev | apply some_ev)
    | intro _
    | (extract_lets +onlyGivenNames x; refine (fun (hx : Evolves rst dev0 x) => ?_) ?_; clear_value x; rotate_left
       subst x; rotate_right)
    | (extract_lets +onlyGivenNames x; subst x) | split | (dsimp -zeta only)

theorem Dev.driveGone_ev {rst : Bool} {dev0 : Dev} (d : Dev) (h0 : Evolves rst dev0 d) : Evolves rst dev0 (Dev.driveGone d) := by
  unfold Dev.driveGone
  repeat' first
    | (with_reducible first | assumption | apply Dev.raiseIf_ev | apply Dev.set_ev | apply Dev.incidentDrop_ev)
    | (extract_lets +onlyGivenNames x; refine (fun (hx : Evolves rst dev0 x) => ?_) ?_; clear_value x; rotate_left
       subst x; rotate_right)
    | (extract_lets +onlyGivenNames x; subst x)

theorem Dev.incidentNext_ev {rst : Bool} {dev0 : Dev} (d : Dev) (h0 : Evolves rst dev0 d) : Evolves rst dev0 (Dev.incidentNext d) := by
  unfold Dev.incidentNext
  repeat' first
    | (with_reducible first | assumption | apply foldl_ev | apply Dev.triggerAt_ev | apply foldl_ev1)
    | intro _
    | (extract_lets +onlyGivenNames x; refine (fun (hx : Evolves rst dev0 x) => ?_) ?_; clear_value x; rotate_left
       subst x; rotate_right)
    | (extract_lets +onlyGivenNames x; refine (fun (hx : Evolves rst dev0 x.1) => ?_) ?_; clear_value x; rotate_left
       subst x; rotate_right)
    | (extract_lets +onlyGivenNames x; refine (fun (hx : Evolves rst dev0 x.2) => ?_) ?_; clear_value x; rotate_left
       subst x; rotate_right)
    | (extract_lets +onlyGivenNames x; subst x) | split | (dsimp -zeta only)

theorem Dev.modConv_ev {rst : Bool} {dev0 : Dev} (d : Dev) (n : Nat) (f : Conv → Conv) (h0 : Evolves rst dev0 d) : Evolves rst dev0
    (Dev.modConv d n f) := by
  unfold Dev.modConv
  repeat' first
    | (with_reducible first | assumption)
    | (extract_lets +onlyGivenNames x; subst x)

theorem Dev.modUnit_ev {rst : Bool} {dev0 : Dev} (d : Dev) (u : Nat) (f : CapUnit → CapUnit) (h0 : Evolves rst dev0 d) : Evolves rst dev0
    (Dev.modUnit d u f) := by
  unfold Dev.modUnit
  repeat' first
    | (with_reducible first | assumption)
    | (extract_lets +onlyGivenNames x; subst x)

theorem Dev.acqShow_ev {rst : Bool} {dev0 : Dev} (d : Dev) (u : Nat) (h0 : Evolves rst dev0 d) : Evolves rst dev0 (Dev.acqShow d u) := by
  unfold Dev.acqShow
  repeat' first
    | (with_reducible first | assumption | apply Dev.setB_ev)
    | (extract_lets +onlyGivenNames x; refine (fun (hx : Evolves rst dev0 x) => ?_) ?_; clear_value x; rotate_left
       subst x; rotate_right)
    | (extract_lets +onlyGivenNames x; subst x)

theorem Dev.acqSpill_ev {rst : Bool} {dev0 : Dev} (d : Dev) (u : Nat) (ws : List Nat) (n : Nat) (h0 : Evolves rst dev0 d) : Evolves rst
    dev0 (Dev.acqSpill d u ws n) := by
  unfold Dev.acqSpill
  have hs : ∀ e, Evolves rst dev0 (d.stage e).1 := fun e => Dev.stage_ev d e h0
  dsimp only
  apply ite_ev
  · intro _
    exact Dev.add_ev _ _ _ (Dev.modUnit_ev _ _ _ (hs _))
  · intro _
    exact Dev.raiseIf_ev _ _ _ _ (Dev.modUnit_ev _ _ _ (hs _))

theorem Dev.acqStore_ev {rst : Bool} {dev0 : Dev} (d : Dev) (u : Nat) (c : Nat × List Nat) (h0 : Evolves rst dev0 d) : Evolves rst dev0
    (Dev.acqStore d u c) := by
  unfold Dev.acqStore
  repeat' first
    | (with_reducible first | assumption | apply Dev.acqSpill_ev | apply Dev.modUnit_ev | apply ite_ev)
    | intro _
    | (extract_lets +onlyGivenNames x; refine (fun (hx : Evolves rst dev0 x) => ?_) ?_; clear_value x; rotate_left
       subst x; rotate_right)
    | (extract_lets +onlyGivenNames x; refine (fun (hx : Evolves rst dev0 x.1) => ?_) ?_; clear_value x; rotate_left
       subst x; rotate_right)
    | (extract_lets +onlyGivenNames x; refine (fun (hx : Evolves rst dev0 x.2) => ?_) ?_; clear_value x; rotate_left
       subst x; rotate_right)
    | (extract_lets +onlyGivenNames x; subst x) | split | (dsimp -zeta only)

theorem Dev.acqFlush_ev {rst : Bool} {dev0 : Dev} (d : Dev) (u : Nat) (h0 : Evolves rst dev0 d) : Evolves rst dev0 (Dev.acqFlush d u) :=
    by
  unfold Dev.acqFlush
  repeat' first
    | (with_reducible first | assumption | apply Dev.acqStore_ev | apply Dev.inc_ev | apply Dev.modUnit_ev)
    | (with_reducible first | apply ite_ev)
    | intro _
    | (extract_lets +onlyGivenNames x; refine (fun (hx : Evolves rst dev0 x) => ?_) ?_; clear_value x; rotate_left
       subst x; rotate_right)
    | (extract_lets +onlyGivenNames x; subst x) | split | (dsimp -zeta only)

theorem Dev.acqGap_ev {rst : Bool} {dev0 : Dev} (d : Dev) (u : Nat) (h0 : Evolves rst dev0 d) : Evolves rst dev0 (Dev.acqGap d u) := by
  unfold Dev.acqGap
  repeat' first
    | (with_reducible first | assumption | apply Dev.acqStore_ev | apply Dev.inc_ev | apply Dev.modUnit_ev)
    | (with_reducible first | apply Dev.raise_ev | apply ite_ev)
    | intro _
    | (extract_lets +onlyGivenNames x; refine (fun (hx : Evolves rst dev0 x) => ?_) ?_; clear_value x; rotate_left
       subst x; rotate_right)
    | (extract_lets +onlyGivenNames x; subst x) | split | (dsimp -zeta only)

theorem Dev.acqEntry_ev {rst : Bool} {dev0 : Dev} (d : Dev) (u : Nat) (ws : List Nat) (h0 : Evolves rst dev0 d) : Evolves rst dev0
    (Dev.acqEntry d u ws) := by
  unfold Dev.acqEntry
  repeat' first
    | (with_reducible first | assumption | apply Dev.acqFlush_ev | apply Dev.acqStore_ev | apply Dev.modUnit_ev)
    | (with_reducible first | apply ite_ev)
    | intro _
    | (extract_lets +onlyGivenNames x; refine (fun (hx : Evolves rst dev0 x) => ?_) ?_; clear_value x; rotate_left
       subst x; rotate_right)
    | (extract_lets +onlyGivenNames x; refine (fun (hx : Evolves rst dev0 x.1) => ?_) ?_; clear_value x; rotate_left
       subst x; rotate_right)
    | (extract_lets +onlyGivenNames x; refine (fun (hx : Evolves rst dev0 x.2) => ?_) ?_; clear_value x; rotate_left
       subst x; rotate_right)
    | (extract_lets +onlyGivenNames x; subst x) | split | (dsimp -zeta only)

theorem Dev.acqTriggers_ev {rst : Bool} {dev0 : Dev} (d : Dev) (u : Nat) (bitsMet : Nat) (t : Nat) (h0 : Evolves rst dev0 d) : Evolves rst
    dev0 (Dev.acqTriggers d u bitsMet t) := by
  unfold Dev.acqTriggers
  repeat' first
    | (with_reducible first | assumption | apply Dev.acqFlush_ev | apply Dev.acqShow_ev | apply Dev.add_ev)
    | (with_reducible first | apply Dev.incidentTrigger_ev | apply Dev.modUnit_ev | apply Dev.raise_ev | apply Dev.setB_ev)
    | (with_reducible first | apply ite_ev)
    | intro _
    | (extract_lets +onlyGivenNames x; refine (fun (hx : Evolves rst dev0 x) => ?_) ?_; clear_value x; rotate_left
       subst x; rotate_right)
    | (extract_lets +onlyGivenNames x; subst x) | split | (dsimp -zeta only)

theorem Dev.acqPend_ev {rst : Bool} {dev0 : Dev} (d : Dev) (u : Nat) (c : Nat) (bitsMet : Nat) (h0 : Evolves rst dev0 d) : Evolves rst
    dev0 (Dev.acqPend d u c bitsMet) := by
  unfold Dev.acqPend
  repeat' first
    | (with_reducible first | assumption | apply Dev.modUnit_ev | apply ite_ev)
    | intro _
    | (extract_lets +onlyGivenNames x; refine (fun (hx : Evolves rst dev0 x) => ?_) ?_; clear_value x; rotate_left
       subst x; rotate_right)
    | (extract_lets +onlyGivenNames x; subst x) | split | (dsimp -zeta only)

theorem Dev.acqComplete_ev {rst : Bool} {dev0 : Dev} (d : Dev) (u : Nat) (dead : Nat) (h0 : Evolves rst dev0 d) : Evolves rst dev0
    (Dev.acqComplete d u dead) := by
  unfold Dev.acqComplete
  repeat' first
    | (with_reducible first | assumption | apply Dev.set_ev | apply Dev.inc_ev | apply Dev.modUnit_ev)
    | intro _
    | (extract_lets +onlyGivenNames x; refine (fun (hx : Evolves rst dev0 x) => ?_) ?_; clear_value x; rotate_left
       subst x; rotate_right)
    | (extract_lets +onlyGivenNames x; subst x) | (dsimp -zeta only)

theorem Dev.acqClose_ev {rst : Bool} {dev0 : Dev} (d : Dev) (u : Nat) (t : Nat) (h0 : Evolves rst dev0 d) : Evolves rst dev0 (Dev.acqClose
    d u t) := by
  unfold Dev.acqClose
  repeat' first
    | (with_reducible first | assumption | apply Dev.acqFlush_ev | apply Dev.acqGap_ev | apply Dev.acqShow_ev)
    | (with_reducible first | apply Dev.acqSpill_ev | apply Dev.modUnit_ev | apply none_ev | apply Dev.setB_ev)
    | (with_reducible first | apply ite_ev)
    | intro _
    | (extract_lets +onlyGivenNames x; refine (fun (hx : Evolves rst dev0 x) => ?_) ?_; clear_value x; rotate_left
       subst x; rotate_right)
    | (extract_lets +onlyGivenNames x; subst x) | split | (dsimp -zeta only)

theorem Dev.acqAgain_ev {rst : Bool} {dev0 : Dev} (d : Dev) (u : Nat) (h0 : Evolves rst dev0 d) : Evolves rst dev0 (Dev.acqAgain d u) :=
    by
  unfold Dev.acqAgain
  repeat' first
    | (with_reducible first | assumption | apply Dev.acqComplete_ev | apply Dev.acqShow_ev | apply Dev.modUnit_ev)
    | intro _
    | (extract_lets +onlyGivenNames x; refine (fun (hx : Evolves rst dev0 x) => ?_) ?_; clear_value x; rotate_left
       subst x; rotate_right)
    | (extract_lets +onlyGivenNames x; subst x) | split | (dsimp -zeta only)

theorem Dev.acqSettle_ev {rst : Bool} {dev0 : Dev} (d : Dev) (u : Nat) (t : Nat) (h0 : Evolves rst dev0 d) : Evolves rst dev0
    (Dev.acqSettle d u t) := by
  unfold Dev.acqSettle
  repeat' first
    | (with_reducible first | assumption | apply Dev.acqAgain_ev | apply Dev.acqClose_ev | apply Dev.modUnit_ev)
    | (with_reducible first | apply some_ev | apply ite_ev)
    | intro _
    | (extract_lets +onlyGivenNames x; refine (fun (hx : Evolves rst dev0 x) => ?_) ?_; clear_value x; rotate_left
       subst x; rotate_right)
    | (extract_lets +onlyGivenNames x; subst x) | split | (dsimp -zeta only)

theorem Dev.unitMeet_ev {rst : Bool} {dev0 : Dev} (d : Dev) (u : Nat) (c : Nat) (bitsMet : Nat) (h0 : Evolves rst dev0 d) : Evolves rst
    dev0 (Dev.unitMeet d u c bitsMet) := by
  unfold Dev.unitMeet
  repeat' first
    | (with_reducible first | assumption | apply Dev.acqSettle_ev | apply Dev.acqTriggers_ev | apply foldl_ev)
    | (with_reducible first | apply Dev.modUnit_ev | apply ite_ev | apply foldl_ev1)
    | intro _
    | (extract_lets +onlyGivenNames x; refine (fun (hx : Evolves rst dev0 x) => ?_) ?_; clear_value x; rotate_left
       subst x; rotate_right)
    | (extract_lets +onlyGivenNames x; refine (fun (hx : Evolves rst dev0 x.1) => ?_) ?_; clear_value x; rotate_left
       subst x; rotate_right)
    | (extract_lets +onlyGivenNames x; refine (fun (hx : Evolves rst dev0 x.2) => ?_) ?_; clear_value x; rotate_left
       subst x; rotate_right)
    | (extract_lets +onlyGivenNames x; subst x) | split | (dsimp -zeta only)

theorem Dev.unitInstant_ev {rst : Bool} {dev0 : Dev} (d : Dev) (u : Nat) (c : Nat) (ws : Option (List Nat)) (bitsMet : Nat) (h0 : Evolves
    rst dev0 d) : Evolves rst dev0 (Dev.unitInstant d u c ws bitsMet) := by
  unfold Dev.unitInstant
  repeat' first
    | (with_reducible first | assumption | apply Dev.acqEntry_ev | apply Dev.modUnit_ev | apply none_ev)
    | (with_reducible first | apply some_ev | apply Dev.unitMeet_ev | apply ite_ev)
    | intro _
    | (extract_lets +onlyGivenNames x; refine (fun (hx : Evolves rst dev0 x) => ?_) ?_; clear_value x; rotate_left
       subst x; rotate_right)
    | (extract_lets +onlyGivenNames x; subst x) | split | (dsimp -zeta only)

theorem Dev.unitIdle_ev {rst : Bool} {dev0 : Dev} (d : Dev) (u fuel c k : Nat) (h0 : Evolves rst dev0 d) : Evolves rst dev0
    (Dev.unitIdle d u fuel c k) := by
  induction fuel generalizing d c k with
  | zero => exact h0
  | succ n ih =>
    unfold Dev.unitIdle
    split
    · exact h0
    · exact ih _ _ _ (Dev.modUnit_ev _ _ _ (Dev.unitMeet_ev _ _ _ _ h0))

theorem Dev.unitPass_ev {rst : Bool} {dev0 : Dev} (d : Dev) (u : Nat) (c : Nat) (k : Nat) (h0 : Evolves rst dev0 d) : Evolves rst dev0
    (Dev.unitPass d u c k) := by
  unfold Dev.unitPass
  repeat' first
    | (with_reducible first | assumption | apply Dev.unitIdle_ev | apply ite_ev)
    | intro _
    | (extract_lets +onlyGivenNames x; refine (fun (hx : Evolves rst dev0 x) => ?_) ?_; clear_value x; rotate_left
       subst x; rotate_right)
    | (extract_lets +onlyGivenNames x; subst x) | split | (dsimp -zeta only)

theorem Dev.compFeed_ev {rst : Bool} {dev0 : Dev} (d : Dev) (src : Nat) (input : Nat) (v : Int) (h0 : Evolves rst dev0 d) : Evolves rst
    dev0 (Dev.compFeed d src input v).1 := by
  unfold Dev.compFeed
  apply foldl_ev1
  · exact h0
  · intro x c hx
    split
    · exact hx
    · exact hx

theorem Dev.sourceInstant_ev {rst : Bool} {dev0 : Dev} (d : Dev) (src : Nat) (c : Nat) (bitsMet : Nat) (entry : Nat → Option (List Nat))
    (h0 : Evolves rst dev0 d) : Evolves rst dev0 (Dev.sourceInstant d src c bitsMet entry) := by
  unfold Dev.sourceInstant
  repeat' first
    | (with_reducible first | assumption | apply Dev.acqPend_ev | apply Dev.each_ev | apply Dev.unitInstant_ev)
    | (with_reducible first | apply ite_ev)
    | intro _
    | (extract_lets +onlyGivenNames x; refine (fun (hx : Evolves rst dev0 x) => ?_) ?_; clear_value x; rotate_left
       subst x; rotate_right)
    | (extract_lets +onlyGivenNames x; subst x) | split | (dsimp -zeta only)

theorem Dev.feedSample_ev {rst : Bool} {dev0 : Dev} (d : Dev) (n : Nat) (c : Nat) (w : Nat) (h0 : Evolves rst dev0 d) : Evolves rst dev0
    (Dev.feedSample d n c w) := by
  unfold Dev.feedSample
  repeat' first
    | (with_reducible first | assumption | apply Dev.compFeed_ev | apply none_ev | apply some_ev)
    | (with_reducible first | apply Dev.sourceInstant_ev | apply ite_ev)
    | intro _
    | (extract_lets +onlyGivenNames x; refine (fun (hx : Evolves rst dev0 x) => ?_) ?_; clear_value x; rotate_left
       subst x; rotate_right)
    | (extract_lets +onlyGivenNames x; refine (fun (hx : Evolves rst dev0 x.1) => ?_) ?_; clear_value x; rotate_left
       subst x; rotate_right)
    | (extract_lets +onlyGivenNames x; refine (fun (hx : Evolves rst dev0 x.2) => ?_) ?_; clear_value x; rotate_left
       subst x; rotate_right)
    | (extract_lets +onlyGivenNames x; subst x) | split | (dsimp -zeta only)

theorem Dev.convIdle_ev {rst : Bool} {dev0 : Dev} (d : Dev) (n : Nat) (upto : Nat) (h0 : Evolves rst dev0 d) : Evolves rst dev0
    (Dev.convIdle d n upto) := by
  unfold Dev.convIdle
  repeat' first
    | (with_reducible first | assumption | apply Dev.each_ev | apply Dev.modConv_ev | apply Dev.unitPass_ev)
    | (with_reducible first | apply ite_ev)
    | intro _
    | (extract_lets +onlyGivenNames x; refine (fun (hx : Evolves rst dev0 x) => ?_) ?_; clear_value x; rotate_left
       subst x; rotate_right)
    | (extract_lets +onlyGivenNames x; subst x) | split | (dsimp -zeta only)

theorem Dev.convSample_ev {rst : Bool} {dev0 : Dev} (d : Dev) (n : Nat) (s : CSample) (h0 : Evolves rst dev0 d) : Evolves rst dev0
    (Dev.convSample d n s) := by
  unfold Dev.convSample
  repeat' first
    | (with_reducible first | assumption | apply Dev.convIdle_ev | apply Dev.feedSample_ev | apply Dev.modConv_ev)
    | intro _
    | (extract_lets +onlyGivenNames x; refine (fun (hx : Evolves rst dev0 x) => ?_) ?_; clear_value x; rotate_left
       subst x; rotate_right)
    | (extract_lets +onlyGivenNames x; refine (fun (hx : Evolves rst dev0 x.1) => ?_) ?_; clear_value x; rotate_left
       subst x; rotate_right)
    | (extract_lets +onlyGivenNames x; refine (fun (hx : Evolves rst dev0 x.2) => ?_) ?_; clear_value x; rotate_left
       subst x; rotate_right)
    | (extract_lets +onlyGivenNames x; subst x) | split | (dsimp -zeta only)

theorem Dev.convPass_ev {rst : Bool} {dev0 : Dev} (d : Dev) (n : Nat) (upto : Nat) (h0 : Evolves rst dev0 d) : Evolves rst dev0
    (Dev.convPass d n upto) := by
  unfold Dev.convPass
  repeat' first
    | (with_reducible first | assumption | apply Dev.convIdle_ev | apply Dev.convSample_ev | apply foldl_ev)
    | (with_reducible first | apply Dev.modConv_ev | apply ite_ev | apply foldl_ev1)
    | intro _
    | (extract_lets +onlyGivenNames x; refine (fun (hx : Evolves rst dev0 x) => ?_) ?_; clear_value x; rotate_left
       subst x; rotate_right)
    | (extract_lets +onlyGivenNames x; subst x) | split | (dsimp -zeta only)

theorem Dev.convRest_ev {rst : Bool} {dev0 : Dev} (d : Dev) (n : Nat) (h0 : Evolves rst dev0 d) : Evolves rst dev0 (Dev.convRest d n) := by
  unfold Dev.convRest
  repeat' first
    | (with_reducible first | assumption | apply Dev.modConv_ev | apply ite_ev)
    | intro _
    | (extract_lets +onlyGivenNames x; refine (fun (hx : Evolves rst dev0 x) => ?_) ?_; clear_value x; rotate_left
       subst x; rotate_right)
    | (extract_lets +onlyGivenNames x; subst x) | (dsimp -zeta only)

theorem Dev.freeSamples_ev {rst : Bool} {dev0 : Dev} (d : Dev) (input gain : Nat) (opn : Bool) (c n : Nat)
    (h0 : Evolves rst dev0 d) : Evolves rst dev0 (Dev.freeSamples d input gain opn c n).2 := by
  induction n generalizing d c with
  | zero => exact h0
  | succ n ih => exact ih _ _ (Dev.takeFree_ev d 12 h0)

theorem Dev.slotDone_ev {rst : Bool} {dev0 : Dev} (d : Dev) (n : Nat) (l : List CSample) (h0 : Evolves rst dev0 d) : Evolves rst dev0
    (Dev.slotDone d n l) := by
  unfold Dev.slotDone
  repeat' first
    | (with_reducible first | assumption | apply Dev.convPass_ev | apply Dev.convRest_ev | apply Dev.modConv_ev)
    | intro _
    | (extract_lets +onlyGivenNames x; refine (fun (hx : Evolves rst dev0 x) => ?_) ?_; clear_value x; rotate_left
       subst x; rotate_right)
    | (extract_lets +onlyGivenNames x; subst x) | split | (dsimp -zeta only)

theorem Dev.slotDrop_ev {rst : Bool} {dev0 : Dev} (d : Dev) (n : Nat) (h0 : Evolves rst dev0 d) : Evolves rst dev0 (Dev.slotDrop d n) :=
    by
  unfold Dev.slotDrop
  repeat' first
    | (with_reducible first | assumption | apply Dev.freeSamples_ev | apply Dev.slotDone_ev | apply ite_ev)
    | intro _
    | (extract_lets +onlyGivenNames x; refine (fun (hx : Evolves rst dev0 x) => ?_) ?_; clear_value x; rotate_left
       subst x; rotate_right)
    | (extract_lets +onlyGivenNames x; refine (fun (hx : Evolves rst dev0 x.1) => ?_) ?_; clear_value x; rotate_left
       subst x; rotate_right)
    | (extract_lets +onlyGivenNames x; refine (fun (hx : Evolves rst dev0 x.2) => ?_) ?_; clear_value x; rotate_left
       subst x; rotate_right)
    | (extract_lets +onlyGivenNames x; subst x) | split | (dsimp -zeta only)

theorem Dev.modPort_ev {rst : Bool} {dev0 : Dev} (d : Dev) (p : Nat) (f : Port → Port) (h0 : Evolves rst dev0 d) : Evolves rst dev0
    (Dev.modPort d p f) := by
  unfold Dev.modPort
  repeat' first
    | (with_reducible first | assumption)
    | (extract_lets +onlyGivenNames x; subst x)

theorem Dev.enqueue_ev {rst : Bool} {dev0 : Dev} (d : Dev) (p : Nat) (q : Nat) (e : QEnt) (h0 : Evolves rst dev0 d) : Evolves rst dev0
    (Dev.enqueue d p q e) := by
  unfold Dev.enqueue
  repeat' first
    | (with_reducible first | assumption | apply Dev.modPort_ev | apply Dev.raise_ev | apply Dev.inc_ev | apply ite_ev)
    | intro _
    | (extract_lets +onlyGivenNames x; refine (fun (hx : Evolves rst dev0 x) => ?_) ?_; clear_value x; rotate_left
       subst x; rotate_right)
    | (extract_lets +onlyGivenNames x; subst x) | (dsimp -zeta only)

theorem Dev.sendFrame_ev {rst : Bool} {dev0 : Dev} (d : Dev) (p : Nat) (q : Nat) (e : QEnt) (h0 : Evolves rst dev0 d) : Evolves rst dev0
    (Dev.sendFrame d p q e) := by
  unfold Dev.sendFrame
  repeat' first
    | (with_reducible first | assumption | apply Dev.enqueue_ev)
    | (extract_lets +onlyGivenNames x; refine (fun (hx : Evolves rst dev0 x) => ?_) ?_; clear_value x; rotate_left
       subst x; rotate_right)
    | (extract_lets +onlyGivenNames x; subst x)

theorem Dev.sendPair_ev {rst : Bool} {dev0 : Dev} (d : Dev) (p : Nat) (q : Nat) (e : QEnt) (h0 : Evolves rst dev0 d) : Evolves rst dev0
    (Dev.sendPair d p q e) := by
  unfold Dev.sendPair
  repeat' first
    | (with_reducible first | assumption | apply Dev.enqueue_ev | apply Dev.sendFrame_ev | apply ite_ev)
    | intro _
    | (extract_lets +onlyGivenNames x; refine (fun (hx : Evolves rst dev0 x) => ?_) ?_; clear_value x; rotate_left
       subst x; rotate_right)
    | (extract_lets +onlyGivenNames x; subst x)

theorem Dev.modBx_ev {rst : Bool} {dev0 : Dev} (d : Dev) (p : Nat) (f : BxPort → BxPort) (h0 : Evolves rst dev0 d) : Evolves rst dev0
    (Dev.modBx d p f) := by
  unfold Dev.modBx
  repeat' first
    | (with_reducible first | assumption)
    | (extract_lets +onlyGivenNames x; subst x)

theorem Dev.bxSend_ev {rst : Bool} {dev0 : Dev} (d : Dev) (p : Nat) (f : BxFrame) (relay : Bool) (h0 : Evolves rst dev0 d) : Evolves rst
    dev0 (Dev.bxSend d p f relay) := by
  unfold Dev.bxSend
  repeat' first
    | (with_reducible first | assumption | apply Dev.modBx_ev | apply Dev.inc_ev | apply ite_ev)
    | intro _ | (dsimp -zeta only)

theorem Dev.bxForward_ev {rst : Bool} {dev0 : Dev} (d : Dev) (data : Bytes) (h0 : Evolves rst dev0 d) : Evolves rst dev0 (Dev.bxForward d
    data) := by
  unfold Dev.bxForward
  repeat' first
    | (with_reducible first | assumption | apply Dev.bxSend_ev)

theorem Dev.modStream_ev {rst : Bool} {dev0 : Dev} (d : Dev) (n : Nat) (f : Stream → Stream) (h0 : Evolves rst dev0 d) : Evolves rst dev0
    (Dev.modStream d n f) := by
  unfold Dev.modStream
  repeat' first
    | (with_reducible first | assumption)
    | (extract_lets +onlyGivenNames x; subst x)

theorem Dev.putDatagram_ev {rst : Bool} {dev0 : Dev} (d : Dev) (n : Nat) (c : SCfg) (unit : Nat) (launch : Nat) (data : Bytes) (h0 :
    Evolves rst dev0 d) : Evolves rst dev0 (Dev.putDatagram d n c unit launch data) := by
  unfold Dev.putDatagram
  repeat' first
    | (with_reducible first | assumption | apply Dev.ringPush_ev | apply Dev.bxForward_ev | apply Dev.enqueue_ev)
    | (with_reducible first | apply ite_ev)
    | intro _
    | (extract_lets +onlyGivenNames x; refine (fun (hx : Evolves rst dev0 x) => ?_) ?_; clear_value x; rotate_left
       subst x; rotate_right)
    | (extract_lets +onlyGivenNames x; subst x)

theorem Dev.putFragment_ev {rst : Bool} {dev0 : Dev} (d : Dev) (n : Nat) (c : SCfg) (unit : Nat) (nominal : Nat) (kind : Nat) (flags :
    Nat) (frame : Nat) (stage : Nat) (bytes : Bytes) (frags : Nat) (i : Nat) (h0 : Evolves rst dev0 d) : Evolves rst dev0 (Dev.putFragment
    d n c unit nominal kind flags frame stage bytes frags i) := by
  unfold Dev.putFragment
  repeat' first
    | (with_reducible first | assumption | apply Dev.add_ev | apply Dev.inc_ev | apply Dev.modStream_ev)
    | (with_reducible first | apply Dev.putDatagram_ev | apply Dev.stage_ev | apply ite_ev)
    | intro _
    | (extract_lets +onlyGivenNames x; refine (fun (hx : Evolves rst dev0 x) => ?_) ?_; clear_value x; rotate_left
       subst x; rotate_right)
    | (extract_lets +onlyGivenNames x; subst x) | split | (dsimp -zeta only)

theorem Dev.putUnit_ev {rst : Bool} {dev0 : Dev} (d : Dev) (n : Nat) (c : SCfg) (nominal : Nat) (kind : Nat) (flags : Nat) (frame : Nat)
    (stage : Nat) (bytes : Bytes) (h0 : Evolves rst dev0 d) : Evolves rst dev0 (Dev.putUnit d n c nominal kind flags frame stage bytes) :=
    by
  unfold Dev.putUnit
  repeat' first
    | (with_reducible first | assumption | apply Dev.each_ev | apply Dev.putFragment_ev | apply Dev.stage_ev)
    | intro _
    | (extract_lets +onlyGivenNames x; refine (fun (hx : Evolves rst dev0 x) => ?_) ?_; clear_value x; rotate_left
       subst x; rotate_right)
    | (extract_lets +onlyGivenNames x; subst x) | split | (dsimp -zeta only)

theorem Dev.buildFor_ev {rst : Bool} {dev0 : Dev} (d : Dev) (n : Nat) (recs : Tab Rec) (h0 : Evolves rst dev0 d) : Evolves rst dev0
    (Dev.buildFor d n recs) := by
  unfold Dev.buildFor
  repeat' first
    | (with_reducible first | assumption | apply Dev.add_ev | apply Dev.modStream_ev | apply none_ev)
    | (with_reducible first | apply some_ev | apply ite_ev)
    | intro _
    | (extract_lets +onlyGivenNames x; refine (fun (hx : Evolves rst dev0 x) => ?_) ?_; clear_value x; rotate_left
       subst x; rotate_right)
    | (extract_lets +onlyGivenNames x; subst x) | split | (dsimp -zeta only)

theorem Dev.packFor_ev {rst : Bool} {dev0 : Dev} (d : Dev) (n : Nat) (late : Bool) (h0 : Evolves rst dev0 d) : Evolves rst dev0
    (Dev.packFor d n late) := by
  unfold Dev.packFor
  repeat' first
    | (with_reducible first | assumption | apply Dev.modStream_ev | apply Dev.inc_ev | apply Dev.raiseIf_ev)
    | (with_reducible first | apply Dev.setB_ev | apply ite_ev)
    | intro _
    | (extract_lets +onlyGivenNames x; refine (fun (hx : Evolves rst dev0 x) => ?_) ?_; clear_value x; rotate_left
       subst x; rotate_right)
    | (extract_lets +onlyGivenNames x; subst x) | split | (dsimp -zeta only)

theorem Dev.sendStage_ev {rst : Bool} {dev0 : Dev} (d : Dev) (n : Nat) (tick : Nat) (h0 : Evolves rst dev0 d) : Evolves rst dev0
    (Dev.sendStage d n tick) := by
  unfold Dev.sendStage
  repeat' first
    | (with_reducible first | assumption | apply Dev.putUnit_ev | apply Dev.modStream_ev | apply ite_ev)
    | intro _
    | (extract_lets +onlyGivenNames x; refine (fun (hx : Evolves rst dev0 x) => ?_) ?_; clear_value x; rotate_left
       subst x; rotate_right)
    | (extract_lets +onlyGivenNames x; subst x) | split | (dsimp -zeta only)

theorem Dev.finishBlocks_ev {rst : Bool} {dev0 : Dev} (d : Dev) (h0 : Evolves rst dev0 d) : Evolves rst dev0 (Dev.finishBlocks d) := by
  unfold Dev.finishBlocks
  repeat' first
    | (with_reducible first | assumption | apply Dev.buildFor_ev | apply Dev.each_ev | apply Dev.takeFree_ev)
    | (with_reducible first | apply ite_ev)
    | intro _
    | (extract_lets +onlyGivenNames x; refine (fun (hx : Evolves rst dev0 x) => ?_) ?_; clear_value x; rotate_left
       subst x; rotate_right)
    | (extract_lets +onlyGivenNames x; refine (fun (hx : Evolves rst dev0 x.1) => ?_) ?_; clear_value x; rotate_left
       subst x; rotate_right)
    | (extract_lets +onlyGivenNames x; refine (fun (hx : Evolves rst dev0 x.2) => ?_) ?_; clear_value x; rotate_left
       subst x; rotate_right)
    | (extract_lets +onlyGivenNames x; subst x) | split | (dsimp -zeta only)

theorem Dev.finishStage_ev {rst : Bool} {dev0 : Dev} (d : Dev) (h0 : Evolves rst dev0 d) : Evolves rst dev0 (Dev.finishStage d) := by
  unfold Dev.finishStage
  repeat' first
    | (with_reducible first | assumption | apply Dev.each_ev | apply Dev.finishBlocks_ev | apply Dev.inc_ev)
    | (with_reducible first | apply Dev.packFor_ev | apply Dev.raise_ev | apply Dev.setB_ev | apply ite_ev)
    | intro _
    | (extract_lets +onlyGivenNames x; refine (fun (hx : Evolves rst dev0 x) => ?_) ?_; clear_value x; rotate_left
       subst x; rotate_right)
    | (extract_lets +onlyGivenNames x; subst x) | split | (dsimp -zeta only)

theorem Dev.sendStages_ev {rst : Bool} {dev0 : Dev} (d : Dev) (tick : Nat) (h0 : Evolves rst dev0 d) : Evolves rst dev0 (Dev.sendStages d
    tick) := by
  unfold Dev.sendStages
  repeat' first
    | (with_reducible first | assumption | apply Dev.each_ev | apply Dev.sendStage_ev | apply ite_ev)
    | intro _
    | (extract_lets +onlyGivenNames x; refine (fun (hx : Evolves rst dev0 x) => ?_) ?_; clear_value x; rotate_left
       subst x; rotate_right)
    | (extract_lets +onlyGivenNames x; subst x) | split | (dsimp -zeta only)

theorem Dev.startStreams_ev {rst : Bool} {dev0 : Dev} (d : Dev) (entry : Bool) (h0 : Evolves rst dev0 d) : Evolves rst dev0
    (Dev.startStreams d entry) := by
  unfold Dev.startStreams
  repeat' first
    | (with_reducible first | assumption | apply Dev.each_ev | apply Dev.modStream_ev | apply ite_ev)
    | intro _ | (dsimp -zeta only)

theorem Dev.stopStreams_ev {rst : Bool} {dev0 : Dev} (d : Dev) (h0 : Evolves rst dev0 d) : Evolves rst dev0 (Dev.stopStreams d) := by
  unfold Dev.stopStreams
  repeat' first
    | (with_reducible first | assumption | apply Dev.each_ev | apply Dev.modStream_ev | apply ite_ev)
    | intro _ | (extract_lets +onlyGivenNames x; subst x) | (dsimp -zeta only)

theorem Dev.abortStreams_ev {rst : Bool} {dev0 : Dev} (d : Dev) (h0 : Evolves rst dev0 d) : Evolves rst dev0 (Dev.abortStreams d) := by
  unfold Dev.abortStreams
  repeat' first
    | (with_reducible first | assumption | apply Dev.each_ev | apply Dev.modBx_ev | apply Dev.modPort_ev)
    | (with_reducible first | apply Dev.modStream_ev | apply none_ev | apply Dev.putUnit_ev | apply some_ev)
    | (with_reducible first | apply ite_ev)
    | intro _
    | (extract_lets +onlyGivenNames x; refine (fun (hx : Evolves rst dev0 x) => ?_) ?_; clear_value x; rotate_left
       subst x; rotate_right)
    | (extract_lets +onlyGivenNames x; subst x) | split | (dsimp -zeta only)

theorem Dev.disarm_ev {rst : Bool} {dev0 : Dev} (d : Dev) (h0 : Evolves rst dev0 d) : Evolves rst dev0 (Dev.disarm d) := by
  unfold Dev.disarm
  apply Dev.setB_ev
  exact ⟨h0.1, fun _ h => absurd h (by simp), h0.2.2⟩

theorem Dev.openSwitches_ev {rst : Bool} {dev0 : Dev} (d : Dev) (h0 : Evolves rst dev0 d) : Evolves rst dev0 (Dev.openSwitches d) := by
  unfold Dev.openSwitches
  repeat' first
    | (with_reducible first | assumption)
    | (extract_lets +onlyGivenNames x; subst x)

theorem Dev.ledgerHold_ev {rst : Bool} {dev0 : Dev} (d : Dev) (act : Option Nat) (h0 : Evolves rst dev0 d) : Evolves rst dev0
    (Dev.ledgerHold d act) := by
  unfold Dev.ledgerHold
  repeat' first
    | (with_reducible first | assumption | apply Dev.setB_ev)
    | (extract_lets +onlyGivenNames x; subst x)

theorem Dev.ledgerActivate_ev {rst : Bool} {dev0 : Dev} (d : Dev) (old : Bytes) (new : Bytes) (h0 : Evolves rst dev0 d) : Evolves rst dev0
    (Dev.ledgerActivate d old new) := by
  unfold Dev.ledgerActivate
  repeat' first
    | (with_reducible first | assumption | apply Dev.ledgerHold_ev | apply ite_ev)
    | intro _ | (dsimp -zeta only)

theorem Dev.krReset_ev {rst : Bool} {dev0 : Dev} (d : Dev) (h0 : Evolves rst dev0 d) : Evolves rst dev0 (Dev.krReset d) := by
  unfold Dev.krReset
  repeat' first
    | (with_reducible first | assumption)
    | (extract_lets +onlyGivenNames x; subst x)

theorem Dev.clearStageE_ev {rst : Bool} {dev0 : Dev} (d : Dev) (h0 : Evolves rst dev0 d) : Evolves rst dev0 (Dev.clearStageE d) := h0

theorem Dev.clearTickSums_ev {rst : Bool} {dev0 : Dev} (d : Dev) (h0 : Evolves rst dev0 d) : Evolves rst dev0 (Dev.clearTickSums d) := by
  unfold Dev.clearTickSums
  repeat' first
    | (with_reducible first | assumption)
    | intro _
    | (extract_lets +onlyGivenNames x; refine (fun (hx : Evolves rst dev0 x) => ?_) ?_; clear_value x; rotate_left
       subst x; rotate_right)
    | (extract_lets +onlyGivenNames x; subst x) | split | (dsimp -zeta only)

theorem Dev.tollReset_ev {rst : Bool} {dev0 : Dev} (d : Dev) (h0 : Evolves rst dev0 d) : Evolves rst dev0 (Dev.tollReset d) := by
  unfold Dev.tollReset
  have h1 : Evolves rst dev0 { d with toll := { vddOk := d.toll.vddOk }, regs := tollRegs d } :=
    ⟨fun w => ⟨(h0.1 w).1.filter _, (h0.1 w).2⟩, h0.2⟩
  exact Dev.set_ev _ _ _ _ _ (Dev.setB_ev _ _ _ (Dev.krReset_ev _ (Dev.ledgerHold_ev _ _ (Dev.disarm_ev _ h1))))

theorem Dev.pendRefunds_ev {rst : Bool} {dev0 : Dev} (d : Dev) (c : Decision) (h0 : Evolves rst dev0 d) : Evolves rst dev0
    (Dev.pendRefunds d c) := by
  unfold Dev.pendRefunds
  repeat' first
    | (with_reducible first | assumption | apply ite_ev | apply foldl_ev)
    | intro _
    | (extract_lets +onlyGivenNames x; refine (fun (hx : Evolves rst dev0 x) => ?_) ?_; clear_value x; rotate_left
       subst x; rotate_right)
    | (extract_lets +onlyGivenNames x; refine (fun (hx : Evolves rst dev0 x.1) => ?_) ?_; clear_value x; rotate_left
       subst x; rotate_right)
    | (extract_lets +onlyGivenNames x; refine (fun (hx : Evolves rst dev0 x.2) => ?_) ?_; clear_value x; rotate_left
       subst x; rotate_right)
    | (extract_lets +onlyGivenNames x; subst x) | split | (dsimp -zeta only)
    | (with_reducible apply Follows.mix <;> with_reducible assumption)

theorem Dev.ledgerRefunds_ev {rst : Bool} {dev0 : Dev} (d : Dev) (h0 : Evolves rst dev0 d) : Evolves rst dev0 (Dev.ledgerRefunds d) := by
  unfold Dev.ledgerRefunds
  have keep (l : List Debit) (c : LedgerCh) : (l.foldl LedgerCh.refund c).enable = c.enable := by
    induction l generalizing c with
    | nil => rfl
    | cons e t ih => exact ih _
  apply Dev.add_ev
  apply Dev.add_ev
  refine ⟨h0.1, fun w h => h0.2.1 w ?_, h0.2.2⟩
  simpa [keep] using h

theorem Dev.dropDecision_ev {rst : Bool} {dev0 : Dev} (d : Dev) (h0 : Evolves rst dev0 d) : Evolves rst dev0 (Dev.dropDecision d) := by
  unfold Dev.dropDecision
  repeat' first
    | (with_reducible first | assumption | apply Dev.pendRefunds_ev | apply ite_ev)
    | intro _
    | (extract_lets +onlyGivenNames x; refine (fun (hx : Evolves rst dev0 x) => ?_) ?_; clear_value x; rotate_left
       subst x; rotate_right)
    | (extract_lets +onlyGivenNames x; subst x) | split | (dsimp -zeta only)

theorem Dev.holdFields_ev {rst : Bool} {dev0 : Dev} (d : Dev) (h0 : Evolves rst dev0 d) : Evolves rst dev0 (Dev.holdFields d) := by
  unfold Dev.holdFields
  repeat' first
    | (with_reducible first | assumption | apply Dev.modToll_ev)
    | (extract_lets +onlyGivenNames x; refine (fun (hx : Evolves rst dev0 x) => ?_) ?_; clear_value x; rotate_left
       subst x; rotate_right)
    | (extract_lets +onlyGivenNames x; subst x)

theorem Dev.zeroDrift_ev {rst : Bool} {dev0 : Dev} (d : Dev) (c : Nat) (h0 : Evolves rst dev0 d) : Evolves rst dev0 (Dev.zeroDrift d c) := by
  unfold Dev.zeroDrift
  repeat' first
    | (with_reducible first | assumption | apply Dev.each_ev | apply Dev.modChan_ev)
    | intro _ | (extract_lets +onlyGivenNames x; subst x) | (dsimp -zeta only)

theorem Dev.dropSweeps_ev {rst : Bool} {dev0 : Dev} (d : Dev) (h0 : Evolves rst dev0 d) : Evolves rst dev0 (Dev.dropSweeps d) := by
  unfold Dev.dropSweeps
  repeat' first
    | (with_reducible first | assumption | apply ite_ev)
    | intro _ | (extract_lets +onlyGivenNames x; subst x) | (dsimp -zeta only)

theorem Dev.swapBank_ev {rst : Bool} {dev0 : Dev} (d : Dev) (idx : Nat) (busy : Bool) (h0 : Evolves rst dev0 d) : Evolves rst dev0
    (Dev.swapBank d idx busy) := by
  unfold Dev.swapBank
  repeat' first
    | (with_reducible first | assumption | apply Dev.dropSweeps_ev | apply Dev.holdFields_ev | apply Dev.krReset_ev)
    | (with_reducible first | apply Dev.ledgerActivate_ev | apply Dev.modBank_ev | apply Dev.zeroDrift_ev | apply ite_ev)
    | intro _
    | (extract_lets +onlyGivenNames x; refine (fun (hx : Evolves rst dev0 x) => ?_) ?_; clear_value x; rotate_left
       subst x; rotate_right)
    | (extract_lets +onlyGivenNames x; subst x) | split | (dsimp -zeta only)

theorem Dev.fixBanks_ev {rst : Bool} {dev0 : Dev} (d : Dev) (frame : Bool) (sync : Bool) (h0 : Evolves rst dev0 d) : Evolves rst dev0
    (Dev.fixBanks d frame sync) := by
  unfold Dev.fixBanks
  repeat' first
    | (with_reducible first | assumption | apply ite_ev)
    | intro _
    | (extract_lets +onlyGivenNames x; refine (fun (hx : Evolves rst dev0 x) => ?_) ?_; clear_value x; rotate_left
       subst x; rotate_right)
    | (extract_lets +onlyGivenNames x; subst x) | (dsimp -zeta only)

theorem Dev.swapFixed_ev {rst : Bool} {dev0 : Dev} (d : Dev) (h0 : Evolves rst dev0 d) : Evolves rst dev0 (Dev.swapFixed d) := by
  unfold Dev.swapFixed
  repeat' first
    | (with_reducible first | assumption | apply Dev.each_ev | apply Dev.swapBank_ev)
    | intro _ | (dsimp -zeta only)

theorem Dev.freeBanks_ev {rst : Bool} {dev0 : Dev} (d : Dev) (h0 : Evolves rst dev0 d) : Evolves rst dev0 (Dev.freeBanks d) := by
  unfold Dev.freeBanks
  repeat' first
    | (with_reducible first | assumption)
    | intro _
    | (extract_lets +onlyGivenNames x; refine (fun (hx : Evolves rst dev0 x) => ?_) ?_; clear_value x; rotate_left
       subst x; rotate_right)
    | (extract_lets +onlyGivenNames x; subst x) | split | (dsimp -zeta only)

theorem Dev.commitBank_ev {rst : Bool} {dev0 : Dev} (d : Dev) (idx : Nat) (bs : Bytes) (h0 : Evolves rst dev0 d) : Evolves rst dev0
    (Dev.commitBank d idx bs) := by
  unfold Dev.commitBank
  repeat' first
    | (with_reducible first | assumption | apply Dev.modBank_ev)
    | intro _ | (extract_lets +onlyGivenNames x; subst x) | (dsimp -zeta only)

theorem Dev.clutDue_ev {rst : Bool} {dev0 : Dev} (d : Dev) (h0 : Evolves rst dev0 d) : Evolves rst dev0 (Dev.clutDue d) := by
  unfold Dev.clutDue
  repeat' first
    | (with_reducible first | assumption | apply Dev.commitBank_ev | apply ite_ev)
    | intro _
    | (extract_lets +onlyGivenNames x; refine (fun (hx : Evolves rst dev0 x) => ?_) ?_; clear_value x; rotate_left
       subst x; rotate_right)
    | (extract_lets +onlyGivenNames x; subst x) | split | (dsimp -zeta only)

theorem Dev.swapIdle_ev {rst : Bool} {dev0 : Dev} (d : Dev) (h0 : Evolves rst dev0 d) : Evolves rst dev0 (Dev.swapIdle d) := by
  unfold Dev.swapIdle
  repeat' first
    | (with_reducible first | assumption | apply Dev.each_ev | apply Dev.swapBank_ev)
    | intro _ | (dsimp -zeta only)

theorem Dev.dllStops_ev {rst : Bool} {dev0 : Dev} (d : Dev) (c : Nat) (h0 : Evolves rst dev0 d) : Evolves rst dev0 (Dev.dllStops d c) :=
    by
  unfold Dev.dllStops
  repeat' first
    | (with_reducible first | assumption | apply Dev.modCvy_ev | apply none_ev | apply Dev.raise_ev)
    | (with_reducible first | apply Dev.setB_ev | apply ite_ev)
    | intro _
    | (extract_lets +onlyGivenNames x; refine (fun (hx : Evolves rst dev0 x) => ?_) ?_; clear_value x; rotate_left
       subst x; rotate_right)
    | (extract_lets +onlyGivenNames x; subst x) | split | (dsimp -zeta only)

theorem Dev.dllRuns_ev {rst : Bool} {dev0 : Dev} (d : Dev) (c : Nat) (h0 : Evolves rst dev0 d) : Evolves rst dev0 (Dev.dllRuns d c) := by
  unfold Dev.dllRuns
  repeat' first
    | (with_reducible first | assumption | apply Dev.modCvy_ev | apply ite_ev)
    | intro _
    | (extract_lets +onlyGivenNames x; refine (fun (hx : Evolves rst dev0 x) => ?_) ?_; clear_value x; rotate_left
       subst x; rotate_right)
    | (extract_lets +onlyGivenNames x; subst x) | split | (dsimp -zeta only)

theorem Dev.restStart_ev {rst : Bool} {dev0 : Dev} (d : Dev) (c : Nat) (h0 : Evolves rst dev0 d) : Evolves rst dev0 (Dev.restStart d c) := by
  unfold Dev.restStart
  repeat' first
    | (with_reducible first | assumption | apply Dev.tisAbort_ev | apply Dev.setB_ev | apply ite_ev)
    | intro _

theorem Dev.restEnd_ev {rst : Bool} {dev0 : Dev} (d : Dev) (c : Nat) (all : Bool) (h0 : Evolves rst dev0 d) : Evolves rst dev0
    (Dev.restEnd d c all) := by
  unfold Dev.restEnd
  repeat' first
    | (with_reducible first | assumption | apply Dev.each_ev | apply Dev.modChan_ev | apply Dev.raiseIf_ev)
    | (with_reducible first | apply Dev.set_ev | apply Dev.setB_ev | apply Dev.swapBank_ev | apply ite_ev)
    | intro _
    | (extract_lets +onlyGivenNames x; refine (fun (hx : Evolves rst dev0 x) => ?_) ?_; clear_value x; rotate_left
       subst x; rotate_right)
    | (extract_lets +onlyGivenNames x; subst x) | split | (dsimp -zeta only)

theorem Dev.endRests_ev {rst : Bool} {dev0 : Dev} (d : Dev) (all : Bool) (h0 : Evolves rst dev0 d) : Evolves rst dev0 (Dev.endRests d all)
    := by
  unfold Dev.endRests
  repeat' first
    | (with_reducible first | assumption | apply Dev.each_ev | apply Dev.restEnd_ev | apply ite_ev)
    | intro _
    | (extract_lets +onlyGivenNames x; refine (fun (hx : Evolves rst dev0 x) => ?_) ?_; clear_value x; rotate_left
       subst x; rotate_right)
    | (extract_lets +onlyGivenNames x; subst x) | split | (dsimp -zeta only)

theorem Dev.bxDown_ev {rst : Bool} {dev0 : Dev} (d : Dev) (p : Nat) (h0 : Evolves rst dev0 d) : Evolves rst dev0 (Dev.bxDown d p) := by
  unfold Dev.bxDown
  repeat' first
    | (with_reducible first | assumption | apply Dev.modBx_ev | apply Dev.set_ev | apply Dev.setB_ev | apply Dev.raiseIf_ev)
    | (with_reducible first | apply ite_ev)
    | intro _
    | (extract_lets +onlyGivenNames x; refine (fun (hx : Evolves rst dev0 x) => ?_) ?_; clear_value x; rotate_left
       subst x; rotate_right)
    | (extract_lets +onlyGivenNames x; subst x)

theorem Dev.ethDown_ev {rst : Bool} {dev0 : Dev} (d : Dev) (p : Nat) (h0 : Evolves rst dev0 d) : Evolves rst dev0 (Dev.ethDown d p) := by
  unfold Dev.ethDown
  repeat' first
    | (with_reducible first | assumption | apply Dev.modPort_ev | apply Dev.setB_ev | apply Dev.set_ev | apply Dev.raiseIf_ev)
    | intro _
    | (extract_lets +onlyGivenNames x; refine (fun (hx : Evolves rst dev0 x) => ?_) ?_; clear_value x; rotate_left
       subst x; rotate_right)
    | (extract_lets +onlyGivenNames x; subst x) | (dsimp -zeta only)

theorem Dev.applyRetire_ev {rst : Bool} {dev0 : Dev} (d : Dev) (kind : Nat) (unit : Nat) (h0 : Evolves rst dev0 d) : Evolves rst dev0
    (Dev.applyRetire d kind unit) := by
  unfold Dev.applyRetire
  repeat' first
    | (with_reducible first | assumption | apply Dev.modChan_ev | apply Dev.setBitOf_ev | apply Dev.set_ev | apply Dev.setB_ev)
    | (with_reducible first | apply Dev.raise_ev | apply Dev.tisAbort_ev | apply Dev.modBx_ev | apply Dev.bxDown_ev)
    | (with_reducible first | apply Dev.ethDown_ev | apply ite_ev)
    | intro _
    | (extract_lets +onlyGivenNames x; refine (fun (hx : Evolves rst dev0 x) => ?_) ?_; clear_value x; rotate_left
       subst x; rotate_right)
    | (extract_lets +onlyGivenNames x; subst x) | split | (dsimp -zeta only)

theorem Dev.retire_ev {rst : Bool} {dev0 : Dev} (d : Dev) (kind : Nat) (unit : Nat) (g : Nat) (s : Nat) (h0 : Evolves rst dev0 d) :
    Evolves rst dev0 (Dev.retire d kind unit g s) := by
  unfold Dev.retire
  repeat' first
    | (with_reducible first | assumption | apply Dev.raise_ev | apply Dev.raiseIf_ev | apply Dev.applyRetire_ev | apply ite_ev)
    | intro _
    | (extract_lets +onlyGivenNames x; refine (fun (hx : Evolves rst dev0 x) => ?_) ?_; clear_value x; rotate_left
       subst x; rotate_right)
    | (extract_lets +onlyGivenNames x; subst x)

theorem Dev.faultOn_ev {rst : Bool} {dev0 : Dev} (d : Dev) (kind : Nat) (unit : Nat) (g : Nat) (s : Nat) (h0 : Evolves rst dev0 d) :
    Evolves rst dev0 (Dev.faultOn d kind unit g s) := by
  unfold Dev.faultOn
  repeat' first
    | (with_reducible first | assumption | apply Dev.retire_ev | apply ite_ev)
    | intro _
    | (extract_lets +onlyGivenNames x; refine (fun (hx : Evolves rst dev0 x) => ?_) ?_; clear_value x; rotate_left
       subst x; rotate_right)
    | (extract_lets +onlyGivenNames x; subst x) | (dsimp -zeta only)

theorem Dev.applyDue_ev {rst : Bool} {dev0 : Dev} (d : Dev) (n : Nat) (h0 : Evolves rst dev0 d) : Evolves rst dev0 (Dev.applyDue d n) :=
    by
  unfold Dev.applyDue
  repeat' first
    | (with_reducible first | assumption | apply Dev.applyRetire_ev | apply foldl_ev | apply foldl_ev1)
    | intro _
    | (extract_lets +onlyGivenNames x; refine (fun (hx : Evolves rst dev0 x) => ?_) ?_; clear_value x; rotate_left
       subst x; rotate_right)
    | (extract_lets +onlyGivenNames x; refine (fun (hx : Evolves rst dev0 x.1) => ?_) ?_; clear_value x; rotate_left
       subst x; rotate_right)
    | (extract_lets +onlyGivenNames x; refine (fun (hx : Evolves rst dev0 x.2) => ?_) ?_; clear_value x; rotate_left
       subst x; rotate_right)
    | (extract_lets +onlyGivenNames x; subst x) | split | (dsimp -zeta only)

theorem Dev.applyRetirements_ev {rst : Bool} {dev0 : Dev} (d : Dev) (h0 : Evolves rst dev0 d) : Evolves rst dev0 (Dev.applyRetirements d)
    := by
  unfold Dev.applyRetirements
  repeat' first
    | (with_reducible first | assumption | apply Dev.applyDue_ev)
    | intro _
    | (extract_lets +onlyGivenNames x; refine (fun (hx : Evolves rst dev0 x) => ?_) ?_; clear_value x; rotate_left
       subst x; rotate_right)
    | (extract_lets +onlyGivenNames x; subst x) | split | (dsimp -zeta only)

theorem Dev.unitBack_ev {rst : Bool} {dev0 : Dev} (d : Dev) (kind : Nat) (unit : Nat) (h0 : Evolves rst dev0 d) : Evolves rst dev0
    (Dev.unitBack d kind unit) := by
  unfold Dev.unitBack
  repeat' first
    | (with_reducible first | assumption | apply Dev.bxDown_ev | apply Dev.driveGone_ev | apply Dev.modBx_ev)
    | (with_reducible first | apply Dev.modChan_ev | apply Dev.modCvy_ev | apply Dev.set_ev | apply Dev.setB_ev)
    | (with_reducible first | apply Dev.setBitOf_ev | apply ite_ev)
    | intro _
    | (extract_lets +onlyGivenNames x; refine (fun (hx : Evolves rst dev0 x) => ?_) ?_; clear_value x; rotate_left
       subst x; rotate_right)
    | (extract_lets +onlyGivenNames x; subst x) | split | (dsimp -zeta only)

theorem Dev.applyReturns_ev {rst : Bool} {dev0 : Dev} (d : Dev) (h0 : Evolves rst dev0 d) : Evolves rst dev0 (Dev.applyReturns d) := by
  unfold Dev.applyReturns
  repeat' first
    | (with_reducible first | assumption | apply Dev.unitBack_ev | apply foldl_ev)
    | intro _ | (extract_lets +onlyGivenNames x; subst x) | (dsimp -zeta only)

theorem Dev.scheduleAfter_ev {rst : Bool} {dev0 : Dev} (d : Dev) (t : Nat) (h0 : Evolves rst dev0 d) : Evolves rst dev0 (Dev.scheduleAfter
    d t) := by
  unfold Dev.scheduleAfter
  repeat' first
    | (with_reducible first | assumption | apply none_ev | apply Dev.raiseIf_ev | apply Dev.setB_ev)
    | (with_reducible first | apply some_ev | apply ite_ev)
    | intro _
    | (extract_lets +onlyGivenNames x; refine (fun (hx : Evolves rst dev0 x) => ?_) ?_; clear_value x; rotate_left
       subst x; rotate_right)
    | (extract_lets +onlyGivenNames x; subst x) | split | (dsimp -zeta only)

theorem Dev.scheduleNext_ev {rst : Bool} {dev0 : Dev} (d : Dev) (h0 : Evolves rst dev0 d) : Evolves rst dev0 (Dev.scheduleNext d) := by
  unfold Dev.scheduleNext
  repeat' first
    | (with_reducible first | assumption | apply Dev.scheduleAfter_ev)
    | intro _
    | (extract_lets +onlyGivenNames x; refine (fun (hx : Evolves rst dev0 x) => ?_) ?_; clear_value x; rotate_left
       subst x; rotate_right)
    | (extract_lets +onlyGivenNames x; subst x) | split | (dsimp -zeta only)

theorem Dev.snapStage_ev {rst : Bool} {dev0 : Dev} (d : Dev) (h0 : Evolves rst dev0 d) : Evolves rst dev0 (Dev.snapStage d) := by
  unfold Dev.snapStage
  repeat' first
    | (with_reducible first | assumption)
    | (extract_lets +onlyGivenNames x; subst x)

theorem Dev.startTicks_ev {rst : Bool} {dev0 : Dev} (d : Dev) (h0 : Evolves rst dev0 d) : Evolves rst dev0 (Dev.startTicks d) := by
  unfold Dev.startTicks
  repeat' first
    | (with_reducible first | assumption | apply Dev.clearStageE_ev | apply Dev.scheduleNext_ev | apply Dev.snapStage_ev)
    | intro _
    | (extract_lets +onlyGivenNames x; refine (fun (hx : Evolves rst dev0 x) => ?_) ?_; clear_value x; rotate_left
       subst x; rotate_right)
    | (extract_lets +onlyGivenNames x; subst x) | split | (dsimp -zeta only)

theorem Dev.applyStep_ev {rst : Bool} {dev0 : Dev} (d : Dev) (h0 : Evolves rst dev0 d) : Evolves rst dev0 (Dev.applyStep d) := by
  unfold Dev.applyStep
  repeat' first
    | (with_reducible first | assumption | apply Dev.raise_ev | apply Dev.setB_ev)
    | (extract_lets +onlyGivenNames x; refine (fun (hx : Evolves rst dev0 x) => ?_) ?_; clear_value x; rotate_left
       subst x; rotate_right)
    | (extract_lets +onlyGivenNames x; subst x) | split

theorem Dev.stopTicks_ev {rst : Bool} {dev0 : Dev} (d : Dev) (keep : Bool) (h0 : Evolves rst dev0 d) : Evolves rst dev0 (Dev.stopTicks d
    keep) := by
  unfold Dev.stopTicks
  repeat' first
    | (with_reducible first | assumption | apply Dev.applyRetirements_ev | apply Dev.applyReturns_ev | apply Dev.applyStep_ev)
    | (with_reducible first | apply Dev.clearStageE_ev | apply Dev.clutDue_ev | apply Dev.commitPoint_ev | apply Dev.dropDecision_ev)
    | (with_reducible first | apply Dev.endRests_ev | apply Dev.ledgerRefunds_ev | apply none_ev | apply Dev.setB_ev)
    | (with_reducible first | apply Dev.slotDrop_ev | apply Dev.stage_ev | apply Dev.swapIdle_ev | apply ite_ev)
    | intro _
    | (extract_lets +onlyGivenNames x; refine (fun (hx : Evolves rst dev0 x) => ?_) ?_; clear_value x; rotate_left
       subst x; rotate_right)
    | (extract_lets +onlyGivenNames x; subst x) | split | (dsimp -zeta only)

theorem Dev.enterRanging_ev {rst : Bool} {dev0 : Dev} (d : Dev) (h0 : Evolves rst dev0 d) : Evolves rst dev0 (Dev.enterRanging d) := by
  unfold Dev.enterRanging
  repeat' first
    | (with_reducible first | assumption | apply Dev.holdFields_ev | apply Dev.startStreams_ev | apply Dev.set_ev)
    | (extract_lets +onlyGivenNames x; refine (fun (hx : Evolves rst dev0 x) => ?_) ?_; clear_value x; rotate_left
       subst x; rotate_right)
    | (extract_lets +onlyGivenNames x; subst x)

theorem Dev.ringResize_ev {rst : Bool} {dev0 : Dev} (d : Dev) (h0 : Evolves rst dev0 d) : Evolves rst dev0 (Dev.ringResize d) := by
  unfold Dev.ringResize
  repeat' first
    | (with_reducible first | assumption | apply ite_ev)
    | intro _
    | (extract_lets +onlyGivenNames x; refine (fun (hx : Evolves rst dev0 x) => ?_) ?_; clear_value x; rotate_left
       subst x; rotate_right)
    | (extract_lets +onlyGivenNames x; subst x)

theorem Dev.disarmFor_ev {rst : Bool} {dev0 : Dev} (d : Dev) (st : DevState) (h0 : Evolves rst dev0 d) : Evolves rst dev0 (Dev.disarmFor d
    st) := by
  unfold Dev.disarmFor
  repeat' first
    | (with_reducible first | assumption | apply Dev.disarm_ev | apply ite_ev)
    | intro _

theorem Dev.leftRole_ev {rst : Bool} {dev0 : Dev} (d : Dev) (role : Nat) (h0 : Evolves rst dev0 d) : Evolves rst dev0 (Dev.leftRole d
    role) := by
  unfold Dev.leftRole
  repeat' first
    | (with_reducible first | assumption | apply Dev.set_ev | apply Dev.setB_ev | apply ite_ev)
    | intro _
    | (extract_lets +onlyGivenNames x; refine (fun (hx : Evolves rst dev0 x) => ?_) ?_; clear_value x; rotate_left
       subst x; rotate_right)
    | (extract_lets +onlyGivenNames x; subst x) | split | (dsimp -zeta only)

theorem Dev.afterGoto_ev {rst : Bool} {dev0 : Dev} (d : Dev) (was : DevState) (tick : Bool) (h0 : Evolves rst dev0 d) : Evolves rst dev0
    (Dev.afterGoto d was tick) := by
  unfold Dev.afterGoto
  repeat' first
    | (with_reducible first | assumption | apply Dev.abortStreams_ev | apply Dev.commitPoint_ev | apply Dev.enterRanging_ev)
    | (with_reducible first | apply Dev.leftRole_ev | apply Dev.openSwitches_ev | apply Dev.ringResize_ev | apply Dev.scheduleAfter_ev)
    | (with_reducible first | apply Dev.set_ev | apply Dev.setB_ev | apply Dev.startTicks_ev | apply Dev.stopTicks_ev)
    | (with_reducible first | apply ite_ev)
    | intro _
    | (extract_lets +onlyGivenNames x; refine (fun (hx : Evolves rst dev0 x) => ?_) ?_; clear_value x; rotate_left
       subst x; rotate_right)
    | (extract_lets +onlyGivenNames x; subst x) | split | (dsimp -zeta only)

theorem Dev.goto_ev {rst : Bool} {dev0 : Dev} (d : Dev) (st : DevState) (tick : Bool) (h0 : Evolves rst dev0 d) : Evolves rst dev0
    (Dev.goto d st tick) := by
  unfold Dev.goto
  split
  · exact h0
  · rename_i hc
    have hs : ¬ d.st = .faultStop := fun e => hc (by simp [e])
    apply Dev.afterGoto_ev
    apply Dev.raise_ev
    apply Dev.print_ev
    unfold Dev.disarmFor
    split
    · have h1 := Dev.disarm_ev d h0
      refine ⟨h1.1, fun _ h => absurd h (by simp [Dev.disarm, Dev.setB, Dev.set]), ?_, h1.2.2.2⟩
      rcases h0.2.2.1 with h | h
      · exact .inl h
      · exact .inr fun e => absurd (h e) hs
    · rename_i hd
      refine ⟨h0.1, fun w h => ?_, ?_, h0.2.2.2⟩
      · cases st <;> simp_all [DevState.ticks, mayArm]
      · rcases h0.2.2.1 with h | h
        · exact .inl h
        · exact .inr fun e => absurd (h e) hs

theorem Dev.hold_ev {rst : Bool} {dev0 : Dev} (d : Dev) (causes : List HoldCause) (h0 : Evolves rst dev0 d) : Evolves rst dev0 (Dev.hold d
    causes) := by
  unfold Dev.hold
  repeat' first
    | (with_reducible first | assumption | apply Dev.goto_ev | apply ite_ev)
    | intro _ | (extract_lets +onlyGivenNames x; subst x)

theorem Dev.faultStop_ev {rst : Bool} {dev0 : Dev} (d : Dev) (h0 : Evolves rst dev0 d) : Evolves rst dev0 (Dev.faultStop d) := by
  unfold Dev.faultStop
  repeat' first
    | (with_reducible first | assumption | apply Dev.goto_ev)

theorem Dev.tollFault_ev {rst : Bool} {dev0 : Dev} (d : Dev) (cause : Nat) (h0 : Evolves rst dev0 d) : Evolves rst dev0 (Dev.tollFault d
    cause) := by
  unfold Dev.tollFault
  repeat' first
    | (with_reducible first | assumption | apply Dev.faultStop_ev | apply Dev.raise_ev | apply Dev.openSwitches_ev)
    | (with_reducible first | apply ite_ev)
    | intro _
    | (extract_lets +onlyGivenNames x; refine (fun (hx : Evolves rst dev0 x) => ?_) ?_; clear_value x; rotate_left
       subst x; rotate_right)
    | (extract_lets +onlyGivenNames x; subst x)

theorem Dev.settle_ev {rst : Bool} {dev0 : Dev} (d : Dev) (before : Dev) (h0 : Evolves rst dev0 d) (h1 : Evolves rst dev0 before) :
    Evolves rst dev0 (Dev.settle d before) := by
  unfold Dev.settle
  repeat' first
    | (with_reducible first | assumption | apply Dev.hold_ev | apply ite_ev)
    | intro _
    | (extract_lets +onlyGivenNames x; refine (fun (hx : Evolves rst dev0 x) => ?_) ?_; clear_value x; rotate_left
       subst x; rotate_right)
    | (extract_lets +onlyGivenNames x; subst x)

theorem Dev.settled_ev {rst : Bool} {dev0 : Dev} (d : Dev) (f : Dev → Dev) (h0 : Evolves rst dev0 d) (h1 : ∀ x0, Evolves rst dev0 x0 →
    Evolves rst dev0 (f x0)) : Evolves rst dev0 (Dev.settled d f) := by
  unfold Dev.settled
  repeat' first
    | (with_reducible first | assumption | apply h1 | apply Dev.settle_ev)

theorem Dev.viewIgnored_ev {rst : Bool} {dev0 : Dev} (d : Dev) (h0 : Evolves rst dev0 d) : Evolves rst dev0 (Dev.viewIgnored d) := by
  unfold Dev.viewIgnored
  repeat' first
    | (with_reducible first | assumption | apply Dev.setB_ev)

theorem Dev.roleWrite_ev {rst : Bool} {dev0 : Dev} (d : Dev) (r : Role) (expert : Bool) (f : Dev → Dev) (h0 : Evolves rst dev0 d) (h3 : ∀
    x0, Evolves rst dev0 x0 → Evolves rst dev0 (f x0)) : Evolves rst dev0 (Dev.roleWrite d r expert f) := by
  unfold Dev.roleWrite
  repeat' first
    | (with_reducible first | assumption | apply h3 | apply Dev.answer_ev | apply ite_ev)
    | intro _ | (extract_lets +onlyGivenNames x; subst x)

theorem Dev.roleOne_ev {rst : Bool} {dev0 : Dev} (d : Dev) (r : Role) (expert : Bool) (v : Nat) (f : Dev → Dev) (h0 : Evolves rst dev0 d)
    (h4 : ∀ x0, Evolves rst dev0 x0 → Evolves rst dev0 (f x0)) : Evolves rst dev0 (Dev.roleOne d r expert v f) := by
  unfold Dev.roleOne
  repeat' first
    | (with_reducible first | assumption | apply h4 | apply Dev.roleWrite_ev | apply Dev.answer_ev | apply ite_ev)
    | intro _ | (dsimp -zeta only)

theorem Dev.viaWrite_ev {rst : Bool} {dev0 : Dev} (d : Dev) (via : Via) (expert : Bool) (f : Dev → Dev) (h0 : Evolves rst dev0 d) (h3 : ∀
    x0, Evolves rst dev0 x0 → Evolves rst dev0 (f x0)) : Evolves rst dev0 (Dev.viaWrite d via expert f) := by
  unfold Dev.viaWrite
  repeat' first
    | (with_reducible first | assumption | apply h3 | apply Dev.viewIgnored_ev | apply Dev.roleWrite_ev)
    | (extract_lets +onlyGivenNames x; subst x) | split

theorem Dev.privWrite_ev {rst : Bool} {dev0 : Dev} (d : Dev) (priv : Bool) (f : Dev → Dev) (h0 : Evolves rst dev0 d) (h2 : ∀ x0, Evolves
    rst dev0 x0 → Evolves rst dev0 (f x0)) : Evolves rst dev0 (Dev.privWrite d priv f) := by
  unfold Dev.privWrite
  repeat' first
    | (with_reducible first | assumption | apply h2 | apply Dev.viewIgnored_ev | apply ite_ev)
    | intro _

theorem Dev.gatedHit_ev {rst : Bool} {dev0 : Dev} (d : Dev) (blk : Nat) (h0 : Evolves rst dev0 d) : Evolves rst dev0 (Dev.gatedHit d blk) := by
  unfold Dev.gatedHit
  repeat' first
    | (with_reducible first | assumption | apply Dev.raise_ev | apply Dev.setBitOf_ev)

theorem Dev.blockWrite_ev {rst : Bool} {dev0 : Dev} (d : Dev) (blk : Nat) (f : Dev → Dev) (h0 : Evolves rst dev0 d) (h2 : ∀ x0, Evolves
    rst dev0 x0 → Evolves rst dev0 (f x0)) : Evolves rst dev0 (Dev.blockWrite d blk f) := by
  unfold Dev.blockWrite
  repeat' first
    | (with_reducible first | assumption | apply h2 | apply Dev.gatedHit_ev | apply ite_ev)
    | intro _

theorem Dev.viaBlock_ev {rst : Bool} {dev0 : Dev} (d : Dev) (via : Via) (expert : Bool) (blk : Nat) (f : Dev → Dev) (h0 : Evolves rst dev0
    d) (h4 : ∀ x0, Evolves rst dev0 x0 → Evolves rst dev0 (f x0)) : Evolves rst dev0 (Dev.viaBlock d via expert blk f) := by
  unfold Dev.viaBlock
  repeat' first
    | (with_reducible first | assumption | apply h4 | apply Dev.blockWrite_ev | apply Dev.viaWrite_ev)
    | intro _ | (extract_lets +onlyGivenNames x; subst x) | split | (dsimp -zeta only)

theorem Dev.refuse_ev {rst : Bool} {dev0 : Dev} (d : Dev) (via : Via) (code : Nat) (h0 : Evolves rst dev0 d) : Evolves rst dev0
    (Dev.refuse d via code) := by
  unfold Dev.refuse
  repeat' first
    | (with_reducible first | assumption | apply Dev.answer_ev | apply ite_ev)
    | intro _ | (extract_lets +onlyGivenNames x; subst x)

theorem Dev.noteFirst_ev {rst : Bool} {dev0 : Dev} (d : Dev) (p : Nat) (mac : Nat) (seq : Nat) (h0 : Evolves rst dev0 d) : Evolves rst
    dev0 (Dev.noteFirst d p mac seq) := by
  unfold Dev.noteFirst
  repeat' first
    | (with_reducible first | assumption)
    | intro _
    | (extract_lets +onlyGivenNames x; refine (fun (hx : Evolves rst dev0 x) => ?_) ?_; clear_value x; rotate_left
       subst x; rotate_right)
    | (extract_lets +onlyGivenNames x; subst x) | (dsimp -zeta only)

theorem Dev.noteTrailer_ev {rst : Bool} {dev0 : Dev} (d : Dev) (p : Nat) (lan : Nat) (h0 : Evolves rst dev0 d) : Evolves rst dev0
    (Dev.noteTrailer d p lan) := by
  unfold Dev.noteTrailer
  repeat' first
    | (with_reducible first | assumption | apply Dev.setB_ev | apply Dev.modPort_ev | apply Dev.inc_ev | apply ite_ev)
    | intro _
    | (extract_lets +onlyGivenNames x; refine (fun (hx : Evolves rst dev0 x) => ?_) ?_; clear_value x; rotate_left
       subst x; rotate_right)
    | (extract_lets +onlyGivenNames x; subst x) | (dsimp -zeta only)

theorem Dev.redundancy_ev {rst : Bool} {dev0 : Dev} (d : Dev) (f : RxFrame) (telegram : Bool) (k : Dev → Dev) (h0 : Evolves rst dev0 d)
    (h3 : ∀ x0, Evolves rst dev0 x0 → Evolves rst dev0 (k x0)) : Evolves rst dev0 (Dev.redundancy d f telegram k) := by
  unfold Dev.redundancy
  repeat' first
    | (with_reducible first | assumption | apply h3 | apply Dev.noteTrailer_ev | apply Dev.inc_ev | apply Dev.noteFirst_ev)
    | (with_reducible first | apply ite_ev)
    | intro _
    | (extract_lets +onlyGivenNames x; refine (fun (hx : Evolves rst dev0 x) => ?_) ?_; clear_value x; rotate_left
       subst x; rotate_right)
    | (extract_lets +onlyGivenNames x; subst x) | split

theorem Dev.rxAny_ev {rst : Bool} {dev0 : Dev} (d : Dev) (f : RxFrame) (telegram : Bool) (k : Dev → Dev) (h0 : Evolves rst dev0 d) (h3 : ∀
    x0, Evolves rst dev0 x0 → Evolves rst dev0 (k x0)) : Evolves rst dev0 (Dev.rxAny d f telegram k) := by
  unfold Dev.rxAny
  repeat' first
    | (with_reducible first | assumption | apply h3 | apply Dev.advanceTo_ev | apply Dev.inc_ev | apply Dev.redundancy_ev)
    | (with_reducible first | apply ite_ev)
    | intro _
    | (extract_lets +onlyGivenNames x; refine (fun (hx : Evolves rst dev0 x) => ?_) ?_; clear_value x; rotate_left
       subst x; rotate_right)
    | (extract_lets +onlyGivenNames x; subst x)

theorem Dev.rxFrame_ev {rst : Bool} {dev0 : Dev} (d : Dev) (f : RxFrame) (k : Dev → Dev) (h0 : Evolves rst dev0 d) (h2 : ∀ x0, Evolves rst
    dev0 x0 → Evolves rst dev0 (k x0)) : Evolves rst dev0 (Dev.rxFrame d f k) := by
  unfold Dev.rxFrame
  repeat' first
    | (with_reducible first | assumption | apply h2 | apply Dev.rxAny_ev)

theorem Dev.outboxPut_ev {rst : Bool} {dev0 : Dev} (d : Dev) (f : Bytes) (h0 : Evolves rst dev0 d) : Evolves rst dev0 (Dev.outboxPut d f) := by
  unfold Dev.outboxPut
  repeat' first
    | (with_reducible first | assumption | apply ite_ev)
    | (with_reducible apply push_ev <;> with_reducible assumption) | intro _ | (extract_lets +onlyGivenNames x; subst x)

theorem Dev.reply_ev {rst : Bool} {dev0 : Dev} (d : Dev) (q : Req) (f : Bytes) (h0 : Evolves rst dev0 d) : Evolves rst dev0 (Dev.reply d q
    f) := by
  unfold Dev.reply
  repeat' first
    | (with_reducible first | assumption | apply Dev.sendPair_ev | apply Dev.outboxPut_ev | apply Dev.bxSend_ev)
    | (extract_lets +onlyGivenNames x; refine (fun (hx : Evolves rst dev0 x) => ?_) ?_; clear_value x; rotate_left
       subst x; rotate_right)
    | (extract_lets +onlyGivenNames x; subst x) | split

theorem Dev.respond_ev {rst : Bool} {dev0 : Dev} (d : Dev) (q : Req) (key : Option Bytes) (status : Nat) (body : Bytes) (last : Bool) (h0
    : Evolves rst dev0 d) : Evolves rst dev0 (Dev.respond d q key status body last) := by
  unfold Dev.respond
  repeat' first
    | (with_reducible first | assumption | apply Dev.reply_ev | apply ite_ev)
    | intro _
    | (extract_lets +onlyGivenNames x; refine (fun (hx : Evolves rst dev0 x) => ?_) ?_; clear_value x; rotate_left
       subst x; rotate_right)
    | (extract_lets +onlyGivenNames x; subst x) | split

theorem Dev.setSession_ev {rst : Bool} {dev0 : Dev} (d : Dev) (s : Session) (h0 : Evolves rst dev0 d) : Evolves rst dev0 (Dev.setSession d
    s) := by
  unfold Dev.setSession
  repeat' first
    | (with_reducible first | assumption | apply ite_ev)
    | intro _ | (extract_lets +onlyGivenNames x; subst x) | (dsimp -zeta only)

theorem Dev.endSession_ev {rst : Bool} {dev0 : Dev} (d : Dev) (id : Nat) (h0 : Evolves rst dev0 d) : Evolves rst dev0 (Dev.endSession d
    id) := by
  exact ⟨fun w => ⟨(h0.1 w).1, (h0.1 w).2.1, (h0.1 w).2.2.1, (h0.1 w).2.2.2.1,
    (h0.1 w).2.2.2.2.sublist (List.filter_sublist.map _)⟩, h0.2⟩

theorem Dev.rejectFrame_ev {rst : Bool} {dev0 : Dev} (d : Dev) (h0 : Evolves rst dev0 d) : Evolves rst dev0 (Dev.rejectFrame d) := by
  unfold Dev.rejectFrame
  repeat' first
    | (with_reducible first | assumption)
    | (extract_lets +onlyGivenNames x; subst x)

theorem Dev.carryOut_ev {rst : Bool} {dev0 : Dev} (d : Dev) (q : Req) (key : Option Bytes) (a : Asker) (act : Asker → Dev → Dev × Bytes ×
    Bool) (h0 : Evolves rst dev0 d) (h4 : ∀ x0 x1, Evolves rst dev0 x1 → Evolves rst dev0 ((act x0 x1)).1) : Evolves rst dev0
    (Dev.carryOut d q key a act) := by
  unfold Dev.carryOut
  repeat' first
    | (with_reducible first | assumption | apply h4 | apply Dev.respond_ev | apply ite_ev)
    | intro _
    | (extract_lets +onlyGivenNames x; refine (fun (hx : Evolves rst dev0 x) => ?_) ?_; clear_value x; rotate_left
       subst x; rotate_right)
    | (extract_lets +onlyGivenNames x; subst x)

theorem Dev.request_ev {rst : Bool} {dev0 : Dev} (d : Dev) (q : Req) (act : Asker → Dev → Dev × Bytes × Bool) (h0 : Evolves rst dev0 d)
    (h2 : ∀ x0 x1, Evolves rst dev0 x1 → Evolves rst dev0 ((act x0 x1)).1) : Evolves rst dev0 (Dev.request d q act) := by
  unfold Dev.request
  repeat' first
    | (with_reducible first | assumption | apply h2 | apply Dev.reply_ev | apply Dev.carryOut_ev | apply Dev.rejectFrame_ev)
    | (with_reducible first | apply Dev.setSession_ev | apply ite_ev)
    | intro _
    | (extract_lets +onlyGivenNames x; refine (fun (hx : Evolves rst dev0 x) => ?_) ?_; clear_value x; rotate_left
       subst x; rotate_right)
    | (extract_lets +onlyGivenNames x; subst x) | split

theorem Dev.arrive_ev {rst : Bool} {dev0 : Dev} (d : Dev) (q : Req) (wait : Dev → Dev) (h0 : Evolves rst dev0 d) (h2 : ∀ x0, Evolves rst
    dev0 x0 → Evolves rst dev0 (wait x0)) : Evolves rst dev0 (Dev.arrive d q wait) := by
  unfold Dev.arrive
  repeat' first
    | (with_reducible first | assumption | apply h2 | apply Dev.request_ev | apply Dev.answer_ev | apply ite_ev)
    | intro _
    | (extract_lets +onlyGivenNames x; refine (fun (hx : Evolves rst dev0 x) => ?_) ?_; clear_value x; rotate_left
       subst x; rotate_right)
    | (extract_lets +onlyGivenNames x; subst x) | (dsimp -zeta only)

end Sys2Proof.Machine
end

