-- ==== Sys2Proof/Laws/EvolvesRanging.lean ====
section
/-! SUPPORT. One lemma `<operation>_ev` for each operation of the clocks, the converters, the ledger, shots, ticks, echo extraction, convoys and Drover:
what it answers is reached from wherever its argument is (`Evolves`). The operations that may reset are stated with `true`. -/

namespace Sys2Proof.Machine

theorem Dev.openJudge_ev {rst : Bool} {dev0 : Dev} (d : Dev) (n : Nat) (input : Nat) (down : Bool) (sum : Nat) (cnt : Nat) (h0 : Evolves
    rst dev0 d) : Evolves rst dev0 (Dev.openJudge d n input down sum cnt) := by
  unfold Dev.openJudge
  repeat' first
    | (with_reducible first | assumption | apply Dev.modConv_ev | apply Dev.raise_ev | apply Dev.setBitOf_ev)
    | (with_reducible first | apply ite_ev)
    | intro _
    | (extract_lets +onlyGivenNames x; refine (fun (hx : Evolves rst dev0 x) => ?_) ?_; clear_value x; rotate_left
       subst x; rotate_right)
    | (extract_lets +onlyGivenNames x; subst x) | split | (dsimp -zeta only)

theorem Dev.feedTick_ev {rst : Bool} {dev0 : Dev} (d : Dev) (ws : List Int) (h0 : Evolves rst dev0 d) : Evolves rst dev0 (Dev.feedTick d
    ws) := by
  unfold Dev.feedTick
  repeat' first
    | (with_reducible first | assumption | apply Dev.compFeed_ev | apply foldl_ev | apply some_ev)
    | (with_reducible first | apply Dev.sourceInstant_ev | apply ite_ev | apply foldl_ev1)
    | intro _
    | (extract_lets +onlyGivenNames x; refine (fun (hx : Evolves rst dev0 x) => ?_) ?_; clear_value x; rotate_left
       subst x; rotate_right)
    | (extract_lets +onlyGivenNames x; refine (fun (hx : Evolves rst dev0 x.1) => ?_) ?_; clear_value x; rotate_left
       subst x; rotate_right)
    | (extract_lets +onlyGivenNames x; refine (fun (hx : Evolves rst dev0 x.2) => ?_) ?_; clear_value x; rotate_left
       subst x; rotate_right)
    | (extract_lets +onlyGivenNames x; subst x) | split | (dsimp -zeta only)

theorem Dev.feedEnergy_ev {rst : Bool} {dev0 : Dev} (d : Dev) (k : Nat) (c : Nat) (code : Nat) (h0 : Evolves rst dev0 d) : Evolves rst
    dev0 (Dev.feedEnergy d k c code) := by
  unfold Dev.feedEnergy
  repeat' first
    | (with_reducible first | assumption | apply Dev.compFeed_ev | apply some_ev | apply Dev.sourceInstant_ev)
    | (with_reducible first | apply ite_ev)
    | intro _
    | (extract_lets +onlyGivenNames x; refine (fun (hx : Evolves rst dev0 x) => ?_) ?_; clear_value x; rotate_left
       subst x; rotate_right)
    | (extract_lets +onlyGivenNames x; refine (fun (hx : Evolves rst dev0 x.1) => ?_) ?_; clear_value x; rotate_left
       subst x; rotate_right)
    | (extract_lets +onlyGivenNames x; refine (fun (hx : Evolves rst dev0 x.2) => ?_) ?_; clear_value x; rotate_left
       subst x; rotate_right)
    | (extract_lets +onlyGivenNames x; subst x) | split | (dsimp -zeta only)

theorem Dev.convResume_ev {rst : Bool} {dev0 : Dev} (d : Dev) (n : Nat) (h0 : Evolves rst dev0 d) : Evolves rst dev0 (Dev.convResume d n)
    := by
  unfold Dev.convResume
  repeat' first
    | (with_reducible first | assumption | apply Dev.modConv_ev)
    | intro _
    | (extract_lets +onlyGivenNames x; refine (fun (hx : Evolves rst dev0 x) => ?_) ?_; clear_value x; rotate_left
       subst x; rotate_right)
    | (extract_lets +onlyGivenNames x; subst x) | split | (dsimp -zeta only)

theorem Dev.slotStart_ev {rst : Bool} {dev0 : Dev} (d : Dev) (n : Nat) (a : Nat) (b : Nat) (input : Nat) (gain : Nat) (h0 : Evolves rst
    dev0 d) : Evolves rst dev0 (Dev.slotStart d n a b input gain) := by
  unfold Dev.slotStart
  repeat' first
    | (with_reducible first | assumption | apply Dev.convPass_ev | apply Dev.inc_ev | apply Dev.modConv_ev)
    | (with_reducible first | apply Dev.slotDrop_ev | apply ite_ev)
    | intro _
    | (extract_lets +onlyGivenNames x; refine (fun (hx : Evolves rst dev0 x) => ?_) ?_; clear_value x; rotate_left
       subst x; rotate_right)
    | (extract_lets +onlyGivenNames x; subst x) | split | (dsimp -zeta only)

theorem Dev.clockFault_ev {rst : Bool} {dev0 : Dev} (d : Dev) (h0 : Evolves rst dev0 d) : Evolves rst dev0 (Dev.clockFault d) := by
  unfold Dev.clockFault
  repeat' first
    | (with_reducible first | assumption | apply Dev.hold_ev | apply Dev.raise_ev | apply Dev.setB_ev)
    | (extract_lets +onlyGivenNames x; subst x)

theorem refJudgeWindow_ev {rst : Bool} {dev0 : Dev} (count : Nat) (d : Dev) (h1 : Evolves rst dev0 d) : Evolves rst dev0 (refJudgeWindow
    count d) := by
  unfold refJudgeWindow
  repeat' first
    | (with_reducible first | assumption | apply Dev.set_ev | apply Dev.setB_ev | apply Dev.clockFault_ev | apply ite_ev)
    | intro _
    | (extract_lets +onlyGivenNames x; refine (fun (hx : Evolves rst dev0 x) => ?_) ?_; clear_value x; rotate_left
       subst x; rotate_right)
    | (extract_lets +onlyGivenNames x; subst x)

theorem refJudgeTimeout_ev {rst : Bool} {dev0 : Dev} (d : Dev) (h0 : Evolves rst dev0 d) : Evolves rst dev0 (refJudgeTimeout d) := by
  unfold refJudgeTimeout
  repeat' first
    | (with_reducible first | assumption | apply Dev.raise_ev | apply ite_ev)
    | intro _ | (extract_lets +onlyGivenNames x; subst x)

theorem pllLock_ev {rst : Bool} {dev0 : Dev} (d : Dev) (h0 : Evolves rst dev0 d) : Evolves rst dev0 (pllLock d) := by
  unfold pllLock
  repeat' first
    | (with_reducible first | assumption | apply Dev.dllRuns_ev | apply Dev.each_ev | apply Dev.setB_ev)
    | (with_reducible first | apply ite_ev)
    | intro _
    | (extract_lets +onlyGivenNames x; refine (fun (hx : Evolves rst dev0 x) => ?_) ?_; clear_value x; rotate_left
       subst x; rotate_right)
    | (extract_lets +onlyGivenNames x; subst x) | split | (dsimp -zeta only)

theorem pllLossOfLock_ev {rst : Bool} {dev0 : Dev} (d : Dev) (h0 : Evolves rst dev0 d) : Evolves rst dev0 (pllLossOfLock d) := by
  unfold pllLossOfLock
  repeat' first
    | (with_reducible first | assumption | apply Dev.bxDown_ev | apply Dev.clockFault_ev | apply Dev.dllStops_ev)
    | (with_reducible first | apply Dev.driveGone_ev | apply Dev.each_ev | apply Dev.ethDown_ev | apply Dev.set_ev)
    | (with_reducible first | apply Dev.setB_ev | apply ite_ev)
    | intro _
    | (extract_lets +onlyGivenNames x; refine (fun (hx : Evolves rst dev0 x) => ?_) ?_; clear_value x; rotate_left
       subst x; rotate_right)
    | (extract_lets +onlyGivenNames x; subst x) | split | (dsimp -zeta only)

theorem clockReturn_ev {rst : Bool} {dev0 : Dev} (priv : Bool) (d : Dev) (h1 : Evolves rst dev0 d) : Evolves rst dev0 (clockReturn priv d) := by
  unfold clockReturn
  repeat' first
    | (with_reducible first | assumption | apply Dev.privWrite_ev | apply Dev.set_ev | apply Dev.setB_ev | apply ite_ev)
    | intro _ | (extract_lets +onlyGivenNames x; subst x) | (dsimp -zeta only)

theorem clearFault_ev {rst : Bool} {dev0 : Dev} (priv : Bool) (d : Dev) (h1 : Evolves rst dev0 d) : Evolves rst dev0 (clearFault priv d) := by
  unfold clearFault
  repeat' first
    | (with_reducible first | assumption | apply Dev.privWrite_ev | apply Dev.setB_ev | apply ite_ev)
    | intro _ | (dsimp -zeta only)

theorem logicClockStop_ev {rst : Bool} {dev0 : Dev} (d : Dev) (h0 : Evolves rst dev0 d) : Evolves rst dev0 (logicClockStop d) := by
  unfold logicClockStop
  repeat' first
    | (with_reducible first | assumption | apply Dev.settled_ev)
    | intro _ | (extract_lets +onlyGivenNames x; subst x) | (dsimp -zeta only)

theorem Dev.setGate_ev {rst : Bool} {dev0 : Dev} (d : Dev) (v : Nat) (h0 : Evolves rst dev0 d) : Evolves rst dev0 (Dev.setGate d v) := by
  unfold Dev.setGate
  repeat' first
    | (with_reducible first | assumption | apply Dev.setB_ev | apply Dev.set_ev)
    | intro _
    | (extract_lets +onlyGivenNames x; refine (fun (hx : Evolves rst dev0 x) => ?_) ?_; clear_value x; rotate_left
       subst x; rotate_right)
    | (extract_lets +onlyGivenNames x; subst x) | (dsimp -zeta only)

theorem Dev.gateRefusal_ev {rst : Bool} {dev0 : Dev} (d : Dev) (h0 : Evolves rst dev0 d) : Evolves rst dev0 (Dev.gateRefusal d) := by
  unfold Dev.gateRefusal
  repeat' first
    | (with_reducible first | assumption | apply Dev.raise_ev | apply Dev.setB_ev)

theorem clkGateWrite_ev {rst : Bool} {dev0 : Dev} (via : Via) (v : Word) (d : Dev) (h2 : Evolves rst dev0 d) : Evolves rst dev0
    (clkGateWrite via v d) := by
  unfold clkGateWrite
  repeat' first
    | (with_reducible first | assumption | apply Dev.viaWrite_ev | apply Dev.answer_ev | apply Dev.gateRefusal_ev)
    | (with_reducible first | apply Dev.setGate_ev | apply Dev.when_ev | apply ite_ev)
    | intro _
    | (extract_lets +onlyGivenNames x; refine (fun (hx : Evolves rst dev0 x) => ?_) ?_; clear_value x; rotate_left
       subst x; rotate_right)
    | (extract_lets +onlyGivenNames x; subst x) | (dsimp -zeta only)

theorem Dev.convGate_ev {rst : Bool} {dev0 : Dev} (d : Dev) (blk : Nat) (h0 : Evolves rst dev0 d) : Evolves rst dev0 (Dev.convGate d blk)
    := by
  unfold Dev.convGate
  repeat' first
    | (with_reducible first | assumption | apply Dev.convPass_ev | apply ite_ev)
    | intro _
    | (extract_lets +onlyGivenNames x; refine (fun (hx : Evolves rst dev0 x) => ?_) ?_; clear_value x; rotate_left
       subst x; rotate_right)
    | (extract_lets +onlyGivenNames x; subst x) | split | (dsimp -zeta only)

theorem gateTakesEffect_ev {rst : Bool} {dev0 : Dev} (blk : Fin 29) (d0 : Dev) (h1 : Evolves rst dev0 d0) : Evolves rst dev0
    (gateTakesEffect blk d0) := by
  unfold gateTakesEffect
  repeat' first
    | (with_reducible first | assumption | apply Dev.convGate_ev | apply Dev.dllStops_ev | apply Dev.setB_ev)
    | (with_reducible first | apply Dev.setBitOf_ev | apply Dev.when_ev | apply ite_ev)
    | intro _
    | (extract_lets +onlyGivenNames x; refine (fun (hx : Evolves rst dev0 x) => ?_) ?_; clear_value x; rotate_left
       subst x; rotate_right)
    | (extract_lets +onlyGivenNames x; subst x) | split | (dsimp -zeta only)

theorem ungateComplete_ev {rst : Bool} {dev0 : Dev} (blk : Fin 29) (d : Dev) (h1 : Evolves rst dev0 d) : Evolves rst dev0 (ungateComplete
    blk d) := by
  unfold ungateComplete
  repeat' first
    | (with_reducible first | assumption | apply Dev.convResume_ev | apply Dev.dllRuns_ev | apply Dev.setBitOf_ev)
    | (with_reducible first | apply Dev.when_ev | apply ite_ev)
    | intro _
    | (extract_lets +onlyGivenNames x; refine (fun (hx : Evolves rst dev0 x) => ?_) ?_; clear_value x; rotate_left
       subst x; rotate_right)
    | (extract_lets +onlyGivenNames x; subst x) | split | (dsimp -zeta only)

theorem gatedBlockAccess_ev {rst : Bool} {dev0 : Dev} (blk : Fin 29) (_write : Bool) (d : Dev) (h2 : Evolves rst dev0 d) : Evolves rst
    dev0 (gatedBlockAccess blk _write d) := by
  unfold gatedBlockAccess
  repeat' first
    | (with_reducible first | assumption | apply Dev.gatedHit_ev | apply ite_ev)
    | intro _

theorem Dev.modBridge_ev {rst : Bool} {dev0 : Dev} (d : Dev) (b : Nat) (f : Bridge → Bridge) (h0 : Evolves rst dev0 d) : Evolves rst dev0
    (Dev.modBridge d b f) := by
  unfold Dev.modBridge
  repeat' first
    | (with_reducible first | assumption)
    | intro _
    | (extract_lets +onlyGivenNames x; refine (fun (hx : Evolves rst dev0 x) => ?_) ?_; clear_value x; rotate_left
       subst x; rotate_right)
    | (extract_lets +onlyGivenNames x; subst x) | split | (dsimp -zeta only)

theorem Dev.bridgeError_ev {rst : Bool} {dev0 : Dev} (d : Dev) (b : Nat) (h0 : Evolves rst dev0 d) : Evolves rst dev0 (Dev.bridgeError d
    b) := by
  unfold Dev.bridgeError
  repeat' first
    | (with_reducible first | assumption | apply Dev.modBridge_ev)
    | intro _
    | (extract_lets +onlyGivenNames x; refine (fun (hx : Evolves rst dev0 x) => ?_) ?_; clear_value x; rotate_left
       subst x; rotate_right)
    | (extract_lets +onlyGivenNames x; subst x) | split | (dsimp -zeta only)

theorem bridgePeerReset_ev {rst : Bool} {dev0 : Dev} (b : Fin 12) (d : Dev) (h1 : Evolves rst dev0 d) : Evolves rst dev0 (bridgePeerReset
    b d) := by
  unfold bridgePeerReset
  repeat' first
    | (with_reducible first | assumption | apply Dev.modBridge_ev | apply Dev.raiseIf_ev | apply Dev.setBitOf_ev)
    | intro _
    | (extract_lets +onlyGivenNames x; refine (fun (hx : Evolves rst dev0 x) => ?_) ?_; clear_value x; rotate_left
       subst x; rotate_right)
    | (extract_lets +onlyGivenNames x; subst x) | split | (dsimp -zeta only)

theorem bridgeRelinkDone_ev {rst : Bool} {dev0 : Dev} (b : Fin 12) (d : Dev) (h1 : Evolves rst dev0 d) : Evolves rst dev0
    (bridgeRelinkDone b d) := by
  unfold bridgeRelinkDone
  repeat' first
    | (with_reducible first | assumption | apply Dev.modBridge_ev | apply Dev.setBitOf_ev | apply ite_ev)
    | intro _
    | (extract_lets +onlyGivenNames x; refine (fun (hx : Evolves rst dev0 x) => ?_) ?_; clear_value x; rotate_left
       subst x; rotate_right)
    | (extract_lets +onlyGivenNames x; subst x) | split | (dsimp -zeta only)

theorem Dev.relinkAll_ev {rst : Bool} {dev0 : Dev} (d : Dev) (h0 : Evolves rst dev0 d) : Evolves rst dev0 (Dev.relinkAll d) := by
  unfold Dev.relinkAll
  repeat' first
    | (with_reducible first | assumption | apply bridgeRelinkDone_ev | apply Dev.each_ev | apply ite_ev)
    | intro _
    | (extract_lets +onlyGivenNames x; refine (fun (hx : Evolves rst dev0 x) => ?_) ?_; clear_value x; rotate_left
       subst x; rotate_right)
    | (extract_lets +onlyGivenNames x; subst x) | split | (dsimp -zeta only)

theorem Dev.checkTrim_ev {rst : Bool} {dev0 : Dev} (d : Dev) (h0 : Evolves rst dev0 d) : Evolves rst dev0 (Dev.checkTrim d) := by
  unfold Dev.checkTrim
  repeat' first
    | (with_reducible first | assumption | apply Dev.raiseIf_ev | apply Dev.setB_ev | apply ite_ev)
    | intro _
    | (extract_lets +onlyGivenNames x; refine (fun (hx : Evolves rst dev0 x) => ?_) ?_; clear_value x; rotate_left
       subst x; rotate_right)
    | (extract_lets +onlyGivenNames x; subst x)

theorem Dev.stepRefused_ev {rst : Bool} {dev0 : Dev} (d : Dev) (h0 : Evolves rst dev0 d) : Evolves rst dev0 (Dev.stepRefused d) := by
  unfold Dev.stepRefused
  repeat' first
    | (with_reducible first | assumption | apply Dev.raise_ev | apply Dev.setB_ev)

theorem Dev.resumeSchedule_ev {rst : Bool} {dev0 : Dev} (d : Dev) (h0 : Evolves rst dev0 d) : Evolves rst dev0 (Dev.resumeSchedule d) :=
    by
  unfold Dev.resumeSchedule
  repeat' first
    | (with_reducible first | assumption | apply Dev.scheduleAfter_ev | apply ite_ev)
    | intro _
    | (extract_lets +onlyGivenNames x; refine (fun (hx : Evolves rst dev0 x) => ?_) ?_; clear_value x; rotate_left
       subst x; rotate_right)
    | (extract_lets +onlyGivenNames x; subst x) | split | (dsimp -zeta only)

theorem Dev.offset40_ev {rst : Bool} {dev0 : Dev} (d : Dev) (o : Int) (h0 : Evolves rst dev0 d) : Evolves rst dev0 (Dev.offset40 d o) :=
    by
  unfold Dev.offset40
  repeat' first
    | (with_reducible first | assumption | apply Dev.checkTrim_ev | apply Dev.resumeSchedule_ev | apply Dev.setB_ev)
    | (with_reducible first | apply some_ev | apply Dev.stepRefused_ev | apply ite_ev)
    | intro _
    | (extract_lets +onlyGivenNames x; refine (fun (hx : Evolves rst dev0 x) => ?_) ?_; clear_value x; rotate_left
       subst x; rotate_right)
    | (extract_lets +onlyGivenNames x; subst x) | split | (dsimp -zeta only)

theorem tbNsRead_ev {rst : Bool} {dev0 : Dev} (d : Dev) (h0 : Evolves rst dev0 d) : Evolves rst dev0 (tbNsRead d) := by
  unfold tbNsRead
  repeat' first
    | (with_reducible first | assumption)
    | (extract_lets +onlyGivenNames x; subst x)

theorem tbAdjWrite_ev {rst : Bool} {dev0 : Dev} (priv : Bool) (v : Word) (d : Dev) (h2 : Evolves rst dev0 d) : Evolves rst dev0
    (tbAdjWrite priv v d) := by
  unfold tbAdjWrite
  repeat' first
    | (with_reducible first | assumption | apply Dev.privWrite_ev | apply Dev.offset40_ev)
    | intro _
    | (extract_lets +onlyGivenNames x; refine (fun (hx : Evolves rst dev0 x) => ?_) ?_; clear_value x; rotate_left
       subst x; rotate_right)
    | (extract_lets +onlyGivenNames x; subst x) | (dsimp -zeta only)

theorem tbAdjSecWrite_ev {rst : Bool} {dev0 : Dev} (priv : Bool) (v : Word) (d : Dev) (h2 : Evolves rst dev0 d) : Evolves rst dev0
    (tbAdjSecWrite priv v d) := by
  unfold tbAdjSecWrite
  repeat' first
    | (with_reducible first | assumption | apply Dev.privWrite_ev)
    | intro _ | (extract_lets +onlyGivenNames x; subst x) | (dsimp -zeta only)

theorem tbTrimWrite_ev {rst : Bool} {dev0 : Dev} (via : Via) (v : Word) (d : Dev) (h2 : Evolves rst dev0 d) : Evolves rst dev0
    (tbTrimWrite via v d) := by
  unfold tbTrimWrite
  repeat' first
    | (with_reducible first | assumption | apply Dev.viaWrite_ev | apply Dev.checkTrim_ev | apply Dev.setB_ev)
    | (with_reducible first | apply Dev.set_ev)
    | intro _ | (dsimp -zeta only)

theorem timeSet_ev {rst : Bool} {dev0 : Dev} (role : Role) (sec : Nat) (ns : Nat) (d : Dev) (h3 : Evolves rst dev0 d) : Evolves rst dev0
    (timeSet role sec ns d) := by
  unfold timeSet
  repeat' first
    | (with_reducible first | assumption | apply Dev.roleWrite_ev | apply Dev.answer_ev | apply Dev.offset40_ev | apply ite_ev)
    | intro _ | (extract_lets +onlyGivenNames x; subst x) | (dsimp -zeta only)

theorem Dev.acceptStep_ev {rst : Bool} {dev0 : Dev} (d : Dev) (h0 : Evolves rst dev0 d) : Evolves rst dev0 (Dev.acceptStep d) := by
  unfold Dev.acceptStep
  repeat' first
    | (with_reducible first | assumption | apply Dev.applyStep_ev | apply ite_ev)
    | intro _ | (extract_lets +onlyGivenNames x; subst x)

theorem acceptStep_ev {rst : Bool} {dev0 : Dev} (via : Via) (v : Nat) (d : Dev) (h2 : Evolves rst dev0 d) : Evolves rst dev0 (acceptStep
    via v d) := by
  unfold acceptStep
  repeat' first
    | (with_reducible first | assumption | apply Dev.viaWrite_ev | apply Dev.acceptStep_ev | apply Dev.refuse_ev)
    | (with_reducible first | apply ite_ev)
    | intro _ | (dsimp -zeta only)

theorem slewComplete_ev {rst : Bool} {dev0 : Dev} (d : Dev) (h0 : Evolves rst dev0 d) : Evolves rst dev0 (slewComplete d) := by
  unfold slewComplete
  repeat' first
    | (with_reducible first | assumption | apply Dev.advance_ev | apply Dev.checkTrim_ev | apply none_ev)
    | (with_reducible first | apply some_ev | apply ite_ev)
    | intro _
    | (extract_lets +onlyGivenNames x; refine (fun (hx : Evolves rst dev0 x) => ?_) ?_; clear_value x; rotate_left
       subst x; rotate_right)
    | (extract_lets +onlyGivenNames x; subst x) | split | (dsimp -zeta only)

theorem Dev.dayCounted_ev {rst : Bool} {dev0 : Dev} (d : Dev) (h0 : Evolves rst dev0 d) : Evolves rst dev0 (Dev.dayCounted d) := by
  unfold Dev.dayCounted
  repeat' first
    | (with_reducible first | assumption | apply Dev.checkTrim_ev | apply ite_ev)
    | intro _ | (extract_lets +onlyGivenNames x; subst x)

theorem ageingDayElapsed_ev {rst : Bool} {dev0 : Dev} (d : Dev) (h0 : Evolves rst dev0 d) : Evolves rst dev0 (ageingDayElapsed d) := by
  unfold ageingDayElapsed
  repeat' first
    | (with_reducible first | assumption | apply Dev.dayCounted_ev | apply Dev.advance_ev | apply ite_ev)
    | intro _

theorem Dev.seqStart_ev {rst : Bool} {dev0 : Dev} (d : Dev) (n : Nat) (m : Nat) (h0 : Evolves rst dev0 d) : Evolves rst dev0 (Dev.seqStart
    d n m) := by
  unfold Dev.seqStart
  repeat' first
    | (with_reducible first | assumption | apply Dev.inc_ev | apply Dev.modConv_ev | apply ite_ev)
    | intro _
    | (extract_lets +onlyGivenNames x; refine (fun (hx : Evolves rst dev0 x) => ?_) ?_; clear_value x; rotate_left
       subst x; rotate_right)
    | (extract_lets +onlyGivenNames x; subst x) | (dsimp -zeta only)

theorem Dev.seqSourceOn_ev {rst : Bool} {dev0 : Dev} (d : Dev) (n : Nat) (src : Nat) (h0 : Evolves rst dev0 d) : Evolves rst dev0
    (Dev.seqSourceOn d n src) := by
  unfold Dev.seqSourceOn
  repeat' first
    | (with_reducible first | assumption | apply Dev.each_ev | apply Dev.seqStart_ev | apply ite_ev)
    | intro _ | (dsimp -zeta only)

theorem Dev.seqSource_ev {rst : Bool} {dev0 : Dev} (d : Dev) (src : Nat) (h0 : Evolves rst dev0 d) : Evolves rst dev0 (Dev.seqSource d
    src) := by
  unfold Dev.seqSource
  repeat' first
    | (with_reducible first | assumption | apply Dev.seqSourceOn_ev)

theorem Dev.acqArm_ev {rst : Bool} {dev0 : Dev} (d : Dev) (via : Via) (u : Nat) (h0 : Evolves rst dev0 d) : Evolves rst dev0 (Dev.acqArm d
    via u) := by
  unfold Dev.acqArm
  repeat' first
    | (with_reducible first | assumption | apply Dev.refuse_ev | apply Dev.setB_ev | apply Dev.acqShow_ev)
    | (with_reducible first | apply Dev.modUnit_ev | apply ite_ev)
    | intro _
    | (extract_lets +onlyGivenNames x; refine (fun (hx : Evolves rst dev0 x) => ?_) ?_; clear_value x; rotate_left
       subst x; rotate_right)
    | (extract_lets +onlyGivenNames x; subst x) | (dsimp -zeta only)

theorem adcTimerExpiry_ev {rst : Bool} {dev0 : Dev} (conv : Fin 2) (d : Dev) (h1 : Evolves rst dev0 d) : Evolves rst dev0 (adcTimerExpiry
    conv d) := by
  unfold adcTimerExpiry
  repeat' first
    | (with_reducible first | assumption | apply Dev.seqSourceOn_ev | apply ite_ev)
    | intro _

theorem adcSeqStart_ev {rst : Bool} {dev0 : Dev} (via : Via) (conv : Fin 2) (m : Fin 4) (d : Dev) (h3 : Evolves rst dev0 d) : Evolves rst
    dev0 (adcSeqStart via conv m d) := by
  unfold adcSeqStart
  repeat' first
    | (with_reducible first | assumption | apply Dev.viaBlock_ev | apply Dev.seqStart_ev)
    | intro _ | (dsimp -zeta only)

theorem adcSeqBegin_ev {rst : Bool} {dev0 : Dev} (conv : Fin 2) (m : Fin 4) (d : Dev) (h2 : Evolves rst dev0 d) : Evolves rst dev0
    (adcSeqBegin conv m d) := by
  unfold adcSeqBegin
  repeat' first
    | (with_reducible first | assumption | apply Dev.convPass_ev | apply Dev.cycleTo_ev | apply Dev.inc_ev)
    | (with_reducible first | apply Dev.modConv_ev | apply ite_ev)
    | intro _
    | (extract_lets +onlyGivenNames x; refine (fun (hx : Evolves rst dev0 x) => ?_) ?_; clear_value x; rotate_left
       subst x; rotate_right)
    | (extract_lets +onlyGivenNames x; subst x) | split | (dsimp -zeta only)

theorem Dev.codesFor_ev {rst : Bool} {dev0 : Dev} (d : Dev) (l : List Nat) (n : Nat) (h0 : Evolves rst dev0 d) : Evolves rst dev0
    (Dev.codesFor d l n).2 := by
  induction n generalizing d l with
  | zero => cases l <;> exact h0
  | succ n ih =>
    cases l with
    | nil => exact ih _ _ (Dev.takeFree_ev d 12 h0)
    | cons x t => exact ih d t h0

theorem adcSeqEnd_ev {rst : Bool} {dev0 : Dev} (conv : Fin 2) (m : Fin 4) (samples : List (List Word)) (d : Dev) (h3 : Evolves rst dev0 d)
    : Evolves rst dev0 (adcSeqEnd conv m samples d) := by
  unfold adcSeqEnd
  repeat' first
    | (with_reducible first | assumption | apply Dev.codesFor_ev | apply Dev.convPass_ev | apply Dev.convRest_ev)
    | (with_reducible first | apply Dev.cycleTo_ev | apply foldl_ev | apply Dev.modConv_ev | apply Dev.openJudge_ev)
    | (with_reducible first | apply ite_ev | apply foldl_ev1)
    | intro _
    | (extract_lets +onlyGivenNames x; refine (fun (hx : Evolves rst dev0 x) => ?_) ?_; clear_value x; rotate_left
       subst x; rotate_right)
    | (extract_lets +onlyGivenNames x; refine (fun (hx : Evolves rst dev0 x.1) => ?_) ?_; clear_value x; rotate_left
       subst x; rotate_right)
    | (extract_lets +onlyGivenNames x; refine (fun (hx : Evolves rst dev0 x.2) => ?_) ?_; clear_value x; rotate_left
       subst x; rotate_right)
    | (extract_lets +onlyGivenNames x; subst x) | split | (dsimp -zeta only)

theorem acqArm_ev {rst : Bool} {dev0 : Dev} (via : Via) (u : Fin 4) (d : Dev) (h2 : Evolves rst dev0 d) : Evolves rst dev0 (acqArm via u
    d) := by
  unfold acqArm
  repeat' first
    | (with_reducible first | assumption | apply Dev.viaBlock_ev | apply Dev.acqArm_ev)
    | intro _ | (dsimp -zeta only)

theorem Dev.acqCatch_ev {rst : Bool} {dev0 : Dev} (d : Dev) (u : Nat) (h0 : Evolves rst dev0 d) : Evolves rst dev0 (Dev.acqCatch d u) :=
    by
  unfold Dev.acqCatch
  repeat' first
    | (with_reducible first | assumption | apply Dev.convPass_ev | apply ite_ev)
    | intro _
    | (extract_lets +onlyGivenNames x; refine (fun (hx : Evolves rst dev0 x) => ?_) ?_; clear_value x; rotate_left
       subst x; rotate_right)
    | (extract_lets +onlyGivenNames x; subst x) | split | (dsimp -zeta only)

theorem Dev.acqStop_ev {rst : Bool} {dev0 : Dev} (d : Dev) (u : Nat) (h0 : Evolves rst dev0 d) : Evolves rst dev0 (Dev.acqStop d u) := by
  unfold Dev.acqStop
  repeat' first
    | (with_reducible first | assumption | apply Dev.acqClose_ev | apply Dev.acqComplete_ev | apply Dev.acqShow_ev)
    | (with_reducible first | apply Dev.modUnit_ev | apply ite_ev)
    | intro _
    | (extract_lets +onlyGivenNames x; refine (fun (hx : Evolves rst dev0 x) => ?_) ?_; clear_value x; rotate_left
       subst x; rotate_right)
    | (extract_lets +onlyGivenNames x; subst x) | split | (dsimp -zeta only)

theorem acqDisarm_ev {rst : Bool} {dev0 : Dev} (via : Via) (u : Fin 4) (d : Dev) (h2 : Evolves rst dev0 d) : Evolves rst dev0 (acqDisarm
    via u d) := by
  unfold acqDisarm
  repeat' first
    | (with_reducible first | assumption | apply Dev.acqCatch_ev | apply Dev.acqStop_ev | apply Dev.viaBlock_ev)
    | (with_reducible first | apply ite_ev)
    | intro _
    | (extract_lets +onlyGivenNames x; refine (fun (hx : Evolves rst dev0 x) => ?_) ?_; clear_value x; rotate_left
       subst x; rotate_right)
    | (extract_lets +onlyGivenNames x; subst x) | split | (dsimp -zeta only)

theorem Dev.acqEvent_ev {rst : Bool} {dev0 : Dev} (d : Dev) (u : Nat) (bitsMet : Nat) (h0 : Evolves rst dev0 d) : Evolves rst dev0
    (Dev.acqEvent d u bitsMet) := by
  unfold Dev.acqEvent
  repeat' first
    | (with_reducible first | assumption | apply Dev.acqPend_ev | apply Dev.convPass_ev | apply Dev.cycleTo_ev)
    | (with_reducible first | apply ite_ev)
    | intro _
    | (extract_lets +onlyGivenNames x; refine (fun (hx : Evolves rst dev0 x) => ?_) ?_; clear_value x; rotate_left
       subst x; rotate_right)
    | (extract_lets +onlyGivenNames x; subst x) | split | (dsimp -zeta only)

theorem acqForce_ev {rst : Bool} {dev0 : Dev} (via : Via) (u : Fin 4) (d : Dev) (h2 : Evolves rst dev0 d) : Evolves rst dev0 (acqForce via
    u d) := by
  unfold acqForce
  repeat' first
    | (with_reducible first | assumption | apply Dev.acqEvent_ev | apply Dev.viaBlock_ev)
    | intro _
    | (extract_lets +onlyGivenNames x; refine (fun (hx : Evolves rst dev0 x) => ?_) ?_; clear_value x; rotate_left
       subst x; rotate_right)
    | (extract_lets +onlyGivenNames x; subst x) | split | (dsimp -zeta only)

theorem acqTrigger_ev {rst : Bool} {dev0 : Dev} (u : Fin 4) (bitsMet : Nat) (d : Dev) (h2 : Evolves rst dev0 d) : Evolves rst dev0
    (acqTrigger u bitsMet d) := by
  unfold acqTrigger
  repeat' first
    | (with_reducible first | assumption | apply Dev.acqEvent_ev | apply ite_ev)
    | intro _
    | (extract_lets +onlyGivenNames x; refine (fun (hx : Evolves rst dev0 x) => ?_) ?_; clear_value x; rotate_left
       subst x; rotate_right)
    | (extract_lets +onlyGivenNames x; subst x) | split | (dsimp -zeta only)

theorem Dev.acqRun_ev {rst : Bool} {dev0 : Dev} (d : Dev) (u : Nat) (k : Nat) (h0 : Evolves rst dev0 d) : Evolves rst dev0 (Dev.acqRun d u
    k) := by
  unfold Dev.acqRun
  repeat' first
    | (with_reducible first | assumption | apply Dev.convPass_ev | apply Dev.cycleTo_ev | apply ite_ev)
    | intro _
    | (extract_lets +onlyGivenNames x; refine (fun (hx : Evolves rst dev0 x) => ?_) ?_; clear_value x; rotate_left
       subst x; rotate_right)
    | (extract_lets +onlyGivenNames x; subst x) | split | (dsimp -zeta only)

theorem acqPostWindowEnd_ev {rst : Bool} {dev0 : Dev} (u : Fin 4) (d : Dev) (h1 : Evolves rst dev0 d) : Evolves rst dev0 (acqPostWindowEnd
    u d) := by
  unfold acqPostWindowEnd
  repeat' first
    | (with_reducible first | assumption | apply Dev.acqClose_ev | apply Dev.acqRun_ev | apply ite_ev)
    | intro _
    | (extract_lets +onlyGivenNames x; refine (fun (hx : Evolves rst dev0 x) => ?_) ?_; clear_value x; rotate_left
       subst x; rotate_right)
    | (extract_lets +onlyGivenNames x; subst x) | split | (dsimp -zeta only)

theorem acqRearm_ev {rst : Bool} {dev0 : Dev} (u : Fin 4) (d : Dev) (h1 : Evolves rst dev0 d) : Evolves rst dev0 (acqRearm u d) := by
  unfold acqRearm
  repeat' first
    | (with_reducible first | assumption | apply Dev.acqCatch_ev | apply Dev.acqRun_ev | apply Dev.acqSettle_ev)
    | (with_reducible first | apply Dev.advance_ev | apply ite_ev)
    | intro _
    | (extract_lets +onlyGivenNames x; refine (fun (hx : Evolves rst dev0 x) => ?_) ?_; clear_value x; rotate_left
       subst x; rotate_right)
    | (extract_lets +onlyGivenNames x; subst x) | split | (dsimp -zeta only)

theorem Dev.acqServe_ev {rst : Bool} {dev0 : Dev} (d : Dev) (u : Nat) (k : Nat) (h0 : Evolves rst dev0 d) : Evolves rst dev0 (Dev.acqServe
    d u k) := by
  unfold Dev.acqServe
  repeat' first
    | (with_reducible first | assumption | apply Dev.acqGap_ev | apply Dev.modUnit_ev | apply ite_ev)
    | intro _
    | (extract_lets +onlyGivenNames x; refine (fun (hx : Evolves rst dev0 x) => ?_) ?_; clear_value x; rotate_left
       subst x; rotate_right)
    | (extract_lets +onlyGivenNames x; subst x) | split | (dsimp -zeta only)

theorem acqFifoDrain_ev {rst : Bool} {dev0 : Dev} (u : Fin 4) (n : Nat) (d : Dev) (h2 : Evolves rst dev0 d) : Evolves rst dev0
    (acqFifoDrain u n d) := by
  unfold acqFifoDrain
  repeat' first
    | (with_reducible first | assumption | apply Dev.acqServe_ev | apply Dev.each_ev | apply ite_ev)
    | intro _
    | (extract_lets +onlyGivenNames x; refine (fun (hx : Evolves rst dev0 x) => ?_) ?_; clear_value x; rotate_left
       subst x; rotate_right)
    | (extract_lets +onlyGivenNames x; subst x) | split | (dsimp -zeta only)

theorem Dev.setPulsing_ev {rst : Bool} {dev0 : Dev} (d : Dev) (c : TollChan) (v : Nat) (h0 : Evolves rst dev0 d) : Evolves rst dev0
    (Dev.setPulsing d c v) := by
  unfold Dev.setPulsing
  repeat' first
    | (with_reducible first | assumption)
    | (extract_lets +onlyGivenNames x; subst x) | split

theorem Dev.driveSwitches_ev {rst : Bool} {dev0 : Dev} (d : Dev) (c : TollChan) (h0 : Evolves rst dev0 d) : Evolves rst dev0
    (Dev.driveSwitches d c) := by
  unfold Dev.driveSwitches
  repeat' first
    | (with_reducible first | assumption | apply Dev.modToll_ev | apply Dev.setPulsing_ev)
    | intro _
    | (extract_lets +onlyGivenNames x; refine (fun (hx : Evolves rst dev0 x) => ?_) ?_; clear_value x; rotate_left
       subst x; rotate_right)
    | (extract_lets +onlyGivenNames x; subst x) | (dsimp -zeta only)

theorem Dev.noteEnergised_ev {rst : Bool} {dev0 : Dev} (d : Dev) (h0 : Evolves rst dev0 d) : Evolves rst dev0 (Dev.noteEnergised d) := by
  unfold Dev.noteEnergised
  repeat' first
    | (with_reducible first | assumption | apply Dev.modToll_ev)
    | intro _
    | (extract_lets +onlyGivenNames x; refine (fun (hx : Evolves rst dev0 x) => ?_) ?_; clear_value x; rotate_left
       subst x; rotate_right)
    | (extract_lets +onlyGivenNames x; subst x) | (dsimp -zeta only)

theorem Dev.demandChange_ev {rst : Bool} {dev0 : Dev} (d : Dev) (h0 : Evolves rst dev0 d) : Evolves rst dev0 (Dev.demandChange d) := by
  unfold Dev.demandChange
  repeat' first
    | (with_reducible first | assumption | apply Dev.raise_ev | apply Dev.incidentTrigger_ev | apply ite_ev)
    | intro _
    | (extract_lets +onlyGivenNames x; refine (fun (hx : Evolves rst dev0 x) => ?_) ?_; clear_value x; rotate_left
       subst x; rotate_right)
    | (extract_lets +onlyGivenNames x; subst x) | (dsimp -zeta only)

theorem Dev.islandEval_ev {rst : Bool} {dev0 : Dev} (d : Dev) (l : List TollChan) (h0 : Evolves rst dev0 d) : Evolves rst dev0
    (Dev.islandEval d l) := by
  unfold Dev.islandEval
  repeat' first
    | (with_reducible first | assumption | apply Dev.demandChange_ev | apply Dev.noteEnergised_ev | apply Dev.driveSwitches_ev)
    | (with_reducible first | apply foldl_ev)

theorem Dev.bothEval_ev {rst : Bool} {dev0 : Dev} (d : Dev) (h0 : Evolves rst dev0 d) : Evolves rst dev0 (Dev.bothEval d) := by
  unfold Dev.bothEval
  repeat' first
    | (with_reducible first | assumption | apply Dev.islandEval_ev)

theorem Dev.fieldFrame_ev {rst : Bool} {dev0 : Dev} (d : Dev) (stages : Nat) (h0 : Evolves rst dev0 d) : Evolves rst dev0 (Dev.fieldFrame
    d stages) := by
  unfold Dev.fieldFrame
  repeat' first
    | (with_reducible first | assumption | apply Dev.modToll_ev | apply Dev.raiseIf_ev | apply Dev.add_ev | apply ite_ev)
    | intro _
    | (extract_lets +onlyGivenNames x; refine (fun (hx : Evolves rst dev0 x) => ?_) ?_; clear_value x; rotate_left
       subst x; rotate_right)
    | (extract_lets +onlyGivenNames x; subst x) | (dsimp -zeta only)

theorem Dev.krAdd_ev {rst : Bool} {dev0 : Dev} (d : Dev) (row : Nat) (em : Nat) (eL : Nat) (h0 : Evolves rst dev0 d) : Evolves rst dev0
    (Dev.krAdd d row em eL) := by
  unfold Dev.krAdd
  repeat' first
    | (with_reducible first | assumption)
    | (extract_lets +onlyGivenNames x; subst x)

theorem Dev.ledgerDisagree_ev {rst : Bool} {dev0 : Dev} (d : Dev) (cause : Nat) (h0 : Evolves rst dev0 d) : Evolves rst dev0
    (Dev.ledgerDisagree d cause) := by
  unfold Dev.ledgerDisagree
  repeat' first
    | (with_reducible first | assumption | apply Dev.raise_ev | apply Dev.disarm_ev | apply Dev.set_ev | apply Dev.setB_ev)

theorem Dev.ledgerStage_ev {rst : Bool} {dev0 : Dev} (d : Dev) (h0 : Evolves rst dev0 d) : Evolves rst dev0 (Dev.ledgerStage d) := by
  unfold Dev.ledgerStage
  repeat' first
    | (with_reducible first | assumption | apply Dev.ledgerRefunds_ev | apply Dev.ledgerDisagree_ev | apply ite_ev)
    | intro _
    | (extract_lets +onlyGivenNames x; refine (fun (hx : Evolves rst dev0 x) => ?_) ?_; clear_value x; rotate_left
       subst x; rotate_right)
    | (extract_lets +onlyGivenNames x; subst x) | (dsimp -zeta only)

theorem Dev.armStart_ev {rst : Bool} {dev0 : Dev} (d : Dev) (h0 : Evolves rst dev0 d) : Evolves rst dev0 (Dev.armStart d) := by
  unfold Dev.armStart
  split
  · exact h0
  · rename_i ht
    refine ⟨h0.1, fun _ _ => ?_, h0.2.2⟩
    cases hs : d.st <;> simp_all [DevState.ticks, mayArm]

theorem Dev.armRefused_ev {rst : Bool} {dev0 : Dev} (d : Dev) (h0 : Evolves rst dev0 d) : Evolves rst dev0 (Dev.armRefused d) := by
  unfold Dev.armRefused
  repeat' first
    | (with_reducible first | assumption | apply Dev.raise_ev | apply Dev.set_ev | apply Dev.disarm_ev)
    | (extract_lets +onlyGivenNames x; subst x)

theorem ledgerHoldoffEnd_ev {rst : Bool} {dev0 : Dev} (d : Dev) (h0 : Evolves rst dev0 d) : Evolves rst dev0 (ledgerHoldoffEnd d) := by
  unfold ledgerHoldoffEnd
  repeat' first
    | (with_reducible first | assumption | apply Dev.raise_ev | apply Dev.setB_ev | apply Dev.cycleTo_ev | apply ite_ev)
    | intro _
    | (extract_lets +onlyGivenNames x; refine (fun (hx : Evolves rst dev0 x) => ?_) ?_; clear_value x; rotate_left
       subst x; rotate_right)
    | (extract_lets +onlyGivenNames x; subst x) | split

theorem armHighCheckExpiry_ev {rst : Bool} {dev0 : Dev} (stayedHigh : Bool) (d : Dev) (h1 : Evolves rst dev0 d) : Evolves rst dev0
    (armHighCheckExpiry stayedHigh d) := by
  unfold armHighCheckExpiry
  split
  · exact h1
  · rename_i ha
    split
    · have h2 := Dev.advanceTo_ev d (d.led.armAt + 10000) h1
      refine ⟨h2.1, fun w _ => ?_, h2.2.2⟩
      exact h2.2.1 w (.inr (.inr (by simp only [Dev.advanceTo_led]; omega)))
    · exact Dev.tollFault_ev _ _ (Dev.disarm_ev _ h1)

theorem armLowCheckExpiry_ev {rst : Bool} {dev0 : Dev} (low : Bool) (d : Dev) (h1 : Evolves rst dev0 d) : Evolves rst dev0
    (armLowCheckExpiry low d) := by
  unfold armLowCheckExpiry
  split
  · exact h1
  · rename_i ha
    split
    · exact ⟨h1.1, fun w _ => h1.2.1 w (.inr (.inr (by omega))), h1.2.2⟩
    · exact Dev.armRefused_ev _ h1

theorem armSettleExpiry_ev {rst : Bool} {dev0 : Dev} (d : Dev) (h0 : Evolves rst dev0 d) : Evolves rst dev0 (armSettleExpiry d) := by
  unfold armSettleExpiry
  split
  · exact h0
  · rename_i ha
    have h2 := Dev.advanceTo_ev d (d.led.armAt + 1000 * d.get F.P.armSettle) h0
    exact ⟨h2.1, fun w _ => h2.2.1 w (.inr (.inr (by simp only [Dev.advanceTo_led]; omega))), h2.2.2⟩

theorem emArmReadback_ev {rst : Bool} {dev0 : Dev} (high : Bool) (d : Dev) (h1 : Evolves rst dev0 d) : Evolves rst dev0 (emArmReadback
    high d) := by
  unfold emArmReadback
  repeat' first
    | (with_reducible first | assumption | apply Dev.tollFault_ev | apply Dev.disarm_ev | apply ite_ev)
    | intro _

theorem emFaultRegistered_ev {rst : Bool} {dev0 : Dev} (d : Dev) (h0 : Evolves rst dev0 d) : Evolves rst dev0 (emFaultRegistered d) := by
  unfold emFaultRegistered
  repeat' first
    | (with_reducible first | assumption | apply Dev.raise_ev | apply Dev.inc_ev | apply Dev.setB_ev | apply ite_ev)
    | intro _

theorem emFaultRelease_ev {rst : Bool} {dev0 : Dev} (d : Dev) (h0 : Evolves rst dev0 d) : Evolves rst dev0 (emFaultRelease d) := by
  unfold emFaultRelease
  repeat' first
    | (with_reducible first | assumption | apply Dev.setB_ev | apply ite_ev)
    | intro _ | (extract_lets +onlyGivenNames x; subst x)

theorem Dev.noteRefusal_ev {rst : Bool} {dev0 : Dev} (d : Dev) (badL : Bool) (badP : Bool) (cellL : Nat) (cellP : Nat) (winL : Nat) (winP
    : Nat) (h0 : Evolves rst dev0 d) : Evolves rst dev0 (Dev.noteRefusal d badL badP cellL cellP winL winP) := by
  unfold Dev.noteRefusal
  repeat' first
    | (with_reducible first | assumption | apply Dev.set_ev | apply Dev.raise_ev | apply Dev.inc_ev | apply ite_ev)
    | intro _
    | (extract_lets +onlyGivenNames x; refine (fun (hx : Evolves rst dev0 x) => ?_) ?_; clear_value x; rotate_left
       subst x; rotate_right)
    | (extract_lets +onlyGivenNames x; subst x)

theorem Dev.decideShot_ev {rst : Bool} {dev0 : Dev} (d a : Dev) (f : Fire) (first inL inP : Bool) (h0 : Evolves rst dev0 d) : Evolves rst
    dev0 (Dev.decideShot d a f first inL inP) := by
  unfold Dev.decideShot
  extract_lets +onlyGivenNames lim t az cellL cellP eL eP winL winP okL okP bs logic proc s1 s2 x y
  have hl : logic.enable = d.led.logic.enable := by
    simp only [logic]
    split <;> simp
  have hp : proc.enable = d.led.proc.enable := by
    simp only [proc]
    split <;> simp
  have hy : Evolves rst dev0 y := by
    apply Dev.add_ev
    apply Dev.add_ev
    exact ⟨h0.1, fun w h => h0.2.1 w (by simpa [x, hl, hp] using h), h0.2.2⟩
  clear_value y
  split
  · exact hy
  · exact Dev.noteRefusal_ev _ _ _ _ _ _ _ hy

theorem Dev.decideNext_ev {rst : Bool} {dev0 : Dev} (d : Dev) (inL : Bool) (inP : Bool) (h0 : Evolves rst dev0 d) : Evolves rst dev0
    (Dev.decideNext d inL inP) := by
  unfold Dev.decideNext
  extract_lets +onlyGivenNames a
  clear_value a
  repeat' first
    | (with_reducible first | assumption | apply Dev.decideShot_ev | apply ite_ev)
    | intro _
    | (extract_lets +onlyGivenNames x; refine (fun (hx : Evolves rst dev0 x) => ?_) ?_; clear_value x; rotate_left
       subst x; rotate_right)
    | (extract_lets +onlyGivenNames x; subst x) | split | (dsimp -zeta only)

theorem ledgerDecision_ev {rst : Bool} {dev0 : Dev} (logicInTime : Bool) (procInTime : Bool) (d : Dev) (h2 : Evolves rst dev0 d) : Evolves
    rst dev0 (ledgerDecision logicInTime procInTime d) := by
  unfold ledgerDecision
  repeat' first
    | (with_reducible first | assumption | apply Dev.decideNext_ev | apply Dev.cycleTo_ev | apply ite_ev)
    | intro _

theorem rowSelectEdge_ev {rst : Bool} {dev0 : Dev} (d : Dev) (h0 : Evolves rst dev0 d) : Evolves rst dev0 (rowSelectEdge d) := by
  unfold rowSelectEdge
  extract_lets +onlyGivenNames a
  clear_value a
  repeat' first
    | (with_reducible first | assumption | apply Dev.cycleTo_ev | apply Dev.setB_ev | apply Dev.set_ev | apply ite_ev)
    | intro _
    | (extract_lets +onlyGivenNames x; refine (fun (hx : Evolves rst dev0 x) => ?_) ?_; clear_value x; rotate_left
       subst x; rotate_right)
    | (extract_lets +onlyGivenNames x; subst x) | split

theorem monitorSlotStart_ev {rst : Bool} {dev0 : Dev} (d : Dev) (h0 : Evolves rst dev0 d) : Evolves rst dev0 (monitorSlotStart d) := by
  unfold monitorSlotStart
  extract_lets +onlyGivenNames a
  clear_value a
  repeat' first
    | (with_reducible first | assumption | apply Dev.cycleTo_ev | apply none_ev | apply Dev.slotStart_ev)
    | (with_reducible first | apply some_ev | apply ite_ev)
    | intro _
    | (extract_lets +onlyGivenNames x; refine (fun (hx : Evolves rst dev0 x) => ?_) ?_; clear_value x; rotate_left
       subst x; rotate_right)
    | (extract_lets +onlyGivenNames x; subst x) | split | (dsimp -zeta only)

theorem Dev.prepare_ev {rst : Bool} {dev0 : Dev} (d : Dev) (frame : Bool) (short : Bool) (h0 : Evolves rst dev0 d) : Evolves rst dev0
    (Dev.prepare d frame short) := by
  unfold Dev.prepare
  repeat' first
    | (with_reducible first | assumption | apply Dev.fixBanks_ev | apply Dev.fixDues_ev | apply ite_ev)
    | intro _
    | (extract_lets +onlyGivenNames x; refine (fun (hx : Evolves rst dev0 x) => ?_) ?_; clear_value x; rotate_left
       subst x; rotate_right)
    | (extract_lets +onlyGivenNames x; subst x)

theorem Dev.stageEnergy_ev {rst : Bool} {dev0 : Dev} (d : Dev) (c : Decision) (h0 : Evolves rst dev0 d) : Evolves rst dev0
    (Dev.stageEnergy d c) := by
  unfold Dev.stageEnergy
  repeat' first
    | (with_reducible first | assumption | apply ite_ev)
    | intro _ | (extract_lets +onlyGivenNames x; subst x)

theorem Dev.beginIdle_ev {rst : Bool} {dev0 : Dev} (d : Dev) (j : Nat) (h0 : Evolves rst dev0 d) : Evolves rst dev0 (Dev.beginIdle d j) :=
    by
  unfold Dev.beginIdle
  repeat' first
    | (with_reducible first | assumption | apply Dev.dropDecision_ev | apply Dev.setB_ev | apply Dev.slotDrop_ev)
    | (with_reducible first | apply some_ev | apply ite_ev)
    | intro _
    | (extract_lets +onlyGivenNames x; refine (fun (hx : Evolves rst dev0 x) => ?_) ?_; clear_value x; rotate_left
       subst x; rotate_right)
    | (extract_lets +onlyGivenNames x; subst x) | split | (dsimp -zeta only)

theorem Dev.beginShot_ev {rst : Bool} {dev0 : Dev} (d : Dev) (j : Nat) (f : Option Fire) (h0 : Evolves rst dev0 d) : Evolves rst dev0
    (Dev.beginShot d j f) := by
  unfold Dev.beginShot
  repeat' first
    | (with_reducible first | assumption | apply Dev.inc_ev | apply none_ev | apply Dev.pendRefunds_ev)
    | (with_reducible first | apply Dev.seqSource_ev | apply Dev.set_ev | apply Dev.slotDrop_ev | apply some_ev)
    | (with_reducible first | apply Dev.stageEnergy_ev | apply ite_ev)
    | intro _
    | (extract_lets +onlyGivenNames x; refine (fun (hx : Evolves rst dev0 x) => ?_) ?_; clear_value x; rotate_left
       subst x; rotate_right)
    | (extract_lets +onlyGivenNames x; refine (fun (hx : Evolves rst dev0 x.1) => ?_) ?_; clear_value x; rotate_left
       subst x; rotate_right)
    | (extract_lets +onlyGivenNames x; refine (fun (hx : Evolves rst dev0 x.2) => ?_) ?_; clear_value x; rotate_left
       subst x; rotate_right)
    | (extract_lets +onlyGivenNames x; subst x) | split | (dsimp -zeta only)

theorem Dev.takeAllCarried_ev {rst : Bool} {dev0 : Dev} (d : Dev) (h0 : Evolves rst dev0 d) : Evolves rst dev0 (Dev.takeAllCarried d) := by
  unfold Dev.takeAllCarried
  repeat' first
    | (with_reducible first | assumption | apply Dev.each_ev | apply Dev.takeCarried_ev)
    | intro _ | (extract_lets +onlyGivenNames x; subst x) | split | (dsimp -zeta only)

theorem Dev.markShot_ev {rst : Bool} {dev0 : Dev} (d : Dev) (h0 : Evolves rst dev0 d) : Evolves rst dev0 (Dev.markShot d) := by
  unfold Dev.markShot
  repeat' first
    | (with_reducible first | assumption)
    | intro _
    | (extract_lets +onlyGivenNames x; refine (fun (hx : Evolves rst dev0 x) => ?_) ?_; clear_value x; rotate_left
       subst x; rotate_right)
    | (extract_lets +onlyGivenNames x; subst x) | split | (dsimp -zeta only)

theorem nominalFireEdge_ev {rst : Bool} {dev0 : Dev} (d : Dev) (h0 : Evolves rst dev0 d) : Evolves rst dev0 (nominalFireEdge d) := by
  unfold nominalFireEdge
  repeat' first
    | (with_reducible first | assumption | apply Dev.beginIdle_ev | apply Dev.beginShot_ev | apply Dev.decideNext_ev)
    | (with_reducible first | apply Dev.markShot_ev | apply none_ev | apply Dev.prepare_ev | apply some_ev)
    | (with_reducible first | apply Dev.takeAllCarried_ev | apply ite_ev)
    | intro _
    | (extract_lets +onlyGivenNames x; refine (fun (hx : Evolves rst dev0 x) => ?_) ?_; clear_value x; rotate_left
       subst x; rotate_right)
    | (extract_lets +onlyGivenNames x; refine (fun (hx : Evolves rst dev0 x.1) => ?_) ?_; clear_value x; rotate_left
       subst x; rotate_right)
    | (extract_lets +onlyGivenNames x; refine (fun (hx : Evolves rst dev0 x.2) => ?_) ?_; clear_value x; rotate_left
       subst x; rotate_right)
    | (extract_lets +onlyGivenNames x; subst x) | split | (dsimp -zeta only)

theorem startEdge_ev {rst : Bool} {dev0 : Dev} (convoy : Fin 16) (input : Fin 2) (n : Nat) (q : Fin 64) (d : Dev) (h4 : Evolves rst dev0
    d) : Evolves rst dev0 (startEdge convoy input n q d) := by
  unfold startEdge
  repeat' first
    | (with_reducible first | assumption | apply Dev.modCvy_ev | apply Dev.tisSample_ev | apply Dev.each_ev)
    | (with_reducible first | apply Dev.flushHeld_ev | apply ite_ev)
    | intro _
    | (extract_lets +onlyGivenNames x; refine (fun (hx : Evolves rst dev0 x) => ?_) ?_; clear_value x; rotate_left
       subst x; rotate_right)
    | (extract_lets +onlyGivenNames x; subst x) | split | (dsimp -zeta only)

theorem startWindowClose_ev {rst : Bool} {dev0 : Dev} (d : Dev) (h0 : Evolves rst dev0 d) : Evolves rst dev0 (startWindowClose d) := by
  unfold startWindowClose
  repeat' first
    | (with_reducible first | assumption | apply Dev.cycleTo_ev | apply Dev.faultOn_ev | apply Dev.raise_ev | apply Dev.inc_ev)
    | (with_reducible first | apply ite_ev)
    | intro _
    | (extract_lets +onlyGivenNames x; refine (fun (hx : Evolves rst dev0 x) => ?_) ?_; clear_value x; rotate_left
       subst x; rotate_right)
    | (extract_lets +onlyGivenNames x; subst x) | split

theorem retRisingEdge_ev {rst : Bool} {dev0 : Dev} (ch : Fin 512) (n : Nat) (q : Fin 64) (d : Dev) (h3 : Evolves rst dev0 d) : Evolves rst
    dev0 (retRisingEdge ch n q d) := by
  unfold retRisingEdge
  repeat' first
    | (with_reducible first | assumption | apply Dev.risingEdge_ev | apply ite_ev)
    | intro _ | (extract_lets +onlyGivenNames x; subst x) | split

theorem retFallingEdge_ev {rst : Bool} {dev0 : Dev} (ch : Fin 512) (n : Nat) (q : Fin 64) (d : Dev) (h3 : Evolves rst dev0 d) : Evolves
    rst dev0 (retFallingEdge ch n q d) := by
  unfold retFallingEdge
  repeat' first
    | (with_reducible first | assumption | apply Dev.fallingEdge_ev | apply ite_ev)
    | intro _ | (extract_lets +onlyGivenNames x; subst x) | split

theorem outriderInject_ev {rst : Bool} {dev0 : Dev} (d : Dev) (h0 : Evolves rst dev0 d) : Evolves rst dev0 (outriderInject d) := by
  unfold outriderInject
  repeat' first
    | (with_reducible first | assumption | apply Dev.cycleTo_ev | apply ite_ev)
    | intro _ | (extract_lets +onlyGivenNames x; subst x) | split

theorem Dev.etBegin_ev {rst : Bool} {dev0 : Dev} (d : Dev) (u : Nat) (sh : Shot) (h0 : Evolves rst dev0 d) : Evolves rst dev0 (Dev.etBegin
    d u sh) := by
  unfold Dev.etBegin
  repeat' first
    | (with_reducible first | assumption | apply Dev.incidentTrigger_ev | apply Dev.modUnit_ev | apply Dev.setB_ev)
    | (with_reducible first | apply ite_ev)
    | intro _
    | (extract_lets +onlyGivenNames x; refine (fun (hx : Evolves rst dev0 x) => ?_) ?_; clear_value x; rotate_left
       subst x; rotate_right)
    | (extract_lets +onlyGivenNames x; subst x) | split | (dsimp -zeta only)

theorem Dev.etStep_ev {rst : Bool} {dev0 : Dev} (d : Dev) (sh : Shot) (et : List Nat) (h0 : Evolves rst dev0 d) : Evolves rst dev0
    (Dev.etStep d sh et) := by
  unfold Dev.etStep
  repeat' first
    | (with_reducible first | assumption | apply Dev.acqClose_ev | apply Dev.acqSpill_ev | apply Dev.each_ev)
    | (with_reducible first | apply Dev.etBegin_ev | apply Dev.modUnit_ev | apply ite_ev)
    | intro _
    | (extract_lets +onlyGivenNames x; refine (fun (hx : Evolves rst dev0 x) => ?_) ?_; clear_value x; rotate_left
       subst x; rotate_right)
    | (extract_lets +onlyGivenNames x; subst x) | split | (dsimp -zeta only)

theorem Dev.slotSamples_ev {rst : Bool} {dev0 : Dev} (d : Dev) (sh : Shot) (base : Nat) (fin : Nat) (et : List Nat) (h0 : Evolves rst dev0
    d) : Evolves rst dev0 (Dev.slotSamples d sh base fin et).2 := by
  unfold Dev.slotSamples
  repeat' first
    | (with_reducible first | assumption | apply Dev.freeSamples_ev | apply none_ev | apply some_ev)
    | (with_reducible first | apply ite_ev)
    | intro _
    | (extract_lets +onlyGivenNames x; refine (fun (hx : Evolves rst dev0 x) => ?_) ?_; clear_value x; rotate_left
       subst x; rotate_right)
    | (extract_lets +onlyGivenNames x; refine (fun (hx : Evolves rst dev0 x.1) => ?_) ?_; clear_value x; rotate_left
       subst x; rotate_right)
    | (extract_lets +onlyGivenNames x; refine (fun (hx : Evolves rst dev0 x.2) => ?_) ?_; clear_value x; rotate_left
       subst x; rotate_right)
    | (extract_lets +onlyGivenNames x; subst x) | split | (dsimp -zeta only)
    | (with_reducible apply Follows.mix <;> with_reducible assumption)

theorem Dev.monitorSlot_ev {rst : Bool} {dev0 : Dev} (d : Dev) (sh : Shot) (base : Nat) (fin : Nat) (et : List Nat) (h0 : Evolves rst dev0
    d) : Evolves rst dev0 (Dev.monitorSlot d sh base fin et) := by
  unfold Dev.monitorSlot
  repeat' first
    | (with_reducible first | assumption | apply Dev.cycleTo_ev | apply Dev.slotDone_ev | apply Dev.slotSamples_ev)
    | (with_reducible first | apply ite_ev)
    | intro _
    | (extract_lets +onlyGivenNames x; refine (fun (hx : Evolves rst dev0 x) => ?_) ?_; clear_value x; rotate_left
       subst x; rotate_right)
    | (extract_lets +onlyGivenNames x; refine (fun (hx : Evolves rst dev0 x.1) => ?_) ?_; clear_value x; rotate_left
       subst x; rotate_right)
    | (extract_lets +onlyGivenNames x; refine (fun (hx : Evolves rst dev0 x.2) => ?_) ?_; clear_value x; rotate_left
       subst x; rotate_right)
    | (extract_lets +onlyGivenNames x; subst x) | split | (dsimp -zeta only)

theorem Dev.topUp_ev {rst : Bool} {dev0 : Dev} (d : Dev) (sh : Shot) (em : Nat) (h0 : Evolves rst dev0 d) : Evolves rst dev0 (Dev.topUp d
    sh em) := by
  unfold Dev.topUp
  extract_lets +onlyGivenNames up
  split
  · exact h0
  · exact ⟨h0.1, fun w h => h0.2.1 w (by simpa using h), h0.2.2⟩

theorem monitorEnergyDelivered_ev {rst : Bool} {dev0 : Dev} (base : Nat) (fin : Nat) (et : List Nat) (d : Dev) (h3 : Evolves rst dev0 d) :
    Evolves rst dev0 (monitorEnergyDelivered base fin et d) := by
  unfold monitorEnergyDelivered
  repeat' first
    | (with_reducible first | assumption | apply Dev.etStep_ev | apply Dev.feedEnergy_ev | apply Dev.krAdd_ev)
    | (with_reducible first | apply Dev.monitorSlot_ev | apply none_ev | apply Dev.raiseIf_ev | apply some_ev)
    | (with_reducible first | apply Dev.topUp_ev | apply ite_ev)
    | intro _
    | (extract_lets +onlyGivenNames x; refine (fun (hx : Evolves rst dev0 x) => ?_) ?_; clear_value x; rotate_left
       subst x; rotate_right)
    | (extract_lets +onlyGivenNames x; subst x) | split | (dsimp -zeta only)

theorem Dev.zoneCount_ev {rst : Bool} {dev0 : Dev} (d : Dev) (sh : Shot) (ch : Nat) (h0 : Evolves rst dev0 d) : Evolves rst dev0
    (Dev.zoneCount d sh ch) := by
  unfold Dev.zoneCount
  repeat' first
    | (with_reducible first | assumption | apply Dev.modChan_ev | apply ite_ev)
    | intro _
    | (extract_lets +onlyGivenNames x; refine (fun (hx : Evolves rst dev0 x) => ?_) ?_; clear_value x; rotate_left
       subst x; rotate_right)
    | (extract_lets +onlyGivenNames x; subst x) | (dsimp -zeta only)

theorem shotEnd_ev {rst : Bool} {dev0 : Dev} (d : Dev) (h0 : Evolves rst dev0 d) : Evolves rst dev0 (shotEnd d) := by
  unfold shotEnd
  repeat' first
    | (with_reducible first | assumption | apply Dev.cycleTo_ev | apply Dev.each_ev | apply Dev.endShotChan_ev)
    | (with_reducible first | apply none_ev | apply Dev.slotDrop_ev | apply some_ev | apply Dev.zoneCount_ev)
    | (with_reducible first | apply ite_ev)
    | intro _
    | (extract_lets +onlyGivenNames x; refine (fun (hx : Evolves rst dev0 x) => ?_) ?_; clear_value x; rotate_left
       subst x; rotate_right)
    | (extract_lets +onlyGivenNames x; subst x) | split | (dsimp -zeta only)

theorem Dev.emptyRecord_ev {rst : Bool} {dev0 : Dev} (d : Dev) (ch : Nat) (r : Rec) (h0 : Evolves rst dev0 d) : Evolves rst dev0
    (Dev.emptyRecord d ch r) := by
  unfold Dev.emptyRecord
  repeat' first
    | (with_reducible first | assumption | apply Dev.inc_ev | apply ite_ev)
    | intro _
    | (extract_lets +onlyGivenNames x; refine (fun (hx : Evolves rst dev0 x) => ?_) ?_; clear_value x; rotate_left
       subst x; rotate_right)
    | (extract_lets +onlyGivenNames x; subst x)

theorem Dev.countEchoes_ev {rst : Bool} {dev0 : Dev} (d : Dev) (j : Judged) (h0 : Evolves rst dev0 d) : Evolves rst dev0 (Dev.countEchoes
    d j) := by
  unfold Dev.countEchoes
  repeat' first
    | (with_reducible first | assumption | apply Dev.add_ev)

theorem Dev.fullRecord_ev {rst : Bool} {dev0 : Dev} (d : Dev) (ch : Nat) (r : Rec) (j : Judged) (h0 : Evolves rst dev0 d) : Evolves rst
    dev0 (Dev.fullRecord d ch r j) := by
  unfold Dev.fullRecord
  repeat' first
    | (with_reducible first | assumption | apply Dev.countEchoes_ev)
    | (extract_lets +onlyGivenNames x; refine (fun (hx : Evolves rst dev0 x) => ?_) ?_; clear_value x; rotate_left
       subst x; rotate_right)
    | (extract_lets +onlyGivenNames x; subst x)

theorem Dev.partialRecord_ev {rst : Bool} {dev0 : Dev} (d : Dev) (ch : Nat) (k : Nat) (n : Nat) (h0 : Evolves rst dev0 d) : Evolves rst
    dev0 (Dev.partialRecord d ch k n) := by
  unfold Dev.partialRecord
  repeat' first
    | (with_reducible first | assumption | apply Dev.countEchoes_ev | apply ite_ev)
    | intro _
    | (extract_lets +onlyGivenNames x; refine (fun (hx : Evolves rst dev0 x) => ?_) ?_; clear_value x; rotate_left
       subst x; rotate_right)
    | (extract_lets +onlyGivenNames x; subst x) | split | (dsimp -zeta only)

theorem Dev.missedRecord_ev {rst : Bool} {dev0 : Dev} (d : Dev) (ch : Nat) (h0 : Evolves rst dev0 d) : Evolves rst dev0 (Dev.missedRecord
    d ch) := by
  unfold Dev.missedRecord
  repeat' first
    | (with_reducible first | assumption)
    | intro _
    | (extract_lets +onlyGivenNames x; refine (fun (hx : Evolves rst dev0 x) => ?_) ?_; clear_value x; rotate_left
       subst x; rotate_right)
    | (extract_lets +onlyGivenNames x; subst x) | split | (dsimp -zeta only)

theorem Dev.abandonConvoy_ev {rst : Bool} {dev0 : Dev} (d : Dev) (c : Nat) (h0 : Evolves rst dev0 d) : Evolves rst dev0 (Dev.abandonConvoy
    d c) := by
  unfold Dev.abandonConvoy
  repeat' first
    | (with_reducible first | assumption | apply foldl_ev | apply Dev.missedRecord_ev | apply Dev.partialRecord_ev)
    | (with_reducible first | apply Dev.takeFree_ev | apply ite_ev | apply foldl_ev1)
    | intro _
    | (extract_lets +onlyGivenNames x; refine (fun (hx : Evolves rst dev0 x) => ?_) ?_; clear_value x; rotate_left
       subst x; rotate_right)
    | (extract_lets +onlyGivenNames x; refine (fun (hx : Evolves rst dev0 x.1) => ?_) ?_; clear_value x; rotate_left
       subst x; rotate_right)
    | (extract_lets +onlyGivenNames x; refine (fun (hx : Evolves rst dev0 x.2) => ?_) ?_; clear_value x; rotate_left
       subst x; rotate_right)
    | (extract_lets +onlyGivenNames x; subst x) | split | (dsimp -zeta only)

theorem Dev.recordBoot_ev {rst : Bool} {dev0 : Dev} (d : Dev) (h0 : Evolves rst dev0 d) : Evolves rst dev0 (Dev.recordBoot d) := by
  unfold Dev.recordBoot
  repeat' first
    | (with_reducible first | assumption | apply ite_ev)
    | intro _
    | (extract_lets +onlyGivenNames x; refine (fun (hx : Evolves rst dev0 x) => ?_) ?_; clear_value x; rotate_left
       subst x; rotate_right)
    | (extract_lets +onlyGivenNames x; subst x) | split | (dsimp -zeta only)

theorem Dev.fixAngle_ev {rst : Bool} {dev0 : Dev} (d : Dev) (h0 : Evolves rst dev0 d) : Evolves rst dev0 (Dev.fixAngle d) := by
  unfold Dev.fixAngle
  repeat' first
    | (with_reducible first | assumption | apply ite_ev)
    | intro _
    | (extract_lets +onlyGivenNames x; refine (fun (hx : Evolves rst dev0 x) => ?_) ?_; clear_value x; rotate_left
       subst x; rotate_right)
    | (extract_lets +onlyGivenNames x; subst x)

theorem Dev.takeSnap_ev {rst : Bool} {dev0 : Dev} (d : Dev) (h0 : Evolves rst dev0 d) : Evolves rst dev0 (Dev.takeSnap d) := by
  unfold Dev.takeSnap
  repeat' first
    | (with_reducible first | assumption | apply Dev.setB_ev | apply ite_ev)
    | intro _ | (extract_lets +onlyGivenNames x; subst x)

theorem Dev.abandon_ev {rst : Bool} {dev0 : Dev} (d : Dev) (h0 : Evolves rst dev0 d) : Evolves rst dev0 (Dev.abandon d) := by
  unfold Dev.abandon
  repeat' first
    | (with_reducible first | assumption | apply Dev.abandonConvoy_ev | apply Dev.add_ev | apply Dev.each_ev)
    | (with_reducible first | apply Dev.raise_ev | apply Dev.setB_ev | apply ite_ev)
    | intro _
    | (extract_lets +onlyGivenNames x; refine (fun (hx : Evolves rst dev0 x) => ?_) ?_; clear_value x; rotate_left
       subst x; rotate_right)
    | (extract_lets +onlyGivenNames x; subst x) | split | (dsimp -zeta only)

theorem Dev.retireRecords_ev {rst : Bool} {dev0 : Dev} (d : Dev) (h0 : Evolves rst dev0 d) : Evolves rst dev0 (Dev.retireRecords d) := by
  unfold Dev.retireRecords
  repeat' first
    | (with_reducible first | assumption | apply Dev.abandon_ev | apply Dev.finishStage_ev | apply Dev.sendStages_ev)
    | intro _
    | (extract_lets +onlyGivenNames x; refine (fun (hx : Evolves rst dev0 x) => ?_) ?_; clear_value x; rotate_left
       subst x; rotate_right)
    | (extract_lets +onlyGivenNames x; subst x) | split | (dsimp -zeta only)

theorem Dev.swapBuffers_ev {rst : Bool} {dev0 : Dev} (d : Dev) (h0 : Evolves rst dev0 d) : Evolves rst dev0 (Dev.swapBuffers d) := by
  unfold Dev.swapBuffers
  repeat' first
    | (with_reducible first | assumption | apply Dev.takeSnap_ev)
    | intro _ | (extract_lets +onlyGivenNames x; subst x) | (dsimp -zeta only)

theorem Dev.chanEvents_ev {rst : Bool} {dev0 : Dev} (d : Dev) (before : Dev) (ch : Nat) (h0 : Evolves rst dev0 d) (h1 : Evolves rst dev0
    before) : Evolves rst dev0 (Dev.chanEvents d before ch) := by
  unfold Dev.chanEvents
  repeat' first
    | (with_reducible first | assumption | apply Dev.raiseIf_ev | apply Dev.faultOn_ev | apply Dev.raise_ev | apply ite_ev)
    | intro _
    | (extract_lets +onlyGivenNames x; refine (fun (hx : Evolves rst dev0 x) => ?_) ?_; clear_value x; rotate_left
       subst x; rotate_right)
    | (extract_lets +onlyGivenNames x; subst x)

theorem Dev.cvyTick_ev {rst : Bool} {dev0 : Dev} (d : Dev) (h0 : Evolves rst dev0 d) : Evolves rst dev0 (Dev.cvyTick d) := by
  unfold Dev.cvyTick
  repeat' first
    | (with_reducible first | assumption | apply Dev.set_ev | apply Dev.raiseIf_ev | apply ite_ev | apply foldl_ev)
    | intro _
    | (extract_lets +onlyGivenNames x; refine (fun (hx : Evolves rst dev0 x) => ?_) ?_; clear_value x; rotate_left
       subst x; rotate_right)
    | (extract_lets +onlyGivenNames x; subst x) | (dsimp -zeta only)

theorem Dev.channelsTick_ev {rst : Bool} {dev0 : Dev} (d : Dev) (h0 : Evolves rst dev0 d) : Evolves rst dev0 (Dev.channelsTick d) := by
  unfold Dev.channelsTick
  extract_lets +onlyGivenNames listen clut armed x1 x2
  have h1 : Evolves rst dev0 x1 := h0
  clear_value x1
  have h2 : Evolves rst dev0 x2 := h1
  clear_value x2
  exact Dev.cvyTick_ev _ (Dev.each_ev _ _ _ h2 fun y c hy => Dev.chanEvents_ev _ _ _ hy h0)

theorem Dev.loadTargets_ev {rst : Bool} {dev0 : Dev} (d : Dev) (k : Nat) (h0 : Evolves rst dev0 d) : Evolves rst dev0 (Dev.loadTargets d
    k) := by
  unfold Dev.loadTargets
  repeat' first
    | (with_reducible first | assumption | apply ite_ev)
    | intro _
    | (extract_lets +onlyGivenNames x; refine (fun (hx : Evolves rst dev0 x) => ?_) ?_; clear_value x; rotate_left
       subst x; rotate_right)
    | (extract_lets +onlyGivenNames x; subst x)

theorem Dev.applyLevel_ev {rst : Bool} {dev0 : Dev} (d : Dev) (h0 : Evolves rst dev0 d) : Evolves rst dev0 (Dev.applyLevel d) := by
  unfold Dev.applyLevel
  repeat' first
    | (with_reducible first | assumption | apply Dev.raise_ev | apply Dev.set_ev | apply ite_ev)
    | intro _ | (extract_lets +onlyGivenNames x; subst x)

theorem Dev.restCalibrate_ev {rst : Bool} {dev0 : Dev} (d : Dev) (c : Nat) (h0 : Evolves rst dev0 d) : Evolves rst dev0 (Dev.restCalibrate
    d c) := by
  unfold Dev.restCalibrate
  repeat' first
    | (with_reducible first | assumption | apply Dev.setB_ev | apply Dev.modCvy_ev | apply Dev.restStart_ev | apply ite_ev)
    | intro _ | (extract_lets +onlyGivenNames x; subst x) | (dsimp -zeta only)

theorem Dev.startRests_ev {rst : Bool} {dev0 : Dev} (d : Dev) (h0 : Evolves rst dev0 d) : Evolves rst dev0 (Dev.startRests d) := by
  unfold Dev.startRests
  repeat' first
    | (with_reducible first | assumption | apply Dev.each_ev | apply Dev.restCalibrate_ev | apply Dev.restStart_ev)
    | (with_reducible first | apply ite_ev)
    | intro _
    | (extract_lets +onlyGivenNames x; refine (fun (hx : Evolves rst dev0 x) => ?_) ?_; clear_value x; rotate_left
       subst x; rotate_right)
    | (extract_lets +onlyGivenNames x; subst x) | (dsimp -zeta only)

theorem Dev.beginStage_ev {rst : Bool} {dev0 : Dev} (d : Dev) (k : Nat) (h0 : Evolves rst dev0 d) : Evolves rst dev0 (Dev.beginStage d k)
    := by
  unfold Dev.beginStage
  repeat' first
    | (with_reducible first | assumption | apply Dev.clutDue_ev | apply Dev.freeBanks_ev | apply Dev.freeDues_ev)
    | (with_reducible first | apply Dev.loadTargets_ev | apply Dev.snapStage_ev | apply Dev.stage_ev | apply ite_ev)
    | intro _
    | (extract_lets +onlyGivenNames x; refine (fun (hx : Evolves rst dev0 x) => ?_) ?_; clear_value x; rotate_left
       subst x; rotate_right)
    | (extract_lets +onlyGivenNames x; subst x) | split | (dsimp -zeta only)

theorem Dev.bxBlock_ev {rst : Bool} {dev0 : Dev} (d : Dev) (p : Nat) (ty : Nat) (payload : Nat) (h0 : Evolves rst dev0 d) : Evolves rst
    dev0 (Dev.bxBlock d p ty payload) := by
  unfold Dev.bxBlock
  repeat' first
    | (with_reducible first | assumption | apply Dev.modBx_ev | apply ite_ev)
    | intro _ | (extract_lets +onlyGivenNames x; subst x) | (dsimp -zeta only)

theorem Dev.tickOut_ev {rst : Bool} {dev0 : Dev} (d : Dev) (frame : Bool) (k : Nat) (h0 : Evolves rst dev0 d) : Evolves rst dev0
    (Dev.tickOut d frame k) := by
  unfold Dev.tickOut
  repeat' first
    | (with_reducible first | assumption | apply Dev.bxBlock_ev | apply ite_ev)
    | intro _

theorem Dev.foreignEvent_ev {rst : Bool} {dev0 : Dev} (d : Dev) (h0 : Evolves rst dev0 d) : Evolves rst dev0 (Dev.foreignEvent d) := by
  unfold Dev.foreignEvent
  repeat' first
    | (with_reducible first | assumption | apply Dev.raiseIf_ev)
    | (extract_lets +onlyGivenNames x; refine (fun (hx : Evolves rst dev0 x) => ?_) ?_; clear_value x; rotate_left
       subst x; rotate_right)
    | (extract_lets +onlyGivenNames x; subst x)

theorem Dev.countStage_ev {rst : Bool} {dev0 : Dev} (d : Dev) (h0 : Evolves rst dev0 d) : Evolves rst dev0 (Dev.countStage d) := by
  unfold Dev.countStage
  repeat' first
    | (with_reducible first | assumption | apply ite_ev)
    | intro _ | (extract_lets +onlyGivenNames x; subst x) | (dsimp -zeta only)

theorem Dev.stageEnded_ev {rst : Bool} {dev0 : Dev} (d : Dev) (i : StageInfo) (start : Nat) (h0 : Evolves rst dev0 d) : Evolves rst dev0
    (Dev.stageEnded d i start) := by
  unfold Dev.stageEnded
  repeat' first
    | (with_reducible first | assumption)
    | intro _ | (extract_lets +onlyGivenNames x; subst x) | (dsimp -zeta only)

theorem Dev.filterSwap_ev {rst : Bool} {dev0 : Dev} (d : Dev) (c : Nat) (h0 : Evolves rst dev0 d) : Evolves rst dev0 (Dev.filterSwap d c) := by
  unfold Dev.filterSwap
  repeat' first
    | (with_reducible first | assumption | apply Dev.swapBank_ev | apply ite_ev)
    | intro _

theorem Dev.filterSwaps_ev {rst : Bool} {dev0 : Dev} (d : Dev) (h0 : Evolves rst dev0 d) : Evolves rst dev0 (Dev.filterSwaps d) := by
  unfold Dev.filterSwaps
  repeat' first
    | (with_reducible first | assumption | apply Dev.each_ev | apply Dev.filterSwap_ev | apply ite_ev)
    | intro _
    | (extract_lets +onlyGivenNames x; refine (fun (hx : Evolves rst dev0 x) => ?_) ?_; clear_value x; rotate_left
       subst x; rotate_right)
    | (extract_lets +onlyGivenNames x; subst x) | split | (dsimp -zeta only)

theorem Dev.stageSwap_ev {rst : Bool} {dev0 : Dev} (d : Dev) (h0 : Evolves rst dev0 d) : Evolves rst dev0 (Dev.stageSwap d) := by
  unfold Dev.stageSwap
  repeat' first
    | (with_reducible first | assumption | apply Dev.fixAngle_ev | apply Dev.filterSwaps_ev | apply Dev.stageEnded_ev)
    | (with_reducible first | apply Dev.swapBuffers_ev | apply Dev.channelsTick_ev | apply Dev.retireRecords_ev)
    | (with_reducible first | apply Dev.countStage_ev | apply Dev.foreignEvent_ev)
    | (extract_lets +onlyGivenNames x; subst x)

theorem Dev.stageMarks_ev {rst : Bool} {dev0 : Dev} (d : Dev) (h0 : Evolves rst dev0 d) : Evolves rst dev0 (Dev.stageMarks d) := by
  unfold Dev.stageMarks
  repeat' first
    | (with_reducible first | assumption)
    | (extract_lets +onlyGivenNames x; subst x)

theorem Dev.stageWork_ev {rst : Bool} {dev0 : Dev} (d : Dev) (h0 : Evolves rst dev0 d) : Evolves rst dev0 (Dev.stageWork d) := by
  unfold Dev.stageWork
  repeat' first
    | (with_reducible first | assumption | apply Dev.applyDue_ev | apply Dev.applyLevel_ev | apply Dev.commitPoint_ev)
    | (with_reducible first | apply Dev.ledgerStage_ev | apply Dev.seqSource_ev | apply Dev.stage_ev | apply Dev.stageMarks_ev)
    | (with_reducible first | apply Dev.stageSwap_ev | apply Dev.startRests_ev | apply Dev.stopStreams_ev | apply ite_ev)
    | intro _
    | (extract_lets +onlyGivenNames x; refine (fun (hx : Evolves rst dev0 x) => ?_) ?_; clear_value x; rotate_left
       subst x; rotate_right)
    | (extract_lets +onlyGivenNames x; subst x) | split | (dsimp -zeta only)

theorem Dev.gotoAtTick_ev {rst : Bool} {dev0 : Dev} (d : Dev) (st : DevState) (h0 : Evolves rst dev0 d) : Evolves rst dev0 (Dev.gotoAtTick
    d st) := by
  unfold Dev.gotoAtTick
  repeat' first
    | (with_reducible first | assumption | apply Dev.goto_ev | apply some_ev | apply ite_ev)
    | intro _
    | (extract_lets +onlyGivenNames x; refine (fun (hx : Evolves rst dev0 x) => ?_) ?_; clear_value x; rotate_left
       subst x; rotate_right)
    | (extract_lets +onlyGivenNames x; subst x) | split | (dsimp -zeta only)

theorem Dev.turnDegraded_ev {rst : Bool} {dev0 : Dev} (d : Dev) (h0 : Evolves rst dev0 d) : Evolves rst dev0 (Dev.turnDegraded d) := by
  unfold Dev.turnDegraded
  repeat' first
    | (with_reducible first | assumption | apply Dev.gotoAtTick_ev | apply ite_ev)
    | intro _
    | (extract_lets +onlyGivenNames x; refine (fun (hx : Evolves rst dev0 x) => ?_) ?_; clear_value x; rotate_left
       subst x; rotate_right)
    | (extract_lets +onlyGivenNames x; subst x) | split | (dsimp -zeta only)

theorem Dev.countSkip_ev {rst : Bool} {dev0 : Dev} (d : Dev) (own : Nat) (h0 : Evolves rst dev0 d) : Evolves rst dev0 (Dev.countSkip d
    own) := by
  unfold Dev.countSkip
  repeat' first
    | (with_reducible first | assumption | apply Dev.add_ev)
    | intro _
    | (extract_lets +onlyGivenNames x; refine (fun (hx : Evolves rst dev0 x) => ?_) ?_; clear_value x; rotate_left
       subst x; rotate_right)
    | (extract_lets +onlyGivenNames x; subst x) | split | (dsimp -zeta only)

theorem Dev.stageNext_ev {rst : Bool} {dev0 : Dev} (d : Dev) (h0 : Evolves rst dev0 d) : Evolves rst dev0 (Dev.stageNext d) := by
  unfold Dev.stageNext
  repeat' first
    | (with_reducible first | assumption | apply Dev.beginStage_ev | apply Dev.countSkip_ev | apply Dev.stage_ev)
    | (with_reducible first | apply Dev.swapFixed_ev | apply Dev.tickOut_ev | apply Dev.turnDegraded_ev | apply ite_ev)
    | intro _
    | (extract_lets +onlyGivenNames x; refine (fun (hx : Evolves rst dev0 x) => ?_) ?_; clear_value x; rotate_left
       subst x; rotate_right)
    | (extract_lets +onlyGivenNames x; subst x) | split | (dsimp -zeta only)

theorem Dev.lockFrame_ev {rst : Bool} {dev0 : Dev} (d : Dev) (h0 : Evolves rst dev0 d) : Evolves rst dev0 (Dev.lockFrame d) := by
  unfold Dev.lockFrame
  repeat' first
    | (with_reducible first | assumption | apply Dev.prepare_ev | apply ite_ev)
    | intro _

theorem Dev.stageTurn_ev {rst : Bool} {dev0 : Dev} (d : Dev) (h0 : Evolves rst dev0 d) : Evolves rst dev0 (Dev.stageTurn d) := by
  unfold Dev.stageTurn
  repeat' first
    | (with_reducible first | assumption | apply Dev.stageNext_ev | apply Dev.stageWork_ev)

theorem stageTick_ev {rst : Bool} {dev0 : Dev} (d : Dev) (h0 : Evolves rst dev0 d) : Evolves rst dev0 (stageTick d) := by
  unfold stageTick
  repeat' first
    | (with_reducible first | assumption | apply Dev.settled_ev | apply Dev.lockFrame_ev | apply Dev.stageTurn_ev)
    | (with_reducible first | apply ite_ev)
    | intro _

theorem Dev.frameWrites_ev {rst : Bool} {dev0 : Dev} (d : Dev) (h0 : Evolves rst dev0 d) : Evolves rst dev0 (Dev.frameWrites d) := by
  unfold Dev.frameWrites
  repeat' first
    | (with_reducible first | assumption | apply Dev.commitPoint_ev | apply Dev.set_ev | apply ite_ev)
    | intro _
    | (extract_lets +onlyGivenNames x; refine (fun (hx : Evolves rst dev0 x) => ?_) ?_; clear_value x; rotate_left
       subst x; rotate_right)
    | (extract_lets +onlyGivenNames x; subst x) | (dsimp -zeta only)

theorem Dev.checkpoint_ev {rst : Bool} {dev0 : Dev} (d : Dev) (h0 : Evolves rst dev0 d) : Evolves rst dev0 (Dev.checkpoint d) := by
  unfold Dev.checkpoint
  repeat' first
    | (with_reducible first | assumption)
    | intro _ | (extract_lets +onlyGivenNames x; subst x) | (dsimp -zeta only)

theorem Dev.tollPending_ev {rst : Bool} {dev0 : Dev} (d : Dev) (h0 : Evolves rst dev0 d) : Evolves rst dev0 (Dev.tollPending d) := by
  unfold Dev.tollPending
  repeat' first
    | (with_reducible first | assumption | apply Dev.raise_ev | apply Dev.setB_ev | apply ite_ev)
    | intro _

theorem Dev.handoverPass_ev {rst : Bool} {dev0 : Dev} (d : Dev) (h0 : Evolves rst dev0 d) : Evolves rst dev0 (Dev.handoverPass d) := by
  unfold Dev.handoverPass
  repeat' first
    | (with_reducible first | assumption | apply Dev.raise_ev | apply Dev.recordBoot_ev | apply Dev.set_ev)
    | (with_reducible first | apply Dev.setB_ev | apply Dev.tollPending_ev | apply ite_ev)
    | intro _
    | (extract_lets +onlyGivenNames x; refine (fun (hx : Evolves rst dev0 x) => ?_) ?_; clear_value x; rotate_left
       subst x; rotate_right)
    | (extract_lets +onlyGivenNames x; subst x) | split | (dsimp -zeta only)

theorem Dev.frameTransition_ev {rst : Bool} {dev0 : Dev} (d : Dev) (h0 : Evolves rst dev0 d) : Evolves rst dev0 (Dev.frameTransition d) :=
    by
  unfold Dev.frameTransition
  repeat' first
    | (with_reducible first | assumption | apply Dev.gotoAtTick_ev | apply none_ev | apply some_ev)
    | (with_reducible first | apply Dev.turnDegraded_ev | apply ite_ev)
    | intro _
    | (extract_lets +onlyGivenNames x; refine (fun (hx : Evolves rst dev0 x) => ?_) ?_; clear_value x; rotate_left
       subst x; rotate_right)
    | (extract_lets +onlyGivenNames x; subst x) | split | (dsimp -zeta only)

theorem frameTick_ev {rst : Bool} {dev0 : Dev} (d : Dev) (h0 : Evolves rst dev0 d) : Evolves rst dev0 (frameTick d) := by
  unfold frameTick
  repeat' first
    | (with_reducible first | assumption | apply Dev.applyReturns_ev | apply Dev.applyStep_ev | apply Dev.beginStage_ev)
    | (with_reducible first | apply Dev.bothEval_ev | apply Dev.checkpoint_ev | apply Dev.countSkip_ev | apply Dev.endRests_ev)
    | (with_reducible first | apply Dev.fieldFrame_ev | apply Dev.frameTransition_ev | apply Dev.frameWrites_ev | apply Dev.handoverPass_ev)
    | (with_reducible first | apply Dev.raiseIf_ev | apply Dev.scheduleNext_ev | apply Dev.settled_ev | apply Dev.startRests_ev)
    | (with_reducible first | apply Dev.startStreams_ev | apply Dev.swapFixed_ev | apply ite_ev)
    | intro _
    | (extract_lets +onlyGivenNames x; refine (fun (hx : Evolves rst dev0 x) => ?_) ?_; clear_value x; rotate_left
       subst x; rotate_right)
    | (extract_lets +onlyGivenNames x; subst x) | split | (dsimp -zeta only)

theorem frameSyncOutEnd_ev {rst : Bool} {dev0 : Dev} (d : Dev) (h0 : Evolves rst dev0 d) : Evolves rst dev0 (frameSyncOutEnd d) := by
  unfold frameSyncOutEnd
  repeat' first
    | (with_reducible first | assumption | apply ite_ev)
    | intro _ | (extract_lets +onlyGivenNames x; subst x)

theorem Dev.paceEvent_ev {rst : Bool} {dev0 : Dev} (d : Dev) (h0 : Evolves rst dev0 d) : Evolves rst dev0 (Dev.paceEvent d) := by
  unfold Dev.paceEvent
  repeat' first
    | (with_reducible first | assumption | apply ite_ev)
    | intro _ | (extract_lets +onlyGivenNames x; subst x)

theorem frameSyncInEdge_ev {rst : Bool} {dev0 : Dev} (t : Nat) (d : Dev) (h1 : Evolves rst dev0 d) : Evolves rst dev0 (frameSyncInEdge t
    d) := by
  unfold frameSyncInEdge
  repeat' first
    | (with_reducible first | assumption | apply Dev.advanceTo_ev | apply Dev.paceEvent_ev | apply ite_ev)
    | intro _
    | (extract_lets +onlyGivenNames x; refine (fun (hx : Evolves rst dev0 x) => ?_) ?_; clear_value x; rotate_left
       subst x; rotate_right)
    | (extract_lets +onlyGivenNames x; subst x) | (dsimp -zeta only)

theorem Dev.reachNs_ev {rst : Bool} {dev0 : Dev} (d : Dev) (t : Nat) (h0 : Evolves rst dev0 d) : SomeEv rst dev0 (Dev.reachNs d t) := by
  unfold Dev.reachNs
  repeat' first
    | (with_reducible first | assumption | apply Dev.advance_ev | apply none_ev | apply some_ev)
    | (with_reducible first | apply ite_ev | apply iteSome_ev)
    | intro _
    | (extract_lets +onlyGivenNames x; refine (fun (hx : Evolves rst dev0 x) => ?_) ?_; clear_value x; rotate_left
       subst x; rotate_right)
    | (extract_lets +onlyGivenNames x; subst x) | split | (dsimp -zeta only)
    | (with_reducible apply Follows.mix <;> with_reducible assumption)

theorem scheduleInstant_ev {rst : Bool} {dev0 : Dev} (d : Dev) (h0 : Evolves rst dev0 d) : Evolves rst dev0 (scheduleInstant d) := by
  unfold scheduleInstant
  split
  · exact h0
  · split
    · split
      · rename_i d1 e
        have h1 := SomeEv.get (Dev.reachNs_ev d _ h0) e
        exact Dev.paceEvent_ev _ h1
      · exact h0
    · exact h0

theorem Dev.lockStart_ev {rst : Bool} {dev0 : Dev} (d : Dev) (late : Nat) (h0 : Evolves rst dev0 d) : Evolves rst dev0 (Dev.lockStart d
    late) := by
  unfold Dev.lockStart
  repeat' first
    | (with_reducible first | assumption | apply Dev.add_ev | apply Dev.inc_ev | apply Dev.loadTargets_ev)
    | (with_reducible first | apply Dev.raise_ev | apply Dev.stage_ev | apply ite_ev)
    | intro _
    | (extract_lets +onlyGivenNames x; refine (fun (hx : Evolves rst dev0 x) => ?_) ?_; clear_value x; rotate_left
       subst x; rotate_right)
    | (extract_lets +onlyGivenNames x; subst x) | split | (dsimp -zeta only)

theorem Dev.lockAt_ev {rst : Bool} {dev0 : Dev} (d : Dev) (go : Nat) (h0 : Evolves rst dev0 d) : Evolves rst dev0 (Dev.lockAt d go) := by
  unfold Dev.lockAt
  split
  · exact h0
  · rename_i d0 e
    exact Dev.lockStart_ev _ _ (SomeEv.get (Dev.reachNs_ev d _ h0) e)

theorem stageLockStart_ev {rst : Bool} {dev0 : Dev} (d : Dev) (h0 : Evolves rst dev0 d) : Evolves rst dev0 (stageLockStart d) := by
  unfold stageLockStart
  repeat' first
    | (with_reducible first | assumption | apply Dev.lockAt_ev | apply ite_ev)
    | intro _
    | (extract_lets +onlyGivenNames x; refine (fun (hx : Evolves rst dev0 x) => ?_) ?_; clear_value x; rotate_left
       subst x; rotate_right)
    | (extract_lets +onlyGivenNames x; subst x) | split | (dsimp -zeta only)

theorem tickTimeout_ev {rst : Bool} {dev0 : Dev} (d : Dev) (h0 : Evolves rst dev0 d) : Evolves rst dev0 (tickTimeout d) := by
  unfold tickTimeout
  repeat' first
    | (with_reducible first | assumption | apply Dev.advanceTo_ev | apply Dev.raise_ev | apply Dev.setB_ev | apply ite_ev)
    | intro _
    | (extract_lets +onlyGivenNames x; refine (fun (hx : Evolves rst dev0 x) => ?_) ?_; clear_value x; rotate_left
       subst x; rotate_right)
    | (extract_lets +onlyGivenNames x; subst x)

theorem Dev.drvConfigure_ev {rst : Bool} {dev0 : Dev} (d : Dev) (via : Via) (f : Dev → Dev) (h0 : Evolves rst dev0 d) (h2 : ∀ x0, Evolves
    rst dev0 x0 → Evolves rst dev0 (f x0)) : Evolves rst dev0 (Dev.drvConfigure d via f) := by
  unfold Dev.drvConfigure
  repeat' first
    | (with_reducible first | assumption | apply h2 | apply Dev.projected_ev | apply Dev.refuse_ev | apply Dev.raise_ev)
    | (with_reducible first | apply Dev.setB_ev | apply ite_ev)
    | intro _ | (extract_lets +onlyGivenNames x; subst x)

theorem Dev.drvBands_ev {rst : Bool} {dev0 : Dev} (d : Dev) (h0 : Evolves rst dev0 d) : Evolves rst dev0 (Dev.drvBands d) := by
  unfold Dev.drvBands
  repeat' first
    | (with_reducible first | assumption | apply ite_ev)
    | intro _
    | (extract_lets +onlyGivenNames x; refine (fun (hx : Evolves rst dev0 x) => ?_) ?_; clear_value x; rotate_left
       subst x; rotate_right)
    | (extract_lets +onlyGivenNames x; subst x)

theorem Dev.drvLatch_ev {rst : Bool} {dev0 : Dev} (d : Dev) (h0 : Evolves rst dev0 d) : Evolves rst dev0 (Dev.drvLatch d) := by
  unfold Dev.drvLatch
  repeat' first
    | (with_reducible first | assumption | apply ite_ev)
    | intro _
    | (extract_lets +onlyGivenNames x; refine (fun (hx : Evolves rst dev0 x) => ?_) ?_; clear_value x; rotate_left
       subst x; rotate_right)
    | (extract_lets +onlyGivenNames x; subst x) | split | (dsimp -zeta only)

theorem Dev.numSat_ev {rst : Bool} {dev0 : Dev} (d : Dev) (sat : Bool) (h0 : Evolves rst dev0 d) : Evolves rst dev0 (Dev.numSat d sat) :=
    by
  unfold Dev.numSat
  repeat' first
    | (with_reducible first | assumption | apply Dev.raise_ev | apply Dev.setB_ev | apply ite_ev)
    | intro _
    | (extract_lets +onlyGivenNames x; refine (fun (hx : Evolves rst dev0 x) => ?_) ?_; clear_value x; rotate_left
       subst x; rotate_right)
    | (extract_lets +onlyGivenNames x; subst x) | split | (dsimp -zeta only)

theorem Dev.drvTargets_ev {rst : Bool} {dev0 : Dev} (d : Dev) (h0 : Evolves rst dev0 d) : Evolves rst dev0 (Dev.drvTargets d) := by
  unfold Dev.drvTargets
  repeat' first
    | (with_reducible first | assumption | apply ite_ev)
    | intro _
    | (extract_lets +onlyGivenNames x; refine (fun (hx : Evolves rst dev0 x) => ?_) ?_; clear_value x; rotate_left
       subst x; rotate_right)
    | (extract_lets +onlyGivenNames x; subst x)

theorem Dev.drvTrajectory_ev {rst : Bool} {dev0 : Dev} (d : Dev) (entry : Bool) (h0 : Evolves rst dev0 d) : Evolves rst dev0
    (Dev.drvTrajectory d entry) := by
  unfold Dev.drvTrajectory
  repeat' first
    | (with_reducible first | assumption | apply Dev.numSat_ev | apply ite_ev)
    | intro _
    | (extract_lets +onlyGivenNames x; refine (fun (hx : Evolves rst dev0 x) => ?_) ?_; clear_value x; rotate_left
       subst x; rotate_right)
    | (extract_lets +onlyGivenNames x; refine (fun (hx : Evolves rst dev0 x.1) => ?_) ?_; clear_value x; rotate_left
       subst x; rotate_right)
    | (extract_lets +onlyGivenNames x; refine (fun (hx : Evolves rst dev0 x.2) => ?_) ?_; clear_value x; rotate_left
       subst x; rotate_right)
    | (extract_lets +onlyGivenNames x; subst x) | split | (dsimp -zeta only)

theorem Dev.drvInject_ev {rst : Bool} {dev0 : Dev} (d : Dev) (h0 : Evolves rst dev0 d) : Evolves rst dev0 (Dev.drvInject d) := by
  unfold Dev.drvInject
  repeat' first
    | (with_reducible first | assumption | apply ite_ev)
    | intro _
    | (extract_lets +onlyGivenNames x; refine (fun (hx : Evolves rst dev0 x) => ?_) ?_; clear_value x; rotate_left
       subst x; rotate_right)
    | (extract_lets +onlyGivenNames x; subst x)

theorem Dev.drvLock_ev {rst : Bool} {dev0 : Dev} (d : Dev) (ax : List Bool) (h0 : Evolves rst dev0 d) : Evolves rst dev0 (Dev.drvLock d
    ax) := by
  unfold Dev.drvLock
  repeat' first
    | (with_reducible first | assumption | apply Dev.raiseIf_ev | apply Dev.setB_ev | apply Dev.hold_ev | apply Dev.goto_ev)
    | (with_reducible first | apply ite_ev)
    | intro _
    | (extract_lets +onlyGivenNames x; refine (fun (hx : Evolves rst dev0 x) => ?_) ?_; clear_value x; rotate_left
       subst x; rotate_right)
    | (extract_lets +onlyGivenNames x; subst x) | (dsimp -zeta only)

theorem Dev.drvSelect_ev {rst : Bool} {dev0 : Dev} (d : Dev) (h0 : Evolves rst dev0 d) : Evolves rst dev0 (Dev.drvSelect d) := by
  unfold Dev.drvSelect
  repeat' first
    | (with_reducible first | assumption | apply Dev.set_ev | apply Dev.drvTrajectory_ev | apply Dev.drvLock_ev | apply ite_ev)
    | intro _
    | (extract_lets +onlyGivenNames x; refine (fun (hx : Evolves rst dev0 x) => ?_) ?_; clear_value x; rotate_left
       subst x; rotate_right)
    | (extract_lets +onlyGivenNames x; subst x)

theorem droverSenseStart_ev {rst : Bool} {dev0 : Dev} (d : Dev) (h0 : Evolves rst dev0 d) : Evolves rst dev0 (droverSenseStart d) := by
  unfold droverSenseStart
  repeat' first
    | (with_reducible first | assumption | apply Dev.cycleTo_ev | apply Dev.slotStart_ev | apply ite_ev)
    | intro _
    | (extract_lets +onlyGivenNames x; refine (fun (hx : Evolves rst dev0 x) => ?_) ?_; clear_value x; rotate_left
       subst x; rotate_right)
    | (extract_lets +onlyGivenNames x; subst x) | split | (dsimp -zeta only)

theorem Dev.measure_ev {rst : Bool} {dev0 : Dev} (d : Dev) (m : Nat) (words : List Nat) (h0 : Evolves rst dev0 d) : Evolves rst dev0
    (Dev.measure d m words) := by
  unfold Dev.measure
  repeat' first
    | (with_reducible first | assumption | apply Dev.numSat_ev | apply Dev.openJudge_ev | apply ite_ev)
    | intro _
    | (extract_lets +onlyGivenNames x; refine (fun (hx : Evolves rst dev0 x) => ?_) ?_; clear_value x; rotate_left
       subst x; rotate_right)
    | (extract_lets +onlyGivenNames x; subst x) | split | (dsimp -zeta only)

theorem Dev.measureAll_ev {rst : Bool} {dev0 : Dev} (d : Dev) (c : Conv) (m t : Nat) (codes : List (List Nat)) (k : Nat)
    (h0 : Evolves rst dev0 d) : Evolves rst dev0 (Dev.measureAll d c m t codes k).2 := by
  induction k generalizing d c m t codes with
  | zero => exact h0
  | succ k ih => exact ih _ _ _ _ _ (Dev.measure_ev _ _ _ (Dev.codesFor_ev _ _ _ h0))

theorem Dev.measureSlot_ev {rst : Bool} {dev0 : Dev} (d : Dev) (codes : List (List Nat)) (h0 : Evolves rst dev0 d) :
    Evolves rst dev0 (Dev.measureSlot d codes) := Dev.slotDone_ev _ _ _ (Dev.measureAll_ev _ _ _ _ _ _ h0)

theorem Dev.drvLaw_ev {rst : Bool} {dev0 : Dev} (d : Dev) (h0 : Evolves rst dev0 d) : Evolves rst dev0 (Dev.drvLaw d).1 := by
  unfold Dev.drvLaw
  repeat' first
    | (with_reducible first | assumption | apply Dev.numSat_ev | apply Dev.set_ev | apply Dev.setB_ev)
    | (with_reducible first | apply ite_ev)
    | intro _
    | (extract_lets +onlyGivenNames x; refine (fun (hx : Evolves rst dev0 x) => ?_) ?_; clear_value x; rotate_left
       subst x; rotate_right)
    | (extract_lets +onlyGivenNames x; subst x) | split | (dsimp -zeta only)
    | (with_reducible apply Follows.mix <;> with_reducible assumption)

theorem Dev.drvFaults_ev {rst : Bool} {dev0 : Dev} (d : Dev) (e : List Int) (h0 : Evolves rst dev0 d) : Evolves rst dev0 (Dev.drvFaults d
    e).1 := by
  unfold Dev.drvFaults
  repeat' first
    | (with_reducible first | assumption | apply Dev.raiseIf_ev | apply Dev.setB_ev | apply ite_ev)
    | intro _
    | (extract_lets +onlyGivenNames x; refine (fun (hx : Evolves rst dev0 x) => ?_) ?_; clear_value x; rotate_left
       subst x; rotate_right)
    | (extract_lets +onlyGivenNames x; subst x) | (dsimp -zeta only)

theorem Dev.drvLocks_ev {rst : Bool} {dev0 : Dev} (d : Dev) (rPos : List Int) (fault : Bool) (h0 : Evolves rst dev0 d) : Evolves rst dev0
    (Dev.drvLocks d rPos fault) := by
  unfold Dev.drvLocks
  repeat' first
    | (with_reducible first | assumption | apply Dev.drvLock_ev | apply ite_ev)
    | intro _
    | (extract_lets +onlyGivenNames x; refine (fun (hx : Evolves rst dev0 x) => ?_) ?_; clear_value x; rotate_left
       subst x; rotate_right)
    | (extract_lets +onlyGivenNames x; subst x) | (dsimp -zeta only)

theorem Dev.drvAngles_ev {rst : Bool} {dev0 : Dev} (d : Dev) (h0 : Evolves rst dev0 d) : Evolves rst dev0 (Dev.drvAngles d) := by
  unfold Dev.drvAngles
  repeat' first
    | (with_reducible first | assumption | apply Dev.fixAngle_ev | apply Dev.set_ev | apply Dev.setS_ev | apply ite_ev)
    | intro _
    | (extract_lets +onlyGivenNames x; refine (fun (hx : Evolves rst dev0 x) => ?_) ?_; clear_value x; rotate_left
       subst x; rotate_right)
    | (extract_lets +onlyGivenNames x; subst x) | (dsimp -zeta only)

theorem Dev.lawStep_ev {rst : Bool} {dev0 : Dev} (d : Dev) (h0 : Evolves rst dev0 d) : Evolves rst dev0 (Dev.lawStep d) := by
  unfold Dev.lawStep
  repeat' first
    | (with_reducible first | assumption | apply Dev.drvAngles_ev | apply Dev.drvFaults_ev | apply Dev.drvLaw_ev)
    | (with_reducible first | apply Dev.drvLocks_ev | apply Dev.feedTick_ev)
    | intro _
    | (extract_lets +onlyGivenNames x; refine (fun (hx : Evolves rst dev0 x) => ?_) ?_; clear_value x; rotate_left
       subst x; rotate_right)
    | (extract_lets +onlyGivenNames x; refine (fun (hx : Evolves rst dev0 x.1) => ?_) ?_; clear_value x; rotate_left
       subst x; rotate_right)
    | (extract_lets +onlyGivenNames x; refine (fun (hx : Evolves rst dev0 x.2) => ?_) ?_; clear_value x; rotate_left
       subst x; rotate_right)
    | (extract_lets +onlyGivenNames x; subst x) | split | (dsimp -zeta only)

theorem droverMeasureDone_ev {rst : Bool} {dev0 : Dev} (samples : List (List Word)) (d : Dev) (h1 : Evolves rst dev0 d) : Evolves rst dev0
    (droverMeasureDone samples d) := by
  unfold droverMeasureDone
  repeat' first
    | (with_reducible first | assumption | apply Dev.cycleTo_ev | apply Dev.lawStep_ev | apply Dev.measureSlot_ev)
    | (with_reducible first | apply ite_ev)
    | intro _
    | (extract_lets +onlyGivenNames x; refine (fun (hx : Evolves rst dev0 x) => ?_) ?_; clear_value x; rotate_left
       subst x; rotate_right)
    | (extract_lets +onlyGivenNames x; subst x) | split | (dsimp -zeta only)

theorem Dev.lawNow_ev {rst : Bool} {dev0 : Dev} (d : Dev) (h0 : Evolves rst dev0 d) : Evolves rst dev0 (Dev.lawNow d) := by
  unfold Dev.lawNow
  repeat' first
    | (with_reducible first | assumption | apply Dev.lawStep_ev | apply ite_ev)
    | intro _
    | (extract_lets +onlyGivenNames x; refine (fun (hx : Evolves rst dev0 x) => ?_) ?_; clear_value x; rotate_left
       subst x; rotate_right)
    | (extract_lets +onlyGivenNames x; subst x) | split | (dsimp -zeta only)

theorem controlTick_ev {rst : Bool} {dev0 : Dev} (d : Dev) (h0 : Evolves rst dev0 d) : Evolves rst dev0 (controlTick d) := by
  unfold controlTick
  repeat' first
    | (with_reducible first | assumption | apply Dev.commitPoint_ev | apply Dev.cycleTo_ev | apply Dev.drvBands_ev)
    | (with_reducible first | apply Dev.drvInject_ev | apply Dev.drvLatch_ev | apply Dev.drvSelect_ev | apply Dev.drvTargets_ev)
    | (with_reducible first | apply Dev.lawNow_ev | apply Dev.seqSource_ev | apply ite_ev)
    | intro _
    | (extract_lets +onlyGivenNames x; refine (fun (hx : Evolves rst dev0 x) => ?_) ?_; clear_value x; rotate_left
       subst x; rotate_right)
    | (extract_lets +onlyGivenNames x; subst x) | split | (dsimp -zeta only)

theorem driveOutputUpdate_ev {rst : Bool} {dev0 : Dev} (d : Dev) (h0 : Evolves rst dev0 d) : Evolves rst dev0 (driveOutputUpdate d) := by
  unfold driveOutputUpdate
  repeat' first
    | (with_reducible first | assumption | apply Dev.cycleTo_ev | apply Dev.setS_ev | apply ite_ev)
    | intro _
    | (extract_lets +onlyGivenNames x; refine (fun (hx : Evolves rst dev0 x) => ?_) ?_; clear_value x; rotate_left
       subst x; rotate_right)
    | (extract_lets +onlyGivenNames x; subst x) | (dsimp -zeta only)

theorem drvspiTransferDone_ev {rst : Bool} {dev0 : Dev} (d : Dev) (h0 : Evolves rst dev0 d) : Evolves rst dev0 (drvspiTransferDone d) := by
  unfold drvspiTransferDone
  repeat' first
    | (with_reducible first | assumption | apply Dev.cycleTo_ev | apply ite_ev)
    | intro _
    | (extract_lets +onlyGivenNames x; refine (fun (hx : Evolves rst dev0 x) => ?_) ?_; clear_value x; rotate_left
       subst x; rotate_right)
    | (extract_lets +onlyGivenNames x; subst x)

theorem Dev.drvAxesWrite_ev {rst : Bool} {dev0 : Dev} (d : Dev) (via : Via) (v : Nat) (h0 : Evolves rst dev0 d) : Evolves rst dev0
    (Dev.drvAxesWrite d via v) := by
  unfold Dev.drvAxesWrite
  repeat' first
    | (with_reducible first | assumption | apply Dev.answer_ev | apply Dev.write_ev | apply Dev.refuse_ev | apply ite_ev)
    | intro _

theorem Dev.drvFieldWrite_ev {rst : Bool} {dev0 : Dev} (d : Dev) (f : Fld) (v : Nat) (h0 : Evolves rst dev0 d) : Evolves rst dev0
    (Dev.drvFieldWrite d f v) := by
  unfold Dev.drvFieldWrite
  repeat' first
    | (with_reducible first | assumption | apply Dev.write_ev | apply ite_ev)
    | intro _

theorem drvCtrlWrite_ev {rst : Bool} {dev0 : Dev} (via : Via) (w : Word) (d : Dev) (h2 : Evolves rst dev0 d) : Evolves rst dev0
    (drvCtrlWrite via w d) := by
  unfold drvCtrlWrite
  repeat' first
    | (with_reducible first | assumption | apply Dev.viaBlock_ev | apply Dev.writeNow_ev | apply Dev.drvAxesWrite_ev)
    | (with_reducible first | apply Dev.drvFieldWrite_ev | apply ite_ev)
    | intro _
    | (extract_lets +onlyGivenNames x; refine (fun (hx : Evolves rst dev0 x) => ?_) ?_; clear_value x; rotate_left
       subst x; rotate_right)
    | (extract_lets +onlyGivenNames x; subst x) | (dsimp -zeta only)

theorem drvClearFaults_ev {rst : Bool} {dev0 : Dev} (priv : Bool) (d : Dev) (h1 : Evolves rst dev0 d) : Evolves rst dev0 (drvClearFaults
    priv d) := by
  unfold drvClearFaults
  repeat' first
    | (with_reducible first | assumption | apply Dev.blockWrite_ev | apply Dev.privWrite_ev | apply Dev.setB_ev)
    | intro _ | (dsimp -zeta only)

theorem Dev.drvTickSet_ev {rst : Bool} {dev0 : Dev} (d : Dev) (via : Via) (period : Nat) (delay : Nat) (h0 : Evolves rst dev0 d) : Evolves
    rst dev0 (Dev.drvTickSet d via period delay) := by
  unfold Dev.drvTickSet
  repeat' first
    | (with_reducible first | assumption | apply Dev.answer_ev | apply Dev.refuse_ev | apply Dev.setB_ev)
    | (with_reducible first | apply Dev.drvConfigure_ev | apply Dev.writeNow_ev | apply ite_ev)
    | intro _ | (dsimp -zeta only)

theorem drvTickWrite_ev {rst : Bool} {dev0 : Dev} (via : Via) (w : Word) (d : Dev) (h2 : Evolves rst dev0 d) : Evolves rst dev0
    (drvTickWrite via w d) := by
  unfold drvTickWrite
  repeat' first
    | (with_reducible first | assumption | apply Dev.viaBlock_ev | apply Dev.drvTickSet_ev)
    | intro _
    | (extract_lets +onlyGivenNames x; refine (fun (hx : Evolves rst dev0 x) => ?_) ?_; clear_value x; rotate_left
       subst x; rotate_right)
    | (extract_lets +onlyGivenNames x; subst x) | (dsimp -zeta only)

theorem drvSetpointWrite_ev {rst : Bool} {dev0 : Dev} (via : Via) (w : Word) (d : Dev) (h2 : Evolves rst dev0 d) : Evolves rst dev0
    (drvSetpointWrite via w d) := by
  unfold drvSetpointWrite
  repeat' first
    | (with_reducible first | assumption | apply Dev.viaBlock_ev | apply Dev.set_ev)
    | intro _ | (dsimp -zeta only)

theorem Dev.drvTestSet_ev {rst : Bool} {dev0 : Dev} (d : Dev) (via : Via) (v : Nat) (h0 : Evolves rst dev0 d) : Evolves rst dev0
    (Dev.drvTestSet d via v) := by
  unfold Dev.drvTestSet
  repeat' first
    | (with_reducible first | assumption | apply Dev.refuse_ev | apply Dev.set_ev | apply Dev.setB_ev | apply ite_ev)
    | intro _
    | (extract_lets +onlyGivenNames x; refine (fun (hx : Evolves rst dev0 x) => ?_) ?_; clear_value x; rotate_left
       subst x; rotate_right)
    | (extract_lets +onlyGivenNames x; subst x)

theorem drvTestStart_ev {rst : Bool} {dev0 : Dev} (via : Via) (w : Word) (d : Dev) (h2 : Evolves rst dev0 d) : Evolves rst dev0
    (drvTestStart via w d) := by
  unfold drvTestStart
  repeat' first
    | (with_reducible first | assumption | apply Dev.viaBlock_ev | apply Dev.drvTestSet_ev)
    | intro _ | (dsimp -zeta only)

theorem drvTestEnd_ev {rst : Bool} {dev0 : Dev} (d : Dev) (h0 : Evolves rst dev0 d) : Evolves rst dev0 (drvTestEnd d) := by
  unfold drvTestEnd
  repeat' first
    | (with_reducible first | assumption | apply Dev.setB_ev | apply ite_ev)
    | intro _
    | (extract_lets +onlyGivenNames x; refine (fun (hx : Evolves rst dev0 x) => ?_) ?_; clear_value x; rotate_left
       subst x; rotate_right)
    | (extract_lets +onlyGivenNames x; subst x)

theorem seederTake_ev {rst : Bool} {dev0 : Dev} (d : Dev) (h0 : Evolves rst dev0 d) : Evolves rst dev0 (seederTake d) := by
  unfold seederTake
  extract_lets +onlyGivenNames a
  clear_value a
  repeat' first
    | (with_reducible first | assumption | apply Dev.cycleTo_ev | apply Dev.raiseIf_ev | apply Dev.add_ev | apply ite_ev)
    | intro _
    | (extract_lets +onlyGivenNames x; refine (fun (hx : Evolves rst dev0 x) => ?_) ?_; clear_value x; rotate_left
       subst x; rotate_right)
    | (extract_lets +onlyGivenNames x; subst x) | split | (dsimp -zeta only)

theorem echoRecordDone_ev {rst : Bool} {dev0 : Dev} (ch : Fin 512) (d : Dev) (h1 : Evolves rst dev0 d) : Evolves rst dev0 (echoRecordDone
    ch d) := by
  unfold echoRecordDone
  repeat' first
    | (with_reducible first | assumption | apply Dev.emptyRecord_ev | apply Dev.fullRecord_ev | apply Dev.filterSwap_ev)
    | (with_reducible first | apply ite_ev)
    | intro _
    | (extract_lets +onlyGivenNames x; refine (fun (hx : Evolves rst dev0 x) => ?_) ?_; clear_value x; rotate_left
       subst x; rotate_right)
    | (extract_lets +onlyGivenNames x; subst x)

theorem Dev.lastUnit_ev {rst : Bool} {dev0 : Dev} (d : Dev) (n : Nat) (h0 : Evolves rst dev0 d) : Evolves rst dev0 (Dev.lastUnit d n) := by
  unfold Dev.lastUnit
  repeat' first
    | (with_reducible first | assumption | apply Dev.modStream_ev | apply Dev.sendStage_ev | apply ite_ev)
    | intro _ | (extract_lets +onlyGivenNames x; subst x) | (dsimp -zeta only)

theorem stageBlockDone_ev {rst : Bool} {dev0 : Dev} (d : Dev) (h0 : Evolves rst dev0 d) : Evolves rst dev0 (stageBlockDone d) := by
  unfold stageBlockDone
  repeat' first
    | (with_reducible first | assumption | apply Dev.each_ev | apply Dev.fixAngle_ev | apply Dev.lastUnit_ev)
    | (with_reducible first | apply Dev.buildFor_ev | apply ite_ev)
    | intro _ | (dsimp -zeta only)

theorem baleCoded_ev {rst : Bool} {dev0 : Dev} (n : Fin 2) (d : Dev) (h1 : Evolves rst dev0 d) : Evolves rst dev0 (baleCoded n d) := by
  unfold baleCoded
  repeat' first
    | (with_reducible first | assumption | apply Dev.lastUnit_ev | apply Dev.packFor_ev | apply ite_ev)
    | intro _

theorem interpLock_ev {rst : Bool} {dev0 : Dev} (c : Fin 16) (d : Dev) (h1 : Evolves rst dev0 d) : Evolves rst dev0 (interpLock c d) := by
  unfold interpLock
  repeat' first
    | (with_reducible first | assumption | apply Dev.raise_ev | apply Dev.restEnd_ev | apply Dev.setB_ev)
    | (with_reducible first | apply ite_ev)
    | intro _
    | (extract_lets +onlyGivenNames x; refine (fun (hx : Evolves rst dev0 x) => ?_) ?_; clear_value x; rotate_left
       subst x; rotate_right)
    | (extract_lets +onlyGivenNames x; subst x) | split | (dsimp -zeta only)

theorem Dev.discardStops_ev {rst : Bool} {dev0 : Dev} (d : Dev) (c : Nat) (h0 : Evolves rst dev0 d) : Evolves rst dev0 (Dev.discardStops d
    c) := by
  unfold Dev.discardStops
  repeat' first
    | (with_reducible first | assumption | apply Dev.each_ev | apply Dev.modBuf_ev | apply Dev.modChan_ev)
    | (with_reducible first | apply Dev.modCvy_ev | apply Dev.set_ev | apply ite_ev)
    | intro _
    | (extract_lets +onlyGivenNames x; refine (fun (hx : Evolves rst dev0 x) => ?_) ?_; clear_value x; rotate_left
       subst x; rotate_right)
    | (extract_lets +onlyGivenNames x; subst x) | split | (dsimp -zeta only)

theorem interpUnlock_ev {rst : Bool} {dev0 : Dev} (c : Fin 16) (d : Dev) (h1 : Evolves rst dev0 d) : Evolves rst dev0 (interpUnlock c d)
    := by
  unfold interpUnlock
  repeat' first
    | (with_reducible first | assumption | apply Dev.discardStops_ev | apply Dev.each_ev | apply Dev.faultOn_ev)
    | (with_reducible first | apply Dev.inc_ev | apply Dev.modChan_ev | apply Dev.modCvy_ev | apply none_ev)
    | (with_reducible first | apply Dev.raise_ev | apply Dev.setB_ev | apply Dev.settled_ev | apply ite_ev)
    | intro _
    | (extract_lets +onlyGivenNames x; refine (fun (hx : Evolves rst dev0 x) => ?_) ?_; clear_value x; rotate_left
       subst x; rotate_right)
    | (extract_lets +onlyGivenNames x; subst x) | split | (dsimp -zeta only)

theorem calStart_ev {rst : Bool} {dev0 : Dev} (via : Via) (c : Fin 16) (d : Dev) (h2 : Evolves rst dev0 d) : Evolves rst dev0 (calStart
    via c d) := by
  unfold calStart
  repeat' first
    | (with_reducible first | assumption | apply Dev.viaBlock_ev | apply Dev.setB_ev | apply Dev.modCvy_ev)
    | (with_reducible first | apply Dev.restStart_ev | apply Dev.refuse_ev | apply ite_ev)
    | intro _
    | (extract_lets +onlyGivenNames x; refine (fun (hx : Evolves rst dev0 x) => ?_) ?_; clear_value x; rotate_left
       subst x; rotate_right)
    | (extract_lets +onlyGivenNames x; subst x) | (dsimp -zeta only)

theorem Dev.calBanks_ev {rst : Bool} {dev0 : Dev} (d : Dev) (c : Nat) (nl : List Nat) (outr : List (List (Int × Nat))) (h0 : Evolves rst
    dev0 d) : Evolves rst dev0 (Dev.calBanks d c nl outr) := by
  unfold Dev.calBanks
  repeat' first
    | (with_reducible first | assumption | apply Dev.modBank_ev)
    | intro _
    | (extract_lets +onlyGivenNames x; refine (fun (hx : Evolves rst dev0 x) => ?_) ?_; clear_value x; rotate_left
       subst x; rotate_right)
    | (extract_lets +onlyGivenNames x; subst x) | (dsimp -zeta only)

theorem Dev.calRest_ev {rst : Bool} {dev0 : Dev} (d : Dev) (c : Nat) (own : Bool) (h0 : Evolves rst dev0 d) : Evolves rst dev0
    (Dev.calRest d c own) := by
  unfold Dev.calRest
  repeat' first
    | (with_reducible first | assumption | apply Dev.restEnd_ev | apply ite_ev)
    | intro _

theorem calDone_ev {rst : Bool} {dev0 : Dev} (c : Fin 16) (hits : List Nat) (outr : List (List (Int × Nat))) (d : Dev) (h3 : Evolves rst
    dev0 d) : Evolves rst dev0 (calDone c hits outr d) := by
  unfold calDone
  repeat' first
    | (with_reducible first | assumption | apply Dev.modCvy_ev | apply Dev.set_ev | apply Dev.setB_ev | apply Dev.calBanks_ev)
    | (with_reducible first | apply Dev.unitBack_ev | apply Dev.calRest_ev | apply Dev.raise_ev | apply Dev.settled_ev)
    | (with_reducible first | apply Dev.retire_ev | apply ite_ev | apply foldl_ev)
    | intro _
    | (extract_lets +onlyGivenNames x; refine (fun (hx : Evolves rst dev0 x) => ?_) ?_; clear_value x; rotate_left
       subst x; rotate_right)
    | (extract_lets +onlyGivenNames x; subst x) | (dsimp -zeta only)

theorem Dev.tisBegin_ev {rst : Bool} {dev0 : Dev} (d : Dev) (c : Nat) (h0 : Evolves rst dev0 d) : Evolves rst dev0 (Dev.tisBegin d c) := by
  unfold Dev.tisBegin
  repeat' first
    | (with_reducible first | assumption | apply Dev.setB_ev | apply Dev.modCvy_ev | apply Dev.each_ev | apply Dev.set_ev)
    | intro _
    | (extract_lets +onlyGivenNames x; refine (fun (hx : Evolves rst dev0 x) => ?_) ?_; clear_value x; rotate_left
       subst x; rotate_right)
    | (extract_lets +onlyGivenNames x; subst x) | (dsimp -zeta only)

theorem Dev.tisFields_ev {rst : Bool} {dev0 : Dev} (d : Dev) (c : Nat) (v : Nat) (h0 : Evolves rst dev0 d) : Evolves rst dev0
    (Dev.tisFields d c v) := by
  unfold Dev.tisFields
  repeat' first
    | (with_reducible first | assumption | apply Dev.set_ev)

theorem tisStart_ev {rst : Bool} {dev0 : Dev} (c : Fin 16) (priv : Bool) (v : Word) (d : Dev) (h3 : Evolves rst dev0 d) : Evolves rst dev0
    (tisStart c priv v d) := by
  unfold tisStart
  repeat' first
    | (with_reducible first | assumption | apply Dev.blockWrite_ev | apply Dev.privWrite_ev | apply Dev.tisFields_ev)
    | (with_reducible first | apply Dev.tisBegin_ev | apply ite_ev)
    | intro _
    | (extract_lets +onlyGivenNames x; refine (fun (hx : Evolves rst dev0 x) => ?_) ?_; clear_value x; rotate_left
       subst x; rotate_right)
    | (extract_lets +onlyGivenNames x; subst x) | (dsimp -zeta only)

theorem tisRunDone_ev {rst : Bool} {dev0 : Dev} (c : Fin 16) (d : Dev) (h1 : Evolves rst dev0 d) : Evolves rst dev0 (tisRunDone c d) := by
  unfold tisRunDone
  repeat' first
    | (with_reducible first | assumption | apply Dev.tisEnd_ev | apply ite_ev)
    | intro _

theorem tisTimeout_ev {rst : Bool} {dev0 : Dev} (c : Fin 16) (d : Dev) (h1 : Evolves rst dev0 d) : Evolves rst dev0 (tisTimeout c d) := by
  unfold tisTimeout
  repeat' first
    | (with_reducible first | assumption | apply Dev.tisEnd_ev | apply ite_ev)
    | intro _
    | (extract_lets +onlyGivenNames x; refine (fun (hx : Evolves rst dev0 x) => ?_) ?_; clear_value x; rotate_left
       subst x; rotate_right)
    | (extract_lets +onlyGivenNames x; subst x)

theorem rangingRestWrite_ev {rst : Bool} {dev0 : Dev} (role : Role) (v : Nat) (d : Dev) (h2 : Evolves rst dev0 d) : Evolves rst dev0
    (rangingRestWrite role v d) := by
  unfold rangingRestWrite
  repeat' first
    | (with_reducible first | assumption | apply Dev.roleWrite_ev | apply Dev.answer_ev | apply Dev.each_ev)
    | (with_reducible first | apply Dev.modCvy_ev | apply Dev.endRests_ev | apply Dev.startRests_ev | apply ite_ev)
    | intro _
    | (extract_lets +onlyGivenNames x; refine (fun (hx : Evolves rst dev0 x) => ?_) ?_; clear_value x; rotate_left
       subst x; rotate_right)
    | (extract_lets +onlyGivenNames x; subst x) | (dsimp -zeta only)

theorem recalPeriodExpiry_ev {rst : Bool} {dev0 : Dev} (d : Dev) (h0 : Evolves rst dev0 d) : Evolves rst dev0 (recalPeriodExpiry d) := by
  unfold recalPeriodExpiry
  repeat' first
    | (with_reducible first | assumption | apply Dev.modCvy_ev | apply ite_ev | apply foldl_ev)
    | intro _
    | (extract_lets +onlyGivenNames x; refine (fun (hx : Evolves rst dev0 x) => ?_) ?_; clear_value x; rotate_left
       subst x; rotate_right)
    | (extract_lets +onlyGivenNames x; refine (fun (hx : Evolves rst dev0 x.1) => ?_) ?_; clear_value x; rotate_left
       subst x; rotate_right)
    | (extract_lets +onlyGivenNames x; refine (fun (hx : Evolves rst dev0 x.2) => ?_) ?_; clear_value x; rotate_left
       subst x; rotate_right)
    | (extract_lets +onlyGivenNames x; subst x) | split | (dsimp -zeta only)
    | (with_reducible apply Follows.mix <;> with_reducible assumption)

end Sys2Proof.Machine
end

