-- ==== Sys2Proof/Laws/EvolvesService.lean ====
section
/-! SUPPORT. One lemma `<operation>_ev` for each operation of the commit check, requests, tables, register writes, the Toll island, the service life, memory and the drive:
what it answers is reached from wherever its argument is (`Evolves`). The operations that may reset are stated with `true`. -/

namespace Sys2Proof.Machine

theorem Dev.arpAsk_ev {rst : Bool} {dev0 : Dev} (d : Dev) (p : Nat) (ip : Nat) (h0 : Evolves rst dev0 d) : Evolves rst dev0 (Dev.arpAsk d
    p ip) := by
  unfold Dev.arpAsk
  repeat' first
    | (with_reducible first | assumption | apply Dev.sendPair_ev)

theorem Dev.arpMiss_ev {rst : Bool} {dev0 : Dev} (d : Dev) (p : Nat) (ip : Nat) (h0 : Evolves rst dev0 d) : Evolves rst dev0 (Dev.arpMiss
    d p ip) := by
  unfold Dev.arpMiss
  repeat' first
    | (with_reducible first | assumption | apply Dev.inc_ev | apply Dev.arpAsk_ev | apply ite_ev)
    | intro _
    | (extract_lets +onlyGivenNames x; refine (fun (hx : Evolves rst dev0 x) => ?_) ?_; clear_value x; rotate_left
       subst x; rotate_right)
    | (extract_lets +onlyGivenNames x; subst x) | (dsimp -zeta only)

theorem Dev.sendPtp_ev {rst : Bool} {dev0 : Dev} (d : Dev) (p : Nat) (type : Nat) (flags : Nat) (corr : Int) (seq : Nat) (control : Nat)
    (logInt : Nat) (body : Bytes) (h0 : Evolves rst dev0 d) : Evolves rst dev0 (Dev.sendPtp d p type flags corr seq control logInt body) := by
  unfold Dev.sendPtp
  repeat' first
    | (with_reducible first | assumption | apply Dev.sendFrame_ev | apply ite_ev)
    | intro _
    | (extract_lets +onlyGivenNames x; refine (fun (hx : Evolves rst dev0 x) => ?_) ?_; clear_value x; rotate_left
       subst x; rotate_right)
    | (extract_lets +onlyGivenNames x; subst x)

theorem Dev.ptpDeparted_ev {rst : Bool} {dev0 : Dev} (d : Dev) (p : Nat) (data : Bytes) (h0 : Evolves rst dev0 d) : Evolves rst dev0
    (Dev.ptpDeparted d p data) := by
  unfold Dev.ptpDeparted
  repeat' first
    | (with_reducible first | assumption | apply Dev.sendPtp_ev | apply Dev.modPort_ev | apply ite_ev)
    | intro _
    | (extract_lets +onlyGivenNames x; refine (fun (hx : Evolves rst dev0 x) => ?_) ?_; clear_value x; rotate_left
       subst x; rotate_right)
    | (extract_lets +onlyGivenNames x; subst x) | split | (dsimp -zeta only)

theorem Dev.lateEvent_ev {rst : Bool} {dev0 : Dev} (d : Dev) (h0 : Evolves rst dev0 d) : Evolves rst dev0 (Dev.lateEvent d) := by
  unfold Dev.lateEvent
  repeat' first
    | (with_reducible first | assumption | apply Dev.raise_ev | apply ite_ev)
    | intro _ | (extract_lets +onlyGivenNames x; subst x)

theorem Dev.dropLate_ev {rst : Bool} {dev0 : Dev} (d : Dev) (p : Nat) (q : Nat) (e : QEnt) (h0 : Evolves rst dev0 d) : Evolves rst dev0
    (Dev.dropLate d p q e) := by
  unfold Dev.dropLate
  repeat' first
    | (with_reducible first | assumption | apply Dev.lateEvent_ev | apply Dev.add_ev | apply Dev.modPort_ev)
    | intro _
    | (extract_lets +onlyGivenNames x; refine (fun (hx : Evolves rst dev0 x) => ?_) ?_; clear_value x; rotate_left
       subst x; rotate_right)
    | (extract_lets +onlyGivenNames x; subst x) | (dsimp -zeta only)

theorem Dev.popHead_ev {rst : Bool} {dev0 : Dev} (d : Dev) (p : Nat) (q : Nat) (h0 : Evolves rst dev0 d) : Evolves rst dev0 (Dev.popHead d
    p q) := by
  unfold Dev.popHead
  repeat' first
    | (with_reducible first | assumption | apply Dev.modPort_ev)
    | intro _ | (extract_lets +onlyGivenNames x; subst x) | (dsimp -zeta only)

theorem Dev.emit_ev {rst : Bool} {dev0 : Dev} (d : Dev) (p : Nat) (e : QEnt) (mac : Nat) (h0 : Evolves rst dev0 d) : Evolves rst dev0
    (Dev.emit d p e mac) := by
  unfold Dev.emit
  repeat' first
    | (with_reducible first | assumption | apply Dev.ptpDeparted_ev | apply ite_ev)
    | intro _
    | (extract_lets +onlyGivenNames x; refine (fun (hx : Evolves rst dev0 x) => ?_) ?_; clear_value x; rotate_left
       subst x; rotate_right)
    | (extract_lets +onlyGivenNames x; subst x)

theorem Dev.countSent_ev {rst : Bool} {dev0 : Dev} (d : Dev) (p : Nat) (e : QEnt) (h0 : Evolves rst dev0 d) : Evolves rst dev0
    (Dev.countSent d p e) := by
  unfold Dev.countSent
  repeat' first
    | (with_reducible first | assumption | apply Dev.add_ev | apply Dev.modPort_ev | apply ite_ev)
    | intro _
    | (extract_lets +onlyGivenNames x; refine (fun (hx : Evolves rst dev0 x) => ?_) ?_; clear_value x; rotate_left
       subst x; rotate_right)
    | (extract_lets +onlyGivenNames x; subst x) | split | (dsimp -zeta only)

theorem Dev.launch_ev {rst : Bool} {dev0 : Dev} (a0 : Nat) (a1 : Nat) (a2 : Dev) (h2 : Evolves rst dev0 a2) : Evolves rst dev0 (Dev.launch
    a0 a1 a2) := by
  induction a0 generalizing a2 with
  | zero => exact h2
  | succ n ih =>
    unfold Dev.launch
    split
    · exact h2
    · split
      · exact ih _ (Dev.dropLate_ev _ _ _ _ h2)
      · split
        · exact ih _ (Dev.arpMiss_ev _ _ _ (Dev.popHead_ev _ _ _ h2))
        · apply Dev.emit_ev
          apply Dev.countSent_ev
          split
          · exact Dev.lateEvent_ev _ (Dev.inc_ev _ _ (Dev.popHead_ev _ _ _ h2))
          · exact Dev.popHead_ev _ _ _ h2

theorem Dev.recordRetired_ev {rst : Bool} {dev0 : Dev} (d : Dev) (l : List Retired) (h0 : Evolves rst dev0 d) : Evolves rst dev0
    (Dev.recordRetired d l) := by
  unfold Dev.recordRetired
  repeat' first
    | (with_reducible first | assumption | apply Dev.write_ev | apply ite_ev)
    | intro _
    | (extract_lets +onlyGivenNames x; refine (fun (hx : Evolves rst dev0 x) => ?_) ?_; clear_value x; rotate_left
       subst x; rotate_right)
    | (extract_lets +onlyGivenNames x; subst x) | split | (dsimp -zeta only)

theorem Dev.recordStore_ev {rst : Bool} {dev0 : Dev} (d : Dev) (l : List Saved) (h0 : Evolves rst dev0 d) : Evolves rst dev0
    (Dev.recordStore d l) := by
  unfold Dev.recordStore
  repeat' first
    | (with_reducible first | assumption | apply some_ev | apply Dev.write_ev | apply ite_ev)
    | intro _
    | (extract_lets +onlyGivenNames x; refine (fun (hx : Evolves rst dev0 x) => ?_) ?_; clear_value x; rotate_left
       subst x; rotate_right)
    | (extract_lets +onlyGivenNames x; subst x) | split | (dsimp -zeta only)

theorem Dev.recordCheck_ev {rst : Bool} {dev0 : Dev} (d : Dev) (r : Nat) (h0 : Evolves rst dev0 d) : Evolves rst dev0 (Dev.recordCheck d
    r) := by
  unfold Dev.recordCheck
  repeat' first
    | (with_reducible first | assumption | apply Dev.raiseIf_ev | apply Dev.set_ev)

theorem Dev.checked_ev {rst : Bool} {dev0 : Dev} (d : Dev) (f : Dev → Dev) (h0 : Evolves rst dev0 d) (h1 : ∀ x0, Evolves rst dev0 x0 →
    Evolves rst dev0 (f x0)) : Evolves rst dev0 (Dev.checked d f) := by
  unfold Dev.checked
  repeat' first
    | (with_reducible first | assumption | apply h1 | apply Dev.projected_ev | apply Dev.recordCheck_ev | apply Dev.answer_ev)
    | (with_reducible first | apply ite_ev)
    | intro _
    | (extract_lets +onlyGivenNames x; refine (fun (hx : Evolves rst dev0 x) => ?_) ?_; clear_value x; rotate_left
       subst x; rotate_right)
    | (extract_lets +onlyGivenNames x; subst x)

theorem Dev.acceptSafety_ev {rst : Bool} {dev0 : Dev} (d : Dev) (bs : Bytes) (h0 : Evolves rst dev0 d) : Evolves rst dev0
    (Dev.acceptSafety d bs) := by
  unfold Dev.acceptSafety
  repeat' first
    | (with_reducible first | assumption | apply Dev.raise_ev | apply Dev.modBank_ev | apply ite_ev)
    | intro _
    | (extract_lets +onlyGivenNames x; refine (fun (hx : Evolves rst dev0 x) => ?_) ?_; clear_value x; rotate_left
       subst x; rotate_right)
    | (extract_lets +onlyGivenNames x; subst x) | (dsimp -zeta only)

theorem Dev.firSwap_ev {rst : Bool} {dev0 : Dev} (d : Dev) (u : Nat) (h0 : Evolves rst dev0 d) : Evolves rst dev0 (Dev.firSwap d u) := by
  unfold Dev.firSwap
  repeat' first
    | (with_reducible first | assumption | apply Dev.swapBank_ev | apply Dev.modUnit_ev)
    | intro _
    | (extract_lets +onlyGivenNames x; refine (fun (hx : Evolves rst dev0 x) => ?_) ?_; clear_value x; rotate_left
       subst x; rotate_right)
    | (extract_lets +onlyGivenNames x; subst x) | (dsimp -zeta only)

theorem Dev.swapOnAcceptance_ev {rst : Bool} {dev0 : Dev} (d : Dev) (idx : Nat) (h0 : Evolves rst dev0 d) : Evolves rst dev0
    (Dev.swapOnAcceptance d idx) := by
  unfold Dev.swapOnAcceptance
  repeat' first
    | (with_reducible first | assumption | apply Dev.firSwap_ev | apply Dev.when_ev | apply Dev.swapBank_ev | apply ite_ev)
    | intro _ | (dsimp -zeta only)

theorem Dev.placeTable_ev {rst : Bool} {dev0 : Dev} (d : Dev) (idx : Nat) (bs : Bytes) (h0 : Evolves rst dev0 d) : Evolves rst dev0
    (Dev.placeTable d idx bs) := by
  unfold Dev.placeTable
  repeat' first
    | (with_reducible first | assumption | apply Dev.commitBank_ev | apply Dev.projected_ev | apply Dev.answer_ev)
    | (with_reducible first | apply Dev.raise_ev | apply Dev.setB_ev | apply Dev.recordCheck_ev | apply Dev.acceptSafety_ev)
    | (with_reducible first | apply Dev.swapOnAcceptance_ev | apply ite_ev)
    | intro _
    | (extract_lets +onlyGivenNames x; refine (fun (hx : Evolves rst dev0 x) => ?_) ?_; clear_value x; rotate_left
       subst x; rotate_right)
    | (extract_lets +onlyGivenNames x; subst x)

theorem Dev.commitTable_ev {rst : Bool} {dev0 : Dev} (d : Dev) (idx : Nat) (bs : Bytes) (h0 : Evolves rst dev0 d) : Evolves rst dev0
    (Dev.commitTable d idx bs) := by
  unfold Dev.commitTable
  repeat' first
    | (with_reducible first | assumption | apply Dev.answer_ev | apply Dev.placeTable_ev | apply ite_ev)
    | intro _
    | (extract_lets +onlyGivenNames x; refine (fun (hx : Evolves rst dev0 x) => ?_) ?_; clear_value x; rotate_left
       subst x; rotate_right)
    | (extract_lets +onlyGivenNames x; subst x)

theorem Dev.clutterBasic_ev {rst : Bool} {dev0 : Dev} (d : Dev) (f : Bytes → Bytes) (h0 : Evolves rst dev0 d) : Evolves rst dev0
    (Dev.clutterBasic d f) := by
  unfold Dev.clutterBasic
  repeat' first
    | (with_reducible first | assumption | apply Dev.answer_ev | apply Dev.swapOnAcceptance_ev | apply Dev.commitBank_ev)
    | (with_reducible first | apply ite_ev)
    | intro _
    | (extract_lets +onlyGivenNames x; refine (fun (hx : Evolves rst dev0 x) => ?_) ?_; clear_value x; rotate_left
       subst x; rotate_right)
    | (extract_lets +onlyGivenNames x; subst x) | (dsimp -zeta only)

theorem Dev.reject_ev {rst : Bool} {dev0 : Dev} (d : Dev) (via : Via) (reason : Nat) (code : Nat) (h0 : Evolves rst dev0 d) : Evolves rst
    dev0 (Dev.reject d via reason code) := by
  unfold Dev.reject
  repeat' first
    | (with_reducible first | assumption | apply Dev.refuse_ev | apply Dev.set_ev)

theorem Dev.accept_ev {rst : Bool} {dev0 : Dev} (d : Dev) (h0 : Evolves rst dev0 d) : Evolves rst dev0 (Dev.accept d) := by
  unfold Dev.accept
  repeat' first
    | (with_reducible first | assumption | apply Dev.set_ev)

theorem Dev.requestRanging_ev {rst : Bool} {dev0 : Dev} (d : Dev) (via : Via) (h0 : Evolves rst dev0 d) : Evolves rst dev0
    (Dev.requestRanging d via) := by
  unfold Dev.requestRanging
  repeat' first
    | (with_reducible first | assumption | apply Dev.reject_ev | apply Dev.projected_ev | apply Dev.recordCheck_ev)
    | (with_reducible first | apply Dev.accept_ev | apply Dev.goto_ev | apply Dev.armStart_ev | apply ite_ev)
    | intro _
    | (extract_lets +onlyGivenNames x; refine (fun (hx : Evolves rst dev0 x) => ?_) ?_; clear_value x; rotate_left
       subst x; rotate_right)
    | (extract_lets +onlyGivenNames x; subst x)

theorem Dev.requestState_ev {rst : Bool} {dev0 : Dev} (d : Dev) (via : Via) (code : Nat) (h0 : Evolves rst dev0 d) : Evolves rst dev0
    (Dev.requestState d via code) := by
  unfold Dev.requestState
  repeat' first
    | (with_reducible first | assumption | apply Dev.set_ev | apply Dev.goto_ev | apply Dev.accept_ev | apply Dev.reject_ev)
    | (with_reducible first | apply Dev.settled_ev | apply Dev.requestRanging_ev | apply ite_ev)
    | intro _
    | (extract_lets +onlyGivenNames x; refine (fun (hx : Evolves rst dev0 x) => ?_) ?_; clear_value x; rotate_left
       subst x; rotate_right)
    | (extract_lets +onlyGivenNames x; subst x) | split | (dsimp -zeta only)

theorem stateRequest_ev {rst : Bool} {dev0 : Dev} (via : Via) (code : Nat) (d : Dev) (h2 : Evolves rst dev0 d) : Evolves rst dev0
    (stateRequest via code d) := by
  unfold stateRequest
  repeat' first
    | (with_reducible first | assumption | apply Dev.viaWrite_ev | apply Dev.answer_ev | apply Dev.requestState_ev)
    | (with_reducible first | apply ite_ev)
    | intro _ | (dsimp -zeta only)

theorem Dev.thermShow_ev {rst : Bool} {dev0 : Dev} (d : Dev) (h0 : Evolves rst dev0 d) : Evolves rst dev0 (Dev.thermShow d) := by
  unfold Dev.thermShow
  repeat' first
    | (with_reducible first | assumption | apply Dev.setS_ev | apply Dev.setB_ev | apply Dev.raiseIf_ev | apply Dev.set_ev)
    | (with_reducible first | apply foldl_ev)
    | intro _
    | (extract_lets +onlyGivenNames x; refine (fun (hx : Evolves rst dev0 x) => ?_) ?_; clear_value x; rotate_left
       subst x; rotate_right)
    | (extract_lets +onlyGivenNames x; subst x) | (dsimp -zeta only)

theorem Dev.thermJudge_ev {rst : Bool} {dev0 : Dev} (d : Dev) (h0 : Evolves rst dev0 d) : Evolves rst dev0 (Dev.thermJudge d) := by
  unfold Dev.thermJudge
  repeat' first
    | (with_reducible first | assumption | apply Dev.takeFree_ev | apply Dev.setS_ev | apply Dev.setB_ev)
    | (with_reducible first | apply Dev.raiseIf_ev)
    | (extract_lets +onlyGivenNames x; refine (fun (hx : Evolves rst dev0 x) => ?_) ?_; clear_value x; rotate_left
       subst x; rotate_right)
    | (extract_lets +onlyGivenNames x; refine (fun (hx : Evolves rst dev0 x.1) => ?_) ?_; clear_value x; rotate_left
       subst x; rotate_right)
    | (extract_lets +onlyGivenNames x; refine (fun (hx : Evolves rst dev0 x.2) => ?_) ?_; clear_value x; rotate_left
       subst x; rotate_right)
    | (extract_lets +onlyGivenNames x; subst x) | split

theorem Dev.substitutes_ev {rst : Bool} {dev0 : Dev} (d : Dev) (before : Dev) (h0 : Evolves rst dev0 d) (h1 : Evolves rst dev0 before) :
    Evolves rst dev0 (Dev.substitutes d before) := by
  unfold Dev.substitutes
  repeat' first
    | (with_reducible first | assumption | apply Dev.raiseIf_ev | apply ite_ev)
    | intro _
    | (extract_lets +onlyGivenNames x; refine (fun (hx : Evolves rst dev0 x) => ?_) ?_; clear_value x; rotate_left
       subst x; rotate_right)
    | (extract_lets +onlyGivenNames x; subst x) | (dsimp -zeta only)

theorem Dev.readSensors_ev {rst : Bool} {dev0 : Dev} (d : Dev) (r : List Int) (h0 : Evolves rst dev0 d) : Evolves rst dev0
    (Dev.readSensors d r) := by
  unfold Dev.readSensors
  repeat' first
    | (with_reducible first | assumption | apply Dev.raiseIf_ev | apply Dev.thermJudge_ev | apply Dev.thermShow_ev)
    | (with_reducible first | apply Dev.substitutes_ev)
    | (extract_lets +onlyGivenNames x; refine (fun (hx : Evolves rst dev0 x) => ?_) ?_; clear_value x; rotate_left
       subst x; rotate_right)
    | (extract_lets +onlyGivenNames x; subst x)

theorem thermalReading_ev {rst : Bool} {dev0 : Dev} (r : List Int) (d : Dev) (h1 : Evolves rst dev0 d) : Evolves rst dev0 (thermalReading
    r d) := by
  unfold thermalReading
  repeat' first
    | (with_reducible first | assumption | apply Dev.settled_ev | apply Dev.readSensors_ev | apply ite_ev)
    | intro _ | (dsimp -zeta only)

theorem throttleEval_ev {rst : Bool} {dev0 : Dev} (d : Dev) (h0 : Evolves rst dev0 d) : Evolves rst dev0 (throttleEval d) := by
  unfold throttleEval
  repeat' first
    | (with_reducible first | assumption | apply ite_ev)
    | intro _
    | (extract_lets +onlyGivenNames x; refine (fun (hx : Evolves rst dev0 x) => ?_) ?_; clear_value x; rotate_left
       subst x; rotate_right)
    | (extract_lets +onlyGivenNames x; subst x)

theorem substituteTimeout_ev {rst : Bool} {dev0 : Dev} (d : Dev) (h0 : Evolves rst dev0 d) : Evolves rst dev0 (substituteTimeout d) := by
  unfold substituteTimeout
  repeat' first
    | (with_reducible first | assumption | apply Dev.settled_ev | apply Dev.thermJudge_ev | apply Dev.thermShow_ev)
    | (with_reducible first | apply ite_ev)
    | intro _ | (extract_lets +onlyGivenNames x; subst x) | (dsimp -zeta only)

theorem retirementStoreWrite_ev {rst : Bool} {dev0 : Dev} (ok : Bool) (d : Dev) (h1 : Evolves rst dev0 d) : Evolves rst dev0
    (retirementStoreWrite ok d) := by
  unfold retirementStoreWrite
  repeat' first
    | (with_reducible first | assumption | apply Dev.raiseIf_ev | apply Dev.recordRetired_ev | apply ite_ev)
    | intro _
    | (extract_lets +onlyGivenNames x; refine (fun (hx : Evolves rst dev0 x) => ?_) ?_; clear_value x; rotate_left
       subst x; rotate_right)
    | (extract_lets +onlyGivenNames x; subst x) | split | (dsimp -zeta only)

theorem Dev.returnUnit_ev {rst : Bool} {dev0 : Dev} (d : Dev) (kind : Nat) (unit : Nat) (h0 : Evolves rst dev0 d) : Evolves rst dev0
    (Dev.returnUnit d kind unit) := by
  unfold Dev.returnUnit
  repeat' first
    | (with_reducible first | assumption | apply Dev.modCvy_ev | apply Dev.restCalibrate_ev | apply Dev.unitBack_ev)
    | (with_reducible first | apply ite_ev)
    | intro _
    | (extract_lets +onlyGivenNames x; refine (fun (hx : Evolves rst dev0 x) => ?_) ?_; clear_value x; rotate_left
       subst x; rotate_right)
    | (extract_lets +onlyGivenNames x; subst x) | (dsimp -zeta only)

theorem Dev.clearEntry_ev {rst : Bool} {dev0 : Dev} (d : Dev) (kind : Nat) (unit : Nat) (h0 : Evolves rst dev0 d) : Evolves rst dev0
    (Dev.clearEntry d kind unit) := by
  unfold Dev.clearEntry
  repeat' first
    | (with_reducible first | assumption | apply Dev.raise_ev | apply Dev.recordRetired_ev | apply Dev.returnUnit_ev)
    | (with_reducible first | apply ite_ev)
    | intro _
    | (extract_lets +onlyGivenNames x; refine (fun (hx : Evolves rst dev0 x) => ?_) ?_; clear_value x; rotate_left
       subst x; rotate_right)
    | (extract_lets +onlyGivenNames x; refine (fun (hx : Evolves rst dev0 x.1) => ?_) ?_; clear_value x; rotate_left
       subst x; rotate_right)
    | (extract_lets +onlyGivenNames x; refine (fun (hx : Evolves rst dev0 x.2) => ?_) ?_; clear_value x; rotate_left
       subst x; rotate_right)
    | (extract_lets +onlyGivenNames x; subst x) | split | (dsimp -zeta only)

theorem clearRetirement_ev {rst : Bool} {dev0 : Dev} (role : Role) (v : Nat) (d : Dev) (h2 : Evolves rst dev0 d) : Evolves rst dev0
    (clearRetirement role v d) := by
  unfold clearRetirement
  repeat' first
    | (with_reducible first | assumption | apply Dev.roleWrite_ev | apply Dev.clearEntry_ev | apply Dev.answer_ev)
    | (with_reducible first | apply ite_ev | apply foldl_ev)
    | intro _ | (dsimp -zeta only)

theorem Dev.unmapped_ev {rst : Bool} {dev0 : Dev} (d : Dev) (h0 : Evolves rst dev0 d) : Evolves rst dev0 (Dev.unmapped d) := by
  unfold Dev.unmapped
  repeat' first
    | (with_reducible first | assumption | apply Dev.setB_ev)

theorem Dev.dllRead_ev {rst : Bool} {dev0 : Dev} (d : Dev) (c : Nat) (h0 : Evolves rst dev0 d) : Evolves rst dev0 (Dev.dllRead d c).2 :=
    by
  unfold Dev.dllRead
  repeat' first
    | (with_reducible first | assumption | apply Dev.takeFree_ev | apply ite_ev)
    | intro _
    | (extract_lets +onlyGivenNames x; refine (fun (hx : Evolves rst dev0 x) => ?_) ?_; clear_value x; rotate_left
       subst x; rotate_right)
    | (extract_lets +onlyGivenNames x; refine (fun (hx : Evolves rst dev0 x.1) => ?_) ?_; clear_value x; rotate_left
       subst x; rotate_right)
    | (extract_lets +onlyGivenNames x; refine (fun (hx : Evolves rst dev0 x.2) => ?_) ?_; clear_value x; rotate_left
       subst x; rotate_right)
    | (extract_lets +onlyGivenNames x; subst x) | split | (dsimp -zeta only)
    | (with_reducible apply Follows.mix <;> with_reducible assumption)

theorem Dev.busRead_ev {rst : Bool} {dev0 : Dev} (d : Dev) (addr : Nat) (h0 : Evolves rst dev0 d) : Evolves rst dev0 (Dev.busRead d
    addr).2 := by
  unfold Dev.busRead
  repeat' first
    | (with_reducible first | assumption | apply Dev.bridgeError_ev | apply Dev.dllRead_ev | apply Dev.gatedHit_ev)
    | (with_reducible first | apply none_ev | apply some_ev | apply Dev.takeFree_ev | apply Dev.unmapped_ev)
    | (with_reducible first | apply ite_ev)
    | intro _
    | (extract_lets +onlyGivenNames x; refine (fun (hx : Evolves rst dev0 x) => ?_) ?_; clear_value x; rotate_left
       subst x; rotate_right)
    | (extract_lets +onlyGivenNames x; refine (fun (hx : Evolves rst dev0 x.1) => ?_) ?_; clear_value x; rotate_left
       subst x; rotate_right)
    | (extract_lets +onlyGivenNames x; refine (fun (hx : Evolves rst dev0 x.2) => ?_) ?_; clear_value x; rotate_left
       subst x; rotate_right)
    | (extract_lets +onlyGivenNames x; subst x) | split | (dsimp -zeta only)
    | (with_reducible apply Follows.mix <;> with_reducible assumption)

theorem Dev.busReads_ev {rst : Bool} {dev0 : Dev} (d : Dev) (addr : Nat) (a2 : Nat) (h0 : Evolves rst dev0 d) : Evolves rst dev0
    (Dev.busReads d addr a2).2 := by
  induction a2 generalizing d addr with
  | zero => exact h0
  | succ n ih => exact ih _ _ (Dev.busRead_ev _ _ h0)

theorem Dev.writeParts_ev {rst : Bool} {dev0 : Dev} (d : Dev) (e : Ent) (v : Nat) (p : Commit) (h0 : Evolves rst dev0 d) : Evolves rst
    dev0 (Dev.writeParts d e v p) := by
  unfold Dev.writeParts
  repeat' first
    | (with_reducible first | assumption | apply Dev.each_ev | apply Dev.write_ev | apply ite_ev | apply foldl_ev)
    | intro _
    | (extract_lets +onlyGivenNames x; refine (fun (hx : Evolves rst dev0 x) => ?_) ?_; clear_value x; rotate_left
       subst x; rotate_right)
    | (extract_lets +onlyGivenNames x; subst x) | (dsimp -zeta only)

theorem Dev.modeCustom_ev {rst : Bool} {dev0 : Dev} (d : Dev) (h0 : Evolves rst dev0 d) : Evolves rst dev0 (Dev.modeCustom d) := by
  unfold Dev.modeCustom
  repeat' first
    | (with_reducible first | assumption | apply Dev.write_ev)

theorem Dev.writeMode_ev {rst : Bool} {dev0 : Dev} (d : Dev) (v : Nat) (h0 : Evolves rst dev0 d) : Evolves rst dev0 (Dev.writeMode d v) := by
  unfold Dev.writeMode
  repeat' first
    | (with_reducible first | assumption | apply Dev.modeCustom_ev | apply Dev.answer_ev | apply Dev.write_ev | apply ite_ev)
    | intro _
    | (extract_lets +onlyGivenNames x; refine (fun (hx : Evolves rst dev0 x) => ?_) ?_; clear_value x; rotate_left
       subst x; rotate_right)
    | (extract_lets +onlyGivenNames x; subst x)

theorem Dev.quietWrite_ev {rst : Bool} {dev0 : Dev} (d : Dev) (e : Ent) (v : Nat) (h0 : Evolves rst dev0 d) : Evolves rst dev0
    (Dev.quietWrite d e v) := by
  unfold Dev.quietWrite
  repeat' first
    | (with_reducible first | assumption | apply Dev.answer_ev | apply Dev.setB_ev | apply Dev.writeParts_ev)
    | (with_reducible first | apply ite_ev)
    | intro _
    | (extract_lets +onlyGivenNames x; refine (fun (hx : Evolves rst dev0 x) => ?_) ?_; clear_value x; rotate_left
       subst x; rotate_right)
    | (extract_lets +onlyGivenNames x; subst x) | split | (dsimp -zeta only)

theorem Dev.armSnap_ev {rst : Bool} {dev0 : Dev} (d : Dev) (ch : Nat) (h0 : Evolves rst dev0 d) : Evolves rst dev0 (Dev.armSnap d ch) := by
  unfold Dev.armSnap
  repeat' first
    | (with_reducible first | assumption | apply Dev.setB_ev | apply Dev.writeNow_ev | apply ite_ev | apply foldl_ev)
    | intro _
    | (extract_lets +onlyGivenNames x; refine (fun (hx : Evolves rst dev0 x) => ?_) ?_; clear_value x; rotate_left
       subst x; rotate_right)
    | (extract_lets +onlyGivenNames x; refine (fun (hx : Evolves rst dev0 x.1) => ?_) ?_; clear_value x; rotate_left
       subst x; rotate_right)
    | (extract_lets +onlyGivenNames x; refine (fun (hx : Evolves rst dev0 x.2) => ?_) ?_; clear_value x; rotate_left
       subst x; rotate_right)
    | (extract_lets +onlyGivenNames x; subst x) | split | (dsimp -zeta only)
    | (with_reducible apply Follows.mix <;> with_reducible assumption)

theorem Dev.compClear_ev {rst : Bool} {dev0 : Dev} (d : Dev) (c : Nat) (h0 : Evolves rst dev0 d) : Evolves rst dev0 (Dev.compClear d c) := by
  unfold Dev.compClear
  repeat' first
    | (with_reducible first | assumption)
    | intro _ | (extract_lets +onlyGivenNames x; subst x) | (dsimp -zeta only)

theorem Dev.calibrate_ev {rst : Bool} {dev0 : Dev} (d : Dev) (v : Nat) (h0 : Evolves rst dev0 d) : Evolves rst dev0 (Dev.calibrate d v) := by
  unfold Dev.calibrate
  repeat' first
    | (with_reducible first | assumption | apply Dev.answer_ev | apply calStart_ev | apply ite_ev | apply foldl_ev)
    | intro _ | (extract_lets +onlyGivenNames x; subst x) | (dsimp -zeta only)

theorem Dev.unitsDo_ev {rst : Bool} {dev0 : Dev} (d : Dev) (v : Nat) (f : Via → Fin 4 → Dev → Dev) (h0 : Evolves rst dev0 d) (h2 : ∀ x0 x1
    x2, Evolves rst dev0 x2 → Evolves rst dev0 (f x0 x1 x2)) : Evolves rst dev0 (Dev.unitsDo d v f) := by
  unfold Dev.unitsDo
  repeat' first
    | (with_reducible first | assumption | apply h2 | apply Dev.answer_ev | apply ite_ev | apply foldl_ev)
    | intro _
    | (extract_lets +onlyGivenNames x; refine (fun (hx : Evolves rst dev0 x) => ?_) ?_; clear_value x; rotate_left
       subst x; rotate_right)
    | (extract_lets +onlyGivenNames x; subst x) | (dsimp -zeta only)

theorem Dev.acqCtrl_ev {rst : Bool} {dev0 : Dev} (d : Dev) (u : Fin 4) (via : Via) (v : Nat) (h0 : Evolves rst dev0 d) : Evolves rst dev0
    (Dev.acqCtrl d u via v) := by
  unfold Dev.acqCtrl
  repeat' first
    | (with_reducible first | assumption | apply Dev.writeNow_ev | apply Dev.acqArm_ev | apply acqDisarm_ev)
    | (with_reducible first | apply acqForce_ev | apply ite_ev | apply foldl_ev)
    | intro _
    | (extract_lets +onlyGivenNames x; refine (fun (hx : Evolves rst dev0 x) => ?_) ?_; clear_value x; rotate_left
       subst x; rotate_right)
    | (extract_lets +onlyGivenNames x; subst x) | (dsimp -zeta only)

theorem Dev.drvSettings_ev {rst : Bool} {dev0 : Dev} (d : Dev) (via : Via) (offOnly : Bool) (f : Dev → Dev) (h0 : Evolves rst dev0 d) (h3
    : ∀ x0, Evolves rst dev0 x0 → Evolves rst dev0 (f x0)) : Evolves rst dev0 (Dev.drvSettings d via offOnly f) := by
  unfold Dev.drvSettings
  repeat' first
    | (with_reducible first | assumption | apply h3 | apply Dev.refuse_ev | apply Dev.setB_ev | apply Dev.drvConfigure_ev)
    | (with_reducible first | apply ite_ev)
    | intro _

theorem Dev.ownWrite_ev {rst : Bool} {dev0 : Dev} (d : Dev) (e : Ent) (v : Nat) (h0 : Evolves rst dev0 d) : SomeEv rst dev0 (Dev.ownWrite
    d e v) := by
  unfold Dev.ownWrite
  repeat' first
    | (with_reducible first | assumption | apply stateRequest_ev | apply clkGateWrite_ev | apply tbTrimWrite_ev)
    | (with_reducible first | apply Sys2Proof.Machine.acceptStep_ev | apply timeSet_ev | apply Dev.writeMode_ev)
    | (with_reducible first | apply Dev.modeCustom_ev | apply Dev.writeParts_ev | apply Dev.projected_ev | apply Dev.answer_ev)
    | (with_reducible first | apply Dev.quietWrite_ev | apply Dev.write_ev | apply Dev.drvAxesWrite_ev)
    | (with_reducible first | apply Dev.drvTickSet_ev | apply Dev.drvSettings_ev | apply Dev.drvTestSet_ev)
    | (with_reducible first | apply Dev.calibrate_ev | apply rangingRestWrite_ev | apply Dev.armSnap_ev | apply Dev.unitsDo_ev)
    | (with_reducible first | apply Sys2Proof.Machine.acqArm_ev | apply acqDisarm_ev | apply acqForce_ev)
    | (with_reducible first | apply clearRetirement_ev | apply Dev.compClear_ev | apply Dev.clutterBasic_ev)
    | (with_reducible first | apply Dev.tisFields_ev | apply Dev.tisBegin_ev | apply Dev.acqCtrl_ev | apply Dev.seqStart_ev)
    | (with_reducible first | apply some_ev | apply iteSome_ev | apply ite_ev)
    | exact none_ev | intro _
    | (extract_lets +onlyGivenNames x; refine (fun (hx : Evolves rst dev0 x) => ?_) ?_; clear_value x; rotate_left
       subst x; rotate_right)
    | (extract_lets +onlyGivenNames x; subst x) | split | (dsimp -zeta only)

theorem Dev.applyWrite_ev {rst : Bool} {dev0 : Dev} (d : Dev) (e : Ent) (v : Nat) (h0 : Evolves rst dev0 d) : Evolves rst dev0
    (Dev.applyWrite d e v) := by
  unfold Dev.applyWrite
  extract_lets +onlyGivenNames x
  have hx : Evolves rst dev0 x := Dev.answer_ev _ _ h0
  clear_value x
  split
  · exact Dev.answer_ev _ _ hx
  · extract_lets +onlyGivenNames y
    have hy : Evolves rst dev0 y := by
      simp only [y]
      split
      · rename_i z hz
        exact (Dev.ownWrite_ev x e v hx).get hz
      · exact Dev.writeParts_ev _ _ _ _ hx
    clear_value y
    split
    · exact Dev.answer_ev _ _ hx
    · exact hy

theorem Dev.committed_ev {rst : Bool} {dev0 : Dev} (d : Dev) (n : Dev) (h0 : Evolves rst dev0 d) (h1 : Evolves rst dev0 n) : Evolves rst
    dev0 (Dev.committed d n) := by
  unfold Dev.committed
  repeat' first
    | (with_reducible first | assumption | apply Dev.projected_ev | apply Dev.recordCheck_ev | apply Dev.answer_ev)
    | (with_reducible first | apply ite_ev)
    | intro _
    | (extract_lets +onlyGivenNames x; refine (fun (hx : Evolves rst dev0 x) => ?_) ?_; clear_value x; rotate_left
       subst x; rotate_right)
    | (extract_lets +onlyGivenNames x; subst x)

theorem Dev.samplePair_ev {rst : Bool} {dev0 : Dev} (d : Dev) (c : TollChan) (levels : Nat) (t : Nat) (i : Nat) (h0 : Evolves rst dev0 d)
    : Evolves rst dev0 (Dev.samplePair d c levels t i) := by
  unfold Dev.samplePair
  repeat' first
    | (with_reducible first | assumption | apply Dev.raiseIf_ev | apply Dev.modToll_ev | apply ite_ev)
    | intro _
    | (extract_lets +onlyGivenNames x; refine (fun (hx : Evolves rst dev0 x) => ?_) ?_; clear_value x; rotate_left
       subst x; rotate_right)
    | (extract_lets +onlyGivenNames x; subst x) | (dsimp -zeta only)

theorem Dev.inputReset_ev {rst : Bool} {dev0 : Dev} (d : Dev) (c : TollChan) (before : Dev) (levels : Nat) (t : Nat) (h0 : Evolves rst
    dev0 d) (h2 : Evolves rst dev0 before) : Evolves rst dev0 (Dev.inputReset d c before levels t) := by
  unfold Dev.inputReset
  repeat' first
    | (with_reducible first | assumption | apply Dev.modToll_ev | apply ite_ev)
    | intro _
    | (extract_lets +onlyGivenNames x; refine (fun (hx : Evolves rst dev0 x) => ?_) ?_; clear_value x; rotate_left
       subst x; rotate_right)
    | (extract_lets +onlyGivenNames x; subst x) | (dsimp -zeta only)

theorem safeInputSample_ev {rst : Bool} {dev0 : Dev} (c : TollChan) (levels : Nat) (t : Nat) (d : Dev) (h3 : Evolves rst dev0 d) : Evolves
    rst dev0 (safeInputSample c levels t d) := by
  unfold safeInputSample
  repeat' first
    | (with_reducible first | assumption | apply Dev.advanceTo_ev | apply Dev.settled_ev | apply Dev.set_ev)
    | (with_reducible first | apply Dev.each_ev | apply Dev.samplePair_ev | apply Dev.islandEval_ev | apply Dev.inputReset_ev)
    | (with_reducible first | apply ite_ev)
    | intro _
    | (extract_lets +onlyGivenNames x; refine (fun (hx : Evolves rst dev0 x) => ?_) ?_; clear_value x; rotate_left
       subst x; rotate_right)
    | (extract_lets +onlyGivenNames x; subst x) | (dsimp -zeta only)

theorem tpWindowStart_ev {rst : Bool} {dev0 : Dev} (c : TollChan) (t : Nat) (d : Dev) (h2 : Evolves rst dev0 d) : Evolves rst dev0
    (tpWindowStart c t d) := by
  unfold tpWindowStart
  repeat' first
    | (with_reducible first | assumption | apply Dev.advanceTo_ev | apply Dev.modToll_ev | apply ite_ev)
    | intro _
    | (extract_lets +onlyGivenNames x; refine (fun (hx : Evolves rst dev0 x) => ?_) ?_; clear_value x; rotate_left
       subst x; rotate_right)
    | (extract_lets +onlyGivenNames x; subst x) | (dsimp -zeta only)

theorem tpLowEnd_ev {rst : Bool} {dev0 : Dev} (c : TollChan) (d : Dev) (h1 : Evolves rst dev0 d) : Evolves rst dev0 (tpLowEnd c d) := by
  unfold tpLowEnd
  repeat' first
    | (with_reducible first | assumption | apply Dev.modToll_ev)
    | intro _ | (extract_lets +onlyGivenNames x; subst x) | (dsimp -zeta only)

theorem Dev.outputFault_ev {rst : Bool} {dev0 : Dev} (d : Dev) (p : Nat) (h0 : Evolves rst dev0 d) : Evolves rst dev0 (Dev.outputFault d
    p) := by
  unfold Dev.outputFault
  repeat' first
    | (with_reducible first | assumption | apply Dev.raiseIf_ev)
    | (extract_lets +onlyGivenNames x; subst x)

theorem outputReadback_ev {rst : Bool} {dev0 : Dev} (c : TollChan) (rb : Nat) (d : Dev) (h2 : Evolves rst dev0 d) : Evolves rst dev0
    (outputReadback c rb d) := by
  unfold outputReadback
  repeat' first
    | (with_reducible first | assumption | apply Dev.modToll_ev | apply Dev.each_ev | apply Dev.outputFault_ev)
    | (with_reducible first | apply Dev.bothEval_ev | apply ite_ev)
    | intro _
    | (extract_lets +onlyGivenNames x; refine (fun (hx : Evolves rst dev0 x) => ?_) ?_; clear_value x; rotate_left
       subst x; rotate_right)
    | (extract_lets +onlyGivenNames x; subst x) | (dsimp -zeta only)

theorem offPulseStart_ev {rst : Bool} {dev0 : Dev} (pair : Nat) (sw : Nat) (d : Dev) (h2 : Evolves rst dev0 d) : Evolves rst dev0
    (offPulseStart pair sw d) := by
  unfold offPulseStart
  repeat' first
    | (with_reducible first | assumption | apply Dev.islandEval_ev | apply Dev.setPulsing_ev | apply ite_ev)
    | intro _
    | (extract_lets +onlyGivenNames x; refine (fun (hx : Evolves rst dev0 x) => ?_) ?_; clear_value x; rotate_left
       subst x; rotate_right)
    | (extract_lets +onlyGivenNames x; subst x)

theorem offPulseCheck_ev {rst : Bool} {dev0 : Dev} (pair : Nat) (sw : Nat) (high : Bool) (d : Dev) (h3 : Evolves rst dev0 d) : Evolves rst
    dev0 (offPulseCheck pair sw high d) := by
  unfold offPulseCheck
  repeat' first
    | (with_reducible first | assumption | apply Dev.bothEval_ev | apply Dev.outputFault_ev | apply Dev.inc_ev | apply ite_ev)
    | intro _
    | (extract_lets +onlyGivenNames x; refine (fun (hx : Evolves rst dev0 x) => ?_) ?_; clear_value x; rotate_left
       subst x; rotate_right)
    | (extract_lets +onlyGivenNames x; subst x)

theorem offPulseEnd_ev {rst : Bool} {dev0 : Dev} (pair : Nat) (sw : Nat) (d : Dev) (h2 : Evolves rst dev0 d) : Evolves rst dev0
    (offPulseEnd pair sw d) := by
  unfold offPulseEnd
  repeat' first
    | (with_reducible first | assumption | apply Dev.islandEval_ev | apply Dev.setPulsing_ev | apply Dev.add_ev | apply ite_ev)
    | intro _
    | (extract_lets +onlyGivenNames x; refine (fun (hx : Evolves rst dev0 x) => ?_) ?_; clear_value x; rotate_left
       subst x; rotate_right)
    | (extract_lets +onlyGivenNames x; subst x)

theorem Dev.clearOutputs_ev {rst : Bool} {dev0 : Dev} (d : Dev) (h0 : Evolves rst dev0 d) : Evolves rst dev0 (Dev.clearOutputs d) := by
  unfold Dev.clearOutputs
  repeat' first
    | (with_reducible first | assumption)
    | intro _
    | (extract_lets +onlyGivenNames x; refine (fun (hx : Evolves rst dev0 x) => ?_) ?_; clear_value x; rotate_left
       subst x; rotate_right)
    | (extract_lets +onlyGivenNames x; subst x) | (dsimp -zeta only)

theorem safetyClearFaults_ev {rst : Bool} {dev0 : Dev} (role : Role) (v : Nat) (d : Dev) (h2 : Evolves rst dev0 d) : Evolves rst dev0
    (safetyClearFaults role v d) := by
  unfold safetyClearFaults
  repeat' first
    | (with_reducible first | assumption | apply Dev.roleOne_ev | apply Dev.clearOutputs_ev)

theorem mailboxExchange_ev {rst : Bool} {dev0 : Dev} (logicDev : Int) (procDev : Int) (d : Dev) (h2 : Evolves rst dev0 d) : Evolves rst
    dev0 (mailboxExchange logicDev procDev d) := by
  unfold mailboxExchange
  repeat' first
    | (with_reducible first | assumption | apply Dev.settled_ev | apply Dev.modToll_ev | apply Dev.tollFault_ev | apply ite_ev)
    | intro _
    | (extract_lets +onlyGivenNames x; refine (fun (hx : Evolves rst dev0 x) => ?_) ?_; clear_value x; rotate_left
       subst x; rotate_right)
    | (extract_lets +onlyGivenNames x; subst x) | (dsimp -zeta only)

theorem mailboxMissingTimeout_ev {rst : Bool} {dev0 : Dev} (d : Dev) (h0 : Evolves rst dev0 d) : Evolves rst dev0 (mailboxMissingTimeout
    d) := by
  unfold mailboxMissingTimeout
  repeat' first
    | (with_reducible first | assumption | apply Dev.tollFault_ev | apply ite_ev)
    | intro _

theorem logicRayDecision_ev {rst : Bool} {dev0 : Dev} (ch : Nat) (d : Dev) (h1 : Evolves rst dev0 d) : Evolves rst dev0 (logicRayDecision
    ch d) := by
  unfold logicRayDecision
  repeat' first
    | (with_reducible first | assumption | apply Dev.settled_ev | apply Dev.modToll_ev | apply Dev.modChan_ev)
    | (with_reducible first | apply Dev.bothEval_ev | apply ite_ev)
    | intro _
    | (extract_lets +onlyGivenNames x; refine (fun (hx : Evolves rst dev0 x) => ?_) ?_; clear_value x; rotate_left
       subst x; rotate_right)
    | (extract_lets +onlyGivenNames x; subst x) | (dsimp -zeta only)

theorem procRayDecision_ev {rst : Bool} {dev0 : Dev} (ch : Nat) (d : Dev) (h1 : Evolves rst dev0 d) : Evolves rst dev0 (procRayDecision ch
    d) := by
  unfold procRayDecision
  repeat' first
    | (with_reducible first | assumption | apply Dev.settled_ev | apply Dev.modToll_ev | apply Dev.bothEval_ev | apply ite_ev)
    | intro _
    | (extract_lets +onlyGivenNames x; refine (fun (hx : Evolves rst dev0 x) => ?_) ?_; clear_value x; rotate_left
       subst x; rotate_right)
    | (extract_lets +onlyGivenNames x; subst x) | (dsimp -zeta only)

theorem Dev.queueTelegram_ev {rst : Bool} {dev0 : Dev} (d : Dev) (bs : Bytes) (h0 : Evolves rst dev0 d) : Evolves rst dev0
    (Dev.queueTelegram d bs) := by
  unfold Dev.queueTelegram
  repeat' first
    | (with_reducible first | assumption | apply Dev.enqueue_ev | apply ite_ev)
    | intro _
    | (extract_lets +onlyGivenNames x; refine (fun (hx : Evolves rst dev0 x) => ?_) ?_; clear_value x; rotate_left
       subst x; rotate_right)
    | (extract_lets +onlyGivenNames x; subst x)

theorem Dev.composeTelegram_ev {rst : Bool} {dev0 : Dev} (d : Dev) (t : Nat) (alike : Bool) (h0 : Evolves rst dev0 d) : Evolves rst dev0
    (Dev.composeTelegram d t alike) := by
  unfold Dev.composeTelegram
  repeat' first
    | (with_reducible first | assumption | apply Dev.queueTelegram_ev | apply Dev.tollFault_ev | apply ite_ev)
    | intro _
    | (extract_lets +onlyGivenNames x; refine (fun (hx : Evolves rst dev0 x) => ?_) ?_; clear_value x; rotate_left
       subst x; rotate_right)
    | (extract_lets +onlyGivenNames x; subst x) | split | (dsimp -zeta only)

theorem telegramTxPeriod_ev {rst : Bool} {dev0 : Dev} (t : Nat) (alike : Bool) (d : Dev) (h2 : Evolves rst dev0 d) : Evolves rst dev0
    (telegramTxPeriod t alike d) := by
  unfold telegramTxPeriod
  repeat' first
    | (with_reducible first | assumption | apply Dev.advanceTo_ev | apply Dev.settled_ev | apply Dev.composeTelegram_ev)
    | (with_reducible first | apply ite_ev)
    | intro _
    | (extract_lets +onlyGivenNames x; refine (fun (hx : Evolves rst dev0 x) => ?_) ?_; clear_value x; rotate_left
       subst x; rotate_right)
    | (extract_lets +onlyGivenNames x; subst x) | (dsimp -zeta only)

theorem telegramChangeTx_ev {rst : Bool} {dev0 : Dev} (t : Nat) (alike : Bool) (d : Dev) (h2 : Evolves rst dev0 d) : Evolves rst dev0
    (telegramChangeTx t alike d) := by
  unfold telegramChangeTx
  repeat' first
    | (with_reducible first | assumption | apply Dev.advanceTo_ev | apply Dev.settled_ev | apply Dev.composeTelegram_ev)
    | (with_reducible first | apply ite_ev)
    | intro _
    | (extract_lets +onlyGivenNames x; refine (fun (hx : Evolves rst dev0 x) => ?_) ?_; clear_value x; rotate_left
       subst x; rotate_right)
    | (extract_lets +onlyGivenNames x; subst x) | (dsimp -zeta only)

theorem Dev.closeWin_ev {rst : Bool} {dev0 : Dev} (d : Dev) (seq : Nat) (h0 : Evolves rst dev0 d) : Evolves rst dev0 (Dev.closeWin d seq) := by
  unfold Dev.closeWin
  repeat' first
    | (with_reducible first | assumption)
    | intro _ | (extract_lets +onlyGivenNames x; subst x) | (dsimp -zeta only)

theorem Dev.acceptTelegram_ev {rst : Bool} {dev0 : Dev} (d : Dev) (bs : Bytes) (h0 : Evolves rst dev0 d) : Evolves rst dev0
    (Dev.acceptTelegram d bs) := by
  unfold Dev.acceptTelegram
  repeat' first
    | (with_reducible first | assumption | apply Dev.bothEval_ev | apply Dev.inc_ev)
    | (extract_lets +onlyGivenNames x; refine (fun (hx : Evolves rst dev0 x) => ?_) ?_; clear_value x; rotate_left
       subst x; rotate_right)
    | (extract_lets +onlyGivenNames x; subst x)

theorem Dev.loseTelegrams_ev {rst : Bool} {dev0 : Dev} (d : Dev) (h0 : Evolves rst dev0 d) : Evolves rst dev0 (Dev.loseTelegrams d) := by
  unfold Dev.loseTelegrams
  repeat' first
    | (with_reducible first | assumption | apply Dev.bothEval_ev | apply Dev.raise_ev | apply Dev.inc_ev)
    | (extract_lets +onlyGivenNames x; subst x)

theorem Dev.copyMismatch_ev {rst : Bool} {dev0 : Dev} (d : Dev) (t : Nat) (h0 : Evolves rst dev0 d) : Evolves rst dev0 (Dev.copyMismatch d
    t) := by
  unfold Dev.copyMismatch
  repeat' first
    | (with_reducible first | assumption | apply Dev.raise_ev | apply Dev.inc_ev | apply Dev.loseTelegrams_ev | apply ite_ev)
    | intro _
    | (extract_lets +onlyGivenNames x; refine (fun (hx : Evolves rst dev0 x) => ?_) ?_; clear_value x; rotate_left
       subst x; rotate_right)
    | (extract_lets +onlyGivenNames x; subst x) | split

theorem Dev.validCopy_ev {rst : Bool} {dev0 : Dev} (d : Dev) (port : Nat) (bs : Bytes) (t : Nat) (h0 : Evolves rst dev0 d) : Evolves rst
    dev0 (Dev.validCopy d port bs t) := by
  unfold Dev.validCopy
  repeat' first
    | (with_reducible first | assumption | apply Dev.acceptTelegram_ev | apply Dev.closeWin_ev | apply Dev.copyMismatch_ev)
    | (with_reducible first | apply ite_ev)
    | intro _ | (extract_lets +onlyGivenNames x; subst x) | split | (dsimp -zeta only)

theorem Dev.takeTelegram_ev {rst : Bool} {dev0 : Dev} (d : Dev) (port : Nat) (srcIp : Nat) (dstPort : Nat) (bs : Bytes) (h0 : Evolves rst
    dev0 d) : Evolves rst dev0 (Dev.takeTelegram d port srcIp dstPort bs) := by
  unfold Dev.takeTelegram
  repeat' first
    | (with_reducible first | assumption | apply Dev.inc_ev | apply Dev.settled_ev | apply Dev.validCopy_ev | apply ite_ev)
    | intro _ | (dsimp -zeta only)

theorem safeTelegramRx_ev {rst : Bool} {dev0 : Dev} (f : RxFrame) (srcIp : Nat) (dstPort : Nat) (bs : Bytes) (d : Dev) (h4 : Evolves rst
    dev0 d) : Evolves rst dev0 (safeTelegramRx f srcIp dstPort bs d) := by
  unfold safeTelegramRx
  repeat' first
    | (with_reducible first | assumption | apply Dev.rxAny_ev | apply Dev.takeTelegram_ev)
    | intro _ | (extract_lets +onlyGivenNames x; subst x) | (dsimp -zeta only)

theorem compareWindowEnd_ev {rst : Bool} {dev0 : Dev} (t : Nat) (d : Dev) (h1 : Evolves rst dev0 d) : Evolves rst dev0 (compareWindowEnd t
    d) := by
  unfold compareWindowEnd
  repeat' first
    | (with_reducible first | assumption | apply Dev.advanceTo_ev | apply Dev.closeWin_ev | apply Dev.settled_ev)
    | (with_reducible first | apply Dev.acceptTelegram_ev | apply Dev.raise_ev | apply Dev.inc_ev | apply ite_ev)
    | intro _
    | (extract_lets +onlyGivenNames x; refine (fun (hx : Evolves rst dev0 x) => ?_) ?_; clear_value x; rotate_left
       subst x; rotate_right)
    | (extract_lets +onlyGivenNames x; subst x) | split | (dsimp -zeta only)

theorem telegramWatchdog_ev {rst : Bool} {dev0 : Dev} (d : Dev) (h0 : Evolves rst dev0 d) : Evolves rst dev0 (telegramWatchdog d) := by
  unfold telegramWatchdog
  repeat' first
    | (with_reducible first | assumption | apply Dev.settled_ev | apply Dev.advanceTo_ev | apply Dev.loseTelegrams_ev)
    | (with_reducible first | apply ite_ev)
    | intro _

theorem Dev.tapReset_ev {rst : Bool} {dev0 : Dev} (d : Dev) (low : Bool) (h0 : Evolves rst dev0 d) : Evolves rst dev0 (Dev.tapReset d low)
    := by
  unfold Dev.tapReset
  repeat' first
    | (with_reducible first | assumption | apply ite_ev)
    | intro _
    | (extract_lets +onlyGivenNames x; refine (fun (hx : Evolves rst dev0 x) => ?_) ?_; clear_value x; rotate_left
       subst x; rotate_right)
    | (extract_lets +onlyGivenNames x; subst x) | split | (dsimp -zeta only)

theorem Dev.tapClock_ev {rst : Bool} {dev0 : Dev} (d : Dev) (tms : Bool) (tdi : Bool) (code : TapInstr) (h0 : Evolves rst dev0 d) :
    Evolves rst dev0 (Dev.tapClock d tms tdi code) := by
  unfold Dev.tapClock
  repeat' first
    | (with_reducible first | assumption | apply ite_ev)
    | intro _
    | (extract_lets +onlyGivenNames x; refine (fun (hx : Evolves rst dev0 x) => ?_) ?_; clear_value x; rotate_left
       subst x; rotate_right)
    | (extract_lets +onlyGivenNames x; subst x) | split | (dsimp -zeta only)

theorem Dev.verifyImage_ev {rst : Bool} {dev0 : Dev} (d : Dev) (img : Bytes) (h0 : Evolves rst dev0 d) : Evolves rst dev0 (Dev.verifyImage
    d img).2 := by
  unfold Dev.verifyImage
  repeat' first
    | (with_reducible first | assumption | apply Dev.raiseIf_ev)
    | (extract_lets +onlyGivenNames x; refine (fun (hx : Evolves rst dev0 x) => ?_) ?_; clear_value x; rotate_left
       subst x; rotate_right)
    | (extract_lets +onlyGivenNames x; subst x)

theorem Dev.recover_ev {rst : Bool} {dev0 : Dev} (d : Dev) (code : Nat) (h0 : Evolves rst dev0 d) : Evolves rst dev0 (Dev.recover d code) := by
  unfold Dev.recover
  repeat' first
    | (with_reducible first | assumption | apply Dev.print_ev | apply Dev.raise_ev | apply Dev.set_ev | apply Dev.setB_ev)
    | (extract_lets +onlyGivenNames x; subst x)

theorem Dev.bootSlot_ev {rst : Bool} {dev0 : Dev} (d : Dev) (slot : Nat) (confirmed : Bool) (tries : Nat) (h0 : Evolves rst dev0 d) :
    Evolves rst dev0 (Dev.bootSlot d slot confirmed tries) := by
  unfold Dev.bootSlot
  repeat' first
    | (with_reducible first | assumption | apply Dev.set_ev | apply Dev.setB_ev)
    | (extract_lets +onlyGivenNames x; refine (fun (hx : Evolves rst dev0 x) => ?_) ?_; clear_value x; rotate_left
       subst x; rotate_right)
    | (extract_lets +onlyGivenNames x; subst x)

theorem Dev.chooseRecorded_ev {rst : Bool} {dev0 : Dev} (d : Dev) (h0 : Evolves rst dev0 d) : Evolves rst dev0 (Dev.chooseRecorded d) :=
    by
  unfold Dev.chooseRecorded
  repeat' first
    | (with_reducible first | assumption | apply Dev.bootSlot_ev | apply Dev.raise_ev | apply Dev.recordBoot_ev)
    | (with_reducible first | apply Dev.recover_ev | apply Dev.verifyImage_ev | apply ite_ev)
    | intro _
    | (extract_lets +onlyGivenNames x; refine (fun (hx : Evolves rst dev0 x) => ?_) ?_; clear_value x; rotate_left
       subst x; rotate_right)
    | (extract_lets +onlyGivenNames x; refine (fun (hx : Evolves rst dev0 x.1) => ?_) ?_; clear_value x; rotate_left
       subst x; rotate_right)
    | (extract_lets +onlyGivenNames x; refine (fun (hx : Evolves rst dev0 x.2) => ?_) ?_; clear_value x; rotate_left
       subst x; rotate_right)
    | (extract_lets +onlyGivenNames x; subst x) | split | (dsimp -zeta only)

theorem Dev.chooseUnrecorded_ev {rst : Bool} {dev0 : Dev} (d : Dev) (h0 : Evolves rst dev0 d) : Evolves rst dev0 (Dev.chooseUnrecorded d) := by
  unfold Dev.chooseUnrecorded
  repeat' first
    | (with_reducible first | assumption | apply Dev.verifyImage_ev | apply Dev.bootSlot_ev | apply Dev.recover_ev)
    | (with_reducible first | apply ite_ev)
    | intro _
    | (extract_lets +onlyGivenNames x; refine (fun (hx : Evolves rst dev0 x) => ?_) ?_; clear_value x; rotate_left
       subst x; rotate_right)
    | (extract_lets +onlyGivenNames x; refine (fun (hx : Evolves rst dev0 x.1) => ?_) ?_; clear_value x; rotate_left
       subst x; rotate_right)
    | (extract_lets +onlyGivenNames x; refine (fun (hx : Evolves rst dev0 x.2) => ?_) ?_; clear_value x; rotate_left
       subst x; rotate_right)
    | (extract_lets +onlyGivenNames x; subst x)

theorem Dev.chooseSlot_ev {rst : Bool} {dev0 : Dev} (d : Dev) (h0 : Evolves rst dev0 d) : Evolves rst dev0 (Dev.chooseSlot d) := by
  unfold Dev.chooseSlot
  repeat' first
    | (with_reducible first | assumption | apply Dev.setB_ev | apply Dev.recover_ev | apply Dev.chooseRecorded_ev)
    | (with_reducible first | apply Dev.chooseUnrecorded_ev | apply ite_ev)
    | intro _
    | (extract_lets +onlyGivenNames x; refine (fun (hx : Evolves rst dev0 x) => ?_) ?_; clear_value x; rotate_left
       subst x; rotate_right)
    | (extract_lets +onlyGivenNames x; subst x)

theorem Dev.loadTable_ev {rst : Bool} {dev0 : Dev} (d : Dev) (idx : Nat) (bs : Bytes) (h0 : Evolves rst dev0 d) : Evolves rst dev0
    (Dev.loadTable d idx bs) := by
  unfold Dev.loadTable
  repeat' first
    | (with_reducible first | assumption | apply Dev.acceptSafety_ev | apply Dev.swapOnAcceptance_ev | apply Dev.commitBank_ev)
    | (with_reducible first | apply ite_ev)
    | intro _ | (extract_lets +onlyGivenNames x; subst x)

theorem Dev.loadRecord_ev {rst : Bool} {dev0 : Dev} (d : Dev) (r : Saved) (h0 : Evolves rst dev0 d) : Evolves rst dev0 (Dev.loadRecord d
    r) := by
  unfold Dev.loadRecord
  repeat' first
    | (with_reducible first | assumption | apply Dev.loadTable_ev | apply Dev.answer_ev | apply Dev.applyWrite_ev)
    | (with_reducible first | apply ite_ev)
    | intro _ | (extract_lets +onlyGivenNames x; subst x) | split

theorem Dev.loadStore_ev {rst : Bool} {dev0 : Dev} (d : Dev) (h0 : Evolves rst dev0 d) : Evolves rst dev0 (Dev.loadStore d) := by
  unfold Dev.loadStore
  repeat' first
    | (with_reducible first | assumption | apply Dev.loadRecord_ev | apply Dev.raise_ev | apply foldl_ev)
    | (extract_lets +onlyGivenNames x; subst x) | split

theorem Dev.resendToll_ev {rst : Bool} {dev0 : Dev} (d : Dev) (h0 : Evolves rst dev0 d) : Evolves rst dev0 (Dev.resendToll d) := by
  unfold Dev.resendToll
  repeat' first
    | (with_reducible first | assumption | apply Dev.loadRecord_ev | apply foldl_ev)
    | intro _ | (dsimp -zeta only)

theorem configSave_ev {rst : Bool} {dev0 : Dev} (role : Role) (v : Nat) (d : Dev) (h2 : Evolves rst dev0 d) : Evolves rst dev0 (configSave
    role v d) := by
  unfold configSave
  repeat' first
    | (with_reducible first | assumption | apply Dev.roleOne_ev | apply Dev.answer_ev | apply ite_ev)
    | intro _ | (extract_lets +onlyGivenNames x; subst x) | (dsimp -zeta only)

theorem configSaveDone_ev {rst : Bool} {dev0 : Dev} (d : Dev) (h0 : Evolves rst dev0 d) : Evolves rst dev0 (configSaveDone d) := by
  unfold configSaveDone
  repeat' first
    | (with_reducible first | assumption | apply none_ev | apply Dev.recordStore_ev | apply some_ev)
    | intro _
    | (extract_lets +onlyGivenNames x; refine (fun (hx : Evolves rst dev0 x) => ?_) ?_; clear_value x; rotate_left
       subst x; rotate_right)
    | (extract_lets +onlyGivenNames x; subst x) | split | (dsimp -zeta only)

theorem Dev.resetFields_ev {rst : Bool} {dev0 : Dev} (d : Dev) (h0 : Evolves rst dev0 d) : Evolves rst dev0 (Dev.resetFields d) := by
  unfold Dev.resetFields
  repeat' first
    | (with_reducible first | assumption | apply Dev.setB_ev | apply Dev.set_ev)

theorem Dev.wholeReset_ev {dev0 : Dev} (d : Dev) (code : Nat) (h0 : Evolves true dev0 d) : Evolves true dev0 (Dev.wholeReset d code) := by
  unfold Dev.wholeReset
  apply Dev.resetFields_ev
  apply Dev.set_ev
  exact ⟨fun _ => ⟨resetCells_ok, Nat.zero_le _, Nat.zero_le _, Nat.zero_le _, List.nodup_nil⟩,
    fun _ h => absurd h (by simp [Dev.reset]), .inl rfl, h0.2.2.2⟩

theorem Dev.sampleStraps_ev {rst : Bool} {dev0 : Dev} (d : Dev) (ref : Bool) (rcv : Bool) (maint : Bool) (h0 : Evolves rst dev0 d) :
    Evolves rst dev0 (Dev.sampleStraps d ref rcv maint) := by
  unfold Dev.sampleStraps
  repeat' first
    | (with_reducible first | assumption | apply Dev.resetFields_ev)
    | (extract_lets +onlyGivenNames x; subst x)

theorem Dev.holdReset_ev {rst : Bool} {dev0 : Dev} (d : Dev) (h0 : Evolves rst dev0 d) : Evolves rst dev0 (Dev.holdReset d) := by
  unfold Dev.holdReset
  repeat' first
    | (with_reducible first | assumption)
    | (extract_lets +onlyGivenNames x; subst x)

theorem Dev.startStewards_ev {rst : Bool} {dev0 : Dev} (d : Dev) (h0 : Evolves rst dev0 d) : Evolves rst dev0 (Dev.startStewards d) := by
  unfold Dev.startStewards
  repeat' first
    | (with_reducible first | assumption | apply Dev.setB_ev | apply Dev.set_ev)
    | intro _
    | (extract_lets +onlyGivenNames x; refine (fun (hx : Evolves rst dev0 x) => ?_) ?_; clear_value x; rotate_left
       subst x; rotate_right)
    | (extract_lets +onlyGivenNames x; subst x) | (dsimp -zeta only)

theorem Dev.linkFields_ev {rst : Bool} {dev0 : Dev} (d : Dev) (h0 : Evolves rst dev0 d) : Evolves rst dev0 (Dev.linkFields d) := by
  unfold Dev.linkFields
  repeat' first
    | (with_reducible first | assumption | apply Dev.each_ev | apply Dev.modBx_ev | apply Dev.modPort_ev)
    | intro _ | (extract_lets +onlyGivenNames x; subst x) | (dsimp -zeta only)

theorem Dev.applyStores_ev {rst : Bool} {dev0 : Dev} (d : Dev) (h0 : Evolves rst dev0 d) : Evolves rst dev0 (Dev.applyStores d) := by
  unfold Dev.applyStores
  repeat' first
    | (with_reducible first | assumption | apply Dev.applyRetire_ev | apply Dev.linkFields_ev | apply Dev.loadStore_ev)
    | (with_reducible first | apply Dev.set_ev | apply foldl_ev)
    | intro _
    | (extract_lets +onlyGivenNames x; refine (fun (hx : Evolves rst dev0 x) => ?_) ?_; clear_value x; rotate_left
       subst x; rotate_right)
    | (extract_lets +onlyGivenNames x; subst x) | (dsimp -zeta only)

theorem Dev.bootStep_ev {rst : Bool} {dev0 : Dev} (d : Dev) (n : Nat) (h0 : Evolves rst dev0 d) : Evolves rst dev0 (Dev.bootStep d n) := by
  unfold Dev.bootStep
  repeat' first
    | (with_reducible first | assumption | apply Dev.print_ev)
    | (extract_lets +onlyGivenNames x; subst x)

theorem Dev.bootRun_ev {rst : Bool} {dev0 : Dev} (d : Dev) (h0 : Evolves rst dev0 d) : Evolves rst dev0 (Dev.bootRun d) := by
  unfold Dev.bootRun
  repeat' first
    | (with_reducible first | assumption | apply Dev.chooseSlot_ev | apply Dev.bootStep_ev | apply Dev.tollPending_ev)
    | (with_reducible first | apply Dev.applyStores_ev | apply Dev.startStewards_ev | apply ite_ev)
    | intro _
    | (extract_lets +onlyGivenNames x; refine (fun (hx : Evolves rst dev0 x) => ?_) ?_; clear_value x; rotate_left
       subst x; rotate_right)
    | (extract_lets +onlyGivenNames x; subst x)

theorem powerOnReset_ev {dev0 : Dev} (ref : Bool) (rcv : Bool) (maint : Bool) (d : Dev) (h3 : Evolves true dev0 d) : Evolves true dev0
    (powerOnReset ref rcv maint d) := by
  unfold powerOnReset
  repeat' first
    | (with_reducible first | assumption | apply Dev.sampleStraps_ev | apply Dev.wholeReset_ev | apply Dev.holdReset_ev)
    | (with_reducible first | apply Dev.bootRun_ev | apply ite_ev)
    | intro _
    | (extract_lets +onlyGivenNames x; refine (fun (hx : Evolves true dev0 x) => ?_) ?_; clear_value x; rotate_left
       subst x; rotate_right)
    | (extract_lets +onlyGivenNames x; subst x)

theorem powerOnResetHold_ev {dev0 : Dev} (d : Dev) (h0 : Evolves true dev0 d) : Evolves true dev0 (powerOnResetHold d) := by
  unfold powerOnResetHold
  extract_lets +onlyGivenNames x mirror y
  have hx : Evolves true dev0 x := Dev.wholeReset_ev _ _ h0
  clear_value x
  have hy : Evolves true dev0 y := Dev.holdReset_ev _ ⟨fun w => ⟨(hx.1 w).1.putAll _, (hx.1 w).2⟩, hx.2⟩
  clear_value y
  exact hy

theorem Dev.resetLow_ev {dev0 : Dev} (d : Dev) (h0 : Evolves true dev0 d) : Evolves true dev0 (Dev.resetLow d) := by
  unfold Dev.resetLow
  repeat' first
    | (with_reducible first | assumption | apply Dev.holdReset_ev | apply Dev.wholeReset_ev | apply ite_ev)
    | intro _
    | (extract_lets +onlyGivenNames x; refine (fun (hx : Evolves true dev0 x) => ?_) ?_; clear_value x; rotate_left
       subst x; rotate_right)
    | (extract_lets +onlyGivenNames x; subst x)

theorem resetNRelease_ev {rst : Bool} {dev0 : Dev} (ref : Bool) (rcv : Bool) (maint : Bool) (d : Dev) (h3 : Evolves rst dev0 d) : Evolves
    rst dev0 (resetNRelease ref rcv maint d) := by
  unfold resetNRelease
  repeat' first
    | (with_reducible first | assumption | apply Dev.bootRun_ev | apply Dev.sampleStraps_ev | apply ite_ev)
    | intro _
    | (extract_lets +onlyGivenNames x; refine (fun (hx : Evolves rst dev0 x) => ?_) ?_; clear_value x; rotate_left
       subst x; rotate_right)
    | (extract_lets +onlyGivenNames x; subst x)

theorem bootComplete_ev {rst : Bool} {dev0 : Dev} (d : Dev) (h0 : Evolves rst dev0 d) : Evolves rst dev0 (bootComplete d) := by
  unfold bootComplete
  repeat' first
    | (with_reducible first | assumption | apply Dev.bootStep_ev | apply Dev.goto_ev | apply Dev.relinkAll_ev)
    | (with_reducible first | apply ite_ev)
    | intro _
    | (extract_lets +onlyGivenNames x; refine (fun (hx : Evolves rst dev0 x) => ?_) ?_; clear_value x; rotate_left
       subst x; rotate_right)
    | (extract_lets +onlyGivenNames x; subst x) | split | (dsimp -zeta only)

theorem softwareReset_ev {dev0 : Dev} (role : Role) (v : Nat) (d : Dev) (h2 : Evolves true dev0 d) : Evolves true dev0 (softwareReset role
    v d) := by
  unfold softwareReset
  repeat' first
    | (with_reducible first | assumption | apply Dev.roleWrite_ev | apply Dev.bootRun_ev | apply Dev.wholeReset_ev)
    | (with_reducible first | apply Dev.answer_ev | apply ite_ev)
    | intro _ | (dsimp -zeta only)

theorem Dev.runLoaded_ev {rst : Bool} {dev0 : Dev} (d : Dev) (h0 : Evolves rst dev0 d) : Evolves rst dev0 (Dev.runLoaded d) := by
  unfold Dev.runLoaded
  repeat' first
    | (with_reducible first | assumption | apply Dev.raise_ev | apply Dev.verifyImage_ev | apply Dev.set_ev)
    | (with_reducible first | apply Dev.print_ev | apply Dev.startStewards_ev | apply Dev.setB_ev | apply ite_ev)
    | (with_reducible first | apply foldl_ev)
    | intro _
    | (extract_lets +onlyGivenNames x; refine (fun (hx : Evolves rst dev0 x) => ?_) ?_; clear_value x; rotate_left
       subst x; rotate_right)
    | (extract_lets +onlyGivenNames x; refine (fun (hx : Evolves rst dev0 x.1) => ?_) ?_; clear_value x; rotate_left
       subst x; rotate_right)
    | (extract_lets +onlyGivenNames x; refine (fun (hx : Evolves rst dev0 x.2) => ?_) ?_; clear_value x; rotate_left
       subst x; rotate_right)
    | (extract_lets +onlyGivenNames x; subst x) | split | (dsimp -zeta only)
    | (with_reducible apply Follows.mix <;> with_reducible assumption)

theorem bootCtrlRun_ev {rst : Bool} {dev0 : Dev} (v : Nat) (d : Dev) (h1 : Evolves rst dev0 d) : Evolves rst dev0 (bootCtrlRun v d) := by
  unfold bootCtrlRun
  repeat' first
    | (with_reducible first | assumption | apply Dev.runLoaded_ev | apply ite_ev)
    | intro _

theorem supplyWarning_ev {rst : Bool} {dev0 : Dev} (_supply : Fin 4) (d : Dev) (h1 : Evolves rst dev0 d) : Evolves rst dev0 (supplyWarning
    _supply d) := by
  unfold supplyWarning
  repeat' first
    | (with_reducible first | assumption | apply Dev.raise_ev | apply ite_ev)
    | intro _

theorem Dev.islandReset_ev {rst : Bool} {dev0 : Dev} (d : Dev) (h0 : Evolves rst dev0 d) : Evolves rst dev0 (Dev.islandReset d) := by
  unfold Dev.islandReset
  repeat' first
    | (with_reducible first | assumption | apply Dev.tollReset_ev | apply Dev.setB_ev)
    | (extract_lets +onlyGivenNames x; refine (fun (hx : Evolves rst dev0 x) => ?_) ?_; clear_value x; rotate_left
       subst x; rotate_right)
    | (extract_lets +onlyGivenNames x; subst x)

theorem vddTollLoss_ev {rst : Bool} {dev0 : Dev} (d : Dev) (h0 : Evolves rst dev0 d) : Evolves rst dev0 (vddTollLoss d) := by
  unfold vddTollLoss
  repeat' first
    | (with_reducible first | assumption | apply Dev.disarm_ev | apply Dev.openSwitches_ev | apply Dev.hold_ev)
    | (extract_lets +onlyGivenNames x; refine (fun (hx : Evolves rst dev0 x) => ?_) ?_; clear_value x; rotate_left
       subst x; rotate_right)
    | (extract_lets +onlyGivenNames x; subst x)

theorem vddTollGood_ev {rst : Bool} {dev0 : Dev} (d : Dev) (h0 : Evolves rst dev0 d) : Evolves rst dev0 (vddTollGood d) := by
  unfold vddTollGood
  repeat' first
    | (with_reducible first | assumption | apply Dev.islandReset_ev | apply ite_ev)
    | intro _ | (extract_lets +onlyGivenNames x; subst x)

theorem tollSelfTestDone_ev {rst : Bool} {dev0 : Dev} (logicOk : Bool) (procOk : Bool) (d : Dev) (h2 : Evolves rst dev0 d) : Evolves rst
    dev0 (tollSelfTestDone logicOk procOk d) := by
  unfold tollSelfTestDone
  repeat' first
    | (with_reducible first | assumption | apply Dev.settled_ev | apply Dev.modToll_ev | apply Dev.tollFault_ev)
    | (with_reducible first | apply Dev.resendToll_ev | apply ite_ev)
    | intro _
    | (extract_lets +onlyGivenNames x; refine (fun (hx : Evolves rst dev0 x) => ?_) ?_; clear_value x; rotate_left
       subst x; rotate_right)
    | (extract_lets +onlyGivenNames x; subst x) | (dsimp -zeta only)

theorem tollReload_ev {rst : Bool} {dev0 : Dev} (role : Role) (v : Nat) (d : Dev) (h2 : Evolves rst dev0 d) : Evolves rst dev0 (tollReload
    role v d) := by
  unfold tollReload
  repeat' first
    | (with_reducible first | assumption | apply Dev.roleOne_ev | apply Dev.answer_ev | apply Dev.islandReset_ev)
    | (with_reducible first | apply ite_ev)
    | intro _ | (extract_lets +onlyGivenNames x; subst x) | (dsimp -zeta only)

theorem Dev.endSessions_ev {rst : Bool} {dev0 : Dev} (d : Dev) (h0 : Evolves rst dev0 d) : Evolves rst dev0 (Dev.endSessions d) := by
  exact ⟨fun w => ⟨(h0.1 w).1, (h0.1 w).2.1, (h0.1 w).2.2.1, (h0.1 w).2.2.2.1, List.nodup_nil⟩, h0.2⟩

theorem Dev.fromCheckpoint_ev {rst : Bool} {dev0 : Dev} (d : Dev) (h0 : Evolves rst dev0 d) : Evolves rst dev0 (Dev.fromCheckpoint d) := by
  unfold Dev.fromCheckpoint
  apply Dev.endSessions_ev
  exact ⟨fun w => ⟨((h0.1 w).1.filter _).putAll _, (h0.1 w).2⟩, h0.2⟩

theorem Dev.revert_ev {rst : Bool} {dev0 : Dev} (d : Dev) (h0 : Evolves rst dev0 d) : Evolves rst dev0 (Dev.revert d) := by
  unfold Dev.revert
  repeat' first
    | (with_reducible first | assumption | apply Dev.raise_ev | apply Dev.recordBoot_ev | apply Dev.set_ev)
    | (with_reducible first | apply Dev.setB_ev | apply Dev.tollPending_ev | apply ite_ev)
    | intro _
    | (extract_lets +onlyGivenNames x; refine (fun (hx : Evolves rst dev0 x) => ?_) ?_; clear_value x; rotate_left
       subst x; rotate_right)
    | (extract_lets +onlyGivenNames x; subst x) | split | (dsimp -zeta only)

theorem Dev.stewardStop_ev {rst : Bool} {dev0 : Dev} (d : Dev) (u : Nat) (h0 : Evolves rst dev0 d) : Evolves rst dev0 (Dev.stewardStop d
    u) := by
  unfold Dev.stewardStop
  repeat' first
    | (with_reducible first | assumption | apply Dev.setB_ev)
    | intro _ | (extract_lets +onlyGivenNames x; subst x) | (dsimp -zeta only)

theorem Dev.serveOther_ev {rst : Bool} {dev0 : Dev} (d : Dev) (u : Nat) (h0 : Evolves rst dev0 d) : Evolves rst dev0 (Dev.serveOther d u) := by
  unfold Dev.serveOther
  repeat' first
    | (with_reducible first | assumption | apply Dev.revert_ev | apply Dev.fromCheckpoint_ev | apply Dev.set_ev)
    | (with_reducible first | apply Dev.stewardStop_ev | apply Dev.endSessions_ev | apply ite_ev)
    | intro _
    | (extract_lets +onlyGivenNames x; refine (fun (hx : Evolves rst dev0 x) => ?_) ?_; clear_value x; rotate_left
       subst x; rotate_right)
    | (extract_lets +onlyGivenNames x; subst x)

theorem Dev.stewardReset_ev {rst : Bool} {dev0 : Dev} (d : Dev) (u : Nat) (h0 : Evolves rst dev0 d) : Evolves rst dev0 (Dev.stewardReset d
    u) := by
  unfold Dev.stewardReset
  repeat' first
    | (with_reducible first | assumption | apply Dev.raise_ev | apply Dev.set_ev | apply Dev.faultOn_ev)
    | (with_reducible first | apply Dev.serveOther_ev | apply Dev.stewardStop_ev | apply ite_ev)
    | intro _
    | (extract_lets +onlyGivenNames x; refine (fun (hx : Evolves rst dev0 x) => ?_) ?_; clear_value x; rotate_left
       subst x; rotate_right)
    | (extract_lets +onlyGivenNames x; subst x)

theorem stewardWatchdogExpiry_ev {rst : Bool} {dev0 : Dev} (d : Dev) (h0 : Evolves rst dev0 d) : Evolves rst dev0 (stewardWatchdogExpiry
    d) := by
  unfold stewardWatchdogExpiry
  repeat' first
    | (with_reducible first | assumption | apply Dev.settled_ev | apply Dev.stewardReset_ev | apply ite_ev)
    | intro _ | (dsimp -zeta only)

theorem stewardReloadDone_ev {rst : Bool} {dev0 : Dev} (u : Nat) (d : Dev) (h1 : Evolves rst dev0 d) : Evolves rst dev0 (stewardReloadDone
    u d) := by
  unfold stewardReloadDone
  repeat' first
    | (with_reducible first | assumption | apply Dev.set_ev | apply Dev.setB_ev | apply ite_ev)
    | intro _
    | (extract_lets +onlyGivenNames x; refine (fun (hx : Evolves rst dev0 x) => ?_) ?_; clear_value x; rotate_left
       subst x; rotate_right)
    | (extract_lets +onlyGivenNames x; subst x) | (dsimp -zeta only)

theorem stewardCheckpoint_ev {rst : Bool} {dev0 : Dev} (d : Dev) (h0 : Evolves rst dev0 d) : Evolves rst dev0 (stewardCheckpoint d) := by
  unfold stewardCheckpoint
  repeat' first
    | (with_reducible first | assumption | apply Dev.checkpoint_ev | apply ite_ev)
    | intro _

theorem firmwareHandover_ev {rst : Bool} {dev0 : Dev} (role : Role) (v : Nat) (d : Dev) (h2 : Evolves rst dev0 d) : Evolves rst dev0
    (firmwareHandover role v d) := by
  unfold firmwareHandover
  repeat' first
    | (with_reducible first | assumption | apply Dev.roleOne_ev | apply Dev.answer_ev | apply Dev.setB_ev | apply ite_ev)
    | intro _ | (extract_lets +onlyGivenNames x; subst x) | (dsimp -zeta only)

theorem Dev.handoverAbort_ev {rst : Bool} {dev0 : Dev} (d : Dev) (h0 : Evolves rst dev0 d) : Evolves rst dev0 (Dev.handoverAbort d) := by
  unfold Dev.handoverAbort
  repeat' first
    | (with_reducible first | assumption | apply Dev.raise_ev | apply Dev.setB_ev)
    | (extract_lets +onlyGivenNames x; subst x)

theorem handoverReady_ev {rst : Bool} {dev0 : Dev} (d : Dev) (h0 : Evolves rst dev0 d) : Evolves rst dev0 (handoverReady d) := by
  unfold handoverReady
  repeat' first
    | (with_reducible first | assumption | apply Dev.verifyImage_ev | apply Dev.handoverAbort_ev | apply Dev.handoverPass_ev)
    | (with_reducible first | apply ite_ev)
    | intro _
    | (extract_lets +onlyGivenNames x; refine (fun (hx : Evolves rst dev0 x) => ?_) ?_; clear_value x; rotate_left
       subst x; rotate_right)
    | (extract_lets +onlyGivenNames x; refine (fun (hx : Evolves rst dev0 x.1) => ?_) ?_; clear_value x; rotate_left
       subst x; rotate_right)
    | (extract_lets +onlyGivenNames x; refine (fun (hx : Evolves rst dev0 x.2) => ?_) ?_; clear_value x; rotate_left
       subst x; rotate_right)
    | (extract_lets +onlyGivenNames x; subst x)

theorem handoverTimeout_ev {rst : Bool} {dev0 : Dev} (d : Dev) (h0 : Evolves rst dev0 d) : Evolves rst dev0 (handoverTimeout d) := by
  unfold handoverTimeout
  repeat' first
    | (with_reducible first | assumption | apply Dev.handoverAbort_ev | apply ite_ev)
    | intro _ | (extract_lets +onlyGivenNames x; subst x)

theorem Dev.confirmImage_ev {rst : Bool} {dev0 : Dev} (d : Dev) (h0 : Evolves rst dev0 d) : Evolves rst dev0 (Dev.confirmImage d) := by
  unfold Dev.confirmImage
  repeat' first
    | (with_reducible first | assumption | apply Dev.recordBoot_ev | apply rollback_ev | apply Dev.setB_ev)
    | (with_reducible first | apply ite_ev)
    | intro _
    | (extract_lets +onlyGivenNames x; refine (fun (hx : Evolves rst dev0 x) => ?_) ?_; clear_value x; rotate_left
       subst x; rotate_right)
    | (extract_lets +onlyGivenNames x; subst x) | split | (dsimp -zeta only)

theorem firmwareConfirm_ev {rst : Bool} {dev0 : Dev} (role : Role) (v : Nat) (d : Dev) (h2 : Evolves rst dev0 d) : Evolves rst dev0
    (firmwareConfirm role v d) := by
  unfold firmwareConfirm
  repeat' first
    | (with_reducible first | assumption | apply Dev.roleOne_ev | apply Dev.confirmImage_ev)

theorem confirmTimeExpiry_ev {rst : Bool} {dev0 : Dev} (d : Dev) (h0 : Evolves rst dev0 d) : Evolves rst dev0 (confirmTimeExpiry d) := by
  unfold confirmTimeExpiry
  repeat' first
    | (with_reducible first | assumption | apply Dev.confirmImage_ev | apply ite_ev)
    | intro _ | (extract_lets +onlyGivenNames x; subst x)

theorem Dev.fuseSessions_ev {rst : Bool} {dev0 : Dev} (d : Dev) (h0 : Evolves rst dev0 d) : Evolves rst dev0 (Dev.fuseSessions d) := by
  exact ⟨fun w => ⟨(h0.1 w).1, (h0.1 w).2.1, (h0.1 w).2.2.1, (h0.1 w).2.2.2.1,
    (h0.1 w).2.2.2.2.sublist (List.filter_sublist.map _)⟩, h0.2⟩

theorem blowFuse_ev {rst : Bool} {dev0 : Dev} (role : Role) (v : Nat) (confirmed : Nat) (d : Dev) (h3 : Evolves rst dev0 d) : Evolves rst
    dev0 (blowFuse role v confirmed d) := by
  unfold blowFuse
  apply Dev.roleWrite_ev
  · exact h3
  · intro x hx
    dsimp only
    split
    · exact Dev.answer_ev _ _ hx
    · split
      · exact Dev.answer_ev _ _ hx
      · have h1 : Evolves rst dev0 { x with life := { x.life with fuses := blowFuses x.life.fuses (v % 16) confirmed } } :=
          ⟨hx.1, hx.2.1, hx.2.2.1, hx.2.2.2.1, hx.2.2.2.2.1, hx.2.2.2.2.2.1, hx.2.2.2.2.2.2.1,
            fun i h => blowFuses_keeps _ _ _ i (hx.2.2.2.2.2.2.2.1 i h), hx.2.2.2.2.2.2.2.2⟩
        split
        · exact Dev.fuseSessions_ev _ h1
        · exact Dev.answer_ev _ _ (Dev.fuseSessions_ev _ h1)

theorem Dev.eccCorrected_ev {rst : Bool} {dev0 : Dev} (d : Dev) (m : MemKind) (addr : Nat) (word : Bytes) (h0 : Evolves rst dev0 d) :
    Evolves rst dev0 (Dev.eccCorrected d m addr word) := by
  unfold Dev.eccCorrected
  repeat' first
    | (with_reducible first | assumption | apply Dev.inc_ev | apply Dev.raise_ev | apply Dev.raiseIf_ev)
    | (with_reducible first | apply Dev.setB_ev | apply ite_ev)
    | intro _
    | (extract_lets +onlyGivenNames x; refine (fun (hx : Evolves rst dev0 x) => ?_) ?_; clear_value x; rotate_left
       subst x; rotate_right)
    | (extract_lets +onlyGivenNames x; subst x) | split | (dsimp -zeta only)

theorem Dev.tallyPoison_ev {rst : Bool} {dev0 : Dev} (d : Dev) (ch : Nat) (word : Nat) (counts : Bool) (h0 : Evolves rst dev0 d) : Evolves
    rst dev0 (Dev.tallyPoison d ch word counts) := by
  unfold Dev.tallyPoison
  repeat' first
    | (with_reducible first | assumption | apply Dev.faultOn_ev | apply Dev.inc_ev | apply Dev.raise_ev)
    | (with_reducible first | apply Dev.setB_ev | apply ite_ev)
    | intro _
    | (extract_lets +onlyGivenNames x; refine (fun (hx : Evolves rst dev0 x) => ?_) ?_; clear_value x; rotate_left
       subst x; rotate_right)
    | (extract_lets +onlyGivenNames x; subst x) | split | (dsimp -zeta only)

theorem Dev.tableBad_ev {rst : Bool} {dev0 : Dev} (d : Dev) (idx : Nat) (bank : Nat) (h0 : Evolves rst dev0 d) : Evolves rst dev0
    (Dev.tableBad d idx bank) := by
  unfold Dev.tableBad
  repeat' first
    | (with_reducible first | assumption | apply Dev.modBank_ev | apply Dev.hold_ev | apply ite_ev)
    | intro _
    | (extract_lets +onlyGivenNames x; refine (fun (hx : Evolves rst dev0 x) => ?_) ?_; clear_value x; rotate_left
       subst x; rotate_right)
    | (extract_lets +onlyGivenNames x; subst x) | (dsimp -zeta only)

theorem Dev.ringBad_ev {rst : Bool} {dev0 : Dev} (d : Dev) (addr : Nat) (h0 : Evolves rst dev0 d) : Evolves rst dev0 (Dev.ringBad d addr) := by
  unfold Dev.ringBad
  repeat' first
    | (with_reducible first | assumption)
    | intro _ | (extract_lets +onlyGivenNames x; subst x) | (dsimp -zeta only)

theorem Dev.acqBad_ev {rst : Bool} {dev0 : Dev} (d : Dev) (u : Nat) (addr : Nat) (h0 : Evolves rst dev0 d) : Evolves rst dev0 (Dev.acqBad
    d u addr) := by
  unfold Dev.acqBad
  repeat' first
    | (with_reducible first | assumption | apply Dev.modUnit_ev | apply ite_ev)
    | intro _
    | (extract_lets +onlyGivenNames x; refine (fun (hx : Evolves rst dev0 x) => ?_) ?_; clear_value x; rotate_left
       subst x; rotate_right)
    | (extract_lets +onlyGivenNames x; subst x) | (dsimp -zeta only)

theorem Dev.eccBad_ev {rst : Bool} {dev0 : Dev} (d : Dev) (m : MemKind) (addr : Nat) (h0 : Evolves rst dev0 d) : Evolves rst dev0
    (Dev.eccBad d m addr) := by
  unfold Dev.eccBad
  repeat' first
    | (with_reducible first | assumption | apply Dev.acqBad_ev | apply Dev.modStream_ev | apply Dev.raise_ev)
    | (with_reducible first | apply Dev.ringBad_ev | apply Dev.setB_ev | apply Dev.stewardReset_ev | apply Dev.tableBad_ev)
    | (with_reducible first | apply Dev.tallyPoison_ev | apply Dev.tollFault_ev)
    | intro _
    | (extract_lets +onlyGivenNames x; refine (fun (hx : Evolves rst dev0 x) => ?_) ?_; clear_value x; rotate_left
       subst x; rotate_right)
    | (extract_lets +onlyGivenNames x; refine (fun (hx : Evolves rst dev0 x.1) => ?_) ?_; clear_value x; rotate_left
       subst x; rotate_right)
    | (extract_lets +onlyGivenNames x; refine (fun (hx : Evolves rst dev0 x.2) => ?_) ?_; clear_value x; rotate_left
       subst x; rotate_right)
    | (extract_lets +onlyGivenNames x; subst x) | split | (dsimp -zeta only)

theorem Dev.eccUncorr_ev {rst : Bool} {dev0 : Dev} (d : Dev) (m : MemKind) (addr : Nat) (h0 : Evolves rst dev0 d) : Evolves rst dev0
    (Dev.eccUncorr d m addr) := by
  unfold Dev.eccUncorr
  repeat' first
    | (with_reducible first | assumption | apply Dev.raise_ev | apply Dev.inc_ev | apply Dev.setB_ev | apply Dev.eccBad_ev)
    | (with_reducible first | apply Dev.set_ev | apply ite_ev)
    | intro _
    | (extract_lets +onlyGivenNames x; refine (fun (hx : Evolves rst dev0 x) => ?_) ?_; clear_value x; rotate_left
       subst x; rotate_right)
    | (extract_lets +onlyGivenNames x; subst x)

theorem scrubPass_ev {rst : Bool} {dev0 : Dev} (m : MemKind) (addr : Nat) (w : Bytes) (d : Dev) (h3 : Evolves rst dev0 d) : Evolves rst
    dev0 (scrubPass m addr w d) := by
  unfold scrubPass
  repeat' first
    | (with_reducible first | assumption | apply Dev.eccCorrected_ev | apply Dev.eccUncorr_ev | apply Dev.settled_ev)
    | (with_reducible first | apply ite_ev)
    | intro _
    | (extract_lets +onlyGivenNames x; refine (fun (hx : Evolves rst dev0 x) => ?_) ?_; clear_value x; rotate_left
       subst x; rotate_right)
    | (extract_lets +onlyGivenNames x; subst x) | split | (dsimp -zeta only)

theorem eccWriteback_ev {rst : Bool} {dev0 : Dev} (m : MemKind) (addr : Nat) (d : Dev) (h2 : Evolves rst dev0 d) : Evolves rst dev0
    (eccWriteback m addr d) := by
  unfold eccWriteback
  repeat' first
    | (with_reducible first | assumption | apply none_ev | apply some_ev | apply ite_ev)
    | intro _
    | (extract_lets +onlyGivenNames x; refine (fun (hx : Evolves rst dev0 x) => ?_) ?_; clear_value x; rotate_left
       subst x; rotate_right)
    | (extract_lets +onlyGivenNames x; refine (fun (hx : Evolves rst dev0 x.1) => ?_) ?_; clear_value x; rotate_left
       subst x; rotate_right)
    | (extract_lets +onlyGivenNames x; refine (fun (hx : Evolves rst dev0 x.2) => ?_) ?_; clear_value x; rotate_left
       subst x; rotate_right)
    | (extract_lets +onlyGivenNames x; subst x) | split | (dsimp -zeta only)

theorem Dev.ringRebuild_ev {rst : Bool} {dev0 : Dev} (d : Dev) (h0 : Evolves rst dev0 d) : Evolves rst dev0 (Dev.ringRebuild d) := by
  unfold Dev.ringRebuild
  repeat' first
    | (with_reducible first | assumption | apply Dev.raise_ev)
    | (extract_lets +onlyGivenNames x; refine (fun (hx : Evolves rst dev0 x) => ?_) ?_; clear_value x; rotate_left
       subst x; rotate_right)
    | (extract_lets +onlyGivenNames x; subst x)

theorem Dev.bxRebalance_ev {rst : Bool} {dev0 : Dev} (d : Dev) (p : Nat) (h0 : Evolves rst dev0 d) : Evolves rst dev0 (Dev.bxRebalance d
    p) := by
  unfold Dev.bxRebalance
  repeat' first
    | (with_reducible first | assumption | apply Dev.each_ev | apply Dev.raise_ev | apply Dev.bxDown_ev | apply Dev.faultOn_ev)
    | (with_reducible first | apply ite_ev)
    | intro _ | (dsimp -zeta only)

theorem conservationCheck_ev {rst : Bool} {dev0 : Dev} (d : Dev) (h0 : Evolves rst dev0 d) : Evolves rst dev0 (conservationCheck d) := by
  unfold conservationCheck
  repeat' first
    | (with_reducible first | assumption | apply Dev.ringRebuild_ev | apply Dev.bxRebalance_ev | apply ite_ev)
    | intro _
    | (extract_lets +onlyGivenNames x; refine (fun (hx : Evolves rst dev0 x) => ?_) ?_; clear_value x; rotate_left
       subst x; rotate_right)
    | (extract_lets +onlyGivenNames x; subst x)

theorem incidentInEdge_ev {rst : Bool} {dev0 : Dev} (t : Nat) (width : Nat) (d : Dev) (h2 : Evolves rst dev0 d) : Evolves rst dev0
    (incidentInEdge t width d) := by
  unfold incidentInEdge
  repeat' first
    | (with_reducible first | assumption | apply Dev.advanceTo_ev | apply Dev.incidentTrigger_ev | apply ite_ev)
    | intro _
    | (extract_lets +onlyGivenNames x; refine (fun (hx : Evolves rst dev0 x) => ?_) ?_; clear_value x; rotate_left
       subst x; rotate_right)
    | (extract_lets +onlyGivenNames x; subst x)

theorem recorderTrigger_ev {rst : Bool} {dev0 : Dev} (role : Role) (v : Nat) (d : Dev) (h2 : Evolves rst dev0 d) : Evolves rst dev0
    (recorderTrigger role v d) := by
  unfold recorderTrigger
  repeat' first
    | (with_reducible first | assumption | apply Dev.roleOne_ev | apply Dev.incidentTrigger_ev)
    | intro _ | (dsimp -zeta only)

theorem postWindowClose_ev {rst : Bool} {dev0 : Dev} (d : Dev) (h0 : Evolves rst dev0 d) : Evolves rst dev0 (postWindowClose d) := by
  unfold postWindowClose
  repeat' first
    | (with_reducible first | assumption | apply Dev.incidentNext_ev | apply Dev.incidentClose_ev | apply Dev.advance_ev)
    | (extract_lets +onlyGivenNames x; subst x) | split

theorem driveInserted_ev {rst : Bool} {dev0 : Dev} (d : Dev) (h0 : Evolves rst dev0 d) : Evolves rst dev0 (driveInserted d) := by
  unfold driveInserted
  repeat' first
    | (with_reducible first | assumption | apply Dev.raise_ev | apply ite_ev)
    | intro _ | (extract_lets +onlyGivenNames x; subst x)

theorem Dev.endTorn_ev {rst : Bool} {dev0 : Dev} (d : Dev) (h0 : Evolves rst dev0 d) : Evolves rst dev0 (Dev.endTorn d) := by
  unfold Dev.endTorn
  repeat' first
    | (with_reducible first | assumption | apply Dev.inc_ev | apply none_ev | apply Dev.raise_ev)
    | (with_reducible first | apply some_ev | apply ite_ev)
    | intro _
    | (extract_lets +onlyGivenNames x; refine (fun (hx : Evolves rst dev0 x) => ?_) ?_; clear_value x; rotate_left
       subst x; rotate_right)
    | (extract_lets +onlyGivenNames x; subst x) | split | (dsimp -zeta only)

theorem driveReady_ev {rst : Bool} {dev0 : Dev} (fmt4k : Bool) (space : DriveSpace) (sb0 : Bytes) (sb1 : Bytes) (d : Dev)
    (h4 : Evolves rst dev0 d) : Evolves rst dev0 (driveReady fmt4k space sb0 sb1 d) := by
  unfold driveReady
  repeat' first
    | (with_reducible first | assumption | apply Dev.blockCheck_ev | apply Dev.endTorn_ev | apply none_ev)
    | (with_reducible first | apply Dev.raise_ev | apply Dev.set_ev | apply some_ev | apply ite_ev)
    | intro _
    | (extract_lets +onlyGivenNames x; refine (fun (hx : Evolves rst dev0 x) => ?_) ?_; clear_value x; rotate_left
       subst x; rotate_right)
    | (extract_lets +onlyGivenNames x; subst x) | split | (dsimp -zeta only)

theorem driveRemoved_ev {rst : Bool} {dev0 : Dev} (d : Dev) (h0 : Evolves rst dev0 d) : Evolves rst dev0 (driveRemoved d) := by
  unfold driveRemoved
  repeat' first
    | (with_reducible first | assumption | apply Dev.driveGone_ev | apply Dev.faultOn_ev | apply Dev.raise_ev | apply Dev.takeFree_ev)
    | (with_reducible first | apply ite_ev)
    | intro _
    | (extract_lets +onlyGivenNames x; refine (fun (hx : Evolves rst dev0 x) => ?_) ?_; clear_value x; rotate_left
       subst x; rotate_right)
    | (extract_lets +onlyGivenNames x; subst x) | split | (dsimp -zeta only)

theorem recorderEject_ev {rst : Bool} {dev0 : Dev} (role : Role) (v : Nat) (d : Dev) (h2 : Evolves rst dev0 d) : Evolves rst dev0
    (recorderEject role v d) := by
  unfold recorderEject
  repeat' first
    | (with_reducible first | assumption | apply Dev.roleOne_ev | apply Dev.driveGone_ev | apply Dev.incidentClose_ev)
    | (with_reducible first | apply ite_ev)
    | intro _ | (extract_lets +onlyGivenNames x; subst x) | (dsimp -zeta only)

theorem recorderFormat_ev {rst : Bool} {dev0 : Dev} (role : Role) (v : Nat) (d : Dev) (h2 : Evolves rst dev0 d) : Evolves rst dev0
    (recorderFormat role v d) := by
  unfold recorderFormat
  repeat' first
    | (with_reducible first | assumption | apply Dev.roleOne_ev | apply Dev.answer_ev | apply Dev.set_ev | apply ite_ev)
    | intro _ | (extract_lets +onlyGivenNames x; subst x) | (dsimp -zeta only)

theorem recorderProtect_ev {rst : Bool} {dev0 : Dev} (role : Role) (v : Nat) (d : Dev) (h2 : Evolves rst dev0 d) : Evolves rst dev0
    (recorderProtect role v d) := by
  unfold recorderProtect
  repeat' first
    | (with_reducible first | assumption | apply Dev.roleWrite_ev | apply Dev.answer_ev | apply Dev.writeNow_ev | apply ite_ev)
    | intro _
    | (extract_lets +onlyGivenNames x; refine (fun (hx : Evolves rst dev0 x) => ?_) ?_; clear_value x; rotate_left
       subst x; rotate_right)
    | (extract_lets +onlyGivenNames x; subst x) | (dsimp -zeta only)

end Sys2Proof.Machine
end

