-- ==== Sys2Proof/Laws/EvolvesHost.lean ====
section
/-! SUPPORT. One lemma `<operation>_ev` for each operation of the network, Basxiop, transfers, the register views and Flefen:
what it answers is reached from wherever its argument is (`Evolves`). The operations that may reset are stated with `true`. -/

namespace Sys2Proof.Machine

theorem datagramLaunch_ev {rst : Bool} {dev0 : Dev} (p : Nat) (t : Nat) (d : Dev) (h2 : Evolves rst dev0 d) : Evolves rst dev0
    (datagramLaunch p t d) := by
  unfold datagramLaunch
  repeat' first
    | (with_reducible first | assumption | apply Dev.advanceTo_ev | apply Dev.launch_ev | apply ite_ev)
    | intro _
    | (extract_lets +onlyGivenNames x; refine (fun (hx : Evolves rst dev0 x) => ?_) ?_; clear_value x; rotate_left
       subst x; rotate_right)
    | (extract_lets +onlyGivenNames x; subst x)

theorem arpRequestRx_ev {rst : Bool} {dev0 : Dev} (f : RxFrame) (senderIp : Nat) (targetIp : Nat) (d : Dev) (h3 : Evolves rst dev0 d) :
    Evolves rst dev0 (arpRequestRx f senderIp targetIp d) := by
  unfold arpRequestRx
  repeat' first
    | (with_reducible first | assumption | apply Dev.rxFrame_ev | apply Dev.sendPair_ev | apply Dev.inc_ev | apply ite_ev)
    | intro _ | (dsimp -zeta only)

theorem arpReplyRx_ev {rst : Bool} {dev0 : Dev} (f : RxFrame) (senderIp : Nat) (d : Dev) (h2 : Evolves rst dev0 d) : Evolves rst dev0
    (arpReplyRx f senderIp d) := by
  unfold arpReplyRx
  apply Dev.rxFrame_ev _ _ _ h2
  intro x hx
  exact ⟨fun w => ⟨(hx.1 w).1, (hx.1 w).2.1, (hx.1 w).2.2.1, List.length_take_le _ _, (hx.1 w).2.2.2.2⟩, hx.2⟩

theorem arpRetry_ev {rst : Bool} {dev0 : Dev} (ip : Nat) (d : Dev) (h1 : Evolves rst dev0 d) : Evolves rst dev0 (arpRetry ip d) := by
  unfold arpRetry
  repeat' first
    | (with_reducible first | assumption | apply Dev.advanceTo_ev | apply Dev.arpAsk_ev | apply ite_ev)
    | intro _
    | (extract_lets +onlyGivenNames x; refine (fun (hx : Evolves rst dev0 x) => ?_) ?_; clear_value x; rotate_left
       subst x; rotate_right)
    | (extract_lets +onlyGivenNames x; subst x) | split | (dsimp -zeta only)

theorem arpCacheExpiry_ev {rst : Bool} {dev0 : Dev} (ip : Nat) (d : Dev) (h1 : Evolves rst dev0 d) : Evolves rst dev0 (arpCacheExpiry ip
    d) := by
  unfold arpCacheExpiry
  split
  · exact h1
  · rename_i e _
    have hx := Dev.advanceTo_ev d (e.time + 300000000000) h1
    exact ⟨fun w => ⟨(hx.1 w).1, (hx.1 w).2.1, (hx.1 w).2.2.1, Nat.le_trans (List.length_filter_le _ _) (hx.1 w).2.2.2.1,
      (hx.1 w).2.2.2.2⟩, hx.2⟩

theorem icmpEchoRx_ev {rst : Bool} {dev0 : Dev} (f : RxFrame) (srcIp : Nat) (body : Bytes) (d : Dev) (h3 : Evolves rst dev0 d) : Evolves
    rst dev0 (icmpEchoRx f srcIp body d) := by
  unfold icmpEchoRx
  repeat' first
    | (with_reducible first | assumption | apply Dev.rxFrame_ev | apply Dev.sendPair_ev)
    | intro _ | (extract_lets +onlyGivenNames x; subst x) | (dsimp -zeta only)

theorem ethFrameDiscarded_ev {rst : Bool} {dev0 : Dev} (f : RxFrame) (d : Dev) (h1 : Evolves rst dev0 d) : Evolves rst dev0
    (ethFrameDiscarded f d) := by
  unfold ethFrameDiscarded
  repeat' first
    | (with_reducible first | assumption | apply Dev.rxFrame_ev | apply Dev.inc_ev)
    | intro _ | (dsimp -zeta only)

theorem Dev.ethUp_ev {rst : Bool} {dev0 : Dev} (d : Dev) (p : Nat) (speed : Nat) (fec : Nat) (h0 : Evolves rst dev0 d) : Evolves rst dev0
    (Dev.ethUp d p speed fec) := by
  unfold Dev.ethUp
  repeat' first
    | (with_reducible first | assumption | apply Dev.raiseIf_ev | apply Dev.setB_ev | apply Dev.set_ev)
    | (extract_lets +onlyGivenNames x; refine (fun (hx : Evolves rst dev0 x) => ?_) ?_; clear_value x; rotate_left
       subst x; rotate_right)
    | (extract_lets +onlyGivenNames x; subst x)

theorem ethLinkChange_ev {rst : Bool} {dev0 : Dev} (p : Nat) (up : Bool) (speed : Nat) (fec : Nat) (d : Dev) (h4 : Evolves rst dev0 d) :
    Evolves rst dev0 (ethLinkChange p up speed fec d) := by
  unfold ethLinkChange
  repeat' first
    | (with_reducible first | assumption | apply Dev.ethUp_ev | apply Dev.settled_ev | apply Dev.ethDown_ev)
    | (with_reducible first | apply Dev.faultOn_ev | apply ite_ev)
    | intro _
    | (extract_lets +onlyGivenNames x; refine (fun (hx : Evolves rst dev0 x) => ?_) ?_; clear_value x; rotate_left
       subst x; rotate_right)
    | (extract_lets +onlyGivenNames x; subst x) | (dsimp -zeta only)

theorem ethLinkRestart_ev {rst : Bool} {dev0 : Dev} (priv : Bool) (p : Nat) (d : Dev) (h2 : Evolves rst dev0 d) : Evolves rst dev0
    (ethLinkRestart priv p d) := by
  unfold ethLinkRestart
  repeat' first
    | (with_reducible first | assumption | apply Dev.blockWrite_ev | apply Dev.privWrite_ev | apply Dev.ethDown_ev)
    | intro _ | (dsimp -zeta only)

theorem prpSupervisionTx_ev {rst : Bool} {dev0 : Dev} (d : Dev) (h0 : Evolves rst dev0 d) : Evolves rst dev0 (prpSupervisionTx d) := by
  unfold prpSupervisionTx
  repeat' first
    | (with_reducible first | assumption | apply Dev.sendPair_ev | apply ite_ev)
    | intro _
    | (extract_lets +onlyGivenNames x; refine (fun (hx : Evolves rst dev0 x) => ?_) ?_; clear_value x; rotate_left
       subst x; rotate_right)
    | (extract_lets +onlyGivenNames x; subst x)

theorem prpSupervisionRx_ev {rst : Bool} {dev0 : Dev} (f : RxFrame) (node : Nat) (d : Dev) (h2 : Evolves rst dev0 d) : Evolves rst dev0
    (prpSupervisionRx f node d) := by
  unfold prpSupervisionRx
  repeat' first
    | (with_reducible first | assumption | apply Dev.rxFrame_ev)
    | intro _ | (extract_lets +onlyGivenNames x; subst x) | (dsimp -zeta only)

theorem prpNodeExpiry_ev {rst : Bool} {dev0 : Dev} (mac : Nat) (d : Dev) (h1 : Evolves rst dev0 d) : Evolves rst dev0 (prpNodeExpiry mac
    d) := by
  unfold prpNodeExpiry
  repeat' first
    | (with_reducible first | assumption | apply Dev.advanceTo_ev)
    | (extract_lets +onlyGivenNames x; refine (fun (hx : Evolves rst dev0 x) => ?_) ?_; clear_value x; rotate_left
       subst x; rotate_right)
    | (extract_lets +onlyGivenNames x; subst x) | split

theorem lanMissingTimeout_ev {rst : Bool} {dev0 : Dev} (p : Nat) (d : Dev) (h1 : Evolves rst dev0 d) : Evolves rst dev0 (lanMissingTimeout
    p d) := by
  unfold lanMissingTimeout
  repeat' first
    | (with_reducible first | assumption | apply Dev.advanceTo_ev | apply Dev.raise_ev | apply Dev.setB_ev | apply ite_ev)
    | intro _
    | (extract_lets +onlyGivenNames x; refine (fun (hx : Evolves rst dev0 x) => ?_) ?_; clear_value x; rotate_left
       subst x; rotate_right)
    | (extract_lets +onlyGivenNames x; subst x) | (dsimp -zeta only)

theorem Dev.servoTrim_ev {rst : Bool} {dev0 : Dev} (d : Dev) (o : Rat) (t : Rat) (h0 : Evolves rst dev0 d) : Evolves rst dev0
    (Dev.servoTrim d o t) := by
  unfold Dev.servoTrim
  repeat' first
    | (with_reducible first | assumption | apply Dev.checkTrim_ev | apply Dev.setB_ev | apply Dev.setS_ev)
    | (extract_lets +onlyGivenNames x; refine (fun (hx : Evolves rst dev0 x) => ?_) ?_; clear_value x; rotate_left
       subst x; rotate_right)
    | (extract_lets +onlyGivenNames x; subst x)

theorem Dev.setLocked_ev {rst : Bool} {dev0 : Dev} (d : Dev) (b : Bool) (h0 : Evolves rst dev0 d) : Evolves rst dev0 (Dev.setLocked d b) := by
  unfold Dev.setLocked
  repeat' first
    | (with_reducible first | assumption | apply Dev.raise_ev | apply Dev.setB_ev | apply ite_ev)
    | intro _

theorem Dev.servoLock_ev {rst : Bool} {dev0 : Dev} (d : Dev) (o : Rat) (h0 : Evolves rst dev0 d) : Evolves rst dev0 (Dev.servoLock d o) := by
  unfold Dev.servoLock
  repeat' first
    | (with_reducible first | assumption | apply Dev.setLocked_ev | apply ite_ev)
    | intro _
    | (extract_lets +onlyGivenNames x; refine (fun (hx : Evolves rst dev0 x) => ?_) ?_; clear_value x; rotate_left
       subst x; rotate_right)
    | (extract_lets +onlyGivenNames x; subst x)

theorem Dev.servo_ev {rst : Bool} {dev0 : Dev} (d : Dev) (o : Rat) (t : Rat) (h0 : Evolves rst dev0 d) : Evolves rst dev0 (Dev.servo d o
    t) := by
  unfold Dev.servo
  repeat' first
    | (with_reducible first | assumption | apply Dev.setB_ev | apply Dev.setS_ev | apply Dev.servoLock_ev)
    | (with_reducible first | apply Dev.offset40_ev | apply Dev.servoTrim_ev | apply ite_ev)
    | intro _
    | (extract_lets +onlyGivenNames x; refine (fun (hx : Evolves rst dev0 x) => ?_) ?_; clear_value x; rotate_left
       subst x; rotate_right)
    | (extract_lets +onlyGivenNames x; subst x)

theorem Dev.ptpDecide_ev {rst : Bool} {dev0 : Dev} (d : Dev) (h0 : Evolves rst dev0 d) : Evolves rst dev0 (Dev.ptpDecide d) := by
  unfold Dev.ptpDecide
  repeat' first
    | (with_reducible first | assumption | apply Dev.set_ev)
    | intro _
    | (extract_lets +onlyGivenNames x; refine (fun (hx : Evolves rst dev0 x) => ?_) ?_; clear_value x; rotate_left
       subst x; rotate_right)
    | (extract_lets +onlyGivenNames x; subst x) | (dsimp -zeta only)

theorem Dev.ptpRx_ev {rst : Bool} {dev0 : Dev} (d : Dev) (p : Nat) (m : PtpMsg) (k : Dev → Dev) (h0 : Evolves rst dev0 d) (h3 : ∀ x0,
    Evolves rst dev0 x0 → Evolves rst dev0 (k x0)) : Evolves rst dev0 (Dev.ptpRx d p m k) := by
  unfold Dev.ptpRx
  repeat' first
    | (with_reducible first | assumption | apply h3 | apply Dev.advanceTo_ev | apply Dev.inc_ev | apply ite_ev)
    | intro _
    | (extract_lets +onlyGivenNames x; refine (fun (hx : Evolves rst dev0 x) => ?_) ?_; clear_value x; rotate_left
       subst x; rotate_right)
    | (extract_lets +onlyGivenNames x; subst x)

theorem Dev.syncDone_ev {rst : Bool} {dev0 : Dev} (d : Dev) (p : Nat) (delta : Int) (h0 : Evolves rst dev0 d) : Evolves rst dev0
    (Dev.syncDone d p delta) := by
  unfold Dev.syncDone
  repeat' first
    | (with_reducible first | assumption | apply Dev.modPort_ev | apply Dev.servo_ev | apply ite_ev)
    | intro _
    | (extract_lets +onlyGivenNames x; refine (fun (hx : Evolves rst dev0 x) => ?_) ?_; clear_value x; rotate_left
       subst x; rotate_right)
    | (extract_lets +onlyGivenNames x; subst x) | (dsimp -zeta only)

theorem ptpSyncRx_ev {rst : Bool} {dev0 : Dev} (p : Nat) (m : PtpMsg) (d : Dev) (h2 : Evolves rst dev0 d) : Evolves rst dev0 (ptpSyncRx p
    m d) := by
  unfold ptpSyncRx
  repeat' first
    | (with_reducible first | assumption | apply Dev.ptpRx_ev | apply Dev.modPort_ev | apply Dev.syncDone_ev | apply ite_ev)
    | intro _
    | (extract_lets +onlyGivenNames x; refine (fun (hx : Evolves rst dev0 x) => ?_) ?_; clear_value x; rotate_left
       subst x; rotate_right)
    | (extract_lets +onlyGivenNames x; subst x) | (dsimp -zeta only)

theorem ptpFollowUpRx_ev {rst : Bool} {dev0 : Dev} (p : Nat) (m : PtpMsg) (d : Dev) (h2 : Evolves rst dev0 d) : Evolves rst dev0
    (ptpFollowUpRx p m d) := by
  unfold ptpFollowUpRx
  repeat' first
    | (with_reducible first | assumption | apply Dev.ptpRx_ev | apply Dev.syncDone_ev | apply ite_ev)
    | intro _
    | (extract_lets +onlyGivenNames x; refine (fun (hx : Evolves rst dev0 x) => ?_) ?_; clear_value x; rotate_left
       subst x; rotate_right)
    | (extract_lets +onlyGivenNames x; subst x) | (dsimp -zeta only)

theorem Dev.pathDone_ev {rst : Bool} {dev0 : Dev} (d : Dev) (p : Nat) (path : Int) (h0 : Evolves rst dev0 d) : Evolves rst dev0
    (Dev.pathDone d p path) := by
  unfold Dev.pathDone
  repeat' first
    | (with_reducible first | assumption | apply Dev.modPort_ev | apply Dev.set_ev | apply ite_ev)
    | intro _
    | (extract_lets +onlyGivenNames x; refine (fun (hx : Evolves rst dev0 x) => ?_) ?_; clear_value x; rotate_left
       subst x; rotate_right)
    | (extract_lets +onlyGivenNames x; subst x) | (dsimp -zeta only)

theorem ptpDelayRespRx_ev {rst : Bool} {dev0 : Dev} (p : Nat) (m : PtpMsg) (d : Dev) (h2 : Evolves rst dev0 d) : Evolves rst dev0
    (ptpDelayRespRx p m d) := by
  unfold ptpDelayRespRx
  repeat' first
    | (with_reducible first | assumption | apply Dev.ptpRx_ev | apply Dev.pathDone_ev | apply Dev.modPort_ev | apply ite_ev)
    | intro _
    | (extract_lets +onlyGivenNames x; refine (fun (hx : Evolves rst dev0 x) => ?_) ?_; clear_value x; rotate_left
       subst x; rotate_right)
    | (extract_lets +onlyGivenNames x; subst x) | split | (dsimp -zeta only)

theorem ptpAnnounceRx_ev {rst : Bool} {dev0 : Dev} (p : Nat) (m : PtpMsg) (d : Dev) (h2 : Evolves rst dev0 d) : Evolves rst dev0
    (ptpAnnounceRx p m d) := by
  unfold ptpAnnounceRx
  repeat' first
    | (with_reducible first | assumption | apply Dev.ptpRx_ev | apply Dev.ptpDecide_ev | apply Dev.modPort_ev | apply ite_ev)
    | intro _
    | (extract_lets +onlyGivenNames x; refine (fun (hx : Evolves rst dev0 x) => ?_) ?_; clear_value x; rotate_left
       subst x; rotate_right)
    | (extract_lets +onlyGivenNames x; subst x) | split | (dsimp -zeta only)

theorem ptpSyncTx_ev {rst : Bool} {dev0 : Dev} (d : Dev) (h0 : Evolves rst dev0 d) : Evolves rst dev0 (ptpSyncTx d) := by
  unfold ptpSyncTx
  repeat' first
    | (with_reducible first | assumption | apply Dev.each_ev | apply Dev.sendPtp_ev | apply ite_ev)
    | intro _
    | (extract_lets +onlyGivenNames x; refine (fun (hx : Evolves rst dev0 x) => ?_) ?_; clear_value x; rotate_left
       subst x; rotate_right)
    | (extract_lets +onlyGivenNames x; subst x) | (dsimp -zeta only)

theorem ptpDelayReqTx_ev {rst : Bool} {dev0 : Dev} (d : Dev) (h0 : Evolves rst dev0 d) : Evolves rst dev0 (ptpDelayReqTx d) := by
  unfold ptpDelayReqTx
  repeat' first
    | (with_reducible first | assumption | apply Dev.each_ev | apply Dev.modPort_ev | apply Dev.sendPtp_ev | apply ite_ev)
    | intro _
    | (extract_lets +onlyGivenNames x; refine (fun (hx : Evolves rst dev0 x) => ?_) ?_; clear_value x; rotate_left
       subst x; rotate_right)
    | (extract_lets +onlyGivenNames x; subst x) | (dsimp -zeta only)

theorem ptpDelayReqRx_ev {rst : Bool} {dev0 : Dev} (p : Nat) (m : PtpMsg) (d : Dev) (h2 : Evolves rst dev0 d) : Evolves rst dev0
    (ptpDelayReqRx p m d) := by
  unfold ptpDelayReqRx
  repeat' first
    | (with_reducible first | assumption | apply Dev.ptpRx_ev | apply Dev.sendPtp_ev | apply ite_ev)
    | intro _
    | (extract_lets +onlyGivenNames x; refine (fun (hx : Evolves rst dev0 x) => ?_) ?_; clear_value x; rotate_left
       subst x; rotate_right)
    | (extract_lets +onlyGivenNames x; subst x) | (dsimp -zeta only)

theorem ptpAnnounceTx_ev {rst : Bool} {dev0 : Dev} (d : Dev) (h0 : Evolves rst dev0 d) : Evolves rst dev0 (ptpAnnounceTx d) := by
  unfold ptpAnnounceTx
  repeat' first
    | (with_reducible first | assumption | apply Dev.each_ev | apply Dev.sendPtp_ev | apply Dev.modPort_ev | apply ite_ev)
    | intro _
    | (extract_lets +onlyGivenNames x; refine (fun (hx : Evolves rst dev0 x) => ?_) ?_; clear_value x; rotate_left
       subst x; rotate_right)
    | (extract_lets +onlyGivenNames x; subst x) | (dsimp -zeta only)

theorem ptpHoldoverTimeout_ev {rst : Bool} {dev0 : Dev} (announce : Bool) (d : Dev) (h1 : Evolves rst dev0 d) : Evolves rst dev0
    (ptpHoldoverTimeout announce d) := by
  unfold ptpHoldoverTimeout
  repeat' first
    | (with_reducible first | assumption | apply Dev.raise_ev | apply Dev.setLocked_ev | apply Dev.setB_ev)
    | (with_reducible first | apply Dev.ptpDecide_ev | apply Dev.modPort_ev | apply ite_ev)
    | intro _
    | (extract_lets +onlyGivenNames x; refine (fun (hx : Evolves rst dev0 x) => ?_) ?_; clear_value x; rotate_left
       subst x; rotate_right)
    | (extract_lets +onlyGivenNames x; subst x) | (dsimp -zeta only)

theorem ppsInEdge_ev {rst : Bool} {dev0 : Dev} (t : Nat) (d : Dev) (h1 : Evolves rst dev0 d) : Evolves rst dev0 (ppsInEdge t d) := by
  unfold ppsInEdge
  repeat' first
    | (with_reducible first | assumption | apply Dev.advanceTo_ev | apply Dev.servo_ev | apply ite_ev)
    | intro _
    | (extract_lets +onlyGivenNames x; refine (fun (hx : Evolves rst dev0 x) => ?_) ?_; clear_value x; rotate_left
       subst x; rotate_right)
    | (extract_lets +onlyGivenNames x; subst x)

theorem ppsOutSecond_ev {rst : Bool} {dev0 : Dev} (d : Dev) (h0 : Evolves rst dev0 d) : Evolves rst dev0 (ppsOutSecond d) := by
  unfold ppsOutSecond
  repeat' first
    | (with_reducible first | assumption | apply Dev.advance_ev | apply ite_ev)
    | intro _
    | (extract_lets +onlyGivenNames x; refine (fun (hx : Evolves rst dev0 x) => ?_) ?_; clear_value x; rotate_left
       subst x; rotate_right)
    | (extract_lets +onlyGivenNames x; subst x)

theorem ppsOutWidthEnd_ev {rst : Bool} {dev0 : Dev} (d : Dev) (h0 : Evolves rst dev0 d) : Evolves rst dev0 (ppsOutWidthEnd d) := by
  unfold ppsOutWidthEnd
  repeat' first
    | (with_reducible first | assumption | apply Dev.advanceTo_ev)
    | (extract_lets +onlyGivenNames x; refine (fun (hx : Evolves rst dev0 x) => ?_) ?_; clear_value x; rotate_left
       subst x; rotate_right)
    | (extract_lets +onlyGivenNames x; subst x) | split

theorem Dev.bxRx_ev {rst : Bool} {dev0 : Dev} (d : Dev) (p : Nat) (ty : Nat) (blk : BitVec 64) (k : Nat → Dev → Dev) (h0 : Evolves rst
    dev0 d) (h4 : ∀ x0 x1, Evolves rst dev0 x1 → Evolves rst dev0 (k x0 x1)) : Evolves rst dev0 (Dev.bxRx d p ty blk k) := by
  unfold Dev.bxRx
  repeat' first
    | (with_reducible first | assumption | apply h4 | apply Dev.inc_ev | apply ite_ev)
    | intro _ | (extract_lets +onlyGivenNames x; subst x) | split

theorem Dev.bxRxUp_ev {rst : Bool} {dev0 : Dev} (d : Dev) (p : Nat) (ty : Nat) (blk : BitVec 64) (k : Nat → Dev → Dev) (h0 : Evolves rst
    dev0 d) (h4 : ∀ x0 x1, Evolves rst dev0 x1 → Evolves rst dev0 (k x0 x1)) : Evolves rst dev0 (Dev.bxRxUp d p ty blk k) := by
  unfold Dev.bxRxUp
  repeat' first
    | (with_reducible first | assumption | apply h4 | apply Dev.bxRx_ev | apply ite_ev)
    | intro _ | (dsimp -zeta only)

theorem bxBlockLock_ev {rst : Bool} {dev0 : Dev} (lane : Nat) (d : Dev) (h1 : Evolves rst dev0 d) : Evolves rst dev0 (bxBlockLock lane d) := by
  unfold bxBlockLock
  repeat' first
    | (with_reducible first | assumption | apply Dev.modBx_ev | apply ite_ev)
    | intro _
    | (extract_lets +onlyGivenNames x; refine (fun (hx : Evolves rst dev0 x) => ?_) ?_; clear_value x; rotate_left
       subst x; rotate_right)
    | (extract_lets +onlyGivenNames x; subst x) | (dsimp -zeta only)

theorem bxLockLoss_ev {rst : Bool} {dev0 : Dev} (lane : Nat) (d : Dev) (h1 : Evolves rst dev0 d) : Evolves rst dev0 (bxLockLoss lane d) := by
  unfold bxLockLoss
  repeat' first
    | (with_reducible first | assumption | apply Dev.inc_ev | apply Dev.bxDown_ev | apply Dev.setB_ev | apply Dev.modBx_ev)
    | (with_reducible first | apply Dev.settled_ev | apply Dev.faultOn_ev | apply ite_ev)
    | intro _
    | (extract_lets +onlyGivenNames x; refine (fun (hx : Evolves rst dev0 x) => ?_) ?_; clear_value x; rotate_left
       subst x; rotate_right)
    | (extract_lets +onlyGivenNames x; subst x) | (dsimp -zeta only)

theorem Dev.bxRestart_ev {rst : Bool} {dev0 : Dev} (d : Dev) (p : Nat) (h0 : Evolves rst dev0 d) : Evolves rst dev0 (Dev.bxRestart d p) := by
  unfold Dev.bxRestart
  repeat' first
    | (with_reducible first | assumption | apply Dev.setB_ev | apply Dev.bxDown_ev)

theorem bxPortRestart_ev {rst : Bool} {dev0 : Dev} (priv : Bool) (p : Nat) (d : Dev) (h2 : Evolves rst dev0 d) : Evolves rst dev0
    (bxPortRestart priv p d) := by
  unfold bxPortRestart
  repeat' first
    | (with_reducible first | assumption | apply Dev.blockWrite_ev | apply Dev.privWrite_ev | apply Dev.bxRestart_ev)
    | intro _ | (dsimp -zeta only)

theorem bxBringupTimeout_ev {rst : Bool} {dev0 : Dev} (p : Nat) (d : Dev) (h1 : Evolves rst dev0 d) : Evolves rst dev0 (bxBringupTimeout p
    d) := by
  unfold bxBringupTimeout
  repeat' first
    | (with_reducible first | assumption | apply Dev.setB_ev | apply Dev.modBx_ev | apply Dev.raise_ev | apply ite_ev)
    | intro _
    | (extract_lets +onlyGivenNames x; refine (fun (hx : Evolves rst dev0 x) => ?_) ?_; clear_value x; rotate_left
       subst x; rotate_right)
    | (extract_lets +onlyGivenNames x; subst x) | (dsimp -zeta only)

theorem bxRestartDelayEnd_ev {rst : Bool} {dev0 : Dev} (p : Nat) (d : Dev) (h1 : Evolves rst dev0 d) : Evolves rst dev0 (bxRestartDelayEnd
    p d) := by
  unfold bxRestartDelayEnd
  repeat' first
    | (with_reducible first | assumption | apply Dev.modBx_ev | apply ite_ev)
    | intro _

theorem bxSpeedCountdownEnd_ev {rst : Bool} {dev0 : Dev} (p : Nat) (d : Dev) (h1 : Evolves rst dev0 d) : Evolves rst dev0
    (bxSpeedCountdownEnd p d) := by
  unfold bxSpeedCountdownEnd
  repeat' first
    | (with_reducible first | assumption | apply Dev.modBx_ev | apply ite_ev)
    | intro _
    | (extract_lets +onlyGivenNames x; refine (fun (hx : Evolves rst dev0 x) => ?_) ?_; clear_value x; rotate_left
       subst x; rotate_right)
    | (extract_lets +onlyGivenNames x; subst x) | (dsimp -zeta only)

theorem bxAlignRx_ev {rst : Bool} {dev0 : Dev} (lane : Nat) (blk : BitVec 64) (d : Dev) (h2 : Evolves rst dev0 d) : Evolves rst dev0
    (bxAlignRx lane blk d) := by
  unfold bxAlignRx
  repeat' first
    | (with_reducible first | assumption | apply Dev.bxRx_ev | apply Dev.modBx_ev | apply ite_ev)
    | intro _
    | (extract_lets +onlyGivenNames x; refine (fun (hx : Evolves rst dev0 x) => ?_) ?_; clear_value x; rotate_left
       subst x; rotate_right)
    | (extract_lets +onlyGivenNames x; subst x) | (dsimp -zeta only)

theorem bxAlignTx_ev {rst : Bool} {dev0 : Dev} (p : Nat) (d : Dev) (h1 : Evolves rst dev0 d) : Evolves rst dev0 (bxAlignTx p d) := by
  unfold bxAlignTx
  repeat' first
    | (with_reducible first | assumption | apply Dev.modBx_ev | apply ite_ev | apply foldl_ev)
    | intro _ | (dsimp -zeta only)

theorem Dev.takePosition_ev {rst : Bool} {dev0 : Dev} (d : Dev) (role : Nat) (pos : Nat) (h0 : Evolves rst dev0 d) : Evolves rst dev0
    (Dev.takePosition d role pos) := by
  unfold Dev.takePosition
  repeat' first
    | (with_reducible first | assumption | apply Dev.setB_ev | apply Dev.set_ev | apply Dev.raise_ev | apply ite_ev)
    | intro _
    | (extract_lets +onlyGivenNames x; refine (fun (hx : Evolves rst dev0 x) => ?_) ?_; clear_value x; rotate_left
       subst x; rotate_right)
    | (extract_lets +onlyGivenNames x; subst x)

theorem Dev.bxAsk_ev {rst : Bool} {dev0 : Dev} (d : Dev) (p : Nat) (l : Nat) (h0 : Evolves rst dev0 d) : Evolves rst dev0 (Dev.bxAsk d p
    l) := by
  unfold Dev.bxAsk
  repeat' first
    | (with_reducible first | assumption | apply Dev.modBx_ev | apply Dev.takeFree_ev)
    | intro _
    | (extract_lets +onlyGivenNames x; refine (fun (hx : Evolves rst dev0 x) => ?_) ?_; clear_value x; rotate_left
       subst x; rotate_right)
    | (extract_lets +onlyGivenNames x; refine (fun (hx : Evolves rst dev0 x.1) => ?_) ?_; clear_value x; rotate_left
       subst x; rotate_right)
    | (extract_lets +onlyGivenNames x; refine (fun (hx : Evolves rst dev0 x.2) => ?_) ?_; clear_value x; rotate_left
       subst x; rotate_right)
    | (extract_lets +onlyGivenNames x; subst x) | split | (dsimp -zeta only)

theorem Dev.bxAskAll_ev {rst : Bool} {dev0 : Dev} (d : Dev) (p : Nat) (h0 : Evolves rst dev0 d) : Evolves rst dev0 (Dev.bxAskAll d p) :=
    by
  unfold Dev.bxAskAll
  repeat' first
    | (with_reducible first | assumption | apply Dev.bxAsk_ev | apply Dev.each_ev)
    | intro _
    | (extract_lets +onlyGivenNames x; refine (fun (hx : Evolves rst dev0 x) => ?_) ?_; clear_value x; rotate_left
       subst x; rotate_right)
    | (extract_lets +onlyGivenNames x; subst x) | split | (dsimp -zeta only)

theorem bxTrainCapabilityRx_ev {rst : Bool} {dev0 : Dev} (p : Nat) (blk : BitVec 64) (d : Dev) (h2 : Evolves rst dev0 d) : Evolves rst
    dev0 (bxTrainCapabilityRx p blk d) := by
  unfold bxTrainCapabilityRx
  repeat' first
    | (with_reducible first | assumption | apply Dev.bxAskAll_ev | apply Dev.bxRx_ev | apply Dev.modBx_ev)
    | (with_reducible first | apply Dev.set_ev | apply Dev.setB_ev | apply Dev.takePosition_ev | apply ite_ev)
    | intro _
    | (extract_lets +onlyGivenNames x; refine (fun (hx : Evolves rst dev0 x) => ?_) ?_; clear_value x; rotate_left
       subst x; rotate_right)
    | (extract_lets +onlyGivenNames x; subst x) | split | (dsimp -zeta only)

theorem Dev.bxLinkUp_ev {rst : Bool} {dev0 : Dev} (d : Dev) (p : Nat) (h0 : Evolves rst dev0 d) : Evolves rst dev0 (Dev.bxLinkUp d p) := by
  unfold Dev.bxLinkUp
  repeat' first
    | (with_reducible first | assumption | apply Dev.modBx_ev | apply Dev.raise_ev | apply Dev.setB_ev | apply Dev.set_ev)
    | intro _
    | (extract_lets +onlyGivenNames x; refine (fun (hx : Evolves rst dev0 x) => ?_) ?_; clear_value x; rotate_left
       subst x; rotate_right)
    | (extract_lets +onlyGivenNames x; subst x) | (dsimp -zeta only)

theorem Dev.bxTrained_ev {rst : Bool} {dev0 : Dev} (d : Dev) (p : Nat) (h0 : Evolves rst dev0 d) : Evolves rst dev0 (Dev.bxTrained d p) := by
  unfold Dev.bxTrained
  repeat' first
    | (with_reducible first | assumption | apply Dev.bxLinkUp_ev | apply Dev.setB_ev | apply Dev.modBx_ev | apply ite_ev)
    | intro _
    | (extract_lets +onlyGivenNames x; refine (fun (hx : Evolves rst dev0 x) => ?_) ?_; clear_value x; rotate_left
       subst x; rotate_right)
    | (extract_lets +onlyGivenNames x; subst x) | split | (dsimp -zeta only)

theorem bxTrainUpdateRx_ev {rst : Bool} {dev0 : Dev} (lane : Nat) (blk : BitVec 64) (ready : Bool) (d : Dev) (h3 : Evolves rst dev0 d) :
    Evolves rst dev0 (bxTrainUpdateRx lane blk ready d) := by
  unfold bxTrainUpdateRx
  repeat' first
    | (with_reducible first | assumption | apply Dev.bxRx_ev | apply Dev.bxTrained_ev | apply Dev.modBx_ev | apply ite_ev)
    | intro _
    | (extract_lets +onlyGivenNames x; refine (fun (hx : Evolves rst dev0 x) => ?_) ?_; clear_value x; rotate_left
       subst x; rotate_right)
    | (extract_lets +onlyGivenNames x; subst x) | (dsimp -zeta only)

theorem bxTrainStatusRx_ev {rst : Bool} {dev0 : Dev} (lane : Nat) (blk : BitVec 64) (d : Dev) (h2 : Evolves rst dev0 d) : Evolves rst dev0
    (bxTrainStatusRx lane blk d) := by
  unfold bxTrainStatusRx
  repeat' first
    | (with_reducible first | assumption | apply Dev.bxAsk_ev | apply Dev.bxRx_ev | apply Dev.bxTrained_ev)
    | (with_reducible first | apply Dev.modBx_ev | apply ite_ev)
    | intro _
    | (extract_lets +onlyGivenNames x; refine (fun (hx : Evolves rst dev0 x) => ?_) ?_; clear_value x; rotate_left
       subst x; rotate_right)
    | (extract_lets +onlyGivenNames x; subst x) | split | (dsimp -zeta only)

theorem bxTrainStepRx_ev {rst : Bool} {dev0 : Dev} (p : Nat) (blk : BitVec 64) (d : Dev) (h2 : Evolves rst dev0 d) : Evolves rst dev0
    (bxTrainStepRx p blk d) := by
  unfold bxTrainStepRx
  repeat' first
    | (with_reducible first | assumption | apply Dev.bxRx_ev | apply Dev.modBx_ev | apply ite_ev)
    | intro _ | (extract_lets +onlyGivenNames x; subst x) | (dsimp -zeta only)

theorem bxCreditRx_ev {rst : Bool} {dev0 : Dev} (p : Nat) (blk : BitVec 64) (d : Dev) (h2 : Evolves rst dev0 d) : Evolves rst dev0
    (bxCreditRx p blk d) := by
  unfold bxCreditRx
  repeat' first
    | (with_reducible first | assumption | apply Dev.bxRxUp_ev | apply Dev.modBx_ev)
    | intro _ | (extract_lets +onlyGivenNames x; subst x) | (dsimp -zeta only)

theorem bxCreditTx_ev {rst : Bool} {dev0 : Dev} (p : Nat) (d : Dev) (h1 : Evolves rst dev0 d) : Evolves rst dev0 (bxCreditTx p d) := by
  unfold bxCreditTx
  repeat' first
    | (with_reducible first | assumption | apply Dev.bxBlock_ev)
    | (extract_lets +onlyGivenNames x; subst x)

theorem Dev.takeTick_ev {rst : Bool} {dev0 : Dev} (d : Dev) (frame : Bool) (stage : Nat) (ns : Nat) (h0 : Evolves rst dev0 d) : Evolves
    rst dev0 (Dev.takeTick d frame stage ns) := by
  unfold Dev.takeTick
  repeat' first
    | (with_reducible first | assumption | apply Dev.setB_ev | apply Dev.prepare_ev | apply Dev.paceEvent_ev | apply ite_ev)
    | intro _
    | (extract_lets +onlyGivenNames x; refine (fun (hx : Evolves rst dev0 x) => ?_) ?_; clear_value x; rotate_left
       subst x; rotate_right)
    | (extract_lets +onlyGivenNames x; subst x)

theorem bxTickRx_ev {rst : Bool} {dev0 : Dev} (p : Nat) (blk : BitVec 64) (d : Dev) (h2 : Evolves rst dev0 d) : Evolves rst dev0 (bxTickRx
    p blk d) := by
  unfold bxTickRx
  repeat' first
    | (with_reducible first | assumption | apply Dev.bxRxUp_ev | apply Dev.takeTick_ev | apply Dev.bxBlock_ev | apply ite_ev)
    | intro _ | (dsimp -zeta only)

theorem bxTimeRx_ev {rst : Bool} {dev0 : Dev} (p : Nat) (blk : BitVec 64) (t : Nat) (d : Dev) (h3 : Evolves rst dev0 d) : Evolves rst dev0
    (bxTimeRx p blk t d) := by
  unfold bxTimeRx
  repeat' first
    | (with_reducible first | assumption | apply Dev.bxRxUp_ev | apply Dev.advanceTo_ev | apply Dev.servo_ev | apply ite_ev)
    | intro _
    | (extract_lets +onlyGivenNames x; refine (fun (hx : Evolves rst dev0 x) => ?_) ?_; clear_value x; rotate_left
       subst x; rotate_right)
    | (extract_lets +onlyGivenNames x; subst x) | split | (dsimp -zeta only)

theorem bxTimeSecRx_ev {rst : Bool} {dev0 : Dev} (p : Nat) (blk : BitVec 64) (d : Dev) (h2 : Evolves rst dev0 d) : Evolves rst dev0
    (bxTimeSecRx p blk d) := by
  unfold bxTimeSecRx
  repeat' first
    | (with_reducible first | assumption | apply Dev.bxRxUp_ev | apply ite_ev)
    | intro _ | (extract_lets +onlyGivenNames x; subst x) | (dsimp -zeta only)

theorem bxTimeTx_ev {rst : Bool} {dev0 : Dev} (d : Dev) (h0 : Evolves rst dev0 d) : Evolves rst dev0 (bxTimeTx d) := by
  unfold bxTimeTx
  repeat' first
    | (with_reducible first | assumption | apply Dev.bxBlock_ev | apply ite_ev)
    | intro _

theorem bxTimeSecTx_ev {rst : Bool} {dev0 : Dev} (d : Dev) (h0 : Evolves rst dev0 d) : Evolves rst dev0 (bxTimeSecTx d) := by
  unfold bxTimeSecTx
  repeat' first
    | (with_reducible first | assumption | apply Dev.bxBlock_ev | apply ite_ev)
    | intro _

theorem bxDelayReqTx_ev {rst : Bool} {dev0 : Dev} (p : Nat) (d : Dev) (h1 : Evolves rst dev0 d) : Evolves rst dev0 (bxDelayReqTx p d) := by
  unfold bxDelayReqTx
  repeat' first
    | (with_reducible first | assumption | apply Dev.modBx_ev | apply ite_ev)
    | intro _
    | (extract_lets +onlyGivenNames x; refine (fun (hx : Evolves rst dev0 x) => ?_) ?_; clear_value x; rotate_left
       subst x; rotate_right)
    | (extract_lets +onlyGivenNames x; subst x) | (dsimp -zeta only)

theorem bxDelayReqRx_ev {rst : Bool} {dev0 : Dev} (p : Nat) (blk : BitVec 64) (t : Nat) (turn : Nat) (d : Dev) (h4 : Evolves rst dev0 d) :
    Evolves rst dev0 (bxDelayReqRx p blk t turn d) := by
  unfold bxDelayReqRx
  repeat' first
    | (with_reducible first | assumption | apply Dev.bxRxUp_ev | apply Dev.advanceTo_ev | apply Dev.bxBlock_ev)
    | intro _ | (dsimp -zeta only)

theorem Dev.delayDone_ev {rst : Bool} {dev0 : Dev} (d : Dev) (p : Nat) (twice : Int) (h0 : Evolves rst dev0 d) : Evolves rst dev0
    (Dev.delayDone d p twice) := by
  unfold Dev.delayDone
  repeat' first
    | (with_reducible first | assumption | apply Dev.set_ev | apply Dev.modBx_ev)
    | intro _
    | (extract_lets +onlyGivenNames x; refine (fun (hx : Evolves rst dev0 x) => ?_) ?_; clear_value x; rotate_left
       subst x; rotate_right)
    | (extract_lets +onlyGivenNames x; subst x) | (dsimp -zeta only)

theorem bxDelayRespRx_ev {rst : Bool} {dev0 : Dev} (p : Nat) (blk : BitVec 64) (t : Nat) (d : Dev) (h3 : Evolves rst dev0 d) : Evolves rst
    dev0 (bxDelayRespRx p blk t d) := by
  unfold bxDelayRespRx
  repeat' first
    | (with_reducible first | assumption | apply Dev.bxRxUp_ev | apply Dev.advanceTo_ev | apply Dev.delayDone_ev)
    | (with_reducible first | apply ite_ev)
    | intro _ | (extract_lets +onlyGivenNames x; subst x) | split | (dsimp -zeta only)

theorem bxDelayRespTimeout_ev {rst : Bool} {dev0 : Dev} (p : Nat) (d : Dev) (h1 : Evolves rst dev0 d) : Evolves rst dev0
    (bxDelayRespTimeout p d) := by
  unfold bxDelayRespTimeout
  repeat' first
    | (with_reducible first | assumption | apply Dev.modBx_ev | apply Dev.advanceTo_ev)
    | intro _ | (extract_lets +onlyGivenNames x; subst x) | split | (dsimp -zeta only)

theorem Dev.bxFrameErr_ev {rst : Bool} {dev0 : Dev} (d : Dev) (p : Nat) (h0 : Evolves rst dev0 d) : Evolves rst dev0 (Dev.bxFrameErr d p) := by
  unfold Dev.bxFrameErr
  repeat' first
    | (with_reducible first | assumption | apply Dev.inc_ev | apply Dev.raise_ev | apply Dev.modBx_ev | apply ite_ev)
    | intro _
    | (extract_lets +onlyGivenNames x; refine (fun (hx : Evolves rst dev0 x) => ?_) ?_; clear_value x; rotate_left
       subst x; rotate_right)
    | (extract_lets +onlyGivenNames x; subst x) | (dsimp -zeta only)

theorem Dev.bxFrameRx_ev {rst : Bool} {dev0 : Dev} (d : Dev) (p : Nat) (f : BxFrame) (term : Option (BitVec 48)) (k : Bytes → Dev → Dev)
    (h0 : Evolves rst dev0 d) (h4 : ∀ x0 x1, Evolves rst dev0 x1 → Evolves rst dev0 (k x0 x1)) : Evolves rst dev0 (Dev.bxFrameRx d p f
    term k) := by
  unfold Dev.bxFrameRx
  repeat' first
    | (with_reducible first | assumption | apply h4 | apply Dev.bxFrameErr_ev | apply Dev.modBx_ev)
    | (with_reducible first | apply ite_ev)
    | intro _
    | (extract_lets +onlyGivenNames x; refine (fun (hx : Evolves rst dev0 x) => ?_) ?_; clear_value x; rotate_left
       subst x; rotate_right)
    | (extract_lets +onlyGivenNames x; subst x) | split | (dsimp -zeta only)

theorem Dev.leadAnswer_ev {rst : Bool} {dev0 : Dev} (d : Dev) (pos : Nat) (frame : Bytes) (h0 : Evolves rst dev0 d) : Evolves rst dev0
    (Dev.leadAnswer d pos frame) := by
  unfold Dev.leadAnswer
  repeat' first
    | (with_reducible first | assumption | apply Dev.sendPair_ev)
    | intro _
    | (extract_lets +onlyGivenNames x; refine (fun (hx : Evolves rst dev0 x) => ?_) ?_; clear_value x; rotate_left
       subst x; rotate_right)
    | (extract_lets +onlyGivenNames x; subst x) | split | (dsimp -zeta only)

theorem bxFlefenFrameRx_ev {rst : Bool} {dev0 : Dev} (p : Nat) (src : Nat) (dst : Nat) (data : Bytes) (term : Option (BitVec 48)) (d :
    Dev) (h5 : Evolves rst dev0 d) : Evolves rst dev0 (bxFlefenFrameRx p src dst data term d) := by
  unfold bxFlefenFrameRx
  repeat' first
    | (with_reducible first | assumption | apply Dev.arrive_ev | apply Dev.bxFrameRx_ev | apply Dev.bxSend_ev)
    | (with_reducible first | apply Dev.leadAnswer_ev | apply ite_ev)
    | intro _
    | (extract_lets +onlyGivenNames x; refine (fun (hx : Evolves rst dev0 x) => ?_) ?_; clear_value x; rotate_left
       subst x; rotate_right)
    | (extract_lets +onlyGivenNames x; subst x) | split | (dsimp -zeta only)

theorem Dev.newFwdUnit_ev {rst : Bool} {dev0 : Dev} (d : Dev) (k : Nat) (body : Bytes) (h0 : Evolves rst dev0 d) : Evolves rst dev0
    (Dev.newFwdUnit d k body).2 := by
  unfold Dev.newFwdUnit
  repeat' first
    | (with_reducible first | assumption)
    | intro _
    | (extract_lets +onlyGivenNames x; refine (fun (hx : Evolves rst dev0 x) => ?_) ?_; clear_value x; rotate_left
       subst x; rotate_right)
    | (extract_lets +onlyGivenNames x; subst x) | split | (dsimp -zeta only)
    | (with_reducible apply Follows.mix <;> with_reducible assumption)

theorem Dev.fwdUnit_ev {rst : Bool} {dev0 : Dev} (d : Dev) (n : Nat) (body : Bytes) (h0 : Evolves rst dev0 d) : Evolves rst dev0
    (Dev.fwdUnit d n body).2 := by
  unfold Dev.fwdUnit
  repeat' first
    | (with_reducible first | assumption | apply Dev.newFwdUnit_ev | apply none_ev | apply some_ev)
    | (with_reducible first | apply ite_ev)
    | intro _
    | (extract_lets +onlyGivenNames x; refine (fun (hx : Evolves rst dev0 x) => ?_) ?_; clear_value x; rotate_left
       subst x; rotate_right)
    | (extract_lets +onlyGivenNames x; subst x) | split | (dsimp -zeta only)
    | (with_reducible apply Follows.mix <;> with_reducible assumption)

theorem Dev.leadDatagram_ev {rst : Bool} {dev0 : Dev} (d : Dev) (data : Bytes) (h0 : Evolves rst dev0 d) : Evolves rst dev0
    (Dev.leadDatagram d data) := by
  unfold Dev.leadDatagram
  repeat' first
    | (with_reducible first | assumption | apply Dev.enqueue_ev | apply foldl_ev | apply Dev.fwdUnit_ev)
    | (with_reducible first | apply Dev.inc_ev | apply Dev.launch_ev | apply some_ev | apply ite_ev)
    | (with_reducible first | apply foldl_ev1)
    | intro _
    | (extract_lets +onlyGivenNames x; refine (fun (hx : Evolves rst dev0 x) => ?_) ?_; clear_value x; rotate_left
       subst x; rotate_right)
    | (extract_lets +onlyGivenNames x; refine (fun (hx : Evolves rst dev0 x.1) => ?_) ?_; clear_value x; rotate_left
       subst x; rotate_right)
    | (extract_lets +onlyGivenNames x; refine (fun (hx : Evolves rst dev0 x.2) => ?_) ?_; clear_value x; rotate_left
       subst x; rotate_right)
    | (extract_lets +onlyGivenNames x; subst x) | split | (dsimp -zeta only)

theorem bxForwardFrameRx_ev {rst : Bool} {dev0 : Dev} (p : Nat) (src : Nat) (data : Bytes) (term : Option (BitVec 48)) (d : Dev) (h4 :
    Evolves rst dev0 d) : Evolves rst dev0 (bxForwardFrameRx p src data term d) := by
  unfold bxForwardFrameRx
  repeat' first
    | (with_reducible first | assumption | apply Dev.bxFrameRx_ev | apply Dev.bxSend_ev | apply Dev.inc_ev)
    | (with_reducible first | apply Dev.leadDatagram_ev | apply ite_ev)
    | intro _
    | (extract_lets +onlyGivenNames x; refine (fun (hx : Evolves rst dev0 x) => ?_) ?_; clear_value x; rotate_left
       subst x; rotate_right)
    | (extract_lets +onlyGivenNames x; subst x) | split | (dsimp -zeta only)

theorem bxStatusFrameRx_ev {rst : Bool} {dev0 : Dev} (p : Nat) (src : Nat) (data : Bytes) (term : Option (BitVec 48)) (d : Dev) (h4 :
    Evolves rst dev0 d) : Evolves rst dev0 (bxStatusFrameRx p src data term d) := by
  unfold bxStatusFrameRx
  repeat' first
    | (with_reducible first | assumption | apply Dev.bxFrameRx_ev)
    | intro _
    | (extract_lets +onlyGivenNames x; refine (fun (hx : Evolves rst dev0 x) => ?_) ?_; clear_value x; rotate_left
       subst x; rotate_right)
    | (extract_lets +onlyGivenNames x; subst x) | split | (dsimp -zeta only)

theorem leadFlefenForward_ev {rst : Bool} {dev0 : Dev} (f : RxFrame) (udpPort : Nat) (srcIp : Nat) (srcPort : Nat) (there : Bool) (frame :
    Bytes) (d : Dev) (h6 : Evolves rst dev0 d) : Evolves rst dev0 (leadFlefenForward f udpPort srcIp srcPort there frame d) := by
  unfold leadFlefenForward
  repeat' first
    | (with_reducible first | assumption | apply Dev.rxFrame_ev | apply Dev.inc_ev | apply Dev.bxSend_ev | apply ite_ev)
    | intro _
    | (extract_lets +onlyGivenNames x; refine (fun (hx : Evolves rst dev0 x) => ?_) ?_; clear_value x; rotate_left
       subst x; rotate_right)
    | (extract_lets +onlyGivenNames x; subst x) | (dsimp -zeta only)

theorem Dev.uncommit_ev {rst : Bool} {dev0 : Dev} (d : Dev) (idx : Nat) (h0 : Evolves rst dev0 d) : Evolves rst dev0 (Dev.uncommit d idx) := by
  unfold Dev.uncommit
  repeat' first
    | (with_reducible first | assumption | apply Dev.modBank_ev | apply ite_ev)
    | intro _
    | (extract_lets +onlyGivenNames x; refine (fun (hx : Evolves rst dev0 x) => ?_) ?_; clear_value x; rotate_left
       subst x; rotate_right)
    | (extract_lets +onlyGivenNames x; subst x) | (dsimp -zeta only)

theorem Dev.patchObj_ev {rst : Bool} {dev0 : Dev} (d : Dev) (idx : Nat) (sub : Nat) (off : Nat) (new : Bytes) (h0 : Evolves rst dev0 d) :
    Evolves rst dev0 (Dev.patchObj d idx sub off new) := by
  unfold Dev.patchObj
  repeat' first
    | (with_reducible first | assumption | apply Dev.modBank_ev | apply ite_ev)
    | intro _
    | (extract_lets +onlyGivenNames x; refine (fun (hx : Evolves rst dev0 x) => ?_) ?_; clear_value x; rotate_left
       subst x; rotate_right)
    | (extract_lets +onlyGivenNames x; subst x) | split | (dsimp -zeta only)

theorem Dev.commitObj_ev {rst : Bool} {dev0 : Dev} (d : Dev) (idx : Nat) (sub : Nat) (bs : Bytes) (h0 : Evolves rst dev0 d) : Evolves rst
    dev0 (Dev.commitObj d idx sub bs) := by
  unfold Dev.commitObj
  repeat' first
    | (with_reducible first | assumption | apply Dev.commitTable_ev | apply Dev.answer_ev | apply Dev.verifyImage_ev)
    | (with_reducible first | apply Dev.modStream_ev | apply ite_ev | apply foldl_ev)
    | (with_reducible apply engKey_ev <;> with_reducible assumption) | intro _
    | (extract_lets +onlyGivenNames x; refine (fun (hx : Evolves rst dev0 x) => ?_) ?_; clear_value x; rotate_left
       subst x; rotate_right)
    | (extract_lets +onlyGivenNames x; refine (fun (hx : Evolves rst dev0 x.1) => ?_) ?_; clear_value x; rotate_left
       subst x; rotate_right)
    | (extract_lets +onlyGivenNames x; refine (fun (hx : Evolves rst dev0 x.2) => ?_) ?_; clear_value x; rotate_left
       subst x; rotate_right)
    | (extract_lets +onlyGivenNames x; subst x) | split | (dsimp -zeta only)
    | (with_reducible apply Follows.mix <;> with_reducible assumption)

theorem Dev.dropTransfer_ev {rst : Bool} {dev0 : Dev} (d : Dev) (owner : Nat) (h0 : Evolves rst dev0 d) : Evolves rst dev0
    (Dev.dropTransfer d owner) := by
  exact ⟨fun w => ⟨(h0.1 w).1, (h0.1 w).2.1, (h0.1 w).2.2.1, (h0.1 w).2.2.2.1,
    (h0.1 w).2.2.2.2.sublist (List.filter_sublist.map _)⟩, h0.2⟩

theorem Dev.addTransfer_ev {rst : Bool} {dev0 : Dev} (d : Dev) (t : Transfer) (h0 : Evolves rst dev0 d) (hn : d.transferOf t.owner = none)
    : Evolves rst dev0 (Dev.addTransfer d t) := by
  refine ⟨fun w => ⟨(h0.1 w).1, (h0.1 w).2.1, (h0.1 w).2.2.1, (h0.1 w).2.2.2.1, ?_⟩, h0.2⟩
  have hf := List.find?_eq_none.mp hn
  show (List.map _ (d.flf.transfers ++ [t])).Nodup
  rw [List.map_append, List.nodup_append]
  refine ⟨(h0.1 w).2.2.2.2, by simp, fun x hx y hy => ?_⟩
  obtain ⟨z, hz, rfl⟩ := List.mem_map.mp hx
  obtain ⟨u, hu, rfl⟩ := List.mem_map.mp hy
  have := hf z hz
  simp_all

theorem Dev.setTransfer_ev {rst : Bool} {dev0 : Dev} (d : Dev) (t : Transfer) (h0 : Evolves rst dev0 d) : Evolves rst dev0
    (Dev.setTransfer d t) := by
  refine ⟨fun w => ⟨(h0.1 w).1, (h0.1 w).2.1, (h0.1 w).2.2.1, (h0.1 w).2.2.2.1, ?_⟩, h0.2⟩
  have e : (d.setTransfer t).flf.transfers.map (·.owner) = d.flf.transfers.map (·.owner) := by
    simp only [Dev.setTransfer, List.map_map]
    apply List.map_congr_left
    intro x _
    simp only [Function.comp]
    split
    · rename_i h
      exact h.symm
    · rfl
  rw [e]
  exact (h0.1 w).2.2.2.2

theorem Dev.openWrite_ev {rst : Bool} {dev0 : Dev} (d : Dev) (owner : Nat) (role : Nat) (idx : Nat) (sub : Nat) (total : Nat) (crc : Nat)
    (h0 : Evolves rst dev0 d) : Evolves rst dev0 (Dev.openWrite d owner role idx sub total crc) := by
  unfold Dev.openWrite
  extract_lets +onlyGivenNames c
  split
  · exact Dev.answer_ev _ _ h0
  · rename_i hc
    apply Dev.answer_ev
    apply Dev.addTransfer_ev _ _ (Dev.uncommit_ev _ _ h0)
    have hn : d.transferOf owner = none := by
      cases ho : d.transferOf owner with
      | none => rfl
      | some t =>
        exfalso
        apply hc
        show d.openWriteCode owner role idx sub total ≠ 0
        unfold Dev.openWriteCode
        split
        · split <;> simp
        · simp only [ho, Option.isSome_some, Bool.true_or, if_true]
          split <;> simp
    have e : (d.uncommit idx).flf.transfers = d.flf.transfers := by
      unfold Dev.uncommit Dev.modBank
      dsimp only
      repeat' split
      all_goals rfl
    unfold Dev.transferOf at hn ⊢
    rw [e]
    exact hn

theorem Dev.openRead_ev {rst : Bool} {dev0 : Dev} (d : Dev) (owner : Nat) (idx : Nat) (sub : Nat) (h0 : Evolves rst dev0 d) : Evolves rst
    dev0 (Dev.openRead d owner idx sub) := by
  unfold Dev.openRead
  split
  · exact Dev.answer_ev _ _ h0
  · split
    · exact Dev.answer_ev _ _ h0
    · rename_i hc
      split
      · exact Dev.answer_ev _ _ h0
      · apply Dev.answer_ev
        apply Dev.addTransfer_ev _ _ h0
        simp at hc
        exact hc.1

theorem Dev.writeSegment_ev {rst : Bool} {dev0 : Dev} (d : Dev) (t : Transfer) (off : Nat) (body : Bytes) (h0 : Evolves rst dev0 d) :
    Evolves rst dev0 (Dev.writeSegment d t off body) := by
  unfold Dev.writeSegment
  repeat' first
    | (with_reducible first | assumption | apply Dev.answer_ev | apply Dev.setTransfer_ev | apply Dev.patchObj_ev)
    | (with_reducible first | apply ite_ev)
    | intro _ | (extract_lets +onlyGivenNames x; subst x)

theorem Dev.readSegment_ev {rst : Bool} {dev0 : Dev} (d : Dev) (t : Transfer) (off : Nat) (body : Bytes) (h0 : Evolves rst dev0 d) :
    Evolves rst dev0 (Dev.readSegment d t off body) := by
  unfold Dev.readSegment
  repeat' first
    | (with_reducible first | assumption | apply Dev.answer_ev | apply Dev.setTransfer_ev | apply ite_ev)
    | intro _ | (extract_lets +onlyGivenNames x; subst x)

theorem Dev.freeRead_ev {rst : Bool} {dev0 : Dev} (d : Dev) (t : Transfer) (h0 : Evolves rst dev0 d) : Evolves rst dev0 (Dev.freeRead d t) := by
  unfold Dev.freeRead
  repeat' first
    | (with_reducible first | assumption | apply Dev.modUnit_ev | apply Dev.setB_ev | apply ite_ev)
    | intro _
    | (extract_lets +onlyGivenNames x; refine (fun (hx : Evolves rst dev0 x) => ?_) ?_; clear_value x; rotate_left
       subst x; rotate_right)
    | (extract_lets +onlyGivenNames x; subst x) | (dsimp -zeta only)

theorem Dev.closeCommit_ev {rst : Bool} {dev0 : Dev} (d : Dev) (t : Transfer) (h0 : Evolves rst dev0 d) : Evolves rst dev0
    (Dev.closeCommit d t) := by
  unfold Dev.closeCommit
  repeat' first
    | (with_reducible first | assumption | apply Dev.dropTransfer_ev | apply Dev.answer_ev | apply Dev.freeRead_ev)
    | (with_reducible first | apply Dev.commitObj_ev | apply ite_ev)
    | intro _
    | (extract_lets +onlyGivenNames x; refine (fun (hx : Evolves rst dev0 x) => ?_) ?_; clear_value x; rotate_left
       subst x; rotate_right)
    | (extract_lets +onlyGivenNames x; subst x)

theorem Dev.closeTransfer_ev {rst : Bool} {dev0 : Dev} (d : Dev) (owner : Nat) (action : Nat) (h0 : Evolves rst dev0 d) : Evolves rst dev0
    (Dev.closeTransfer d owner action) := by
  unfold Dev.closeTransfer
  repeat' first
    | (with_reducible first | assumption | apply Dev.answer_ev | apply Dev.closeCommit_ev | apply Dev.dropTransfer_ev)
    | (with_reducible first | apply ite_ev)
    | intro _ | (extract_lets +onlyGivenNames x; subst x) | split

theorem transferIdleTimeout_ev {rst : Bool} {dev0 : Dev} (owner : Nat) (d : Dev) (h1 : Evolves rst dev0 d) : Evolves rst dev0
    (transferIdleTimeout owner d) := by
  unfold transferIdleTimeout
  repeat' first
    | (with_reducible first | assumption | apply Dev.advanceTo_ev | apply Dev.dropTransfer_ev | apply ite_ev)
    | intro _
    | (extract_lets +onlyGivenNames x; refine (fun (hx : Evolves rst dev0 x) => ?_) ?_; clear_value x; rotate_left
       subst x; rotate_right)
    | (extract_lets +onlyGivenNames x; subst x) | split

theorem Dev.winResult_ev {rst : Bool} {dev0 : Dev} (d : Dev) (c : Nat) (h0 : Evolves rst dev0 d) : Evolves rst dev0 (Dev.winResult d c) := by
  unfold Dev.winResult
  repeat' first
    | (with_reducible first | assumption | apply Dev.set_ev)

theorem Dev.winStart_ev {rst : Bool} {dev0 : Dev} (d : Dev) (h0 : Evolves rst dev0 d) : Evolves rst dev0 (Dev.winStart d) := by
  unfold Dev.winStart
  repeat' first
    | (with_reducible first | assumption | apply Dev.winResult_ev | apply Dev.modBank_ev | apply Dev.uncommit_ev)
    | (with_reducible first | apply ite_ev)
    | intro _
    | (extract_lets +onlyGivenNames x; refine (fun (hx : Evolves rst dev0 x) => ?_) ?_; clear_value x; rotate_left
       subst x; rotate_right)
    | (extract_lets +onlyGivenNames x; subst x) | (dsimp -zeta only)

theorem Dev.winCommit_ev {rst : Bool} {dev0 : Dev} (d : Dev) (h0 : Evolves rst dev0 d) : Evolves rst dev0 (Dev.winCommit d) := by
  unfold Dev.winCommit
  repeat' first
    | (with_reducible first | assumption | apply Dev.winResult_ev | apply Dev.answer_ev | apply Dev.commitTable_ev)
    | (with_reducible first | apply ite_ev)
    | intro _
    | (extract_lets +onlyGivenNames x; refine (fun (hx : Evolves rst dev0 x) => ?_) ?_; clear_value x; rotate_left
       subst x; rotate_right)
    | (extract_lets +onlyGivenNames x; subst x) | split

theorem Dev.winAbort_ev {rst : Bool} {dev0 : Dev} (d : Dev) (h0 : Evolves rst dev0 d) : Evolves rst dev0 (Dev.winAbort d) := by
  unfold Dev.winAbort
  repeat' first
    | (with_reducible first | assumption)
    | (extract_lets +onlyGivenNames x; subst x)

theorem Dev.winWrite_ev {rst : Bool} {dev0 : Dev} (d : Dev) (v : Nat) (h0 : Evolves rst dev0 d) : Evolves rst dev0 (Dev.winWrite d v) := by
  unfold Dev.winWrite
  repeat' first
    | (with_reducible first | assumption | apply Dev.when_ev | apply Dev.set_ev | apply Dev.winStart_ev)
    | (with_reducible first | apply Dev.winCommit_ev | apply Dev.winAbort_ev)

theorem tblWinStart_ev {rst : Bool} {dev0 : Dev} (priv : Bool) (v : Word) (d : Dev) (h2 : Evolves rst dev0 d) : Evolves rst dev0
    (tblWinStart priv v d) := by
  unfold tblWinStart
  repeat' first
    | (with_reducible first | assumption | apply Dev.privWrite_ev | apply Dev.when_ev | apply Dev.set_ev)
    | (with_reducible first | apply Dev.winStart_ev)
    | intro _ | (extract_lets +onlyGivenNames x; subst x) | (dsimp -zeta only)

theorem tblWinCommit_ev {rst : Bool} {dev0 : Dev} (priv : Bool) (v : Word) (d : Dev) (h2 : Evolves rst dev0 d) : Evolves rst dev0
    (tblWinCommit priv v d) := by
  unfold tblWinCommit
  repeat' first
    | (with_reducible first | assumption | apply Dev.privWrite_ev | apply Dev.when_ev | apply Dev.set_ev)
    | (with_reducible first | apply Dev.winCommit_ev)
    | intro _ | (extract_lets +onlyGivenNames x; subst x) | (dsimp -zeta only)

theorem tblWinAbort_ev {rst : Bool} {dev0 : Dev} (priv : Bool) (v : Word) (d : Dev) (h2 : Evolves rst dev0 d) : Evolves rst dev0
    (tblWinAbort priv v d) := by
  unfold tblWinAbort
  repeat' first
    | (with_reducible first | assumption | apply Dev.privWrite_ev | apply Dev.when_ev | apply Dev.set_ev)
    | (with_reducible first | apply Dev.winAbort_ev)
    | intro _ | (extract_lets +onlyGivenNames x; subst x) | (dsimp -zeta only)

theorem Dev.winPut_ev {rst : Bool} {dev0 : Dev} (d : Dev) (off : Nat) (v : Nat) (mask : Nat) (h0 : Evolves rst dev0 d) : Evolves rst dev0
    (Dev.winPut d off v mask) := by
  unfold Dev.winPut
  repeat' first
    | (with_reducible first | assumption | apply Dev.modBank_ev | apply ite_ev | apply foldl_ev)
    | intro _
    | (extract_lets +onlyGivenNames x; refine (fun (hx : Evolves rst dev0 x) => ?_) ?_; clear_value x; rotate_left
       subst x; rotate_right)
    | (extract_lets +onlyGivenNames x; refine (fun (hx : Evolves rst dev0 x.1) => ?_) ?_; clear_value x; rotate_left
       subst x; rotate_right)
    | (extract_lets +onlyGivenNames x; refine (fun (hx : Evolves rst dev0 x.2) => ?_) ?_; clear_value x; rotate_left
       subst x; rotate_right)
    | (extract_lets +onlyGivenNames x; subst x) | split | (dsimp -zeta only)
    | (with_reducible apply Follows.mix <;> with_reducible assumption)

theorem Dev.putFields_ev {rst : Bool} {dev0 : Dev} (d : Dev) (r : RegDesc) (a : Nat) (w : Nat) (mask : Nat) (h0 : Evolves rst dev0 d) :
    Evolves rst dev0 (Dev.putFields d r a w mask) := by
  unfold Dev.putFields
  repeat' first
    | (with_reducible first | assumption | apply Dev.write_ev | apply ite_ev | apply foldl_ev)
    | intro _ | (dsimp -zeta only)

theorem Dev.clearBits_ev {rst : Bool} {dev0 : Dev} (d : Dev) (r : RegDesc) (a : Nat) (v : Nat) (h0 : Evolves rst dev0 d) : Evolves rst
    dev0 (Dev.clearBits d r a v) := by
  unfold Dev.clearBits
  repeat' first
    | (with_reducible first | assumption | apply Dev.set_ev | apply ite_ev | apply foldl_ev)
    | intro _ | (dsimp -zeta only)

theorem Dev.emCtrlWrite_ev {rst : Bool} {dev0 : Dev} (d : Dev) (w : Nat) (mask : Nat) (h0 : Evolves rst dev0 d) : Evolves rst dev0
    (Dev.emCtrlWrite d w mask) := by
  unfold Dev.emCtrlWrite
  repeat' first
    | (with_reducible first | assumption | apply Dev.write_ev | apply Dev.setB_ev | apply ite_ev | apply foldl_ev)
    | intro _
    | (extract_lets +onlyGivenNames x; refine (fun (hx : Evolves rst dev0 x) => ?_) ?_; clear_value x; rotate_left
       subst x; rotate_right)
    | (extract_lets +onlyGivenNames x; subst x) | (dsimp -zeta only)

theorem Dev.adcMonWrite_ev {rst : Bool} {dev0 : Dev} (d : Dev) (r : RegDesc) (a : Nat) (w : Nat) (mask : Nat) (h0 : Evolves rst dev0 d) :
    Evolves rst dev0 (Dev.adcMonWrite d r a w mask) := by
  unfold Dev.adcMonWrite
  repeat' first
    | (with_reducible first | assumption | apply Dev.convRest_ev | apply Dev.putFields_ev | apply ite_ev)
    | intro _
    | (extract_lets +onlyGivenNames x; refine (fun (hx : Evolves rst dev0 x) => ?_) ?_; clear_value x; rotate_left
       subst x; rotate_right)
    | (extract_lets +onlyGivenNames x; subst x) | split | (dsimp -zeta only)

theorem Dev.tbCtrlWrite_ev {rst : Bool} {dev0 : Dev} (d : Dev) (w : Nat) (act : Nat) (mask : Nat) (h0 : Evolves rst dev0 d) : Evolves rst
    dev0 (Dev.tbCtrlWrite d w act mask) := by
  unfold Dev.tbCtrlWrite
  repeat' first
    | (with_reducible first | assumption | apply Dev.write_ev | apply Dev.settled_ev | apply Dev.acceptStep_ev | apply ite_ev)
    | intro _
    | (extract_lets +onlyGivenNames x; refine (fun (hx : Evolves rst dev0 x) => ?_) ?_; clear_value x; rotate_left
       subst x; rotate_right)
    | (extract_lets +onlyGivenNames x; subst x) | (dsimp -zeta only)

theorem Dev.clockWrite_ev {rst : Bool} {dev0 : Dev} (d : Dev) (r : RegDesc) (a : Nat) (w : Nat) (act : Nat) (mask : Nat) (h0 : Evolves rst
    dev0 d) : SomeEv rst dev0 (Dev.clockWrite d r a w act mask) := by
  unfold Dev.clockWrite
  repeat' first
    | (with_reducible first | assumption | apply Dev.when_ev | apply Dev.putFields_ev | apply clockReturn_ev)
    | (with_reducible first | apply clearFault_ev | apply clkGateWrite_ev | apply Dev.tbCtrlWrite_ev | apply tbTrimWrite_ev)
    | (with_reducible first | apply tbAdjWrite_ev | apply tbAdjSecWrite_ev | apply some_ev | apply iteSome_ev)
    | exact none_ev | intro _ | (extract_lets +onlyGivenNames x; subst x) | split

theorem Dev.rangingWrite_ev {rst : Bool} {dev0 : Dev} (d : Dev) (r : RegDesc) (a : Nat) (w : Nat) (act : Nat) (mask : Nat) (h0 : Evolves
    rst dev0 d) : SomeEv rst dev0 (Dev.rangingWrite d r a w act mask) := by
  unfold Dev.rangingWrite
  repeat' first
    | (with_reducible first | assumption | apply Dev.when_ev | apply Dev.putFields_ev | apply calStart_ev | apply tisStart_ev)
    | (with_reducible first | apply Dev.armSnap_ev | apply Dev.emCtrlWrite_ev | apply Dev.write_ev | apply some_ev)
    | (with_reducible first | apply iteSome_ev | apply ite_ev)
    | exact none_ev | intro _
    | (extract_lets +onlyGivenNames x; refine (fun (hx : Evolves rst dev0 x) => ?_) ?_; clear_value x; rotate_left
       subst x; rotate_right)
    | (extract_lets +onlyGivenNames x; subst x) | split | (dsimp -zeta only)

theorem Dev.droverWrite_ev {rst : Bool} {dev0 : Dev} (d : Dev) (r : RegDesc) (a : Nat) (w : Nat) (act : Nat) (mask : Nat) (h0 : Evolves
    rst dev0 d) : SomeEv rst dev0 (Dev.droverWrite d r a w act mask) := by
  unfold Dev.droverWrite
  repeat' first
    | (with_reducible first | assumption | apply Dev.when_ev | apply drvCtrlWrite_ev | apply drvClearFaults_ev)
    | (with_reducible first | apply drvTickWrite_ev | apply Dev.drvSettings_ev | apply Dev.putFields_ev)
    | (with_reducible first | apply drvSetpointWrite_ev | apply drvTestStart_ev | apply some_ev | apply iteSome_ev)
    | (with_reducible first | apply ite_ev)
    | exact none_ev | intro _
    | (extract_lets +onlyGivenNames x; refine (fun (hx : Evolves rst dev0 x) => ?_) ?_; clear_value x; rotate_left
       subst x; rotate_right)
    | (extract_lets +onlyGivenNames x; subst x) | split | (dsimp -zeta only)

theorem Dev.adcWrite_ev {rst : Bool} {dev0 : Dev} (d : Dev) (r : RegDesc) (a : Nat) (w : Nat) (act : Nat) (mask : Nat) (h0 : Evolves rst
    dev0 d) : SomeEv rst dev0 (Dev.adcWrite d r a w act mask) := by
  unfold Dev.adcWrite
  repeat' first
    | (with_reducible first | assumption | apply Dev.acqCtrl_ev | apply Dev.adcMonWrite_ev | apply adcSeqStart_ev)
    | (with_reducible first | apply Dev.answer_ev | apply Dev.clearBits_ev | apply Dev.compClear_ev | apply Dev.convRest_ev)
    | (with_reducible first | apply Dev.drvConfigure_ev | apply none_ev | apply Dev.putFields_ev | apply some_ev)
    | (with_reducible first | apply Dev.when_ev | apply ite_ev | apply iteSome_ev)
    | intro _
    | (extract_lets +onlyGivenNames x; refine (fun (hx : Evolves rst dev0 x) => ?_) ?_; clear_value x; rotate_left
       subst x; rotate_right)
    | (extract_lets +onlyGivenNames x; subst x) | split | (dsimp -zeta only)
    | (with_reducible apply Follows.mix <;> with_reducible assumption)

theorem Dev.otherWrite_ev {rst : Bool} {dev0 : Dev} (d : Dev) (r : RegDesc) (a : Nat) (w : Nat) (act : Nat) (mask : Nat) (h0 : Evolves rst
    dev0 d) : SomeEv rst dev0 (Dev.otherWrite d r a w act mask) := by
  unfold Dev.otherWrite
  repeat' first
    | (with_reducible first | assumption | apply stateRequest_ev | apply Dev.winWrite_ev | apply Dev.when_ev)
    | (with_reducible first | apply Dev.putFields_ev | apply Dev.ethDown_ev | apply Dev.bxRestart_ev | apply some_ev)
    | (with_reducible first | apply iteSome_ev | apply ite_ev)
    | exact none_ev | intro _ | (extract_lets +onlyGivenNames x; subst x) | split

theorem Dev.actingWrite_ev {rst : Bool} {dev0 : Dev} (d : Dev) (r : RegDesc) (a : Nat) (w : Nat) (act : Nat) (mask : Nat) (h0 : Evolves
    rst dev0 d) : SomeEv rst dev0 (Dev.actingWrite d r a w act mask) := by
  unfold Dev.actingWrite
  repeat' first
    | (with_reducible first | assumption | apply Dev.otherWrite_ev | apply Dev.clockWrite_ev | apply Dev.rangingWrite_ev)
    | (with_reducible first | apply Dev.droverWrite_ev | apply Dev.adcWrite_ev | apply some_ev | apply iteSome_ev)
    | (with_reducible first | apply ite_ev)
    | exact none_ev | intro _ | split

theorem Dev.clearEvents_ev {rst : Bool} {dev0 : Dev} (d : Dev) (priv : Bool) (g : Nat) (v : Nat) (h0 : Evolves rst dev0 d) : Evolves rst
    dev0 (Dev.clearEvents d priv g v) := by
  unfold Dev.clearEvents
  repeat' first
    | (with_reducible first | assumption | apply Dev.set_ev | apply ite_ev)
    | intro _
    | (extract_lets +onlyGivenNames x; refine (fun (hx : Evolves rst dev0 x) => ?_) ?_; clear_value x; rotate_left
       subst x; rotate_right)
    | (extract_lets +onlyGivenNames x; subst x) | (dsimp -zeta only)

theorem evtStatusClear_ev {rst : Bool} {dev0 : Dev} (via : Via) (g : Fin 13) (v : Nat) (d : Dev) (h3 : Evolves rst dev0 d) : Evolves rst
    dev0 (evtStatusClear via g v d) := by
  unfold evtStatusClear
  repeat' first
    | (with_reducible first | assumption | apply Dev.clearEvents_ev | apply Dev.roleWrite_ev)
    | intro _ | (extract_lets +onlyGivenNames x; subst x) | split | (dsimp -zeta only)

theorem Dev.regWrite_ev {rst : Bool} {dev0 : Dev} (d : Dev) (priv : Bool) (r : RegDesc) (a : Nat) (v : Nat) (mask : Nat) (h0 : Evolves rst
    dev0 d) : Evolves rst dev0 (Dev.regWrite d priv r a v mask) := by
  unfold Dev.regWrite
  extract_lets +onlyGivenNames act
  refine ite_ev (fun _ => bootCtrlRun_ev _ _ h0) fun _ => ite_ev (fun _ => Dev.clearEvents_ev _ _ _ _ h0) fun _ =>
    ite_ev (fun _ => Dev.viewIgnored_ev _ h0) fun _ => ite_ev (fun _ => ite_ev (fun _ => Dev.viewIgnored_ev _ h0) fun _ => ?_)
      fun _ => Dev.clearBits_ev _ _ _ _ h0
  dsimp only
  split
  · rename_i x hx
    exact (Dev.actingWrite_ev _ _ _ _ _ _ h0).get hx
  · exact Dev.putFields_ev _ _ _ _ _ h0

theorem Dev.loadPut_ev {rst : Bool} {dev0 : Dev} (d : Dev) (off : Nat) (v : Nat) (mask : Nat) (h0 : Evolves rst dev0 d) : Evolves rst dev0
    (Dev.loadPut d off v mask) := by
  unfold Dev.loadPut
  repeat' first
    | (with_reducible first | assumption)
    | (extract_lets +onlyGivenNames x; refine (fun (hx : Evolves rst dev0 x) => ?_) ?_; clear_value x; rotate_left
       subst x; rotate_right)
    | (extract_lets +onlyGivenNames x; subst x)

theorem Dev.busWrite_ev {rst : Bool} {dev0 : Dev} (d : Dev) (priv : Bool) (addr : Nat) (v : Nat) (mask : Nat) (h0 : Evolves rst dev0 d) :
    Evolves rst dev0 (Dev.busWrite d priv addr v mask) := by
  unfold Dev.busWrite
  repeat' first
    | (with_reducible first | assumption | apply bootCtrlRun_ev | apply Dev.bridgeError_ev | apply Dev.gatedHit_ev)
    | (with_reducible first | apply Dev.loadPut_ev | apply none_ev | apply Dev.regWrite_ev | apply some_ev)
    | (with_reducible first | apply Dev.unmapped_ev | apply Dev.viewIgnored_ev | apply Dev.winPut_ev | apply ite_ev)
    | intro _
    | (extract_lets +onlyGivenNames x; refine (fun (hx : Evolves rst dev0 x) => ?_) ?_; clear_value x; rotate_left
       subst x; rotate_right)
    | (extract_lets +onlyGivenNames x; subst x) | split | (dsimp -zeta only)

theorem registerWrite_ev {rst : Bool} {dev0 : Dev} (priv : Bool) (addr : Nat) (v : Word) (mask : Word) (d : Dev) (h4 : Evolves rst dev0 d)
    : Evolves rst dev0 (registerWrite priv addr v mask d) := by
  unfold registerWrite
  repeat' first
    | (with_reducible first | assumption | apply Dev.busWrite_ev)

theorem Dev.onPath_ev {rst : Bool} {dev0 : Dev} (d : Dev) (h : ReqHdr) (op : Nat) (body : Bytes) (k : Req → Dev → Dev) (h0 : Evolves rst
    dev0 d) (h4 : ∀ x0 x1, Evolves rst dev0 x1 → Evolves rst dev0 (k x0 x1)) : Evolves rst dev0 (Dev.onPath d h op body k) := by
  unfold Dev.onPath
  repeat' first
    | (with_reducible first | assumption | apply h4 | apply Dev.rxFrame_ev | apply Dev.advanceTo_ev | apply ite_ev)
    | intro _
    | (extract_lets +onlyGivenNames x; refine (fun (hx : Evolves rst dev0 x) => ?_) ?_; clear_value x; rotate_left
       subst x; rotate_right)
    | (extract_lets +onlyGivenNames x; subst x) | split | (dsimp -zeta only)

theorem Dev.ask_ev {rst : Bool} {dev0 : Dev} (d : Dev) (h : ReqHdr) (op : Nat) (body : Bytes) (act : Asker → Dev → Dev × Bytes × Bool) (h0
    : Evolves rst dev0 d) (h4 : ∀ x0 x1, Evolves rst dev0 x1 → Evolves rst dev0 ((act x0 x1)).1) : Evolves rst dev0 (Dev.ask d h op body
    act) := by
  unfold Dev.ask
  repeat' first
    | (with_reducible first | assumption | apply h4 | apply Dev.onPath_ev | apply Dev.request_ev)
    | intro _ | (dsimp -zeta only)

theorem Dev.bodies_ev {rst : Bool} {dev0 : Dev} (d : Dev) (ok : Bytes) (err : Bytes) (h0 : Evolves rst dev0 d) : Evolves rst dev0
    (Dev.bodies d ok err).1 := by
  unfold Dev.bodies
  repeat' first
    | (with_reducible first | assumption | apply ite_ev)
    | intro _ | (extract_lets +onlyGivenNames x; subst x)

theorem Dev.readEnt_ev {rst : Bool} {dev0 : Dev} (d : Dev) (role : Nat) (idx : Nat) (sub : Nat) (h0 : Evolves rst dev0 d) : Evolves rst
    dev0 (Dev.readEnt d role idx sub).1 := by
  unfold Dev.readEnt
  repeat' first
    | (with_reducible first | assumption | apply Dev.answer_ev | apply ite_ev)
    | intro _
    | (extract_lets +onlyGivenNames x; refine (fun (hx : Evolves rst dev0 x) => ?_) ?_; clear_value x; rotate_left
       subst x; rotate_right)
    | (extract_lets +onlyGivenNames x; subst x) | split

theorem flefenRead_ev {rst : Bool} {dev0 : Dev} (h : ReqHdr) (idx : Nat) (sub : Nat) (d : Dev) (h3 : Evolves rst dev0 d) : Evolves rst
    dev0 (flefenRead h idx sub d) := by
  unfold flefenRead
  repeat' first
    | (with_reducible first | assumption | apply Dev.ask_ev | apply Dev.readEnt_ev)
    | intro _ | (dsimp -zeta only)

theorem Dev.actEntry_ev {dev0 : Dev} (d : Dev) (role : Nat) (idx : Nat) (sub : Nat) (v : Nat) (h0 : Evolves true dev0 d) : SomeEv true
    dev0 (Dev.actEntry d role idx sub v) := by
  unfold Dev.actEntry
  repeat' first
    | (with_reducible first | assumption | apply softwareReset_ev | apply recorderTrigger_ev | apply recorderEject_ev)
    | (with_reducible first | apply recorderProtect_ev | apply recorderFormat_ev | apply firmwareHandover_ev)
    | (with_reducible first | apply firmwareConfirm_ev | apply tollReload_ev | apply configSave_ev | apply blowFuse_ev)
    | (with_reducible first | apply safetyClearFaults_ev | apply evtStatusClear_ev | apply some_ev | apply iteSome_ev)
    | (with_reducible first | apply ite_ev)
    | exact none_ev | intro _
    | (extract_lets +onlyGivenNames x; refine (fun (hx : Evolves true dev0 x) => ?_) ?_; clear_value x; rotate_left
       subst x; rotate_right)
    | (extract_lets +onlyGivenNames x; subst x) | split

theorem Dev.entWrite_ev {dev0 : Dev} (d : Dev) (role : Nat) (idx : Nat) (sub : Nat) (ty : Nat) (val : Bytes) (h0 : Evolves true dev0 d) :
    Evolves true dev0 (Dev.entWrite d role idx sub ty val) := by
  unfold Dev.entWrite
  split
  · exact Dev.answer_ev _ _ h0
  · split
    · exact Dev.answer_ev _ _ h0
    · split
      · exact Dev.answer_ev _ _ h0
      · split
        · rename_i y hy
          exact (Dev.actEntry_ev d role idx sub _ h0).get hy
        · exact Dev.applyWrite_ev _ _ _ h0

theorem Dev.withReport_ev {rst : Bool} {dev0 : Dev} (d : Dev) (body : Bytes) (h0 : Evolves rst dev0 d) : Evolves rst dev0 (Dev.withReport
    d body).1 := by
  unfold Dev.withReport
  repeat' first
    | (with_reducible first | assumption | apply ite_ev)
    | intro _

theorem Dev.writeEnt_ev {dev0 : Dev} (d : Dev) (role : Nat) (idx : Nat) (sub : Nat) (ty : Nat) (val : Bytes) (h0 : Evolves true dev0 d) :
    Evolves true dev0 (Dev.writeEnt d role idx sub ty val).1 := by
  unfold Dev.writeEnt
  have h1 := Dev.entWrite_ev d role idx sub ty val h0
  dsimp only
  apply Dev.withReport_ev
  split
  · exact h1
  · exact Dev.committed_ev _ _ h0 h1

theorem flefenWrite_ev {dev0 : Dev} (h : ReqHdr) (idx : Nat) (sub : Nat) (ty : Nat) (val : Bytes) (d : Dev) (h5 : Evolves true dev0 d) :
    Evolves true dev0 (flefenWrite h idx sub ty val d) := by
  unfold flefenWrite
  repeat' first
    | (with_reducible first | assumption | apply Dev.ask_ev | apply Dev.writeEnt_ev)
    | intro _ | (dsimp -zeta only)

theorem Dev.groupWrites_ev {dev0 : Dev} (role : Nat) (ws : List (Nat × Nat × Nat × Bytes)) (i : Nat) (d : Dev) (h0 : Evolves true dev0 d)
    : ∀ y, Dev.groupWrites role ws i d = .inl y → Evolves true dev0 y := by
  induction ws generalizing i d with
  | nil =>
    intro y hy
    cases hy
    exact h0
  | cons w ws ih =>
    intro y hy
    unfold Dev.groupWrites at hy
    dsimp only at hy
    split at hy
    · exact ih _ _ (Dev.entWrite_ev _ _ _ _ _ _ h0) y hy
    · cases hy

theorem Dev.writeAll_ev {dev0 : Dev} (d : Dev) (role : Nat) (ws : List (Nat × Nat × Nat × Bytes)) (h0 : Evolves true dev0 d) : Evolves
    true dev0 (Dev.writeAll d role ws).1 := by
  unfold Dev.writeAll
  split
  · exact Dev.answer_ev _ _ h0
  · split
    · rename_i n hn
      exact Dev.withReport_ev _ _ (Dev.committed_ev _ _ h0 (Dev.groupWrites_ev _ _ _ _ (Dev.answer_ev _ _ h0) n hn))
    · exact Dev.withReport_ev _ _ (Dev.answer_ev _ _ h0)

theorem writeGroup_ev {dev0 : Dev} (h : ReqHdr) (ws : List (Nat × Nat × Nat × Bytes)) (d : Dev) (h2 : Evolves true dev0 d) : Evolves true
    dev0 (writeGroup h ws d) := by
  unfold writeGroup
  repeat' first
    | (with_reducible first | assumption | apply Dev.ask_ev | apply Dev.writeAll_ev)
    | intro _ | (dsimp -zeta only)

theorem Dev.domainOpens_ev {rst : Bool} {dev0 : Dev} (d : Dev) (a : Asker) (idx : Nat) (sub : Nat) (dir : Nat) (total : Nat) (crc : Option
    Nat) (h0 : Evolves rst dev0 d) : Evolves rst dev0 (Dev.domainOpens d a idx sub dir total crc).1 := by
  unfold Dev.domainOpens
  repeat' first
    | (with_reducible first | assumption | apply Dev.openRead_ev | apply Dev.bodies_ev | apply Dev.openWrite_ev)
    | (with_reducible first | apply Dev.answer_ev | apply ite_ev)
    | intro _
    | (extract_lets +onlyGivenNames x; refine (fun (hx : Evolves rst dev0 x) => ?_) ?_; clear_value x; rotate_left
       subst x; rotate_right)
    | (extract_lets +onlyGivenNames x; refine (fun (hx : Evolves rst dev0 x.1) => ?_) ?_; clear_value x; rotate_left
       subst x; rotate_right)
    | (extract_lets +onlyGivenNames x; refine (fun (hx : Evolves rst dev0 x.2) => ?_) ?_; clear_value x; rotate_left
       subst x; rotate_right)
    | (extract_lets +onlyGivenNames x; subst x) | split

theorem domainOpen_ev {rst : Bool} {dev0 : Dev} (h : ReqHdr) (idx : Nat) (sub : Nat) (dir : Nat) (total : Nat) (crc : Option Nat) (d :
    Dev) (h6 : Evolves rst dev0 d) : Evolves rst dev0 (domainOpen h idx sub dir total crc d) := by
  unfold domainOpen
  repeat' first
    | (with_reducible first | assumption | apply Dev.ask_ev | apply Dev.domainOpens_ev)
    | intro _ | (extract_lets +onlyGivenNames x; subst x) | split | (dsimp -zeta only)

theorem Dev.domainSegs_ev {rst : Bool} {dev0 : Dev} (d : Dev) (a : Asker) (off : Nat) (body : Bytes) (h0 : Evolves rst dev0 d) : Evolves
    rst dev0 (Dev.domainSegs d a off body).1 := by
  unfold Dev.domainSegs
  repeat' first
    | (with_reducible first | assumption | apply Dev.answer_ev | apply Dev.writeSegment_ev | apply Dev.readSegment_ev)
    | (with_reducible first | apply ite_ev)
    | intro _
    | (extract_lets +onlyGivenNames x; refine (fun (hx : Evolves rst dev0 x) => ?_) ?_; clear_value x; rotate_left
       subst x; rotate_right)
    | (extract_lets +onlyGivenNames x; subst x) | split

theorem domainSegment_ev {rst : Bool} {dev0 : Dev} (h : ReqHdr) (off : Nat) (body : Bytes) (d : Dev) (h3 : Evolves rst dev0 d) : Evolves
    rst dev0 (domainSegment h off body d) := by
  unfold domainSegment
  repeat' first
    | (with_reducible first | assumption | apply Dev.ask_ev | apply Dev.domainSegs_ev)
    | intro _ | (dsimp -zeta only)

theorem domainClose_ev {rst : Bool} {dev0 : Dev} (h : ReqHdr) (action : Nat) (d : Dev) (h2 : Evolves rst dev0 d) : Evolves rst dev0
    (domainClose h action d) := by
  unfold domainClose
  repeat' first
    | (with_reducible first | assumption | apply Dev.ask_ev | apply Dev.closeTransfer_ev)
    | intro _
    | (extract_lets +onlyGivenNames x; refine (fun (hx : Evolves rst dev0 x) => ?_) ?_; clear_value x; rotate_left
       subst x; rotate_right)
    | (extract_lets +onlyGivenNames x; subst x) | (dsimp -zeta only)

theorem Dev.hellos_ev {rst : Bool} {dev0 : Dev} (d : Dev) (path : Carrier) (role : Nat) (nc : Bytes) (h0 : Evolves rst dev0 d) : Evolves
    rst dev0 (Dev.hellos d path role nc).1 := by
  unfold Dev.hellos
  repeat' first
    | (with_reducible first | assumption | apply Dev.answer_ev | apply ite_ev | apply foldl_ev)
    | intro _
    | (extract_lets +onlyGivenNames x; refine (fun (hx : Evolves rst dev0 x) => ?_) ?_; clear_value x; rotate_left
       subst x; rotate_right)
    | (extract_lets +onlyGivenNames x; refine (fun (hx : Evolves rst dev0 x.1) => ?_) ?_; clear_value x; rotate_left
       subst x; rotate_right)
    | (extract_lets +onlyGivenNames x; refine (fun (hx : Evolves rst dev0 x.2) => ?_) ?_; clear_value x; rotate_left
       subst x; rotate_right)
    | (extract_lets +onlyGivenNames x; subst x) | split | (dsimp -zeta only)
    | (with_reducible apply Follows.mix <;> with_reducible assumption)

theorem hello_ev {rst : Bool} {dev0 : Dev} (h : ReqHdr) (role : Nat) (nc : Bytes) (d : Dev) (h3 : Evolves rst dev0 d) : Evolves rst dev0
    (hello h role nc d) := by
  unfold hello
  repeat' first
    | (with_reducible first | assumption | apply Dev.ask_ev | apply Dev.hellos_ev)
    | intro _ | (dsimp -zeta only)

theorem Dev.wrongProof_ev {rst : Bool} {dev0 : Dev} (d : Dev) (role : Nat) (h0 : Evolves rst dev0 d) : Evolves rst dev0 (Dev.wrongProof d
    role) := by
  unfold Dev.wrongProof
  repeat' first
    | (with_reducible first | assumption | apply ite_ev)
    | intro _
    | (extract_lets +onlyGivenNames x; refine (fun (hx : Evolves rst dev0 x) => ?_) ?_; clear_value x; rotate_left
       subst x; rotate_right)
    | (extract_lets +onlyGivenNames x; subst x) | (dsimp -zeta only)

theorem Dev.proves_ev {rst : Bool} {dev0 : Dev} (d : Dev) (q : Req) (s : Session) (proof : Bytes) (h0 : Evolves rst dev0 d) : Evolves rst
    dev0 (Dev.proves d q s proof) := by
  unfold Dev.proves
  repeat' first
    | (with_reducible first | assumption | apply Dev.endSession_ev | apply Dev.respond_ev | apply Dev.when_ev)
    | (with_reducible first | apply Dev.wrongProof_ev | apply Dev.setSession_ev | apply ite_ev)
    | intro _
    | (extract_lets +onlyGivenNames x; refine (fun (hx : Evolves rst dev0 x) => ?_) ?_; clear_value x; rotate_left
       subst x; rotate_right)
    | (extract_lets +onlyGivenNames x; subst x) | (dsimp -zeta only)

theorem Dev.proveReq_ev {rst : Bool} {dev0 : Dev} (d : Dev) (q : Req) (proof : Bytes) (h0 : Evolves rst dev0 d) : Evolves rst dev0
    (Dev.proveReq d q proof) := by
  unfold Dev.proveReq
  repeat' first
    | (with_reducible first | assumption | apply Dev.reply_ev | apply Dev.proves_ev | apply Dev.rejectFrame_ev)
    | (with_reducible first | apply Dev.request_ev | apply Dev.answer_ev | apply ite_ev)
    | intro _
    | (extract_lets +onlyGivenNames x; refine (fun (hx : Evolves rst dev0 x) => ?_) ?_; clear_value x; rotate_left
       subst x; rotate_right)
    | (extract_lets +onlyGivenNames x; subst x) | split | (dsimp -zeta only)

theorem prove_ev {rst : Bool} {dev0 : Dev} (h : ReqHdr) (proof : Bytes) (d : Dev) (h2 : Evolves rst dev0 d) : Evolves rst dev0 (prove h
    proof d) := by
  unfold prove
  repeat' first
    | (with_reducible first | assumption | apply Dev.onPath_ev | apply Dev.proveReq_ev)
    | intro _ | (dsimp -zeta only)

theorem helloLockoutEnd_ev {rst : Bool} {dev0 : Dev} (role : Nat) (d : Dev) (h1 : Evolves rst dev0 d) : Evolves rst dev0 (helloLockoutEnd
    role d) := by
  unfold helloLockoutEnd
  repeat' first
    | (with_reducible first | assumption | apply Dev.advanceTo_ev)
    | (extract_lets +onlyGivenNames x; refine (fun (hx : Evolves rst dev0 x) => ?_) ?_; clear_value x; rotate_left
       subst x; rotate_right)
    | (extract_lets +onlyGivenNames x; subst x) | split

theorem endSession_ev {rst : Bool} {dev0 : Dev} (h : ReqHdr) (d : Dev) (h1 : Evolves rst dev0 d) : Evolves rst dev0 (endSession h d) := by
  unfold endSession
  repeat' first
    | (with_reducible first | assumption | apply Dev.ask_ev | apply Dev.answer_ev | apply Dev.endSession_ev | apply ite_ev)
    | (with_reducible first | apply foldl_ev)
    | intro _
    | (extract_lets +onlyGivenNames x; refine (fun (hx : Evolves rst dev0 x) => ?_) ?_; clear_value x; rotate_left
       subst x; rotate_right)
    | (extract_lets +onlyGivenNames x; refine (fun (hx : Evolves rst dev0 x.1) => ?_) ?_; clear_value x; rotate_left
       subst x; rotate_right)
    | (extract_lets +onlyGivenNames x; refine (fun (hx : Evolves rst dev0 x.2) => ?_) ?_; clear_value x; rotate_left
       subst x; rotate_right)
    | (extract_lets +onlyGivenNames x; subst x) | split | (dsimp -zeta only)
    | (with_reducible apply Follows.mix <;> with_reducible assumption)

theorem sessionTimeout_ev {rst : Bool} {dev0 : Dev} (id : Nat) (d : Dev) (h1 : Evolves rst dev0 d) : Evolves rst dev0 (sessionTimeout id
    d) := by
  unfold sessionTimeout
  repeat' first
    | (with_reducible first | assumption | apply Dev.endSession_ev | apply Dev.advanceTo_ev)
    | (extract_lets +onlyGivenNames x; subst x) | split

theorem Dev.viewWrite_ev {rst : Bool} {dev0 : Dev} (d : Dev) (priv : Bool) (addr : Nat) (v : Nat) (mask : Nat) (h0 : Evolves rst dev0 d) :
    Evolves rst dev0 (Dev.viewWrite d priv addr v mask) := by
  unfold Dev.viewWrite
  repeat' first
    | (with_reducible first | assumption | apply Dev.unmapped_ev | apply Dev.busWrite_ev | apply ite_ev)
    | intro _

theorem Dev.regReads_ev {rst : Bool} {dev0 : Dev} (d : Dev) (addr : Nat) (count : Nat) (h0 : Evolves rst dev0 d) : Evolves rst dev0
    (Dev.regReads d addr count).1 := by
  unfold Dev.regReads
  repeat' first
    | (with_reducible first | assumption | apply Dev.answer_ev | apply Dev.busReads_ev | apply ite_ev | apply foldl_ev)
    | intro _
    | (extract_lets +onlyGivenNames x; refine (fun (hx : Evolves rst dev0 x) => ?_) ?_; clear_value x; rotate_left
       subst x; rotate_right)
    | (extract_lets +onlyGivenNames x; refine (fun (hx : Evolves rst dev0 x.1) => ?_) ?_; clear_value x; rotate_left
       subst x; rotate_right)
    | (extract_lets +onlyGivenNames x; refine (fun (hx : Evolves rst dev0 x.2) => ?_) ?_; clear_value x; rotate_left
       subst x; rotate_right)
    | (extract_lets +onlyGivenNames x; subst x) | split | (dsimp -zeta only)
    | (with_reducible apply Follows.mix <;> with_reducible assumption)

theorem flefenRegRead_ev {rst : Bool} {dev0 : Dev} (h : ReqHdr) (addr : Nat) (count : Nat) (d : Dev) (h3 : Evolves rst dev0 d) : Evolves
    rst dev0 (flefenRegRead h addr count d) := by
  unfold flefenRegRead
  repeat' first
    | (with_reducible first | assumption | apply Dev.ask_ev | apply Dev.regReads_ev)
    | intro _ | (dsimp -zeta only)

theorem flefenRegWrite_ev {rst : Bool} {dev0 : Dev} (h : ReqHdr) (addr : Nat) (val : Nat) (mask : Nat) (d : Dev) (h4 : Evolves rst dev0 d)
    : Evolves rst dev0 (flefenRegWrite h addr val mask d) := by
  unfold flefenRegWrite
  repeat' first
    | (with_reducible first | assumption | apply Dev.ask_ev | apply Dev.answer_ev | apply Dev.viewWrite_ev | apply ite_ev)
    | (with_reducible first | apply foldl_ev)
    | intro _
    | (extract_lets +onlyGivenNames x; refine (fun (hx : Evolves rst dev0 x) => ?_) ?_; clear_value x; rotate_left
       subst x; rotate_right)
    | (extract_lets +onlyGivenNames x; refine (fun (hx : Evolves rst dev0 x.1) => ?_) ?_; clear_value x; rotate_left
       subst x; rotate_right)
    | (extract_lets +onlyGivenNames x; refine (fun (hx : Evolves rst dev0 x.2) => ?_) ?_; clear_value x; rotate_left
       subst x; rotate_right)
    | (extract_lets +onlyGivenNames x; subst x) | split | (dsimp -zeta only)
    | (with_reducible apply Follows.mix <;> with_reducible assumption)

theorem Dev.toSubscribers_ev {rst : Bool} {dev0 : Dev} (d : Dev) (f : Bytes) (h0 : Evolves rst dev0 d) : Evolves rst dev0
    (Dev.toSubscribers d f) := by
  unfold Dev.toSubscribers
  repeat' first
    | (with_reducible first | assumption | apply Dev.sendPair_ev | apply ite_ev | apply foldl_ev)
    | intro _ | (extract_lets +onlyGivenNames x; subst x) | (dsimp -zeta only)

theorem Dev.afterMessage_ev {rst : Bool} {dev0 : Dev} (d : Dev) (k : Nat) (h0 : Evolves rst dev0 d) : Evolves rst dev0 (Dev.afterMessage d
    k) := by
  unfold Dev.afterMessage
  repeat' first
    | (with_reducible first | assumption | apply Dev.advanceTo_ev)
    | (extract_lets +onlyGivenNames x; subst x) | split

theorem eventMessage_ev {rst : Bool} {dev0 : Dev} (g : Nat) (s : Nat) (d : Dev) (h2 : Evolves rst dev0 d) : Evolves rst dev0 (eventMessage
    g s d) := by
  unfold eventMessage
  repeat' first
    | (with_reducible first | assumption | apply Dev.afterMessage_ev | apply Dev.outboxPut_ev | apply Dev.toSubscribers_ev)
    | (with_reducible first | apply ite_ev)
    | intro _
    | (extract_lets +onlyGivenNames x; refine (fun (hx : Evolves rst dev0 x) => ?_) ?_; clear_value x; rotate_left
       subst x; rotate_right)
    | (extract_lets +onlyGivenNames x; subst x) | split

theorem Dev.spiReturn_ev {rst : Bool} {dev0 : Dev} (d : Dev) (b : Bytes) (h0 : Evolves rst dev0 d) : Evolves rst dev0 (Dev.spiReturn d b) := by
  unfold Dev.spiReturn
  repeat' first
    | (with_reducible first | assumption)
    | (extract_lets +onlyGivenNames x; subst x)

theorem spiStatus_ev {rst : Bool} {dev0 : Dev} (d : Dev) (h0 : Evolves rst dev0 d) : Evolves rst dev0 (spiStatus d) := by
  unfold spiStatus
  repeat' first
    | (with_reducible first | assumption | apply Dev.spiReturn_ev | apply ite_ev)
    | intro _

theorem spiRegRead_ev {rst : Bool} {dev0 : Dev} (addr : Nat) (count : Nat) (d : Dev) (h2 : Evolves rst dev0 d) : Evolves rst dev0
    (spiRegRead addr count d) := by
  unfold spiRegRead
  repeat' first
    | (with_reducible first | assumption | apply Dev.busReads_ev | apply Dev.spiReturn_ev | apply ite_ev)
    | intro _
    | (extract_lets +onlyGivenNames x; refine (fun (hx : Evolves rst dev0 x) => ?_) ?_; clear_value x; rotate_left
       subst x; rotate_right)
    | (extract_lets +onlyGivenNames x; refine (fun (hx : Evolves rst dev0 x.1) => ?_) ?_; clear_value x; rotate_left
       subst x; rotate_right)
    | (extract_lets +onlyGivenNames x; refine (fun (hx : Evolves rst dev0 x.2) => ?_) ?_; clear_value x; rotate_left
       subst x; rotate_right)
    | (extract_lets +onlyGivenNames x; subst x) | (dsimp -zeta only)

theorem Dev.spiWrites_ev {rst : Bool} {dev0 : Dev} (addr : Nat) (a1 : List Word) (a2 : Dev) (h2 : Evolves rst dev0 a2) : Evolves rst dev0
    (Dev.spiWrites addr a1 a2) := by
  induction a1 generalizing addr a2 with
  | nil => exact h2
  | cons w ws ih => exact ih _ _ (Dev.viewWrite_ev _ _ _ _ _ h2)

theorem spiRegWrite_ev {rst : Bool} {dev0 : Dev} (addr : Nat) (words : List Word) (d : Dev) (h2 : Evolves rst dev0 d) : Evolves rst dev0
    (spiRegWrite addr words d) := by
  unfold spiRegWrite
  repeat' first
    | (with_reducible first | assumption | apply Dev.spiWrites_ev | apply ite_ev)
    | intro _

theorem frameIn_ev {rst : Bool} {dev0 : Dev} (frame : Bytes) (d : Dev) (h1 : Evolves rst dev0 d) : Evolves rst dev0 (frameIn frame d) := by
  unfold frameIn
  repeat' first
    | (with_reducible first | assumption | apply Dev.arrive_ev | apply ite_ev)
    | intro _ | (extract_lets +onlyGivenNames x; subst x) | (dsimp -zeta only)

theorem frameOut_ev {rst : Bool} {dev0 : Dev} (d : Dev) (h0 : Evolves rst dev0 d) : Evolves rst dev0 (frameOut d) := by
  unfold frameOut
  split
  · exact h0
  · split
    · exact Dev.spiReturn_ev _ _ h0
    · rename_i f t e
      apply Dev.spiReturn_ev
      refine ⟨fun w => ⟨(h0.1 w).1, (h0.1 w).2.1, ?_, (h0.1 w).2.2.2⟩, h0.2⟩
      have := (h0.1 w).2.2.1
      rw [e] at this
      exact Nat.le_of_succ_le this

end Sys2Proof.Machine
end

