-- ==== Sys2Proof/Laws/State.lean ====
section
/-! SUPPORT. One lemma for each field of the block and each of its basic updates, true by definition, so that no proof unfolds a
record update; and what reading a register after writing one gives. -/

namespace Sys2Proof.Machine

/-! ## Parts of the block after a basic update -/

@[simp] theorem Dev.set_st (d : Dev) (f : Fld) (v : Nat) : (d.set f v).st = d.st := rfl
@[simp] theorem Dev.set_want (d : Dev) (f : Fld) (v : Nat) : (d.set f v).want = d.want := rfl
@[simp] theorem Dev.set_wantFixed (d : Dev) (f : Fld) (v : Nat) : (d.set f v).wantFixed = d.wantFixed := rfl
@[simp] theorem Dev.set_lostTerms (d : Dev) (f : Fld) (v : Nat) : (d.set f v).lostTerms = d.lostTerms := rfl
@[simp] theorem Dev.set_causes (d : Dev) (f : Fld) (v : Nat) : (d.set f v).causes = d.causes := rfl
@[simp] theorem Dev.set_up (d : Dev) (f : Fld) (v : Nat) : (d.set f v).up = d.up := rfl
@[simp] theorem Dev.set_cyc (d : Dev) (f : Fld) (v : Nat) : (d.set f v).cyc = d.cyc := rfl
@[simp] theorem Dev.set_free (d : Dev) (f : Fld) (v : Nat) : (d.set f v).free = d.free := rfl
@[simp] theorem Dev.set_held (d : Dev) (f : Fld) (v : Nat) : (d.set f v).held = d.held := rfl
@[simp] theorem Dev.set_dues (d : Dev) (f : Fld) (v : Nat) : (d.set f v).dues = d.dues := rfl
@[simp] theorem Dev.set_tabs (d : Dev) (f : Fld) (v : Nat) : (d.set f v).tabs = d.tabs := rfl
@[simp] theorem Dev.set_clutBasic (d : Dev) (f : Fld) (v : Nat) : (d.set f v).clutBasic = d.clutBasic := rfl
@[simp] theorem Dev.set_clutLater (d : Dev) (f : Fld) (v : Nat) : (d.set f v).clutLater = d.clutLater := rfl
@[simp] theorem Dev.set_clk (d : Dev) (f : Fld) (v : Nat) : (d.set f v).clk = d.clk := rfl
@[simp] theorem Dev.set_tb (d : Dev) (f : Fld) (v : Nat) : (d.set f v).tb = d.tb := rfl
@[simp] theorem Dev.set_seq (d : Dev) (f : Fld) (v : Nat) : (d.set f v).seq = d.seq := rfl
@[simp] theorem Dev.set_chans (d : Dev) (f : Fld) (v : Nat) : (d.set f v).chans = d.chans := rfl
@[simp] theorem Dev.set_cvys (d : Dev) (f : Fld) (v : Nat) : (d.set f v).cvys = d.cvys := rfl
@[simp] theorem Dev.set_cnt (d : Dev) (f : Fld) (v : Nat) : (d.set f v).cnt = d.cnt := rfl
@[simp] theorem Dev.set_ech (d : Dev) (f : Fld) (v : Nat) : (d.set f v).ech = d.ech := rfl
@[simp] theorem Dev.set_recs (d : Dev) (f : Fld) (v : Nat) : (d.set f v).recs = d.recs := rfl
@[simp] theorem Dev.set_seeds (d : Dev) (f : Fld) (v : Nat) : (d.set f v).seeds = d.seeds := rfl
@[simp] theorem Dev.set_fStore (d : Dev) (f : Fld) (v : Nat) : (d.set f v).fStore = d.fStore := rfl
@[simp] theorem Dev.set_pStore (d : Dev) (f : Fld) (v : Nat) : (d.set f v).pStore = d.pStore := rfl
@[simp] theorem Dev.set_led (d : Dev) (f : Fld) (v : Nat) : (d.set f v).led = d.led := rfl
@[simp] theorem Dev.set_drv (d : Dev) (f : Fld) (v : Nat) : (d.set f v).drv = d.drv := rfl
@[simp] theorem Dev.set_streams (d : Dev) (f : Fld) (v : Nat) : (d.set f v).streams = d.streams := rfl
@[simp] theorem Dev.set_net (d : Dev) (f : Fld) (v : Nat) : (d.set f v).net = d.net := rfl
@[simp] theorem Dev.set_bx (d : Dev) (f : Fld) (v : Nat) : (d.set f v).bx = d.bx := rfl
@[simp] theorem Dev.set_conv (d : Dev) (f : Fld) (v : Nat) : (d.set f v).conv = d.conv := rfl
@[simp] theorem Dev.set_acq (d : Dev) (f : Fld) (v : Nat) : (d.set f v).acq = d.acq := rfl
@[simp] theorem Dev.set_mon (d : Dev) (f : Fld) (v : Nat) : (d.set f v).mon = d.mon := rfl
@[simp] theorem Dev.set_rcd (d : Dev) (f : Fld) (v : Nat) : (d.set f v).rcd = d.rcd := rfl
@[simp] theorem Dev.set_toll (d : Dev) (f : Fld) (v : Nat) : (d.set f v).toll = d.toll := rfl
@[simp] theorem Dev.set_flf (d : Dev) (f : Fld) (v : Nat) : (d.set f v).flf = d.flf := rfl
@[simp] theorem Dev.set_evt (d : Dev) (f : Fld) (v : Nat) : (d.set f v).evt = d.evt := rfl
@[simp] theorem Dev.set_therm (d : Dev) (f : Fld) (v : Nat) : (d.set f v).therm = d.therm := rfl
@[simp] theorem Dev.set_life (d : Dev) (f : Fld) (v : Nat) : (d.set f v).life = d.life := rfl

@[simp] theorem Dev.modChan_st (d : Dev) (c : Nat) (f : Chan → Chan) : (d.modChan c f).st = d.st := rfl
@[simp] theorem Dev.modChan_want (d : Dev) (c : Nat) (f : Chan → Chan) : (d.modChan c f).want = d.want := rfl
@[simp] theorem Dev.modChan_wantFixed (d : Dev) (c : Nat) (f : Chan → Chan) : (d.modChan c f).wantFixed = d.wantFixed := rfl
@[simp] theorem Dev.modChan_lostTerms (d : Dev) (c : Nat) (f : Chan → Chan) : (d.modChan c f).lostTerms = d.lostTerms := rfl
@[simp] theorem Dev.modChan_causes (d : Dev) (c : Nat) (f : Chan → Chan) : (d.modChan c f).causes = d.causes := rfl
@[simp] theorem Dev.modChan_up (d : Dev) (c : Nat) (f : Chan → Chan) : (d.modChan c f).up = d.up := rfl
@[simp] theorem Dev.modChan_cyc (d : Dev) (c : Nat) (f : Chan → Chan) : (d.modChan c f).cyc = d.cyc := rfl
@[simp] theorem Dev.modChan_free (d : Dev) (c : Nat) (f : Chan → Chan) : (d.modChan c f).free = d.free := rfl
@[simp] theorem Dev.modChan_held (d : Dev) (c : Nat) (f : Chan → Chan) : (d.modChan c f).held = d.held := rfl
@[simp] theorem Dev.modChan_regs (d : Dev) (c : Nat) (f : Chan → Chan) : (d.modChan c f).regs = d.regs := rfl
@[simp] theorem Dev.modChan_dues (d : Dev) (c : Nat) (f : Chan → Chan) : (d.modChan c f).dues = d.dues := rfl
@[simp] theorem Dev.modChan_tabs (d : Dev) (c : Nat) (f : Chan → Chan) : (d.modChan c f).tabs = d.tabs := rfl
@[simp] theorem Dev.modChan_clutBasic (d : Dev) (c : Nat) (f : Chan → Chan) : (d.modChan c f).clutBasic = d.clutBasic := rfl
@[simp] theorem Dev.modChan_clutLater (d : Dev) (c : Nat) (f : Chan → Chan) : (d.modChan c f).clutLater = d.clutLater := rfl
@[simp] theorem Dev.modChan_clk (d : Dev) (c : Nat) (f : Chan → Chan) : (d.modChan c f).clk = d.clk := rfl
@[simp] theorem Dev.modChan_tb (d : Dev) (c : Nat) (f : Chan → Chan) : (d.modChan c f).tb = d.tb := rfl
@[simp] theorem Dev.modChan_seq (d : Dev) (c : Nat) (f : Chan → Chan) : (d.modChan c f).seq = d.seq := rfl
@[simp] theorem Dev.modChan_cvys (d : Dev) (c : Nat) (f : Chan → Chan) : (d.modChan c f).cvys = d.cvys := rfl
@[simp] theorem Dev.modChan_cnt (d : Dev) (c : Nat) (f : Chan → Chan) : (d.modChan c f).cnt = d.cnt := rfl
@[simp] theorem Dev.modChan_ech (d : Dev) (c : Nat) (f : Chan → Chan) : (d.modChan c f).ech = d.ech := rfl
@[simp] theorem Dev.modChan_recs (d : Dev) (c : Nat) (f : Chan → Chan) : (d.modChan c f).recs = d.recs := rfl
@[simp] theorem Dev.modChan_seeds (d : Dev) (c : Nat) (f : Chan → Chan) : (d.modChan c f).seeds = d.seeds := rfl
@[simp] theorem Dev.modChan_fStore (d : Dev) (c : Nat) (f : Chan → Chan) : (d.modChan c f).fStore = d.fStore := rfl
@[simp] theorem Dev.modChan_pStore (d : Dev) (c : Nat) (f : Chan → Chan) : (d.modChan c f).pStore = d.pStore := rfl
@[simp] theorem Dev.modChan_led (d : Dev) (c : Nat) (f : Chan → Chan) : (d.modChan c f).led = d.led := rfl
@[simp] theorem Dev.modChan_drv (d : Dev) (c : Nat) (f : Chan → Chan) : (d.modChan c f).drv = d.drv := rfl
@[simp] theorem Dev.modChan_streams (d : Dev) (c : Nat) (f : Chan → Chan) : (d.modChan c f).streams = d.streams := rfl
@[simp] theorem Dev.modChan_net (d : Dev) (c : Nat) (f : Chan → Chan) : (d.modChan c f).net = d.net := rfl
@[simp] theorem Dev.modChan_bx (d : Dev) (c : Nat) (f : Chan → Chan) : (d.modChan c f).bx = d.bx := rfl
@[simp] theorem Dev.modChan_conv (d : Dev) (c : Nat) (f : Chan → Chan) : (d.modChan c f).conv = d.conv := rfl
@[simp] theorem Dev.modChan_acq (d : Dev) (c : Nat) (f : Chan → Chan) : (d.modChan c f).acq = d.acq := rfl
@[simp] theorem Dev.modChan_mon (d : Dev) (c : Nat) (f : Chan → Chan) : (d.modChan c f).mon = d.mon := rfl
@[simp] theorem Dev.modChan_rcd (d : Dev) (c : Nat) (f : Chan → Chan) : (d.modChan c f).rcd = d.rcd := rfl
@[simp] theorem Dev.modChan_toll (d : Dev) (c : Nat) (f : Chan → Chan) : (d.modChan c f).toll = d.toll := rfl
@[simp] theorem Dev.modChan_flf (d : Dev) (c : Nat) (f : Chan → Chan) : (d.modChan c f).flf = d.flf := rfl
@[simp] theorem Dev.modChan_evt (d : Dev) (c : Nat) (f : Chan → Chan) : (d.modChan c f).evt = d.evt := rfl
@[simp] theorem Dev.modChan_therm (d : Dev) (c : Nat) (f : Chan → Chan) : (d.modChan c f).therm = d.therm := rfl
@[simp] theorem Dev.modChan_life (d : Dev) (c : Nat) (f : Chan → Chan) : (d.modChan c f).life = d.life := rfl

@[simp] theorem Dev.modCvy_st (d : Dev) (c : Nat) (f : Convoy → Convoy) : (d.modCvy c f).st = d.st := rfl
@[simp] theorem Dev.modCvy_want (d : Dev) (c : Nat) (f : Convoy → Convoy) : (d.modCvy c f).want = d.want := rfl
@[simp] theorem Dev.modCvy_wantFixed (d : Dev) (c : Nat) (f : Convoy → Convoy) : (d.modCvy c f).wantFixed = d.wantFixed := rfl
@[simp] theorem Dev.modCvy_lostTerms (d : Dev) (c : Nat) (f : Convoy → Convoy) : (d.modCvy c f).lostTerms = d.lostTerms := rfl
@[simp] theorem Dev.modCvy_causes (d : Dev) (c : Nat) (f : Convoy → Convoy) : (d.modCvy c f).causes = d.causes := rfl
@[simp] theorem Dev.modCvy_up (d : Dev) (c : Nat) (f : Convoy → Convoy) : (d.modCvy c f).up = d.up := rfl
@[simp] theorem Dev.modCvy_cyc (d : Dev) (c : Nat) (f : Convoy → Convoy) : (d.modCvy c f).cyc = d.cyc := rfl
@[simp] theorem Dev.modCvy_free (d : Dev) (c : Nat) (f : Convoy → Convoy) : (d.modCvy c f).free = d.free := rfl
@[simp] theorem Dev.modCvy_held (d : Dev) (c : Nat) (f : Convoy → Convoy) : (d.modCvy c f).held = d.held := rfl
@[simp] theorem Dev.modCvy_regs (d : Dev) (c : Nat) (f : Convoy → Convoy) : (d.modCvy c f).regs = d.regs := rfl
@[simp] theorem Dev.modCvy_dues (d : Dev) (c : Nat) (f : Convoy → Convoy) : (d.modCvy c f).dues = d.dues := rfl
@[simp] theorem Dev.modCvy_tabs (d : Dev) (c : Nat) (f : Convoy → Convoy) : (d.modCvy c f).tabs = d.tabs := rfl
@[simp] theorem Dev.modCvy_clutBasic (d : Dev) (c : Nat) (f : Convoy → Convoy) : (d.modCvy c f).clutBasic = d.clutBasic := rfl
@[simp] theorem Dev.modCvy_clutLater (d : Dev) (c : Nat) (f : Convoy → Convoy) : (d.modCvy c f).clutLater = d.clutLater := rfl
@[simp] theorem Dev.modCvy_clk (d : Dev) (c : Nat) (f : Convoy → Convoy) : (d.modCvy c f).clk = d.clk := rfl
@[simp] theorem Dev.modCvy_tb (d : Dev) (c : Nat) (f : Convoy → Convoy) : (d.modCvy c f).tb = d.tb := rfl
@[simp] theorem Dev.modCvy_seq (d : Dev) (c : Nat) (f : Convoy → Convoy) : (d.modCvy c f).seq = d.seq := rfl
@[simp] theorem Dev.modCvy_chans (d : Dev) (c : Nat) (f : Convoy → Convoy) : (d.modCvy c f).chans = d.chans := rfl
@[simp] theorem Dev.modCvy_cnt (d : Dev) (c : Nat) (f : Convoy → Convoy) : (d.modCvy c f).cnt = d.cnt := rfl
@[simp] theorem Dev.modCvy_ech (d : Dev) (c : Nat) (f : Convoy → Convoy) : (d.modCvy c f).ech = d.ech := rfl
@[simp] theorem Dev.modCvy_recs (d : Dev) (c : Nat) (f : Convoy → Convoy) : (d.modCvy c f).recs = d.recs := rfl
@[simp] theorem Dev.modCvy_seeds (d : Dev) (c : Nat) (f : Convoy → Convoy) : (d.modCvy c f).seeds = d.seeds := rfl
@[simp] theorem Dev.modCvy_fStore (d : Dev) (c : Nat) (f : Convoy → Convoy) : (d.modCvy c f).fStore = d.fStore := rfl
@[simp] theorem Dev.modCvy_pStore (d : Dev) (c : Nat) (f : Convoy → Convoy) : (d.modCvy c f).pStore = d.pStore := rfl
@[simp] theorem Dev.modCvy_led (d : Dev) (c : Nat) (f : Convoy → Convoy) : (d.modCvy c f).led = d.led := rfl
@[simp] theorem Dev.modCvy_drv (d : Dev) (c : Nat) (f : Convoy → Convoy) : (d.modCvy c f).drv = d.drv := rfl
@[simp] theorem Dev.modCvy_streams (d : Dev) (c : Nat) (f : Convoy → Convoy) : (d.modCvy c f).streams = d.streams := rfl
@[simp] theorem Dev.modCvy_net (d : Dev) (c : Nat) (f : Convoy → Convoy) : (d.modCvy c f).net = d.net := rfl
@[simp] theorem Dev.modCvy_bx (d : Dev) (c : Nat) (f : Convoy → Convoy) : (d.modCvy c f).bx = d.bx := rfl
@[simp] theorem Dev.modCvy_conv (d : Dev) (c : Nat) (f : Convoy → Convoy) : (d.modCvy c f).conv = d.conv := rfl
@[simp] theorem Dev.modCvy_acq (d : Dev) (c : Nat) (f : Convoy → Convoy) : (d.modCvy c f).acq = d.acq := rfl
@[simp] theorem Dev.modCvy_mon (d : Dev) (c : Nat) (f : Convoy → Convoy) : (d.modCvy c f).mon = d.mon := rfl
@[simp] theorem Dev.modCvy_rcd (d : Dev) (c : Nat) (f : Convoy → Convoy) : (d.modCvy c f).rcd = d.rcd := rfl
@[simp] theorem Dev.modCvy_toll (d : Dev) (c : Nat) (f : Convoy → Convoy) : (d.modCvy c f).toll = d.toll := rfl
@[simp] theorem Dev.modCvy_flf (d : Dev) (c : Nat) (f : Convoy → Convoy) : (d.modCvy c f).flf = d.flf := rfl
@[simp] theorem Dev.modCvy_evt (d : Dev) (c : Nat) (f : Convoy → Convoy) : (d.modCvy c f).evt = d.evt := rfl
@[simp] theorem Dev.modCvy_therm (d : Dev) (c : Nat) (f : Convoy → Convoy) : (d.modCvy c f).therm = d.therm := rfl
@[simp] theorem Dev.modCvy_life (d : Dev) (c : Nat) (f : Convoy → Convoy) : (d.modCvy c f).life = d.life := rfl

@[simp] theorem Dev.modBank_st (d : Dev) (i : Nat) (f : Bank → Bank) : (d.modBank i f).st = d.st := rfl
@[simp] theorem Dev.modBank_want (d : Dev) (i : Nat) (f : Bank → Bank) : (d.modBank i f).want = d.want := rfl
@[simp] theorem Dev.modBank_wantFixed (d : Dev) (i : Nat) (f : Bank → Bank) : (d.modBank i f).wantFixed = d.wantFixed := rfl
@[simp] theorem Dev.modBank_lostTerms (d : Dev) (i : Nat) (f : Bank → Bank) : (d.modBank i f).lostTerms = d.lostTerms := rfl
@[simp] theorem Dev.modBank_causes (d : Dev) (i : Nat) (f : Bank → Bank) : (d.modBank i f).causes = d.causes := rfl
@[simp] theorem Dev.modBank_up (d : Dev) (i : Nat) (f : Bank → Bank) : (d.modBank i f).up = d.up := rfl
@[simp] theorem Dev.modBank_cyc (d : Dev) (i : Nat) (f : Bank → Bank) : (d.modBank i f).cyc = d.cyc := rfl
@[simp] theorem Dev.modBank_free (d : Dev) (i : Nat) (f : Bank → Bank) : (d.modBank i f).free = d.free := rfl
@[simp] theorem Dev.modBank_held (d : Dev) (i : Nat) (f : Bank → Bank) : (d.modBank i f).held = d.held := rfl
@[simp] theorem Dev.modBank_regs (d : Dev) (i : Nat) (f : Bank → Bank) : (d.modBank i f).regs = d.regs := rfl
@[simp] theorem Dev.modBank_dues (d : Dev) (i : Nat) (f : Bank → Bank) : (d.modBank i f).dues = d.dues := rfl
@[simp] theorem Dev.modBank_clutBasic (d : Dev) (i : Nat) (f : Bank → Bank) : (d.modBank i f).clutBasic = d.clutBasic := rfl
@[simp] theorem Dev.modBank_clutLater (d : Dev) (i : Nat) (f : Bank → Bank) : (d.modBank i f).clutLater = d.clutLater := rfl
@[simp] theorem Dev.modBank_clk (d : Dev) (i : Nat) (f : Bank → Bank) : (d.modBank i f).clk = d.clk := rfl
@[simp] theorem Dev.modBank_tb (d : Dev) (i : Nat) (f : Bank → Bank) : (d.modBank i f).tb = d.tb := rfl
@[simp] theorem Dev.modBank_seq (d : Dev) (i : Nat) (f : Bank → Bank) : (d.modBank i f).seq = d.seq := rfl
@[simp] theorem Dev.modBank_chans (d : Dev) (i : Nat) (f : Bank → Bank) : (d.modBank i f).chans = d.chans := rfl
@[simp] theorem Dev.modBank_cvys (d : Dev) (i : Nat) (f : Bank → Bank) : (d.modBank i f).cvys = d.cvys := rfl
@[simp] theorem Dev.modBank_cnt (d : Dev) (i : Nat) (f : Bank → Bank) : (d.modBank i f).cnt = d.cnt := rfl
@[simp] theorem Dev.modBank_ech (d : Dev) (i : Nat) (f : Bank → Bank) : (d.modBank i f).ech = d.ech := rfl
@[simp] theorem Dev.modBank_recs (d : Dev) (i : Nat) (f : Bank → Bank) : (d.modBank i f).recs = d.recs := rfl
@[simp] theorem Dev.modBank_seeds (d : Dev) (i : Nat) (f : Bank → Bank) : (d.modBank i f).seeds = d.seeds := rfl
@[simp] theorem Dev.modBank_fStore (d : Dev) (i : Nat) (f : Bank → Bank) : (d.modBank i f).fStore = d.fStore := rfl
@[simp] theorem Dev.modBank_pStore (d : Dev) (i : Nat) (f : Bank → Bank) : (d.modBank i f).pStore = d.pStore := rfl
@[simp] theorem Dev.modBank_led (d : Dev) (i : Nat) (f : Bank → Bank) : (d.modBank i f).led = d.led := rfl
@[simp] theorem Dev.modBank_drv (d : Dev) (i : Nat) (f : Bank → Bank) : (d.modBank i f).drv = d.drv := rfl
@[simp] theorem Dev.modBank_streams (d : Dev) (i : Nat) (f : Bank → Bank) : (d.modBank i f).streams = d.streams := rfl
@[simp] theorem Dev.modBank_net (d : Dev) (i : Nat) (f : Bank → Bank) : (d.modBank i f).net = d.net := rfl
@[simp] theorem Dev.modBank_bx (d : Dev) (i : Nat) (f : Bank → Bank) : (d.modBank i f).bx = d.bx := rfl
@[simp] theorem Dev.modBank_conv (d : Dev) (i : Nat) (f : Bank → Bank) : (d.modBank i f).conv = d.conv := rfl
@[simp] theorem Dev.modBank_acq (d : Dev) (i : Nat) (f : Bank → Bank) : (d.modBank i f).acq = d.acq := rfl
@[simp] theorem Dev.modBank_mon (d : Dev) (i : Nat) (f : Bank → Bank) : (d.modBank i f).mon = d.mon := rfl
@[simp] theorem Dev.modBank_rcd (d : Dev) (i : Nat) (f : Bank → Bank) : (d.modBank i f).rcd = d.rcd := rfl
@[simp] theorem Dev.modBank_toll (d : Dev) (i : Nat) (f : Bank → Bank) : (d.modBank i f).toll = d.toll := rfl
@[simp] theorem Dev.modBank_flf (d : Dev) (i : Nat) (f : Bank → Bank) : (d.modBank i f).flf = d.flf := rfl
@[simp] theorem Dev.modBank_evt (d : Dev) (i : Nat) (f : Bank → Bank) : (d.modBank i f).evt = d.evt := rfl
@[simp] theorem Dev.modBank_therm (d : Dev) (i : Nat) (f : Bank → Bank) : (d.modBank i f).therm = d.therm := rfl
@[simp] theorem Dev.modBank_life (d : Dev) (i : Nat) (f : Bank → Bank) : (d.modBank i f).life = d.life := rfl

@[simp] theorem Dev.modPort_st (d : Dev) (p : Nat) (f : Port → Port) : (d.modPort p f).st = d.st := rfl
@[simp] theorem Dev.modPort_want (d : Dev) (p : Nat) (f : Port → Port) : (d.modPort p f).want = d.want := rfl
@[simp] theorem Dev.modPort_wantFixed (d : Dev) (p : Nat) (f : Port → Port) : (d.modPort p f).wantFixed = d.wantFixed := rfl
@[simp] theorem Dev.modPort_lostTerms (d : Dev) (p : Nat) (f : Port → Port) : (d.modPort p f).lostTerms = d.lostTerms := rfl
@[simp] theorem Dev.modPort_causes (d : Dev) (p : Nat) (f : Port → Port) : (d.modPort p f).causes = d.causes := rfl
@[simp] theorem Dev.modPort_up (d : Dev) (p : Nat) (f : Port → Port) : (d.modPort p f).up = d.up := rfl
@[simp] theorem Dev.modPort_cyc (d : Dev) (p : Nat) (f : Port → Port) : (d.modPort p f).cyc = d.cyc := rfl
@[simp] theorem Dev.modPort_free (d : Dev) (p : Nat) (f : Port → Port) : (d.modPort p f).free = d.free := rfl
@[simp] theorem Dev.modPort_held (d : Dev) (p : Nat) (f : Port → Port) : (d.modPort p f).held = d.held := rfl
@[simp] theorem Dev.modPort_regs (d : Dev) (p : Nat) (f : Port → Port) : (d.modPort p f).regs = d.regs := rfl
@[simp] theorem Dev.modPort_dues (d : Dev) (p : Nat) (f : Port → Port) : (d.modPort p f).dues = d.dues := rfl
@[simp] theorem Dev.modPort_tabs (d : Dev) (p : Nat) (f : Port → Port) : (d.modPort p f).tabs = d.tabs := rfl
@[simp] theorem Dev.modPort_clutBasic (d : Dev) (p : Nat) (f : Port → Port) : (d.modPort p f).clutBasic = d.clutBasic := rfl
@[simp] theorem Dev.modPort_clutLater (d : Dev) (p : Nat) (f : Port → Port) : (d.modPort p f).clutLater = d.clutLater := rfl
@[simp] theorem Dev.modPort_clk (d : Dev) (p : Nat) (f : Port → Port) : (d.modPort p f).clk = d.clk := rfl
@[simp] theorem Dev.modPort_tb (d : Dev) (p : Nat) (f : Port → Port) : (d.modPort p f).tb = d.tb := rfl
@[simp] theorem Dev.modPort_seq (d : Dev) (p : Nat) (f : Port → Port) : (d.modPort p f).seq = d.seq := rfl
@[simp] theorem Dev.modPort_chans (d : Dev) (p : Nat) (f : Port → Port) : (d.modPort p f).chans = d.chans := rfl
@[simp] theorem Dev.modPort_cvys (d : Dev) (p : Nat) (f : Port → Port) : (d.modPort p f).cvys = d.cvys := rfl
@[simp] theorem Dev.modPort_cnt (d : Dev) (p : Nat) (f : Port → Port) : (d.modPort p f).cnt = d.cnt := rfl
@[simp] theorem Dev.modPort_ech (d : Dev) (p : Nat) (f : Port → Port) : (d.modPort p f).ech = d.ech := rfl
@[simp] theorem Dev.modPort_recs (d : Dev) (p : Nat) (f : Port → Port) : (d.modPort p f).recs = d.recs := rfl
@[simp] theorem Dev.modPort_seeds (d : Dev) (p : Nat) (f : Port → Port) : (d.modPort p f).seeds = d.seeds := rfl
@[simp] theorem Dev.modPort_fStore (d : Dev) (p : Nat) (f : Port → Port) : (d.modPort p f).fStore = d.fStore := rfl
@[simp] theorem Dev.modPort_pStore (d : Dev) (p : Nat) (f : Port → Port) : (d.modPort p f).pStore = d.pStore := rfl
@[simp] theorem Dev.modPort_led (d : Dev) (p : Nat) (f : Port → Port) : (d.modPort p f).led = d.led := rfl
@[simp] theorem Dev.modPort_drv (d : Dev) (p : Nat) (f : Port → Port) : (d.modPort p f).drv = d.drv := rfl
@[simp] theorem Dev.modPort_streams (d : Dev) (p : Nat) (f : Port → Port) : (d.modPort p f).streams = d.streams := rfl
@[simp] theorem Dev.modPort_bx (d : Dev) (p : Nat) (f : Port → Port) : (d.modPort p f).bx = d.bx := rfl
@[simp] theorem Dev.modPort_conv (d : Dev) (p : Nat) (f : Port → Port) : (d.modPort p f).conv = d.conv := rfl
@[simp] theorem Dev.modPort_acq (d : Dev) (p : Nat) (f : Port → Port) : (d.modPort p f).acq = d.acq := rfl
@[simp] theorem Dev.modPort_mon (d : Dev) (p : Nat) (f : Port → Port) : (d.modPort p f).mon = d.mon := rfl
@[simp] theorem Dev.modPort_rcd (d : Dev) (p : Nat) (f : Port → Port) : (d.modPort p f).rcd = d.rcd := rfl
@[simp] theorem Dev.modPort_toll (d : Dev) (p : Nat) (f : Port → Port) : (d.modPort p f).toll = d.toll := rfl
@[simp] theorem Dev.modPort_flf (d : Dev) (p : Nat) (f : Port → Port) : (d.modPort p f).flf = d.flf := rfl
@[simp] theorem Dev.modPort_evt (d : Dev) (p : Nat) (f : Port → Port) : (d.modPort p f).evt = d.evt := rfl
@[simp] theorem Dev.modPort_therm (d : Dev) (p : Nat) (f : Port → Port) : (d.modPort p f).therm = d.therm := rfl
@[simp] theorem Dev.modPort_life (d : Dev) (p : Nat) (f : Port → Port) : (d.modPort p f).life = d.life := rfl

@[simp] theorem Dev.modBx_st (d : Dev) (p : Nat) (f : BxPort → BxPort) : (d.modBx p f).st = d.st := rfl
@[simp] theorem Dev.modBx_want (d : Dev) (p : Nat) (f : BxPort → BxPort) : (d.modBx p f).want = d.want := rfl
@[simp] theorem Dev.modBx_wantFixed (d : Dev) (p : Nat) (f : BxPort → BxPort) : (d.modBx p f).wantFixed = d.wantFixed := rfl
@[simp] theorem Dev.modBx_lostTerms (d : Dev) (p : Nat) (f : BxPort → BxPort) : (d.modBx p f).lostTerms = d.lostTerms := rfl
@[simp] theorem Dev.modBx_causes (d : Dev) (p : Nat) (f : BxPort → BxPort) : (d.modBx p f).causes = d.causes := rfl
@[simp] theorem Dev.modBx_up (d : Dev) (p : Nat) (f : BxPort → BxPort) : (d.modBx p f).up = d.up := rfl
@[simp] theorem Dev.modBx_cyc (d : Dev) (p : Nat) (f : BxPort → BxPort) : (d.modBx p f).cyc = d.cyc := rfl
@[simp] theorem Dev.modBx_free (d : Dev) (p : Nat) (f : BxPort → BxPort) : (d.modBx p f).free = d.free := rfl
@[simp] theorem Dev.modBx_held (d : Dev) (p : Nat) (f : BxPort → BxPort) : (d.modBx p f).held = d.held := rfl
@[simp] theorem Dev.modBx_regs (d : Dev) (p : Nat) (f : BxPort → BxPort) : (d.modBx p f).regs = d.regs := rfl
@[simp] theorem Dev.modBx_dues (d : Dev) (p : Nat) (f : BxPort → BxPort) : (d.modBx p f).dues = d.dues := rfl
@[simp] theorem Dev.modBx_tabs (d : Dev) (p : Nat) (f : BxPort → BxPort) : (d.modBx p f).tabs = d.tabs := rfl
@[simp] theorem Dev.modBx_clutBasic (d : Dev) (p : Nat) (f : BxPort → BxPort) : (d.modBx p f).clutBasic = d.clutBasic := rfl
@[simp] theorem Dev.modBx_clutLater (d : Dev) (p : Nat) (f : BxPort → BxPort) : (d.modBx p f).clutLater = d.clutLater := rfl
@[simp] theorem Dev.modBx_clk (d : Dev) (p : Nat) (f : BxPort → BxPort) : (d.modBx p f).clk = d.clk := rfl
@[simp] theorem Dev.modBx_tb (d : Dev) (p : Nat) (f : BxPort → BxPort) : (d.modBx p f).tb = d.tb := rfl
@[simp] theorem Dev.modBx_seq (d : Dev) (p : Nat) (f : BxPort → BxPort) : (d.modBx p f).seq = d.seq := rfl
@[simp] theorem Dev.modBx_chans (d : Dev) (p : Nat) (f : BxPort → BxPort) : (d.modBx p f).chans = d.chans := rfl
@[simp] theorem Dev.modBx_cvys (d : Dev) (p : Nat) (f : BxPort → BxPort) : (d.modBx p f).cvys = d.cvys := rfl
@[simp] theorem Dev.modBx_cnt (d : Dev) (p : Nat) (f : BxPort → BxPort) : (d.modBx p f).cnt = d.cnt := rfl
@[simp] theorem Dev.modBx_ech (d : Dev) (p : Nat) (f : BxPort → BxPort) : (d.modBx p f).ech = d.ech := rfl
@[simp] theorem Dev.modBx_recs (d : Dev) (p : Nat) (f : BxPort → BxPort) : (d.modBx p f).recs = d.recs := rfl
@[simp] theorem Dev.modBx_seeds (d : Dev) (p : Nat) (f : BxPort → BxPort) : (d.modBx p f).seeds = d.seeds := rfl
@[simp] theorem Dev.modBx_fStore (d : Dev) (p : Nat) (f : BxPort → BxPort) : (d.modBx p f).fStore = d.fStore := rfl
@[simp] theorem Dev.modBx_pStore (d : Dev) (p : Nat) (f : BxPort → BxPort) : (d.modBx p f).pStore = d.pStore := rfl
@[simp] theorem Dev.modBx_led (d : Dev) (p : Nat) (f : BxPort → BxPort) : (d.modBx p f).led = d.led := rfl
@[simp] theorem Dev.modBx_drv (d : Dev) (p : Nat) (f : BxPort → BxPort) : (d.modBx p f).drv = d.drv := rfl
@[simp] theorem Dev.modBx_streams (d : Dev) (p : Nat) (f : BxPort → BxPort) : (d.modBx p f).streams = d.streams := rfl
@[simp] theorem Dev.modBx_net (d : Dev) (p : Nat) (f : BxPort → BxPort) : (d.modBx p f).net = d.net := rfl
@[simp] theorem Dev.modBx_conv (d : Dev) (p : Nat) (f : BxPort → BxPort) : (d.modBx p f).conv = d.conv := rfl
@[simp] theorem Dev.modBx_acq (d : Dev) (p : Nat) (f : BxPort → BxPort) : (d.modBx p f).acq = d.acq := rfl
@[simp] theorem Dev.modBx_mon (d : Dev) (p : Nat) (f : BxPort → BxPort) : (d.modBx p f).mon = d.mon := rfl
@[simp] theorem Dev.modBx_rcd (d : Dev) (p : Nat) (f : BxPort → BxPort) : (d.modBx p f).rcd = d.rcd := rfl
@[simp] theorem Dev.modBx_toll (d : Dev) (p : Nat) (f : BxPort → BxPort) : (d.modBx p f).toll = d.toll := rfl
@[simp] theorem Dev.modBx_flf (d : Dev) (p : Nat) (f : BxPort → BxPort) : (d.modBx p f).flf = d.flf := rfl
@[simp] theorem Dev.modBx_evt (d : Dev) (p : Nat) (f : BxPort → BxPort) : (d.modBx p f).evt = d.evt := rfl
@[simp] theorem Dev.modBx_therm (d : Dev) (p : Nat) (f : BxPort → BxPort) : (d.modBx p f).therm = d.therm := rfl
@[simp] theorem Dev.modBx_life (d : Dev) (p : Nat) (f : BxPort → BxPort) : (d.modBx p f).life = d.life := rfl

@[simp] theorem Dev.modStream_st (d : Dev) (n : Nat) (f : Stream → Stream) : (d.modStream n f).st = d.st := rfl
@[simp] theorem Dev.modStream_want (d : Dev) (n : Nat) (f : Stream → Stream) : (d.modStream n f).want = d.want := rfl
@[simp] theorem Dev.modStream_wantFixed (d : Dev) (n : Nat) (f : Stream → Stream) : (d.modStream n f).wantFixed = d.wantFixed := rfl
@[simp] theorem Dev.modStream_lostTerms (d : Dev) (n : Nat) (f : Stream → Stream) : (d.modStream n f).lostTerms = d.lostTerms := rfl
@[simp] theorem Dev.modStream_causes (d : Dev) (n : Nat) (f : Stream → Stream) : (d.modStream n f).causes = d.causes := rfl
@[simp] theorem Dev.modStream_up (d : Dev) (n : Nat) (f : Stream → Stream) : (d.modStream n f).up = d.up := rfl
@[simp] theorem Dev.modStream_cyc (d : Dev) (n : Nat) (f : Stream → Stream) : (d.modStream n f).cyc = d.cyc := rfl
@[simp] theorem Dev.modStream_free (d : Dev) (n : Nat) (f : Stream → Stream) : (d.modStream n f).free = d.free := rfl
@[simp] theorem Dev.modStream_held (d : Dev) (n : Nat) (f : Stream → Stream) : (d.modStream n f).held = d.held := rfl
@[simp] theorem Dev.modStream_regs (d : Dev) (n : Nat) (f : Stream → Stream) : (d.modStream n f).regs = d.regs := rfl
@[simp] theorem Dev.modStream_dues (d : Dev) (n : Nat) (f : Stream → Stream) : (d.modStream n f).dues = d.dues := rfl
@[simp] theorem Dev.modStream_tabs (d : Dev) (n : Nat) (f : Stream → Stream) : (d.modStream n f).tabs = d.tabs := rfl
@[simp] theorem Dev.modStream_clutBasic (d : Dev) (n : Nat) (f : Stream → Stream) : (d.modStream n f).clutBasic = d.clutBasic := rfl
@[simp] theorem Dev.modStream_clutLater (d : Dev) (n : Nat) (f : Stream → Stream) : (d.modStream n f).clutLater = d.clutLater := rfl
@[simp] theorem Dev.modStream_clk (d : Dev) (n : Nat) (f : Stream → Stream) : (d.modStream n f).clk = d.clk := rfl
@[simp] theorem Dev.modStream_tb (d : Dev) (n : Nat) (f : Stream → Stream) : (d.modStream n f).tb = d.tb := rfl
@[simp] theorem Dev.modStream_seq (d : Dev) (n : Nat) (f : Stream → Stream) : (d.modStream n f).seq = d.seq := rfl
@[simp] theorem Dev.modStream_chans (d : Dev) (n : Nat) (f : Stream → Stream) : (d.modStream n f).chans = d.chans := rfl
@[simp] theorem Dev.modStream_cvys (d : Dev) (n : Nat) (f : Stream → Stream) : (d.modStream n f).cvys = d.cvys := rfl
@[simp] theorem Dev.modStream_cnt (d : Dev) (n : Nat) (f : Stream → Stream) : (d.modStream n f).cnt = d.cnt := rfl
@[simp] theorem Dev.modStream_ech (d : Dev) (n : Nat) (f : Stream → Stream) : (d.modStream n f).ech = d.ech := rfl
@[simp] theorem Dev.modStream_recs (d : Dev) (n : Nat) (f : Stream → Stream) : (d.modStream n f).recs = d.recs := rfl
@[simp] theorem Dev.modStream_seeds (d : Dev) (n : Nat) (f : Stream → Stream) : (d.modStream n f).seeds = d.seeds := rfl
@[simp] theorem Dev.modStream_fStore (d : Dev) (n : Nat) (f : Stream → Stream) : (d.modStream n f).fStore = d.fStore := rfl
@[simp] theorem Dev.modStream_pStore (d : Dev) (n : Nat) (f : Stream → Stream) : (d.modStream n f).pStore = d.pStore := rfl
@[simp] theorem Dev.modStream_led (d : Dev) (n : Nat) (f : Stream → Stream) : (d.modStream n f).led = d.led := rfl
@[simp] theorem Dev.modStream_drv (d : Dev) (n : Nat) (f : Stream → Stream) : (d.modStream n f).drv = d.drv := rfl
@[simp] theorem Dev.modStream_net (d : Dev) (n : Nat) (f : Stream → Stream) : (d.modStream n f).net = d.net := rfl
@[simp] theorem Dev.modStream_bx (d : Dev) (n : Nat) (f : Stream → Stream) : (d.modStream n f).bx = d.bx := rfl
@[simp] theorem Dev.modStream_conv (d : Dev) (n : Nat) (f : Stream → Stream) : (d.modStream n f).conv = d.conv := rfl
@[simp] theorem Dev.modStream_acq (d : Dev) (n : Nat) (f : Stream → Stream) : (d.modStream n f).acq = d.acq := rfl
@[simp] theorem Dev.modStream_mon (d : Dev) (n : Nat) (f : Stream → Stream) : (d.modStream n f).mon = d.mon := rfl
@[simp] theorem Dev.modStream_rcd (d : Dev) (n : Nat) (f : Stream → Stream) : (d.modStream n f).rcd = d.rcd := rfl
@[simp] theorem Dev.modStream_toll (d : Dev) (n : Nat) (f : Stream → Stream) : (d.modStream n f).toll = d.toll := rfl
@[simp] theorem Dev.modStream_flf (d : Dev) (n : Nat) (f : Stream → Stream) : (d.modStream n f).flf = d.flf := rfl
@[simp] theorem Dev.modStream_evt (d : Dev) (n : Nat) (f : Stream → Stream) : (d.modStream n f).evt = d.evt := rfl
@[simp] theorem Dev.modStream_therm (d : Dev) (n : Nat) (f : Stream → Stream) : (d.modStream n f).therm = d.therm := rfl
@[simp] theorem Dev.modStream_life (d : Dev) (n : Nat) (f : Stream → Stream) : (d.modStream n f).life = d.life := rfl

@[simp] theorem Dev.modToll_st (d : Dev) (c : TollChan) (f : TollCh → TollCh) : (d.modToll c f).st = d.st := by cases c <;> rfl
@[simp] theorem Dev.modToll_want (d : Dev) (c : TollChan) (f : TollCh → TollCh) : (d.modToll c f).want = d.want := by cases c <;> rfl
@[simp] theorem Dev.modToll_wantFixed (d : Dev) (c : TollChan) (f : TollCh → TollCh) : (d.modToll c f).wantFixed = d.wantFixed := by cases c <;> rfl
@[simp] theorem Dev.modToll_lostTerms (d : Dev) (c : TollChan) (f : TollCh → TollCh) : (d.modToll c f).lostTerms = d.lostTerms := by cases c <;> rfl
@[simp] theorem Dev.modToll_causes (d : Dev) (c : TollChan) (f : TollCh → TollCh) : (d.modToll c f).causes = d.causes := by cases c <;> rfl
@[simp] theorem Dev.modToll_up (d : Dev) (c : TollChan) (f : TollCh → TollCh) : (d.modToll c f).up = d.up := by cases c <;> rfl
@[simp] theorem Dev.modToll_cyc (d : Dev) (c : TollChan) (f : TollCh → TollCh) : (d.modToll c f).cyc = d.cyc := by cases c <;> rfl
@[simp] theorem Dev.modToll_free (d : Dev) (c : TollChan) (f : TollCh → TollCh) : (d.modToll c f).free = d.free := by cases c <;> rfl
@[simp] theorem Dev.modToll_held (d : Dev) (c : TollChan) (f : TollCh → TollCh) : (d.modToll c f).held = d.held := by cases c <;> rfl
@[simp] theorem Dev.modToll_regs (d : Dev) (c : TollChan) (f : TollCh → TollCh) : (d.modToll c f).regs = d.regs := by cases c <;> rfl
@[simp] theorem Dev.modToll_dues (d : Dev) (c : TollChan) (f : TollCh → TollCh) : (d.modToll c f).dues = d.dues := by cases c <;> rfl
@[simp] theorem Dev.modToll_tabs (d : Dev) (c : TollChan) (f : TollCh → TollCh) : (d.modToll c f).tabs = d.tabs := by cases c <;> rfl
@[simp] theorem Dev.modToll_clutBasic (d : Dev) (c : TollChan) (f : TollCh → TollCh) : (d.modToll c f).clutBasic = d.clutBasic := by cases c <;> rfl
@[simp] theorem Dev.modToll_clutLater (d : Dev) (c : TollChan) (f : TollCh → TollCh) : (d.modToll c f).clutLater = d.clutLater := by cases c <;> rfl
@[simp] theorem Dev.modToll_clk (d : Dev) (c : TollChan) (f : TollCh → TollCh) : (d.modToll c f).clk = d.clk := by cases c <;> rfl
@[simp] theorem Dev.modToll_tb (d : Dev) (c : TollChan) (f : TollCh → TollCh) : (d.modToll c f).tb = d.tb := by cases c <;> rfl
@[simp] theorem Dev.modToll_seq (d : Dev) (c : TollChan) (f : TollCh → TollCh) : (d.modToll c f).seq = d.seq := by cases c <;> rfl
@[simp] theorem Dev.modToll_chans (d : Dev) (c : TollChan) (f : TollCh → TollCh) : (d.modToll c f).chans = d.chans := by cases c <;> rfl
@[simp] theorem Dev.modToll_cvys (d : Dev) (c : TollChan) (f : TollCh → TollCh) : (d.modToll c f).cvys = d.cvys := by cases c <;> rfl
@[simp] theorem Dev.modToll_cnt (d : Dev) (c : TollChan) (f : TollCh → TollCh) : (d.modToll c f).cnt = d.cnt := by cases c <;> rfl
@[simp] theorem Dev.modToll_ech (d : Dev) (c : TollChan) (f : TollCh → TollCh) : (d.modToll c f).ech = d.ech := by cases c <;> rfl
@[simp] theorem Dev.modToll_recs (d : Dev) (c : TollChan) (f : TollCh → TollCh) : (d.modToll c f).recs = d.recs := by cases c <;> rfl
@[simp] theorem Dev.modToll_seeds (d : Dev) (c : TollChan) (f : TollCh → TollCh) : (d.modToll c f).seeds = d.seeds := by cases c <;> rfl
@[simp] theorem Dev.modToll_fStore (d : Dev) (c : TollChan) (f : TollCh → TollCh) : (d.modToll c f).fStore = d.fStore := by cases c <;> rfl
@[simp] theorem Dev.modToll_pStore (d : Dev) (c : TollChan) (f : TollCh → TollCh) : (d.modToll c f).pStore = d.pStore := by cases c <;> rfl
@[simp] theorem Dev.modToll_led (d : Dev) (c : TollChan) (f : TollCh → TollCh) : (d.modToll c f).led = d.led := by cases c <;> rfl
@[simp] theorem Dev.modToll_drv (d : Dev) (c : TollChan) (f : TollCh → TollCh) : (d.modToll c f).drv = d.drv := by cases c <;> rfl
@[simp] theorem Dev.modToll_streams (d : Dev) (c : TollChan) (f : TollCh → TollCh) : (d.modToll c f).streams = d.streams := by cases c <;> rfl
@[simp] theorem Dev.modToll_net (d : Dev) (c : TollChan) (f : TollCh → TollCh) : (d.modToll c f).net = d.net := by cases c <;> rfl
@[simp] theorem Dev.modToll_bx (d : Dev) (c : TollChan) (f : TollCh → TollCh) : (d.modToll c f).bx = d.bx := by cases c <;> rfl
@[simp] theorem Dev.modToll_conv (d : Dev) (c : TollChan) (f : TollCh → TollCh) : (d.modToll c f).conv = d.conv := by cases c <;> rfl
@[simp] theorem Dev.modToll_acq (d : Dev) (c : TollChan) (f : TollCh → TollCh) : (d.modToll c f).acq = d.acq := by cases c <;> rfl
@[simp] theorem Dev.modToll_mon (d : Dev) (c : TollChan) (f : TollCh → TollCh) : (d.modToll c f).mon = d.mon := by cases c <;> rfl
@[simp] theorem Dev.modToll_rcd (d : Dev) (c : TollChan) (f : TollCh → TollCh) : (d.modToll c f).rcd = d.rcd := by cases c <;> rfl
@[simp] theorem Dev.modToll_flf (d : Dev) (c : TollChan) (f : TollCh → TollCh) : (d.modToll c f).flf = d.flf := by cases c <;> rfl
@[simp] theorem Dev.modToll_evt (d : Dev) (c : TollChan) (f : TollCh → TollCh) : (d.modToll c f).evt = d.evt := by cases c <;> rfl
@[simp] theorem Dev.modToll_therm (d : Dev) (c : TollChan) (f : TollCh → TollCh) : (d.modToll c f).therm = d.therm := by cases c <;> rfl
@[simp] theorem Dev.modToll_life (d : Dev) (c : TollChan) (f : TollCh → TollCh) : (d.modToll c f).life = d.life := by cases c <;> rfl

@[simp] theorem Dev.answer_st (d : Dev) (c : Nat) : (d.answer c).st = d.st := rfl
@[simp] theorem Dev.answer_want (d : Dev) (c : Nat) : (d.answer c).want = d.want := rfl
@[simp] theorem Dev.answer_wantFixed (d : Dev) (c : Nat) : (d.answer c).wantFixed = d.wantFixed := rfl
@[simp] theorem Dev.answer_lostTerms (d : Dev) (c : Nat) : (d.answer c).lostTerms = d.lostTerms := rfl
@[simp] theorem Dev.answer_causes (d : Dev) (c : Nat) : (d.answer c).causes = d.causes := rfl
@[simp] theorem Dev.answer_up (d : Dev) (c : Nat) : (d.answer c).up = d.up := rfl
@[simp] theorem Dev.answer_cyc (d : Dev) (c : Nat) : (d.answer c).cyc = d.cyc := rfl
@[simp] theorem Dev.answer_free (d : Dev) (c : Nat) : (d.answer c).free = d.free := rfl
@[simp] theorem Dev.answer_held (d : Dev) (c : Nat) : (d.answer c).held = d.held := rfl
@[simp] theorem Dev.answer_regs (d : Dev) (c : Nat) : (d.answer c).regs = d.regs := rfl
@[simp] theorem Dev.answer_dues (d : Dev) (c : Nat) : (d.answer c).dues = d.dues := rfl
@[simp] theorem Dev.answer_tabs (d : Dev) (c : Nat) : (d.answer c).tabs = d.tabs := rfl
@[simp] theorem Dev.answer_clutBasic (d : Dev) (c : Nat) : (d.answer c).clutBasic = d.clutBasic := rfl
@[simp] theorem Dev.answer_clutLater (d : Dev) (c : Nat) : (d.answer c).clutLater = d.clutLater := rfl
@[simp] theorem Dev.answer_clk (d : Dev) (c : Nat) : (d.answer c).clk = d.clk := rfl
@[simp] theorem Dev.answer_tb (d : Dev) (c : Nat) : (d.answer c).tb = d.tb := rfl
@[simp] theorem Dev.answer_seq (d : Dev) (c : Nat) : (d.answer c).seq = d.seq := rfl
@[simp] theorem Dev.answer_chans (d : Dev) (c : Nat) : (d.answer c).chans = d.chans := rfl
@[simp] theorem Dev.answer_cvys (d : Dev) (c : Nat) : (d.answer c).cvys = d.cvys := rfl
@[simp] theorem Dev.answer_cnt (d : Dev) (c : Nat) : (d.answer c).cnt = d.cnt := rfl
@[simp] theorem Dev.answer_ech (d : Dev) (c : Nat) : (d.answer c).ech = d.ech := rfl
@[simp] theorem Dev.answer_recs (d : Dev) (c : Nat) : (d.answer c).recs = d.recs := rfl
@[simp] theorem Dev.answer_seeds (d : Dev) (c : Nat) : (d.answer c).seeds = d.seeds := rfl
@[simp] theorem Dev.answer_fStore (d : Dev) (c : Nat) : (d.answer c).fStore = d.fStore := rfl
@[simp] theorem Dev.answer_pStore (d : Dev) (c : Nat) : (d.answer c).pStore = d.pStore := rfl
@[simp] theorem Dev.answer_led (d : Dev) (c : Nat) : (d.answer c).led = d.led := rfl
@[simp] theorem Dev.answer_drv (d : Dev) (c : Nat) : (d.answer c).drv = d.drv := rfl
@[simp] theorem Dev.answer_streams (d : Dev) (c : Nat) : (d.answer c).streams = d.streams := rfl
@[simp] theorem Dev.answer_net (d : Dev) (c : Nat) : (d.answer c).net = d.net := rfl
@[simp] theorem Dev.answer_bx (d : Dev) (c : Nat) : (d.answer c).bx = d.bx := rfl
@[simp] theorem Dev.answer_conv (d : Dev) (c : Nat) : (d.answer c).conv = d.conv := rfl
@[simp] theorem Dev.answer_acq (d : Dev) (c : Nat) : (d.answer c).acq = d.acq := rfl
@[simp] theorem Dev.answer_mon (d : Dev) (c : Nat) : (d.answer c).mon = d.mon := rfl
@[simp] theorem Dev.answer_rcd (d : Dev) (c : Nat) : (d.answer c).rcd = d.rcd := rfl
@[simp] theorem Dev.answer_toll (d : Dev) (c : Nat) : (d.answer c).toll = d.toll := rfl
@[simp] theorem Dev.answer_evt (d : Dev) (c : Nat) : (d.answer c).evt = d.evt := rfl
@[simp] theorem Dev.answer_therm (d : Dev) (c : Nat) : (d.answer c).therm = d.therm := rfl
@[simp] theorem Dev.answer_life (d : Dev) (c : Nat) : (d.answer c).life = d.life := rfl

@[simp] theorem Dev.writeNow_st (d : Dev) (f : Fld) (v : Nat) : (d.writeNow f v).st = d.st := rfl
@[simp] theorem Dev.writeNow_want (d : Dev) (f : Fld) (v : Nat) : (d.writeNow f v).want = d.want := rfl
@[simp] theorem Dev.writeNow_wantFixed (d : Dev) (f : Fld) (v : Nat) : (d.writeNow f v).wantFixed = d.wantFixed := rfl
@[simp] theorem Dev.writeNow_lostTerms (d : Dev) (f : Fld) (v : Nat) : (d.writeNow f v).lostTerms = d.lostTerms := rfl
@[simp] theorem Dev.writeNow_causes (d : Dev) (f : Fld) (v : Nat) : (d.writeNow f v).causes = d.causes := rfl
@[simp] theorem Dev.writeNow_up (d : Dev) (f : Fld) (v : Nat) : (d.writeNow f v).up = d.up := rfl
@[simp] theorem Dev.writeNow_cyc (d : Dev) (f : Fld) (v : Nat) : (d.writeNow f v).cyc = d.cyc := rfl
@[simp] theorem Dev.writeNow_free (d : Dev) (f : Fld) (v : Nat) : (d.writeNow f v).free = d.free := rfl
@[simp] theorem Dev.writeNow_held (d : Dev) (f : Fld) (v : Nat) : (d.writeNow f v).held = d.held := rfl
@[simp] theorem Dev.writeNow_tabs (d : Dev) (f : Fld) (v : Nat) : (d.writeNow f v).tabs = d.tabs := rfl
@[simp] theorem Dev.writeNow_clutBasic (d : Dev) (f : Fld) (v : Nat) : (d.writeNow f v).clutBasic = d.clutBasic := rfl
@[simp] theorem Dev.writeNow_clutLater (d : Dev) (f : Fld) (v : Nat) : (d.writeNow f v).clutLater = d.clutLater := rfl
@[simp] theorem Dev.writeNow_clk (d : Dev) (f : Fld) (v : Nat) : (d.writeNow f v).clk = d.clk := rfl
@[simp] theorem Dev.writeNow_tb (d : Dev) (f : Fld) (v : Nat) : (d.writeNow f v).tb = d.tb := rfl
@[simp] theorem Dev.writeNow_seq (d : Dev) (f : Fld) (v : Nat) : (d.writeNow f v).seq = d.seq := rfl
@[simp] theorem Dev.writeNow_chans (d : Dev) (f : Fld) (v : Nat) : (d.writeNow f v).chans = d.chans := rfl
@[simp] theorem Dev.writeNow_cvys (d : Dev) (f : Fld) (v : Nat) : (d.writeNow f v).cvys = d.cvys := rfl
@[simp] theorem Dev.writeNow_cnt (d : Dev) (f : Fld) (v : Nat) : (d.writeNow f v).cnt = d.cnt := rfl
@[simp] theorem Dev.writeNow_ech (d : Dev) (f : Fld) (v : Nat) : (d.writeNow f v).ech = d.ech := rfl
@[simp] theorem Dev.writeNow_recs (d : Dev) (f : Fld) (v : Nat) : (d.writeNow f v).recs = d.recs := rfl
@[simp] theorem Dev.writeNow_seeds (d : Dev) (f : Fld) (v : Nat) : (d.writeNow f v).seeds = d.seeds := rfl
@[simp] theorem Dev.writeNow_fStore (d : Dev) (f : Fld) (v : Nat) : (d.writeNow f v).fStore = d.fStore := rfl
@[simp] theorem Dev.writeNow_pStore (d : Dev) (f : Fld) (v : Nat) : (d.writeNow f v).pStore = d.pStore := rfl
@[simp] theorem Dev.writeNow_led (d : Dev) (f : Fld) (v : Nat) : (d.writeNow f v).led = d.led := rfl
@[simp] theorem Dev.writeNow_drv (d : Dev) (f : Fld) (v : Nat) : (d.writeNow f v).drv = d.drv := rfl
@[simp] theorem Dev.writeNow_streams (d : Dev) (f : Fld) (v : Nat) : (d.writeNow f v).streams = d.streams := rfl
@[simp] theorem Dev.writeNow_net (d : Dev) (f : Fld) (v : Nat) : (d.writeNow f v).net = d.net := rfl
@[simp] theorem Dev.writeNow_bx (d : Dev) (f : Fld) (v : Nat) : (d.writeNow f v).bx = d.bx := rfl
@[simp] theorem Dev.writeNow_conv (d : Dev) (f : Fld) (v : Nat) : (d.writeNow f v).conv = d.conv := rfl
@[simp] theorem Dev.writeNow_acq (d : Dev) (f : Fld) (v : Nat) : (d.writeNow f v).acq = d.acq := rfl
@[simp] theorem Dev.writeNow_mon (d : Dev) (f : Fld) (v : Nat) : (d.writeNow f v).mon = d.mon := rfl
@[simp] theorem Dev.writeNow_rcd (d : Dev) (f : Fld) (v : Nat) : (d.writeNow f v).rcd = d.rcd := rfl
@[simp] theorem Dev.writeNow_toll (d : Dev) (f : Fld) (v : Nat) : (d.writeNow f v).toll = d.toll := rfl
@[simp] theorem Dev.writeNow_flf (d : Dev) (f : Fld) (v : Nat) : (d.writeNow f v).flf = d.flf := rfl
@[simp] theorem Dev.writeNow_evt (d : Dev) (f : Fld) (v : Nat) : (d.writeNow f v).evt = d.evt := rfl
@[simp] theorem Dev.writeNow_therm (d : Dev) (f : Fld) (v : Nat) : (d.writeNow f v).therm = d.therm := rfl
@[simp] theorem Dev.writeNow_life (d : Dev) (f : Fld) (v : Nat) : (d.writeNow f v).life = d.life := rfl

/-! ## Parts after a console line and after an occurrence -/

@[simp] theorem Dev.print_st (d : Dev) (l : String) : (d.print l).st = d.st := by unfold Dev.print; split <;> rfl
@[simp] theorem Dev.print_want (d : Dev) (l : String) : (d.print l).want = d.want := by unfold Dev.print; split <;> rfl
@[simp] theorem Dev.print_wantFixed (d : Dev) (l : String) : (d.print l).wantFixed = d.wantFixed := by unfold Dev.print; split <;> rfl
@[simp] theorem Dev.print_lostTerms (d : Dev) (l : String) : (d.print l).lostTerms = d.lostTerms := by unfold Dev.print; split <;> rfl
@[simp] theorem Dev.print_causes (d : Dev) (l : String) : (d.print l).causes = d.causes := by unfold Dev.print; split <;> rfl
@[simp] theorem Dev.print_up (d : Dev) (l : String) : (d.print l).up = d.up := by unfold Dev.print; split <;> rfl
@[simp] theorem Dev.print_cyc (d : Dev) (l : String) : (d.print l).cyc = d.cyc := by unfold Dev.print; split <;> rfl
@[simp] theorem Dev.print_free (d : Dev) (l : String) : (d.print l).free = d.free := by unfold Dev.print; split <;> rfl
@[simp] theorem Dev.print_held (d : Dev) (l : String) : (d.print l).held = d.held := by unfold Dev.print; split <;> rfl
@[simp] theorem Dev.print_regs (d : Dev) (l : String) : (d.print l).regs = d.regs := by unfold Dev.print; split <;> rfl
@[simp] theorem Dev.print_dues (d : Dev) (l : String) : (d.print l).dues = d.dues := by unfold Dev.print; split <;> rfl
@[simp] theorem Dev.print_tabs (d : Dev) (l : String) : (d.print l).tabs = d.tabs := by unfold Dev.print; split <;> rfl
@[simp] theorem Dev.print_clutBasic (d : Dev) (l : String) : (d.print l).clutBasic = d.clutBasic := by unfold Dev.print; split <;> rfl
@[simp] theorem Dev.print_clutLater (d : Dev) (l : String) : (d.print l).clutLater = d.clutLater := by unfold Dev.print; split <;> rfl
@[simp] theorem Dev.print_clk (d : Dev) (l : String) : (d.print l).clk = d.clk := by unfold Dev.print; split <;> rfl
@[simp] theorem Dev.print_tb (d : Dev) (l : String) : (d.print l).tb = d.tb := by unfold Dev.print; split <;> rfl
@[simp] theorem Dev.print_seq (d : Dev) (l : String) : (d.print l).seq = d.seq := by unfold Dev.print; split <;> rfl
@[simp] theorem Dev.print_chans (d : Dev) (l : String) : (d.print l).chans = d.chans := by unfold Dev.print; split <;> rfl
@[simp] theorem Dev.print_cvys (d : Dev) (l : String) : (d.print l).cvys = d.cvys := by unfold Dev.print; split <;> rfl
@[simp] theorem Dev.print_cnt (d : Dev) (l : String) : (d.print l).cnt = d.cnt := by unfold Dev.print; split <;> rfl
@[simp] theorem Dev.print_ech (d : Dev) (l : String) : (d.print l).ech = d.ech := by unfold Dev.print; split <;> rfl
@[simp] theorem Dev.print_recs (d : Dev) (l : String) : (d.print l).recs = d.recs := by unfold Dev.print; split <;> rfl
@[simp] theorem Dev.print_seeds (d : Dev) (l : String) : (d.print l).seeds = d.seeds := by unfold Dev.print; split <;> rfl
@[simp] theorem Dev.print_fStore (d : Dev) (l : String) : (d.print l).fStore = d.fStore := by unfold Dev.print; split <;> rfl
@[simp] theorem Dev.print_pStore (d : Dev) (l : String) : (d.print l).pStore = d.pStore := by unfold Dev.print; split <;> rfl
@[simp] theorem Dev.print_led (d : Dev) (l : String) : (d.print l).led = d.led := by unfold Dev.print; split <;> rfl
@[simp] theorem Dev.print_drv (d : Dev) (l : String) : (d.print l).drv = d.drv := by unfold Dev.print; split <;> rfl
@[simp] theorem Dev.print_streams (d : Dev) (l : String) : (d.print l).streams = d.streams := by unfold Dev.print; split <;> rfl
@[simp] theorem Dev.print_net (d : Dev) (l : String) : (d.print l).net = d.net := by unfold Dev.print; split <;> rfl
@[simp] theorem Dev.print_bx (d : Dev) (l : String) : (d.print l).bx = d.bx := by unfold Dev.print; split <;> rfl
@[simp] theorem Dev.print_conv (d : Dev) (l : String) : (d.print l).conv = d.conv := by unfold Dev.print; split <;> rfl
@[simp] theorem Dev.print_acq (d : Dev) (l : String) : (d.print l).acq = d.acq := by unfold Dev.print; split <;> rfl
@[simp] theorem Dev.print_mon (d : Dev) (l : String) : (d.print l).mon = d.mon := by unfold Dev.print; split <;> rfl
@[simp] theorem Dev.print_rcd (d : Dev) (l : String) : (d.print l).rcd = d.rcd := by unfold Dev.print; split <;> rfl
@[simp] theorem Dev.print_toll (d : Dev) (l : String) : (d.print l).toll = d.toll := by unfold Dev.print; split <;> rfl
@[simp] theorem Dev.print_flf (d : Dev) (l : String) : (d.print l).flf = d.flf := by unfold Dev.print; split <;> rfl
@[simp] theorem Dev.print_evt (d : Dev) (l : String) : (d.print l).evt = d.evt := by unfold Dev.print; split <;> rfl
@[simp] theorem Dev.print_therm (d : Dev) (l : String) : (d.print l).therm = d.therm := by unfold Dev.print; split <;> rfl

@[simp] theorem Dev.print_boot (d : Dev) (l : String) : (d.print l).life.boot = d.life.boot := by
  unfold Dev.print; split <;> rfl
@[simp] theorem Dev.print_slotA (d : Dev) (l : String) : (d.print l).life.slotA = d.life.slotA := by
  unfold Dev.print; split <;> rfl
@[simp] theorem Dev.print_slotB (d : Dev) (l : String) : (d.print l).life.slotB = d.life.slotB := by
  unfold Dev.print; split <;> rfl
@[simp] theorem Dev.print_loadBuf (d : Dev) (l : String) : (d.print l).life.loadBuf = d.life.loadBuf := by
  unfold Dev.print; split <;> rfl
@[simp] theorem Dev.print_recImage (d : Dev) (l : String) : (d.print l).life.recImage = d.life.recImage := by
  unfold Dev.print; split <;> rfl
@[simp] theorem Dev.print_bootValid (d : Dev) (l : String) : (d.print l).life.bootValid = d.life.bootValid := by
  unfold Dev.print; split <;> rfl
@[simp] theorem Dev.print_active (d : Dev) (l : String) : (d.print l).life.active = d.life.active := by
  unfold Dev.print; split <;> rfl
@[simp] theorem Dev.print_confirmed (d : Dev) (l : String) : (d.print l).life.confirmed = d.life.confirmed := by
  unfold Dev.print; split <;> rfl
@[simp] theorem Dev.print_tries (d : Dev) (l : String) : (d.print l).life.tries = d.life.tries := by
  unfold Dev.print; split <;> rfl
@[simp] theorem Dev.print_keyHash (d : Dev) (l : String) : (d.print l).life.keyHash = d.life.keyHash := by
  unfold Dev.print; split <;> rfl
@[simp] theorem Dev.print_rollback (d : Dev) (l : String) : (d.print l).life.rollback = d.life.rollback := by
  unfold Dev.print; split <;> rfl
@[simp] theorem Dev.print_serial (d : Dev) (l : String) : (d.print l).life.serial = d.life.serial := by
  unfold Dev.print; split <;> rfl
@[simp] theorem Dev.print_fitted (d : Dev) (l : String) : (d.print l).life.fitted = d.life.fitted := by
  unfold Dev.print; split <;> rfl
@[simp] theorem Dev.print_fuses (d : Dev) (l : String) : (d.print l).life.fuses = d.life.fuses := by
  unfold Dev.print; split <;> rfl
@[simp] theorem Dev.print_store (d : Dev) (l : String) : (d.print l).life.store = d.life.store := by
  unfold Dev.print; split <;> rfl
@[simp] theorem Dev.print_saving (d : Dev) (l : String) : (d.print l).life.saving = d.life.saving := by
  unfold Dev.print; split <;> rfl
@[simp] theorem Dev.print_strapRef (d : Dev) (l : String) : (d.print l).life.strapRef = d.life.strapRef := by
  unfold Dev.print; split <;> rfl
@[simp] theorem Dev.print_strapRcv (d : Dev) (l : String) : (d.print l).life.strapRcv = d.life.strapRcv := by
  unfold Dev.print; split <;> rfl
@[simp] theorem Dev.print_localMaint (d : Dev) (l : String) : (d.print l).life.localMaint = d.life.localMaint := by
  unfold Dev.print; split <;> rfl
@[simp] theorem Dev.print_handover (d : Dev) (l : String) : (d.print l).life.handover = d.life.handover := by
  unfold Dev.print; split <;> rfl
@[simp] theorem Dev.print_tollFw (d : Dev) (l : String) : (d.print l).life.tollFw = d.life.tollFw := by
  unfold Dev.print; split <;> rfl
@[simp] theorem Dev.print_tollReload (d : Dev) (l : String) : (d.print l).life.tollReload = d.life.tollReload := by
  unfold Dev.print; split <;> rfl
@[simp] theorem Dev.print_rstLow (d : Dev) (l : String) : (d.print l).life.rstLow = d.life.rstLow := by
  unfold Dev.print; split <;> rfl
@[simp] theorem Dev.print_por (d : Dev) (l : String) : (d.print l).life.por = d.life.por := by
  unfold Dev.print; split <;> rfl
@[simp] theorem Dev.print_retired (d : Dev) (l : String) : (d.print l).life.retired = d.life.retired := by
  unfold Dev.print; split <;> rfl
@[simp] theorem Dev.print_flashRet (d : Dev) (l : String) : (d.print l).life.flashRet = d.life.flashRet := by
  unfold Dev.print; split <;> rfl
@[simp] theorem Dev.print_recalLast (d : Dev) (l : String) : (d.print l).life.recalLast = d.life.recalLast := by
  unfold Dev.print; split <;> rfl
@[simp] theorem Dev.print_returns (d : Dev) (l : String) : (d.print l).life.returns = d.life.returns := by
  unfold Dev.print; split <;> rfl
@[simp] theorem Dev.print_faults (d : Dev) (l : String) : (d.print l).life.faults = d.life.faults := by
  unfold Dev.print; split <;> rfl
@[simp] theorem Dev.print_ticks (d : Dev) (l : String) : (d.print l).life.ticks = d.life.ticks := by
  unfold Dev.print; split <;> rfl
@[simp] theorem Dev.print_tickBase (d : Dev) (l : String) : (d.print l).life.tickBase = d.life.tickBase := by
  unfold Dev.print; split <;> rfl
@[simp] theorem Dev.print_startRet (d : Dev) (l : String) : (d.print l).life.startRet = d.life.startRet := by
  unfold Dev.print; split <;> rfl
@[simp] theorem Dev.print_portRet (d : Dev) (l : String) : (d.print l).life.portRet = d.life.portRet := by
  unfold Dev.print; split <;> rfl
@[simp] theorem Dev.print_stewRun (d : Dev) (l : String) : (d.print l).life.stewRun = d.life.stewRun := by
  unfold Dev.print; split <;> rfl
@[simp] theorem Dev.print_checkpoint (d : Dev) (l : String) : (d.print l).life.checkpoint = d.life.checkpoint := by
  unfold Dev.print; split <;> rfl
@[simp] theorem Dev.print_ckptDues (d : Dev) (l : String) : (d.print l).life.ckptDues = d.life.ckptDues := by
  unfold Dev.print; split <;> rfl
@[simp] theorem Dev.print_ckptUp (d : Dev) (l : String) : (d.print l).life.ckptUp = d.life.ckptUp := by
  unfold Dev.print; split <;> rfl
@[simp] theorem Dev.print_fwRestart (d : Dev) (l : String) : (d.print l).life.fwRestart = d.life.fwRestart := by
  unfold Dev.print; split <;> rfl

@[simp] theorem Dev.raise_st (d : Dev) (g s : Nat) : (d.raise g s).st = d.st := by
  unfold Dev.raise; split
  · rfl
  · rw [Dev.print_st]; rfl
@[simp] theorem Dev.raise_want (d : Dev) (g s : Nat) : (d.raise g s).want = d.want := by
  unfold Dev.raise; split
  · rfl
  · rw [Dev.print_want]; rfl
@[simp] theorem Dev.raise_wantFixed (d : Dev) (g s : Nat) : (d.raise g s).wantFixed = d.wantFixed := by
  unfold Dev.raise; split
  · rfl
  · rw [Dev.print_wantFixed]; rfl
@[simp] theorem Dev.raise_lostTerms (d : Dev) (g s : Nat) : (d.raise g s).lostTerms = d.lostTerms := by
  unfold Dev.raise; split
  · rfl
  · rw [Dev.print_lostTerms]; rfl
@[simp] theorem Dev.raise_causes (d : Dev) (g s : Nat) : (d.raise g s).causes = d.causes := by
  unfold Dev.raise; split
  · rfl
  · rw [Dev.print_causes]; rfl
@[simp] theorem Dev.raise_up (d : Dev) (g s : Nat) : (d.raise g s).up = d.up := by
  unfold Dev.raise; split
  · rfl
  · rw [Dev.print_up]; rfl
@[simp] theorem Dev.raise_cyc (d : Dev) (g s : Nat) : (d.raise g s).cyc = d.cyc := by
  unfold Dev.raise; split
  · rfl
  · rw [Dev.print_cyc]; rfl
@[simp] theorem Dev.raise_free (d : Dev) (g s : Nat) : (d.raise g s).free = d.free := by
  unfold Dev.raise; split
  · rfl
  · rw [Dev.print_free]; rfl
@[simp] theorem Dev.raise_held (d : Dev) (g s : Nat) : (d.raise g s).held = d.held := by
  unfold Dev.raise; split
  · rfl
  · rw [Dev.print_held]; rfl
@[simp] theorem Dev.raise_dues (d : Dev) (g s : Nat) : (d.raise g s).dues = d.dues := by
  unfold Dev.raise; split
  · rfl
  · rw [Dev.print_dues]; rfl
@[simp] theorem Dev.raise_tabs (d : Dev) (g s : Nat) : (d.raise g s).tabs = d.tabs := by
  unfold Dev.raise; split
  · rfl
  · rw [Dev.print_tabs]; rfl
@[simp] theorem Dev.raise_clutBasic (d : Dev) (g s : Nat) : (d.raise g s).clutBasic = d.clutBasic := by
  unfold Dev.raise; split
  · rfl
  · rw [Dev.print_clutBasic]; rfl
@[simp] theorem Dev.raise_clutLater (d : Dev) (g s : Nat) : (d.raise g s).clutLater = d.clutLater := by
  unfold Dev.raise; split
  · rfl
  · rw [Dev.print_clutLater]; rfl
@[simp] theorem Dev.raise_clk (d : Dev) (g s : Nat) : (d.raise g s).clk = d.clk := by
  unfold Dev.raise; split
  · rfl
  · rw [Dev.print_clk]; rfl
@[simp] theorem Dev.raise_tb (d : Dev) (g s : Nat) : (d.raise g s).tb = d.tb := by
  unfold Dev.raise; split
  · rfl
  · rw [Dev.print_tb]; rfl
@[simp] theorem Dev.raise_seq (d : Dev) (g s : Nat) : (d.raise g s).seq = d.seq := by
  unfold Dev.raise; split
  · rfl
  · rw [Dev.print_seq]; rfl
@[simp] theorem Dev.raise_chans (d : Dev) (g s : Nat) : (d.raise g s).chans = d.chans := by
  unfold Dev.raise; split
  · rfl
  · rw [Dev.print_chans]; rfl
@[simp] theorem Dev.raise_cvys (d : Dev) (g s : Nat) : (d.raise g s).cvys = d.cvys := by
  unfold Dev.raise; split
  · rfl
  · rw [Dev.print_cvys]; rfl
@[simp] theorem Dev.raise_cnt (d : Dev) (g s : Nat) : (d.raise g s).cnt = d.cnt := by
  unfold Dev.raise; split
  · rfl
  · rw [Dev.print_cnt]; rfl
@[simp] theorem Dev.raise_ech (d : Dev) (g s : Nat) : (d.raise g s).ech = d.ech := by
  unfold Dev.raise; split
  · rfl
  · rw [Dev.print_ech]; rfl
@[simp] theorem Dev.raise_recs (d : Dev) (g s : Nat) : (d.raise g s).recs = d.recs := by
  unfold Dev.raise; split
  · rfl
  · rw [Dev.print_recs]; rfl
@[simp] theorem Dev.raise_seeds (d : Dev) (g s : Nat) : (d.raise g s).seeds = d.seeds := by
  unfold Dev.raise; split
  · rfl
  · rw [Dev.print_seeds]; rfl
@[simp] theorem Dev.raise_fStore (d : Dev) (g s : Nat) : (d.raise g s).fStore = d.fStore := by
  unfold Dev.raise; split
  · rfl
  · rw [Dev.print_fStore]; rfl
@[simp] theorem Dev.raise_pStore (d : Dev) (g s : Nat) : (d.raise g s).pStore = d.pStore := by
  unfold Dev.raise; split
  · rfl
  · rw [Dev.print_pStore]; rfl
@[simp] theorem Dev.raise_led (d : Dev) (g s : Nat) : (d.raise g s).led = d.led := by
  unfold Dev.raise; split
  · rfl
  · rw [Dev.print_led]; rfl
@[simp] theorem Dev.raise_drv (d : Dev) (g s : Nat) : (d.raise g s).drv = d.drv := by
  unfold Dev.raise; split
  · rfl
  · rw [Dev.print_drv]; rfl
@[simp] theorem Dev.raise_streams (d : Dev) (g s : Nat) : (d.raise g s).streams = d.streams := by
  unfold Dev.raise; split
  · rfl
  · rw [Dev.print_streams]; rfl
@[simp] theorem Dev.raise_net (d : Dev) (g s : Nat) : (d.raise g s).net = d.net := by
  unfold Dev.raise; split
  · rfl
  · rw [Dev.print_net]; rfl
@[simp] theorem Dev.raise_bx (d : Dev) (g s : Nat) : (d.raise g s).bx = d.bx := by
  unfold Dev.raise; split
  · rfl
  · rw [Dev.print_bx]; rfl
@[simp] theorem Dev.raise_conv (d : Dev) (g s : Nat) : (d.raise g s).conv = d.conv := by
  unfold Dev.raise; split
  · rfl
  · rw [Dev.print_conv]; rfl
@[simp] theorem Dev.raise_acq (d : Dev) (g s : Nat) : (d.raise g s).acq = d.acq := by
  unfold Dev.raise; split
  · rfl
  · rw [Dev.print_acq]; rfl
@[simp] theorem Dev.raise_mon (d : Dev) (g s : Nat) : (d.raise g s).mon = d.mon := by
  unfold Dev.raise; split
  · rfl
  · rw [Dev.print_mon]; rfl
@[simp] theorem Dev.raise_rcd (d : Dev) (g s : Nat) : (d.raise g s).rcd = d.rcd := by
  unfold Dev.raise; split
  · rfl
  · rw [Dev.print_rcd]; rfl
@[simp] theorem Dev.raise_toll (d : Dev) (g s : Nat) : (d.raise g s).toll = d.toll := by
  unfold Dev.raise; split
  · rfl
  · rw [Dev.print_toll]; rfl
@[simp] theorem Dev.raise_flf (d : Dev) (g s : Nat) : (d.raise g s).flf = d.flf := by
  unfold Dev.raise; split
  · rfl
  · rw [Dev.print_flf]; rfl
@[simp] theorem Dev.raise_therm (d : Dev) (g s : Nat) : (d.raise g s).therm = d.therm := by
  unfold Dev.raise; split
  · rfl
  · rw [Dev.print_therm]; rfl

@[simp] theorem Dev.raise_boot (d : Dev) (g s : Nat) : (d.raise g s).life.boot = d.life.boot := by
  unfold Dev.raise; split
  · rfl
  · rw [Dev.print_boot]; rfl
@[simp] theorem Dev.raise_slotA (d : Dev) (g s : Nat) : (d.raise g s).life.slotA = d.life.slotA := by
  unfold Dev.raise; split
  · rfl
  · rw [Dev.print_slotA]; rfl
@[simp] theorem Dev.raise_slotB (d : Dev) (g s : Nat) : (d.raise g s).life.slotB = d.life.slotB := by
  unfold Dev.raise; split
  · rfl
  · rw [Dev.print_slotB]; rfl
@[simp] theorem Dev.raise_loadBuf (d : Dev) (g s : Nat) : (d.raise g s).life.loadBuf = d.life.loadBuf := by
  unfold Dev.raise; split
  · rfl
  · rw [Dev.print_loadBuf]; rfl
@[simp] theorem Dev.raise_recImage (d : Dev) (g s : Nat) : (d.raise g s).life.recImage = d.life.recImage := by
  unfold Dev.raise; split
  · rfl
  · rw [Dev.print_recImage]; rfl
@[simp] theorem Dev.raise_bootValid (d : Dev) (g s : Nat) : (d.raise g s).life.bootValid = d.life.bootValid := by
  unfold Dev.raise; split
  · rfl
  · rw [Dev.print_bootValid]; rfl
@[simp] theorem Dev.raise_active (d : Dev) (g s : Nat) : (d.raise g s).life.active = d.life.active := by
  unfold Dev.raise; split
  · rfl
  · rw [Dev.print_active]; rfl
@[simp] theorem Dev.raise_confirmed (d : Dev) (g s : Nat) : (d.raise g s).life.confirmed = d.life.confirmed := by
  unfold Dev.raise; split
  · rfl
  · rw [Dev.print_confirmed]; rfl
@[simp] theorem Dev.raise_tries (d : Dev) (g s : Nat) : (d.raise g s).life.tries = d.life.tries := by
  unfold Dev.raise; split
  · rfl
  · rw [Dev.print_tries]; rfl
@[simp] theorem Dev.raise_keyHash (d : Dev) (g s : Nat) : (d.raise g s).life.keyHash = d.life.keyHash := by
  unfold Dev.raise; split
  · rfl
  · rw [Dev.print_keyHash]; rfl
@[simp] theorem Dev.raise_rollback (d : Dev) (g s : Nat) : (d.raise g s).life.rollback = d.life.rollback := by
  unfold Dev.raise; split
  · rfl
  · rw [Dev.print_rollback]; rfl
@[simp] theorem Dev.raise_serial (d : Dev) (g s : Nat) : (d.raise g s).life.serial = d.life.serial := by
  unfold Dev.raise; split
  · rfl
  · rw [Dev.print_serial]; rfl
@[simp] theorem Dev.raise_fitted (d : Dev) (g s : Nat) : (d.raise g s).life.fitted = d.life.fitted := by
  unfold Dev.raise; split
  · rfl
  · rw [Dev.print_fitted]; rfl
@[simp] theorem Dev.raise_fuses (d : Dev) (g s : Nat) : (d.raise g s).life.fuses = d.life.fuses := by
  unfold Dev.raise; split
  · rfl
  · rw [Dev.print_fuses]; rfl
@[simp] theorem Dev.raise_store (d : Dev) (g s : Nat) : (d.raise g s).life.store = d.life.store := by
  unfold Dev.raise; split
  · rfl
  · rw [Dev.print_store]; rfl
@[simp] theorem Dev.raise_saving (d : Dev) (g s : Nat) : (d.raise g s).life.saving = d.life.saving := by
  unfold Dev.raise; split
  · rfl
  · rw [Dev.print_saving]; rfl
@[simp] theorem Dev.raise_strapRef (d : Dev) (g s : Nat) : (d.raise g s).life.strapRef = d.life.strapRef := by
  unfold Dev.raise; split
  · rfl
  · rw [Dev.print_strapRef]; rfl
@[simp] theorem Dev.raise_strapRcv (d : Dev) (g s : Nat) : (d.raise g s).life.strapRcv = d.life.strapRcv := by
  unfold Dev.raise; split
  · rfl
  · rw [Dev.print_strapRcv]; rfl
@[simp] theorem Dev.raise_localMaint (d : Dev) (g s : Nat) : (d.raise g s).life.localMaint = d.life.localMaint := by
  unfold Dev.raise; split
  · rfl
  · rw [Dev.print_localMaint]; rfl
@[simp] theorem Dev.raise_handover (d : Dev) (g s : Nat) : (d.raise g s).life.handover = d.life.handover := by
  unfold Dev.raise; split
  · rfl
  · rw [Dev.print_handover]; rfl
@[simp] theorem Dev.raise_tollFw (d : Dev) (g s : Nat) : (d.raise g s).life.tollFw = d.life.tollFw := by
  unfold Dev.raise; split
  · rfl
  · rw [Dev.print_tollFw]; rfl
@[simp] theorem Dev.raise_tollReload (d : Dev) (g s : Nat) : (d.raise g s).life.tollReload = d.life.tollReload := by
  unfold Dev.raise; split
  · rfl
  · rw [Dev.print_tollReload]; rfl
@[simp] theorem Dev.raise_rstLow (d : Dev) (g s : Nat) : (d.raise g s).life.rstLow = d.life.rstLow := by
  unfold Dev.raise; split
  · rfl
  · rw [Dev.print_rstLow]; rfl
@[simp] theorem Dev.raise_por (d : Dev) (g s : Nat) : (d.raise g s).life.por = d.life.por := by
  unfold Dev.raise; split
  · rfl
  · rw [Dev.print_por]; rfl
@[simp] theorem Dev.raise_retired (d : Dev) (g s : Nat) : (d.raise g s).life.retired = d.life.retired := by
  unfold Dev.raise; split
  · rfl
  · rw [Dev.print_retired]; rfl
@[simp] theorem Dev.raise_flashRet (d : Dev) (g s : Nat) : (d.raise g s).life.flashRet = d.life.flashRet := by
  unfold Dev.raise; split
  · rfl
  · rw [Dev.print_flashRet]; rfl
@[simp] theorem Dev.raise_recalLast (d : Dev) (g s : Nat) : (d.raise g s).life.recalLast = d.life.recalLast := by
  unfold Dev.raise; split
  · rfl
  · rw [Dev.print_recalLast]; rfl
@[simp] theorem Dev.raise_returns (d : Dev) (g s : Nat) : (d.raise g s).life.returns = d.life.returns := by
  unfold Dev.raise; split
  · rfl
  · rw [Dev.print_returns]; rfl
@[simp] theorem Dev.raise_faults (d : Dev) (g s : Nat) : (d.raise g s).life.faults = d.life.faults := by
  unfold Dev.raise; split
  · rfl
  · rw [Dev.print_faults]; rfl
@[simp] theorem Dev.raise_ticks (d : Dev) (g s : Nat) : (d.raise g s).life.ticks = d.life.ticks := by
  unfold Dev.raise; split
  · rfl
  · rw [Dev.print_ticks]; rfl
@[simp] theorem Dev.raise_tickBase (d : Dev) (g s : Nat) : (d.raise g s).life.tickBase = d.life.tickBase := by
  unfold Dev.raise; split
  · rfl
  · rw [Dev.print_tickBase]; rfl
@[simp] theorem Dev.raise_startRet (d : Dev) (g s : Nat) : (d.raise g s).life.startRet = d.life.startRet := by
  unfold Dev.raise; split
  · rfl
  · rw [Dev.print_startRet]; rfl
@[simp] theorem Dev.raise_portRet (d : Dev) (g s : Nat) : (d.raise g s).life.portRet = d.life.portRet := by
  unfold Dev.raise; split
  · rfl
  · rw [Dev.print_portRet]; rfl
@[simp] theorem Dev.raise_stewRun (d : Dev) (g s : Nat) : (d.raise g s).life.stewRun = d.life.stewRun := by
  unfold Dev.raise; split
  · rfl
  · rw [Dev.print_stewRun]; rfl
@[simp] theorem Dev.raise_checkpoint (d : Dev) (g s : Nat) : (d.raise g s).life.checkpoint = d.life.checkpoint := by
  unfold Dev.raise; split
  · rfl
  · rw [Dev.print_checkpoint]; rfl
@[simp] theorem Dev.raise_ckptDues (d : Dev) (g s : Nat) : (d.raise g s).life.ckptDues = d.life.ckptDues := by
  unfold Dev.raise; split
  · rfl
  · rw [Dev.print_ckptDues]; rfl
@[simp] theorem Dev.raise_ckptUp (d : Dev) (g s : Nat) : (d.raise g s).life.ckptUp = d.life.ckptUp := by
  unfold Dev.raise; split
  · rfl
  · rw [Dev.print_ckptUp]; rfl
@[simp] theorem Dev.raise_fwRestart (d : Dev) (g s : Nat) : (d.raise g s).life.fwRestart = d.life.fwRestart := by
  unfold Dev.raise; split
  · rfl
  · rw [Dev.print_fwRestart]; rfl

/-! ## Other basic updates are register writes -/

@[simp] theorem Dev.setB_eq (d : Dev) (f : Fld) (b : Bool) : d.setB f b = d.set f (nat b) := rfl
@[simp] theorem Dev.setS_eq (d : Dev) (f : Fld) (v : Int) : d.setS f v = d.set f (uns (Fld.width f) v) := rfl
@[simp] theorem Dev.inc_eq (d : Dev) (f : Fld) : d.inc f = d.set f (d.get f + 1) := rfl
@[simp] theorem Dev.add_eq (d : Dev) (f : Fld) (n : Nat) : d.add f n = d.set f (d.get f + n) := rfl
@[simp] theorem Dev.setBitOf_eq (d : Dev) (f : Fld) (i : Nat) (b : Bool) :
    d.setBitOf f i b = d.set f (setBit (d.get f) i b) := rfl

end Sys2Proof.Machine
end

