-- ==== Sys2Proof/Laws/Touch.lean ====
section
/-! SUPPORT. What a register reads after a write, what bits read after a bit is set, and which parts and fields each basic operation
touches, in a form that composes: `Tr ps fs a b` says that from `a` to `b` only the parts `ps` and the fields `fs` change, and that
the register store has kept its form. -/

namespace Sys2Proof.Machine

/-! ## Reading after writing -/

theorem Tab.wf_putNat (t : Tab Nat) (k v : Nat) (h : Tab.wf t) : Tab.wf (Tab.putNat t k v) := by
  unfold Tab.putNat
  split
  · exact Tab.wf_del _ _ h
  · exact Tab.wf_put _ _ _ h

/-- What any key reads after a number is put. -/
theorem Tab.getD_putNat (t : Tab Nat) (k j v : Nat) (h : Tab.wf t) :
    Tab.getD (Tab.putNat t k v) j 0 = if j = k then v else Tab.getD t j 0 := by
  split
  · next e => subst e; exact Tab.getD_putNat_same t j v h
  · next e => exact Tab.getD_putNat_other t k j v h e

@[simp] theorem Dev.set_regs (d : Dev) (f : Fld) (v : Nat) : (d.set f v).regs = Tab.putNat d.regs f (v % 2 ^ Fld.width f) := rfl

/-- What any field reads after a write. -/
theorem Dev.get_set (d : Dev) (f g : Fld) (v : Nat) (h : Tab.wf d.regs) :
    (d.set f v).get g = if g = f then v % 2 ^ Fld.width f else d.get g := Tab.getD_putNat _ _ _ _ h

theorem Dev.get_set_same (d : Dev) (f : Fld) (v : Nat) (h : Tab.wf d.regs) : (d.set f v).get f = v % 2 ^ Fld.width f := by
  rw [d.get_set f f v h, if_pos rfl]

theorem Dev.get_set_other (d : Dev) (f g : Fld) (v : Nat) (h : Tab.wf d.regs) (n : g ≠ f) : (d.set f v).get g = d.get g := by
  rw [d.get_set f g v h, if_neg n]

/-- What is found in a table stands in it. -/
theorem Tab.find_mem {α : Type} (t : Tab α) (k : Nat) (v : α) (h : Tab.find t k = some v) : (k, v) ∈ t := by
  induction t with
  | nil => simp at h
  | cons e t ih =>
    obtain ⟨j, w⟩ := e
    simp only [Tab.find] at h
    split at h
    · next e => cases h; subst e; exact List.mem_cons_self
    · split at h
      · exact absurd h (by simp)
      · exact List.mem_cons_of_mem _ (ih h)

/-- A register value lies within its field. -/
theorem Dev.get_lt (d : Dev) (f : Fld) (h : RegsOk d.regs) : d.get f < 2 ^ Fld.width f := by
  unfold Dev.get Tab.getD
  cases e : Tab.find d.regs f with
  | none => exact Nat.two_pow_pos _
  | some v => exact h.2 _ (Tab.find_mem _ _ _ e)

/-! ## Bits -/

/-- Bit i of a value after it is set or cleared. -/
theorem bitAt_setBit_same (v i : Nat) (b : Bool) : bitAt (setBit v i b) i = b := by
  have e : 2 ^ i > 0 := Nat.two_pow_pos i
  unfold setBit
  split
  · assumption
  · next h =>
    unfold bitAt at *
    cases b
    · simp only [Bool.false_eq_true, if_false]
      have h' : v / 2 ^ i % 2 = 1 := by simpa using h
      have : (v - 2 ^ i) / 2 ^ i = v / 2 ^ i - 1 := by
        have := Nat.sub_mul_div v (2 ^ i) 1
        simpa using this
      rw [this]; simp; omega
    · simp only [if_true]
      have h' : ¬ v / 2 ^ i % 2 = 1 := by simpa using h
      rw [Nat.add_div_right _ e]; simp; omega

theorem bitAt_mod (v w i : Nat) (h : i < w) : bitAt (v % 2 ^ w) i = bitAt v i := by
  rw [bitAt_eq_testBit, bitAt_eq_testBit, Nat.testBit_mod_two_pow]; simp [h]

/-- Setting a bit that is off adds it. -/
theorem setBit_eq_or (v i : Nat) : setBit v i true = v ||| 2 ^ i := by
  apply Nat.eq_of_testBit_eq
  intro j
  rw [Nat.testBit_or, Nat.testBit_two_pow]
  by_cases hj : i = j
  · subst hj
    rw [← bitAt_eq_testBit, bitAt_setBit_same]; simp
  · simp only [hj, decide_false, Bool.or_false]
    unfold setBit
    split
    · rfl
    · next h =>
      simp only [if_true]
      have h' : v.testBit i = false := by rw [← bitAt_eq_testBit]; simpa using h
      rw [← bitAt_eq_testBit, ← bitAt_eq_testBit]
      have hv : v / 2 ^ i % 2 = 0 := by
        rw [← bitAt_eq_testBit] at h'
        unfold bitAt at h'
        simp at h'; omega
      unfold bitAt
      rcases Nat.lt_or_gt_of_ne hj with l | l
      · obtain ⟨m, rfl⟩ := Nat.exists_eq_add_of_lt l
        have key : (v + 2 ^ i) / 2 ^ (i + m + 1) = v / 2 ^ (i + m + 1) := by
          rw [show i + m + 1 = i + 1 + m by omega, Nat.pow_add, Nat.pow_add, ← Nat.div_div_eq_div_mul, ← Nat.div_div_eq_div_mul,
            ← Nat.div_div_eq_div_mul, ← Nat.div_div_eq_div_mul, Nat.add_div_right _ (Nat.two_pow_pos i)]
          congr 1
          simp; omega
        rw [key]
      · obtain ⟨m, rfl⟩ := Nat.exists_eq_add_of_lt l
        have key : (v + 2 ^ (j + m + 1)) / 2 ^ j = v / 2 ^ j + 2 ^ (m + 1) := by
          rw [show j + m + 1 = j + (m + 1) by omega, Nat.pow_add, Nat.add_mul_div_left _ _ (Nat.two_pow_pos j)]
        rw [key, show 2 ^ (m + 1) = 2 * 2 ^ m by rw [Nat.pow_succ, Nat.mul_comm]]
        simp [Nat.add_mul_mod_self_left]

/-- Clearing a bit leaves the others. -/
theorem bitAt_setBit_other (v i j : Nat) (b : Bool) (h : j ≠ i) : bitAt (setBit v i b) j = bitAt v j := by
  cases b
  · by_cases hb : bitAt v i = true
    · have e : setBit (setBit v i false) i true = v := by
        have hf : bitAt (setBit v i false) i = false := bitAt_setBit_same v i false
        have hle : 2 ^ i ≤ v := by
          unfold bitAt at hb
          simp at hb
          refine Nat.le_of_not_lt fun hl => ?_
          rw [Nat.div_eq_of_lt hl] at hb; omega
        have : setBit v i false = v - 2 ^ i := by unfold setBit; simp [hb]
        rw [this] at hf ⊢
        unfold setBit
        rw [hf]
        simp only [Bool.false_eq_true, if_false, if_true]
        omega
      have k : bitAt (setBit (setBit v i false) i true) j = bitAt v j := by rw [e]
      rw [setBit_eq_or, bitAt_eq_testBit, Nat.testBit_or, Nat.testBit_two_pow] at k
      simp only [Ne.symm h, decide_false, Bool.or_false] at k
      rw [bitAt_eq_testBit]; exact k
    · have : setBit v i false = v := by unfold setBit; simp [hb]
      rw [this]
  · rw [setBit_eq_or, bitAt_eq_testBit, Nat.testBit_or, Nat.testBit_two_pow, bitAt_eq_testBit]
    simp [Ne.symm h]

/-! ## What composes -/

/-- From `a` to `b` only the parts `ps` and the fields `fs` change, and the register store stays a table. -/
structure Tr (ps : List DevPart) (fs : List Fld) (a b : Dev) : Prop where
  regs : Tab.wf b.regs
  frame : Frame ps a b
  keeps : Keeps fs a b

theorem Tr.refl {ps : List DevPart} {fs : List Fld} {a : Dev} (h : Tab.wf a.regs) : Tr ps fs a a :=
  ⟨h, fun p _ => by cases p <;> rfl, fun _ _ => rfl⟩

theorem DevPart.same_trans {p : DevPart} {a b c : Dev} (h : p.same a b) (k : p.same b c) : p.same a c := by
  cases p <;> exact Eq.trans k h

theorem Tr.trans {ps : List DevPart} {fs : List Fld} {a b c : Dev} (h : Tr ps fs a b) (k : Tr ps fs b c) : Tr ps fs a c :=
  ⟨k.regs, fun p hp => DevPart.same_trans (h.frame p hp) (k.frame p hp), fun f hf => (k.keeps f hf).trans (h.keeps f hf)⟩

/-- A change of parts other than the registers. -/
theorem Tr.part {ps : List DevPart} {fs : List Fld} {a d e : Dev} (h : Tr ps fs a d) (hr : e.regs = d.regs) (hf : Frame ps d e) :
    Tr ps fs a e :=
  ⟨by rw [hr]; exact h.regs, fun p hp => DevPart.same_trans (h.frame p hp) (hf p hp), fun f k => by
    have : e.get f = d.get f := by unfold Dev.get; rw [hr]
    rw [this]; exact h.keeps f k⟩

theorem Tr.set {ps : List DevPart} {fs : List Fld} {a d : Dev} (h : Tr ps fs a d) {f : Fld} {v : Nat} (hr : DevPart.regs ∈ ps)
    (hf : f ∈ fs) : Tr ps fs a (d.set f v) :=
  ⟨Tab.wf_putNat _ _ _ h.regs, fun p hp => DevPart.same_trans (h.frame p hp) (by
    cases p <;> first | rfl | exact absurd hr hp), fun g hg => by
    rw [d.get_set_other f g v h.regs (fun e => hg (e ▸ hf))]; exact h.keeps g hg⟩

theorem Tr.print {ps : List DevPart} {fs : List Fld} {a d : Dev} (h : Tr ps fs a d) {l : String} (hl : DevPart.life ∈ ps) :
    Tr ps fs a (d.print l) := by
  refine h.part (by unfold Dev.print; split <;> rfl) fun p hp => ?_
  unfold Dev.print
  cases p <;> (first | exact absurd hl hp | (split <;> rfl))

theorem Tr.ite {ps : List DevPart} {fs : List Fld} {a x y : Dev} {c : Prop} [Decidable c] (hx : c → Tr ps fs a x)
    (hy : ¬c → Tr ps fs a y) : Tr ps fs a (if c then x else y) := by
  split
  · exact hx ‹_›
  · exact hy ‹_›

/-- An occurrence touches one status field, the event log with what is due, and the console. -/
theorem Tr.raise {ps : List DevPart} {fs : List Fld} {a d : Dev} (h : Tr ps fs a d) {g s : Nat} (hr : DevPart.regs ∈ ps)
    (he : DevPart.evt ∈ ps) (hl : DevPart.life ∈ ps) (hf : F.EVT_STATUS g ∈ fs) : Tr ps fs a (d.raise g s) := by
  have k : Tr ps fs a (d.record g s) :=
    Tr.part (d := d.setBitOf (F.EVT_STATUS g) s true) (h.set hr hf) rfl fun p hp => by
      cases p <;> first | rfl | exact absurd he hp
  exact Tr.ite (fun _ => k) (fun _ => k.print hl)

theorem Tr.touches {ps : List DevPart} {fs : List Fld} {a b : Dev} (h : Tr (.regs :: ps) fs a b) : Touches ps fs a b :=
  ⟨h.frame, h.keeps⟩

/-! ## Occurrences -/

theorem Dev.get_print (d : Dev) (l : String) (f : Fld) : (d.print l).get f = d.get f := by
  unfold Dev.get; rw [Dev.print_regs]

/-- The registers after an occurrence: its status bit is set. -/
@[simp] theorem Dev.raise_regs (d : Dev) (g s : Nat) : (d.raise g s).regs =
    Tab.putNat d.regs (F.EVT_STATUS g) (setBit (d.get (F.EVT_STATUS g)) s true % 2 ^ 24) := by
  have e : Fld.width (F.EVT_STATUS g) = 24 := by unfold Fld.width F.EVT_STATUS; omega
  unfold Dev.raise
  split
  · rw [← e]; rfl
  · rw [Dev.print_regs, ← e]; rfl

/-- What any field reads after an occurrence. -/
theorem Dev.get_raise (d : Dev) (g s : Nat) (f : Fld) (h : Tab.wf d.regs) : (d.raise g s).get f =
    if f = F.EVT_STATUS g then setBit (d.get (F.EVT_STATUS g)) s true % 2 ^ 24 else d.get f := by
  unfold Dev.get
  rw [Dev.raise_regs, Tab.getD_putNat _ _ _ _ h]
  rfl

theorem logAdd_head (up now g s : Nat) (l : List LogEnt) : ∃ e t, logAdd up now g s l = e :: t ∧ e.g = g ∧ e.s = s := by
  cases l with
  | nil => exact ⟨_, _, rfl, rfl, rfl⟩
  | cons e t =>
    simp only [logAdd]
    split
    · next h => exact ⟨_, _, rfl, h.1, h.2.1⟩
    · exact ⟨_, _, rfl, rfl, rfl⟩

/-- An occurrence is recorded (R471). -/
theorem Dev.raise_occurred (d : Dev) (g s : Nat) (h : Tab.wf d.regs) (hs : s < 24) : (d.raise g s).occurred g s := by
  constructor
  · rw [Dev.get_raise _ _ _ _ h, if_pos rfl, bitAt_mod _ _ _ hs, bitAt_setBit_same]
  · unfold Dev.raise
    split
    · exact logAdd_head _ _ _ _ _
    · rw [Dev.print_evt]; exact logAdd_head _ _ _ _ _

end Sys2Proof.Machine
end

