-- ==== Sys2Proof/WellFormed.lean ====
section
/-! DEFINITION. Well-formed commands: every operand lies within the width the spec gives it. -/

namespace Sys2Proof

/-- A value fits `w` bits. -/
def fits (w v : Nat) : Bool := v < 2 ^ w

/-- A received frame: widths of its addresses, tag and trailer (R378, R379). -/
def RxFrame.wf (f : RxFrame) : Bool :=
  fits 48 f.mac && fits 12 f.vid && (match f.trailer with
    | some x => fits 16 x.1 && fits 4 x.2
    | none => true)

/-- A request header: SESSION and TAG of 16 bits, SEQ of 32, no MAC or one of 16 bytes (R448). -/
def ReqHdr.wf (h : ReqHdr) : Bool :=
  h.rx.wf && fits 16 h.session && fits 16 h.tag && fits 32 h.seq && fits 48 h.src && (h.mac.length = 0 || h.mac.length = 16)

/-- A PTP message: widths of the fields of IEEE 1588, and nanoseconds below one second (R57, R381). -/
def PtpMsg.wf (m : PtpMsg) : Bool :=
  fits 12 m.vid && fits 8 m.domain && fits 16 m.seq && fits 80 m.source && fits 80 m.requester && fits 48 m.sec && decide (m.ns < 1000000000) &&
    fits 8 m.prio1 && fits 32 m.quality && fits 8 m.prio2 && fits 64 m.gm && fits 16 m.steps

/-- Every operand of a command is within its range. -/
def Instr.wf : Instr → Bool
  | .refJudgeWindow count => fits 16 count
  | .timeSet _ sec ns => fits 48 sec && decide (ns < 1000000000)
  | .startEdge _ _ n _ => fits 15 n
  | .retRisingEdge _ n _ => fits 15 n
  | .retFallingEdge _ n _ => fits 15 n
  | .monitorEnergyDelivered base fin et => fits 12 base && fits 12 fin && decide (et.length ≤ 16) && et.all (fits 12)
  | .acqTrigger _ bits => fits 21 bits
  | .calDone _ hits _ => hits.length = 64
  | .thermalReading r => r.length = 24
  | .scrubPass _ _ word => word.length = 19 || word.length = 23
  | .driveReady _ _ a b => a.length = 4096 && b.length = 4096
  | .stateRequest _ code => fits 8 code
  | .flefenRead h idx sub => h.wf && fits 16 idx && fits 8 sub
  | .flefenWrite h idx sub ty _ => h.wf && fits 16 idx && fits 8 sub && fits 8 ty
  | .writeGroup h ws => h.wf && decide (ws.length ≤ 255) && ws.all fun w => fits 16 w.1 && fits 8 w.2.1 && fits 8 w.2.2.1
  | .domainOpen h idx sub dir total crc =>
    h.wf && fits 16 idx && fits 8 sub && fits 8 dir && fits 32 total && crc.all (fits 32)
  | .domainSegment h off _ => h.wf && fits 32 off
  | .domainClose h action => h.wf && fits 8 action
  | .hello h role nc => h.wf && fits 8 role && nc.length = 16
  | .prove h proof => h.wf && proof.length = 32
  | .endSession h => h.wf
  | .flefenRegRead h addr count => h.wf && fits 32 addr && fits 8 count
  | .flefenRegWrite h addr val mask => h.wf && fits 32 addr && fits 32 val && fits 32 mask
  | .spiRegRead addr _ => fits 32 addr
  | .spiRegWrite addr _ => fits 32 addr
  | .registerWrite _ addr _ _ => fits 25 addr
  | .arpRequestRx f sip tip => f.wf && fits 32 sip && fits 32 tip
  | .arpReplyRx f sip => f.wf && fits 32 sip
  | .icmpEchoRx f sip _ => f.wf && fits 32 sip
  | .ethFrameDiscarded f => f.wf
  | .leadFlefenForward f udpPort sip sport _ _ => f.wf && fits 16 udpPort && fits 32 sip && fits 16 sport
  | .ethLinkChange _ _ speed fec => fits 2 speed && decide (fec < 3)
  | .prpSupervisionRx f node => f.wf && fits 48 node
  | .ptpSyncRx _ m => m.wf
  | .ptpFollowUpRx _ m => m.wf
  | .ptpDelayRespRx _ m => m.wf
  | .ptpAnnounceRx _ m => m.wf
  | .ptpDelayReqRx _ m => m.wf
  | .bxDelayReqRx _ _ _ turn => fits 24 turn
  | .bxFlefenFrameRx _ _ _ data _ => data.length % 8 = 0
  | .bxForwardFrameRx _ _ data _ => data.length % 8 = 0
  | .bxStatusFrameRx _ _ data _ => data.length % 8 = 0
  | .safeTelegramRx f sip sport dport _ => f.wf && fits 32 sip && fits 16 sport && fits 16 dport
  | .safeInputSample _ levels _ => fits 16 levels
  | .outputReadback _ rb => fits 8 rb
  | _ => true

end Sys2Proof
end

