-- ==== Sys2Proof/Tests/Slice0.lean ====
section
/-! SUPPORT. Tests of one step or one function each: the worked examples of the spec, ill-formed commands, and for every clause of a
statement that has hypotheses a state and operands that meet them all. -/

namespace Sys2Proof.Tests

open Sys2Proof.Machine

set_option maxRecDepth 4000
set_option Elab.async false

/-! ## States of the tests -/

/-- The block after reset with an empty register store. -/
def w0 : Dev := { Dev.reset with regs := [] }
/-- An image without payload, its digest in place. -/
def emptyImage : Bytes := zeros 24 ++ be 32 0xe3b0c44298fc1c149afbf4c8996fb92427ae41e4649b934ca495991b7852b855 ++ zeros 4040
/-- A block about to take its next shot in RANGING, with one waybill entry and one manifest entry. -/
def shotDev : Dev :=
  { { w0 with
      st := .ranging, tabs := [(0x7000, { b0 := zeros 16 }), (0x7001, { b0 := be 8 1 ++ be 8 (2 ^ 58 + 64 * 2 ^ 48) }), (0x7003, { b0 := [] })]
      led := { w0.led with logic := { enable := true }, proc := { enable := true } } } with held := false }.set F.P.shotsPerStage 8
/-- Every record finished. -/
def doneRecs : Tab Rec := Tab.ofFn 512 fun _ => { done := true }
/-- A safety configuration whose pair 0 is an emergency stop on output pair 0, with tests of output pair 0, telegrams allowed and key 0. -/
def stopCfg : Bytes := zeros 9 ++ [1] ++ zeros 2 ++ [1, 0, 1, 0] ++ zeros 212 ++ [0, 1, 0, 0, 3] ++ zeros 23
/-- A Toll island at work with that configuration. -/
def tollDev : Dev :=
  { w0 with
      toll := { w0.toll with cfg := stopCfg, cfgOk := true, lost := false, conn := true, logic := { selfOk := true }, proc := { selfOk := true } } }
/-- A command telegram with a SEQ, correct for that configuration. -/
def tgBytes (seq : Nat) : Bytes :=
  let b : Bytes := be 2 0x5446 ++ be 1 1 ++ be 1 2 ++ zeros 8 ++ be 4 seq ++ zeros 40
  b ++ telegramCrcs stopCfg b
/-- Both Ethernet ports up, every block clocked, untagged frames accepted. -/
def netUp (d : Dev) : Dev :=
  d.set (F.ETH_STATUS.LINK 0) 1 |>.set (F.ETH_STATUS.LINK 1) 1 |>.set F.NET_VLAN.ACCEPT_UNTAGGED 1 |>.set F.CLK_STATUS.PLL_LOCK 1
    |>.set F.GATE_STATE.RUNNING (2 ^ 32 - 1)
/-- Both Basxiop links up. -/
def bxDev : Dev := (netUp w0).set (F.BX_STATUS.LINK_UP 0) 1 |>.set (F.BX_STATUS.LINK_UP 1) 1
/-- A Basxiop port on both sides of the block in the same condition. -/
def bxBoth (b : BxPort) : Dev := { bxDev with bx := { w0.bx with ports := [b, b] } }
/-- A drive ready for use. -/
def drvReady : Rcd := { w0.rcd with present := true, ready := true, nBlocks := 100 }
/-- A superblock copy whose bytes from 8 on are 0; its bytes 4 to 7 make the checksum 0. -/
def superBlk : Bytes := be 4 0x4E585342 ++ be 4 0xDECFC391
/-- A request over port 0 with SESSION 0. -/
def hdrA : ReqHdr :=
  { rx := { port := 0, t := 9, mac := 1, vid := 0, trailer := none }, path := .udp, src := 65536 * 7 + 9, session := 0, tag := 5, seq := 0
    last := false, mac := [] }
/-- The session of the requests below, by role. -/
def sess (role : Nat) : Session := { id := 3, role := role, opened := true, seq := 1 }
/-- A block with that session open, ready for requests. -/
def sessDev (role : Nat) : Dev := { netUp w0 with held := false, life := { w0.life with boot := 6, stewRun := [true, true] }, flf := { w0.flf with sessions := [sess role] } }
/-- A request of that session, its MAC right for the opcode and body. -/
def hdr3 (op : Nat) (body : Bytes) : ReqHdr :=
  let h : ReqHdr := { hdrA with session := 3, seq := 2 }
  { h with mac := frameTag [] (reqFrame h op body) }

/-- Every record of that table is finished. -/
theorem doneRecs_done (k : Nat) (hk : k < 512) : (Tab.getD doneRecs k {}).done = true := by
  simp [Tab.getD, doneRecs, Tab.find_ofFn 512 _ k hk]


/-! ## Worked examples of the spec: each expected value is a number the spec prints. -/

/-- Worked example after R338: the check bytes of data with D0 = 0x01. -/
theorem test_ecc_check_bytes : checkBytes (1 :: zeros 15) = [0x08, 0x0E, 0x07] := by decide +kernel

/-- Worked example after R338: D5 read as 0x10 is the one symbol to correct, to 0. -/
theorem test_ecc_corrects_d5 :
    eccJudge ([1, 0, 0, 0, 0, 0x10] ++ zeros 10 ++ [8, 0xE, 7]) = .corrected 8 (1 :: zeros 15 ++ [8, 0xE, 7]) := by decide +kernel

/-- Worked example after R383: the first update of the servo with an offset of +50 ns at 1 s. -/
theorem test_servo_first_update : ((Dev.reset.servoTrim 50 1).getS F.TB_TRIM, (Dev.reset.servoTrim 50 1).net.servoI) = (44023, 1300 / 256) := by
  decide +kernel

/-- Worked example after R266: the first two dithers and the gap of unit A. -/
theorem test_dither_unit_a :
    ((ditherNext (ditherLoad 0x1234)).2, (ditherNext (ditherNext (ditherLoad 0x1234)).1).2, pairGap 0x1234) = (131, 145, 64) := by decide

/-- Worked example after R266: the first two dithers and the gap of unit B. -/
theorem test_dither_unit_b :
    ((ditherNext (ditherLoad 0x5B21)).2, (ditherNext (ditherNext (ditherLoad 0x5B21)).1).2, pairGap 0x5B21) = (130, 44, 71) := by decide

/-- Worked example after R167: TOT_MIN after a stage with 6,700 ambient edges in 33,568 ns. -/
theorem test_tot_min_adapts : Dev.reset.totNext 0 6700 33568 = 263 := by decide +kernel

/-- A nonlinearity table with the taps of the worked example after R173. -/
def nlTab : Bytes := (List.range 64).flatMap fun q => be 2 (if q = 21 then 337 else if q = 47 then 749 else if q = 9 then 150 else 16 * q + 8)

/-- A skew table with the start skew and the skew of channel 9 of that example. -/
def skewTab : Bytes := zeros 38 ++ be 2 (65536 - 41) ++ zeros 90 ++ be 2 12 ++ zeros 8

/-- A block in a shot, with those tables for convoy 4 and RET137 drifted by 6. -/
def edgeDev : Dev :=
  { w0 with
      tabs := [(0x7014, { b0 := skewTab }), (0x7024, { b0 := nlTab })], chans := [(137, { drift := 6 })] }

/-- Worked example after R173: the stamps of the start and of the two edges of RET137. -/
theorem test_stamps_of_ret137 :
    (rhu (1024 * 2 + edgeDev.nl 4 21 + edgeDev.sskew 4 0) 16, rhu (edgeDev.stamp 137 3412 47) 16, rhu (edgeDev.stamp 137 3416 9) 16)
      = (150, 218412, 218630) := by decide +kernel

/-- Worked example after R294: the compact point record of RET137's echo, and its channel record header. -/
theorem test_compact_point :
    (compactPoint 0 0 { rho := 217863, inten := 62, width := 3 }, recHeader 137 1 0) =
      ([0x03, 0x53, 0x07, 0x03, 0xE0, 0x30, 0, 0], [0x44, 0x88, 0, 0]) := by decide +kernel

/-- Worked example after R294: the residue, its symbol, the bits and the context after it. -/
theorem test_packer_symbol :
    (zz ((217863 : Int) - med 217860 217902 217905), codeBits { a := 40, n := 8 } 6, codeNext { a := 40, n := 8 } 6) =
      (6, [false, true, true, false], { a := 46, n := 9 }) := by decide +kernel

/-- The stream of the worked example after R302. -/
def streamA (e : Nat) : SCfg :=
  { en := true, cart := false, bales := true, e := e, port := 0, omitEmpty := false, hist := 1, rate := 8000, mtu := 9000, vlan := true, prp := true, dst := 0, ports := 0, tag := some 0, record := false }

/-- Worked example after R302: C, U, W with E = 8, and W with E = 3. -/
theorem test_stream_terms :
    (builderCycles [streamA 8], (streamA 8).worst, (streamA 8).wire, (streamA 3).wire) = (9541, 34856, 35456, 14824) := by decide +kernel

/-- Worked example after R302: at RATE 8,000 the excess is 19,072, so device.commit_report reads 0x004A_8004. -/
theorem test_commit_report_term4 : report 4 0 ((streamA 8).wire - 8000 * 16384 / 8000) = 0x004A8004 := by decide +kernel

/-- A filter bank with a length, a decimation code and DEC_START. -/
def bankOf (l dec start : Nat) : Bytes := be 1 l ++ be 1 dec ++ be 2 start ++ zeros 256

/-- A configuration with a shot period and a bin width code. -/
def periodDev (tp code : Nat) : Dev := (w0.set F.P.shotPeriod tp).set F.TALLY_CTRL.BIN_WIDTH code

/-- Worked examples after R225: filter cycles in Near and in Far. -/
theorem test_filter_cycles :
    [filterCycles (periodDev 2048 0) (bankOf 13 0 5120), filterCycles (periodDev 2048 0) (bankOf 15 0 5120),
      filterCycles (periodDev 2048 0) (bankOf 17 1 2048), filterCycles (periodDev 2048 0) (bankOf 19 1 2048),
      filterCycles (periodDev 10240 2) (bankOf 127 0 5120), filterCycles (periodDev 10240 2) (bankOf 255 2 1024)] =
      [13312, 15360, 13056, 14592, 162560, 130560] := by decide +kernel

/-- Worked example after R225: the commit report of L = 15 in convoy 6. -/
theorem test_commit_report_term2 : report 2 6 (15360 - (8 * 2048 - 2000)) = 0x0003D062 := by decide

/-- What extraction gets in the worked example after R234: Mid, 9 taps. -/
def midEcho : EchoIn :=
  { nb := 4096, w := 64, nc := 8, ambient := 0, listen := 0, coarse := #[], zoom := [], starts := [], filt := bankOf 9 0 5120, info := {}
    a16 := 0, offset := 0, allPair := false, stored := none, spare := false }

/-- The interpolation of that example, moved to bin 1: p_c − 1 bin is 218,283 − 3,409 × 64. -/
theorem test_coarse_position : coarsePos midEcho #[40 * 256, 52 * 256, 46 * 256] 1 = 218283 - 3409 * 64 := by decide +kernel

/-- Worked example after R260: the rain scores of candidates c2 to c5, the persistence term given. -/
theorem test_rain_scores :
    [rainScore clutterDefault 255 { width := 150, inten := 10 }, rainScore clutterDefault 255 { width := 130, inten := 14 },
      rainScore clutterDefault 255 { width := 70, inten := 60 }, rainScore clutterDefault 0 { width := 70, inten := 180 }] =
      [200, 180, 95, 0] := by decide +kernel

/-- Worked example after R495: L(116.4) = 2, L(112.0) = 0, L(117.0) = 2, in sixteenths of a degree. -/
theorem test_throttle_levels : (throttleL 1862, throttleL 1792, throttleL 1872) = (2, 0, 2) := by decide

/-- Worked example after R110: the effective width and the energy of a shot of 16 columns at EPL 300,000. -/
theorem test_width_and_energy : (wEff 256 0x8000 0, cdiv (16 * (wEff 256 0x8000 0 * 300000)) 256) = (256, 4800000) := by decide

/-- Worked example after R110: the bucket length of a W1 of 100 µs. -/
theorem test_bucket_length : bucketLen (be 2 100) 0 = 1563 := by decide

/-- Worked example after R64: 2.5 ppm as a trim. -/
theorem test_trim_of_2_5_ppm : roundQ (-(5 / 2000000 : Rat) * 1099511627776) = -2748779 := by decide +kernel

/-- A block ready for the mailbox in which 16 awaits the frame tick as ranging.shots_per_stage, with 8 in effect. -/
def mailDev : Dev :=
  { ((netUp w0).set F.P.shotsPerStage 8) with
      st := .ranging, held := false, life := { w0.life with boot := 6, stewRun := [true, true] }, dues := [{ key := F.P.shotsPerStage, val := 16, point := .frame }] }

/-- The request of the worked example after R451. -/
def askShots : Bytes := [0x46, 0x4C, 1, 1, 0, 0, 0, 7, 0, 0, 0, 0, 0, 0, 0, 4, 0x21, 0, 3, 0]

/-- Its header. -/
def askHdr : ReqHdr :=
  { rx := { port := 0, t := 0, mac := 1, vid := 0, trailer := none }, path := .spi, src := 0, session := 0, tag := 7, seq := 0, last := false
    mac := [] }

/-- Worked example after R451: the response, byte for byte. -/
theorem test_flefen_read_pending :
    (flefenRead askHdr 0x2100 3 { mailDev with flf := { mailDev.flf with inbox := some askShots } }).flf.outbox =
      [[0x46, 0x4C, 1, 1, 0, 0, 0, 7, 0, 0, 0, 0, 5, 1, 0, 8, 0x21, 0, 3, 3, 0, 8, 0, 0x10]] := by decide +kernel

/-- The request of that example, as the bytes of its header and body. -/
theorem test_flefen_request_bytes : reqFrame askHdr 1 (be 2 0x2100 ++ be 1 3 ++ be 1 0) = askShots := by decide +kernel

/-- FIPS 180-4, the digest of "abc" (the constants are PRESUMED, log 5). -/
theorem test_sha256_abc :
    sha256 [0x61, 0x62, 0x63] = be 32 0xba7816bf8f01cfea414140de5dae2223b00361a396177a9cb410ff61f20015ad := by decide +kernel

/-- Gains of the worked example after R140, with a reference gain of 1.0 that makes the base its set-point: KI_0 = 0.5. -/
def handGains : Bytes := zeros 640 ++ be 4 0x10000000 ++ zeros 28 ++ be 4 0x08000000 ++ zeros 12

/-- Its configuration: Z_LIM_0 and SLEW_0, and output limits 0 and 1.0. -/
def handCfg : Bytes := zeros 20 ++ be 4 0x1000000 ++ be 4 3355443 ++ be 4 83886 ++ zeros 68

/-- What the law reads there. -/
def handIn (xfer : Bool) : LawIn :=
  { gains := handGains, cfg := handCfg, set := 0, axes := 1, mode := 2, xfer := xfer, manual := [5033165], rPos := [3019899], uInj := [] }

/-- Worked example after R140: z_0, d_0 and u_0 of the tick of the hand-over. -/
theorem test_bumpless_hand_over :
    (let o := law (handIn true) { Dev.reset.drv with u := [5033165] }
     (at' o.z 0 0, at' o.res 0 0, at' o.u 0 0)) = (3355443, 335544, 5033165) := by decide +kernel

/-- Worked example after R140: d_0 and u_0 of the next tick. -/
theorem test_after_the_hand_over :
    (let o := law (handIn false) { Dev.reset.drv with z := [3355443], res := [335544], u := [5033165] }
     (at' o.res 0 0, at' o.u 0 0)) = (251658, 4949279) := by decide +kernel

/-- Worked example after R406: with D = 20 the fault latches at the 21st sample that disagrees, and the pair is in demand. -/
theorem test_discrepancy_at_sample_21 :
    (let x : PairSample := { a := false, b := true, test := false, fail := false }
     let p := Pair.sample { cnt := 19 } 1 0 20 7 x
     (p.disc, (p.sample 1 0 20 8 x).disc, p.demand)) = (false, true, true) := by decide +kernel

/-- A unit whose record spills, its buffer full, while an incident is in progress (R327). -/
def spills : Dev :=
  (({ Dev.reset with
      acq := { Dev.reset.acq with units := [{ armed := true, capturing := true, rflags := 2, post := List.replicate 16 (1, [5]), postLeft := 3 }] }
      rcd := { Dev.reset.rcd with nBlocks := 10, cur := some { endT := 100 } } }.set (F.ACQ_CTRL.SOURCE 0) 3).set (F.ACQ_BUFSIZE 0) 2)

/-- A spilled entry enters the incident as an entry of KIND 2 of its unit (R327, R345). -/
theorem test_spill_enters_incident :
    (spills.acqEntry 0 [0x123]).rcd.cur.map (·.data) =
      some [0, 4, 2, 0, 0, 0, 0, 0, 0, 0, 0, 0, 0, 0, 0, 0, 0, 0, 1, 0x23] := by decide +kernel

/-- Without an incident that takes it, a spilled entry counts towards a gap word and raises spill-gap (R327). -/
theorem test_spill_without_incident :
    (({ spills with rcd := Dev.reset.rcd }.acqEntry 0 [0x123]).unit 0).spillGap = 1 ∧
      ({ spills with rcd := Dev.reset.rcd }.acqEntry 0 [0x123]).get (F.EVT_STATUS 8) = 16 := by decide +kernel

/-! ## Ill-formed commands: one for each check, refused by it -/

/-- A well-formed frame. -/
def okRx : RxFrame := { port := 0, t := 0, mac := 2 ^ 48 - 1, vid := 4095, trailer := some (65535, 15) }

/-- A well-formed header. -/
def okHdr : ReqHdr :=
  { rx := okRx, path := .udp, src := 2 ^ 48 - 1, session := 65535, tag := 65535, seq := 2 ^ 32 - 1, last := false, mac := zeros 16 }

/-- A well-formed PTP message. -/
def okPtp : PtpMsg :=
  { t := 0, vid := 4095, domain := 255, seq := 65535, source := 2 ^ 80 - 1, requester := 2 ^ 80 - 1, twoStep := true, corr := -1
    sec := 2 ^ 48 - 1, ns := 999999999, peer := false, followUp := false, prio1 := 255, quality := 2 ^ 32 - 1, prio2 := 255
    gm := 2 ^ 64 - 1, steps := 65535 }

/-- The parts at the ends of their ranges are well-formed. -/
theorem test_wf_parts : (okRx.wf && okHdr.wf && okPtp.wf && ReqHdr.wf { okHdr with mac := [] }) = true := by decide

/-- Frames and headers with one field too wide. -/
theorem test_ill_formed_headers :
    ([{ okRx with mac := 2 ^ 48 }, { okRx with vid := 4096 }, { okRx with trailer := some (65536, 0) }, { okRx with trailer := some (0, 16) }].all
        fun f => !f.wf) = true ∧
      ([{ okHdr with rx := { okRx with vid := 4096 } }, { okHdr with session := 65536 }, { okHdr with tag := 65536 },
        { okHdr with seq := 2 ^ 32 }, { okHdr with src := 2 ^ 48 }, { okHdr with mac := zeros 15 }].all fun h => !h.wf) = true := by decide

/-- PTP messages with one field too wide. -/
theorem test_ill_formed_ptp :
    ([{ okPtp with vid := 4096 }, { okPtp with domain := 256 }, { okPtp with seq := 65536 }, { okPtp with source := 2 ^ 80 },
      { okPtp with requester := 2 ^ 80 }, { okPtp with sec := 2 ^ 48 }, { okPtp with ns := 1000000000 }, { okPtp with prio1 := 256 },
      { okPtp with quality := 2 ^ 32 }, { okPtp with prio2 := 256 }, { okPtp with gm := 2 ^ 64 }, { okPtp with steps := 65536 }].all
        fun m => !m.wf) = true := by decide

/-- A header and a message that no command may carry. -/
def badHdr : ReqHdr := { okHdr with tag := 65536 }
/-- A frame that no command may carry. -/
def badRx : RxFrame := { okRx with vid := 4096 }
/-- A message that no command may carry. -/
def badPtp : PtpMsg := { okPtp with domain := 256 }

/-- Commands of the clocks, the shot, the converters and the health of the device with an operand out of range. -/
theorem test_ill_formed_commands :
    (([.refJudgeWindow 65536, .timeSet .engineer (2 ^ 48) 0, .timeSet .engineer 0 1000000000, .startEdge 0 0 32768 0, .retRisingEdge 0 32768 0,
      .retFallingEdge 0 32768 0, .monitorEnergyDelivered 4096 0 [], .monitorEnergyDelivered 0 4096 [],
      .monitorEnergyDelivered 0 0 (List.replicate 17 0), .monitorEnergyDelivered 0 0 [4096], .acqTrigger 0 (2 ^ 21), .calDone 0 [] [],
      .thermalReading [], .scrubPass (.bale 0) 0 [], .stateRequest (.reg false) 256, .ethLinkChange 0 true 4 0,
      .ethLinkChange 0 true 0 3, .bxDelayReqRx 0 0 0 (2 ^ 24), .safeInputSample .logic 65536 0, .outputReadback .logic 256] : List Instr).all
        fun i => !Instr.wf i) = true := by decide

/-- A superblock copy one byte short, either of them. -/
theorem test_ill_formed_superblocks :
    Instr.wf (.driveReady true { blocks := 1, ring := [] } (zeros 4095) (zeros 4096)) = false ∧
      Instr.wf (.driveReady true { blocks := 1, ring := [] } (zeros 4096) (zeros 4095)) = false := by
  decide +kernel

/-- Requests with an operand or a header out of range. -/
theorem test_ill_formed_requests :
    (([.flefenRead badHdr 0 0, .flefenRead okHdr 65536 0, .flefenRead okHdr 0 256, .flefenWrite badHdr 0 0 0 [], .flefenWrite okHdr 65536 0 0 [],
      .flefenWrite okHdr 0 256 0 [], .flefenWrite okHdr 0 0 256 [], .writeGroup badHdr [],
      .writeGroup okHdr (List.replicate 256 (0, 0, 0, [])), .writeGroup okHdr [(65536, 0, 0, [])], .writeGroup okHdr [(0, 256, 0, [])],
      .writeGroup okHdr [(0, 0, 256, [])], .domainOpen badHdr 0 0 0 0 none, .domainOpen okHdr 65536 0 0 0 none,
      .domainOpen okHdr 0 256 0 0 none, .domainOpen okHdr 0 0 256 0 none, .domainOpen okHdr 0 0 0 (2 ^ 32) none,
      .domainOpen okHdr 0 0 0 0 (some (2 ^ 32)), .domainSegment badHdr 0 [], .domainSegment okHdr (2 ^ 32) [], .domainClose badHdr 0,
      .domainClose okHdr 256, .hello badHdr 0 (zeros 16), .hello okHdr 256 (zeros 16), .hello okHdr 0 (zeros 15), .prove badHdr (zeros 32),
      .prove okHdr (zeros 31), .endSession badHdr, .flefenRegRead badHdr 0 0, .flefenRegRead okHdr (2 ^ 32) 0, .flefenRegRead okHdr 0 256,
      .flefenRegWrite badHdr 0 0 0, .flefenRegWrite okHdr (2 ^ 32) 0 0, .flefenRegWrite okHdr 0 (2 ^ 32) 0,
      .flefenRegWrite okHdr 0 0 (2 ^ 32), .spiRegRead (2 ^ 32) 0, .spiRegWrite (2 ^ 32) [], .registerWrite false (2 ^ 25) 0 0] : List Instr).all
        fun i => !Instr.wf i) = true := by decide

/-- Frames of the network and time messages with an operand or a header out of range. -/
theorem test_ill_formed_frames :
    (([.arpRequestRx badRx 0 0, .arpRequestRx okRx (2 ^ 32) 0, .arpRequestRx okRx 0 (2 ^ 32), .arpReplyRx badRx 0, .arpReplyRx okRx (2 ^ 32),
      .icmpEchoRx badRx 0 [], .icmpEchoRx okRx (2 ^ 32) [], .ethFrameDiscarded badRx, .leadFlefenForward badRx 0 0 0 true [],
      .leadFlefenForward okRx 65536 0 0 true [], .leadFlefenForward okRx 0 (2 ^ 32) 0 true [], .leadFlefenForward okRx 0 0 65536 true [],
      .prpSupervisionRx badRx 0, .prpSupervisionRx okRx (2 ^ 48), .ptpSyncRx 0 badPtp, .ptpFollowUpRx 0 badPtp, .ptpDelayRespRx 0 badPtp,
      .ptpAnnounceRx 0 badPtp, .ptpDelayReqRx 0 badPtp, .safeTelegramRx badRx 0 0 0 [], .safeTelegramRx okRx (2 ^ 32) 0 0 [],
      .safeTelegramRx okRx 0 65536 0 [], .safeTelegramRx okRx 0 0 65536 []] : List Instr).all fun i => !Instr.wf i) = true := by decide

/-! ## Witnesses: for every clause with hypotheses, a state and operands that meet them all -/

-- Obligations.EveryCommandCompletesButShortReset

/-- Both ends of the widths between the two limits of a reset pulse (R546). -/
theorem test_witness_ShortReset_2 : ∀ w ∈ [100, 999], (100 : Nat) ≤ w ∧ w < 1000 := by decide

-- Obligations.DisagreeingWindowIsClockFault

def dDisagreeingWindow1 : Dev :=
  { w0 with clk := { w0.clk with judging := false } }.set F.CLK_STATUS.REF_STABLE 1
theorem test_witness_DisagreeingWindow_1 :
    dDisagreeingWindow1.wf ∧ ((26113 : Nat) < 65536) ∧ (dDisagreeingWindow1.clk.judging = false) ∧
    (dDisagreeingWindow1.flag F.CLK_STATUS.REF_STABLE = true) ∧ (¬(25088 ≤ (26113 : Nat) ∧ (26113 : Nat) ≤ 26112)) ∧
    (dDisagreeingWindow1.st.ticks = false) :=
  by decide +kernel

def dDisagreeingWindow2 : Dev :=
  { w0 with clk := { w0.clk with judging := false }, st := .ranging }.set F.CLK_STATUS.REF_STABLE 1
theorem test_witness_DisagreeingWindow_2 :
    dDisagreeingWindow2.wf ∧ ((25087 : Nat) < 65536) ∧ (dDisagreeingWindow2.clk.judging = false) ∧
    (dDisagreeingWindow2.flag F.CLK_STATUS.REF_STABLE = true) ∧ (¬(25088 ≤ (25087 : Nat) ∧ (25087 : Nat) ≤ 26112)) ∧
    (dDisagreeingWindow2.st = .scan ∨ dDisagreeingWindow2.st = .ranging ∨ dDisagreeingWindow2.st = .degraded) :=
  by decide +kernel

-- Obligations.TbNsReadLatchesSeconds

def dSecondsShadow2 : Dev :=
  { w0 with held := false, tb := { w0.tb with t40 := 7000000003 * 2 ^ 40 } }
theorem test_witness_SecondsShadow_2 :
    dSecondsShadow2.wf ∧ (dSecondsShadow2.held = false) ∧ (dSecondsShadow2.romOnly = false) :=
  by decide +kernel

-- Obligations.GatedBlockReadsZeroIgnoresWrites

def dGatedBlockAccesses1 : Dev :=
  { w0 with held := false }
theorem test_witness_GatedBlockAccesses_1 :
    dGatedBlockAccesses1.wf ∧ (dGatedBlockAccesses1.held = false) ∧ (dGatedBlockAccesses1.romOnly = false) ∧
    (dGatedBlockAccesses1.runs (18 : Fin 29) = false) ∧ (blockOf ((0x380000 : Nat) / 4 * 4 % 0x2000000) = some (18 : Fin 29).val) ∧
    ((0x380000 : Nat) < 0x4000000) :=
  by decide +kernel

def dGatedBlockAccesses2 : Dev :=
  { w0 with held := false }
theorem test_witness_GatedBlockAccesses_2 :
    dGatedBlockAccesses2.wf ∧ (dGatedBlockAccesses2.held = false) ∧ (dGatedBlockAccesses2.romOnly = false) ∧
    (dGatedBlockAccesses2.runs (0 : Fin 29) = false) ∧ (blockOf ((0x100000 : Nat) / 4 * 4 % 0x2000000) = some (0 : Fin 29).val) ∧
    ((0x100000 : Nat) < 0x4000000) :=
  by decide +kernel

-- Obligations.RequestForNoStateIsRefused

def dRequestsForNoState1 : Dev :=
  w0
theorem test_witness_RequestsForNoState_1 :
    dRequestsForNoState1.wf ∧ ((6 : Nat) = 0 ∨ (6 : Nat) = 4 ∨ (6 : Nat) = 6 ∨ (6 : Nat) = 7) :=
  by decide +kernel

def dRequestsForNoState2 : Dev :=
  w0
theorem test_witness_RequestsForNoState_2 :
    dRequestsForNoState2.wf ∧ (Role.canWrite (.engineer : Role) false = true) ∧ (7 ≤ (9 : Nat)) ∧ ((9 : Nat) < 256) :=
  by decide +kernel

def dRequestsForNoState3 : Dev :=
  w0
theorem test_witness_RequestsForNoState_3 :
    dRequestsForNoState3.wf ∧ (Role.canWrite (.operator : Role) false = true) ∧ ((4 : Nat) = 0 ∨ (4 : Nat) = 4 ∨ (4 : Nat) = 6) :=
  by decide +kernel

-- Obligations.AcceptedTelegramTakesEffect

def dTelegramAccepted1 : Dev :=
  netUp { tollDev with toll := { tollDev.toll with cfg := stopCfg, wins := [{ bytes := tgBytes 1, port := 0, t := 5 }] } }
theorem test_witness_TelegramAccepted_1 :
    dTelegramAccepted1.wf ∧
    (dTelegramAccepted1.ethRuns ({ port := 1, t := 9, mac := 1, vid := 0, trailer := none } : RxFrame).port = true) ∧
    (dTelegramAccepted1.vidOk ({ port := 1, t := 9, mac := 1, vid := 0, trailer := none } : RxFrame).vid = true) ∧
    (({ port := 1, t := 9, mac := 1, vid := 0, trailer := none } : RxFrame).trailer = none) ∧ (dTelegramAccepted1.takesTelegrams = true) ∧
    ((tgBytes 1 : Bytes).length = 64) ∧ (tgForm dTelegramAccepted1.toll.cfg (0 : Nat) (0 : Nat) (tgBytes 1 : Bytes) = true) ∧
    (dTelegramAccepted1.toll.closed.contains (tgSeq (tgBytes 1 : Bytes)) = false) ∧ (dTelegramAccepted1.flag F.PTP_STATUS.LOCKED = false) ∧
    (dTelegramAccepted1.tgFresh (tgBytes 1 : Bytes) = true) ∧
    ((dTelegramAccepted1.toll.wins.find? fun x => tgSeq x.bytes = tgSeq (tgBytes 1 : Bytes)) = some ({ bytes := tgBytes 1, port := 0, t := 5 } : Copy)) ∧
    (({ bytes := tgBytes 1, port := 0, t := 5 } : Copy).port ≠ ({ port := 1, t := 9, mac := 1, vid := 0, trailer := none } : RxFrame).port.val) ∧
    (max dTelegramAccepted1.up ({ port := 1, t := 9, mac := 1, vid := 0, trailer := none } : RxFrame).t < ({ bytes := tgBytes 1, port := 0, t := 5 } : Copy).t + cmpWin dTelegramAccepted1.toll.cfg) ∧
    (({ bytes := tgBytes 1, port := 0, t := 5 } : Copy).bytes = (tgBytes 1 : Bytes)) :=
  by decide +kernel

-- Obligations.GatesAndBridges

def dClockGating1 : Dev :=
  w0.set F.CLK_GATE.CONVOY_EN 0xFFFF
theorem test_witness_ClockGating_1 :
    dClockGating1.wf ∧ (dClockGating1.gateRefused (5 : Word).toNat = 0) :=
  by decide +kernel

def dClockGating2 : Dev :=
  { w0 with st := .scan }.set F.CLK_GATE.CONVOY_EN 1
theorem test_witness_ClockGating_2 :
    dClockGating2.wf ∧ (dClockGating2.gateRefused (0 : Word).toNat ≠ 0) ∧ ((0 : Word).toNat < 2 ^ 29) :=
  by decide +kernel

def dClockGating3 : Dev :=
  { w0 with clk := { w0.clk with gateReq := 2 ^ 28 } }.set F.GATE_STATE.RUNNING (2 ^ 29 - 1)
theorem test_witness_ClockGating_3 :
    dClockGating3.wf ∧ (bitAt dClockGating3.clk.gateReq (28 : Fin 29) = true) :=
  by decide +kernel

def dClockGating4 : Dev :=
  w0.set F.CLK_GATE.BLOCK_EN 0x1FFF
theorem test_witness_ClockGating_4 :
    dClockGating4.wf ∧ (bitAt dClockGating4.clkGate (28 : Fin 29) = true) :=
  by decide +kernel

def dClockGating5 : Dev :=
  w0
theorem test_witness_ClockGating_5 :
    dClockGating5.wf ∧ (dClockGating5.runs (0 : Fin 29) = false) :=
  by decide +kernel

def dClockGating6 : Dev :=
  w0.set F.GATE_STATE.RUNNING (2 ^ 28)
theorem test_witness_ClockGating_6 :
    dClockGating6.wf ∧ (dClockGating6.runs (28 : Fin 29) = true) :=
  by decide +kernel

def dBridges8 : Dev :=
  w0
theorem test_witness_Bridges_8 :
    dBridges8.wf ∧ (bitAt (dBridges8.get F.BRIDGE_STATUS.LINK_UP) (11 : Fin 12) = false) :=
  by decide +kernel

def dBridges9 : Dev :=
  w0.set F.BRIDGE_STATUS.LINK_UP 0x800
theorem test_witness_Bridges_9 :
    dBridges9.wf ∧ (bitAt (dBridges9.get F.BRIDGE_STATUS.LINK_UP) (11 : Fin 12) = true) :=
  by decide +kernel

def dBridges10 : Dev :=
  { w0 with held := false }.set F.BRIDGE_STATUS.LINK_UP 0xFFB
theorem test_witness_Bridges_10 :
    dBridges10.wf ∧ (dBridges10.held = false) ∧ (dBridges10.romOnly = false) ∧ (bitAt (dBridges10.get F.BRIDGE_STATUS.LINK_UP) 2 = false) :=
  by decide +kernel

-- Obligations.WholeDeviceResets

def dPowerOnReset1 : Dev :=
  w0
theorem test_witness_PowerOnReset_1 :
    dPowerOnReset1.wf ∧ (dPowerOnReset1.life.rstLow = false) :=
  by decide +kernel

def dPowerOnReset2 : Dev :=
  { w0 with life := { w0.life with rstLow := true } }
theorem test_witness_PowerOnReset_2 :
    dPowerOnReset2.wf ∧ (dPowerOnReset2.life.rstLow = true) :=
  by decide +kernel

def dResetPin1 : Dev :=
  w0
theorem test_witness_ResetPin_1 :
    dResetPin1.wf ∧ ((99 : Nat) < 100) :=
  by decide +kernel

def dResetPin2 : Dev :=
  w0
theorem test_witness_ResetPin_2 :
    dResetPin2.wf ∧ (1000 ≤ (1000 : Nat)) ∧ (dResetPin2.life.por = false) :=
  by decide +kernel

def dResetPin3 : Dev :=
  { w0 with life := { w0.life with rstLow := true } }
theorem test_witness_ResetPin_3 :
    dResetPin3.wf ∧ (dResetPin3.life.rstLow = true) ∧ (dResetPin3.life.por = false) :=
  by decide +kernel

def dSoftwareReset1 : Dev :=
  { w0 with life := { w0.life with strapRcv := true } }
theorem test_witness_SoftwareReset_1 :
    dSoftwareReset1.wf ∧ (dSoftwareReset1.life.strapRcv = true) :=
  by decide +kernel

def dSoftwareReset2 : Dev :=
  w0
theorem test_witness_SoftwareReset_2 :
    dSoftwareReset2.wf ∧ ((0x5252 : Nat) ≠ 0x5253) :=
  by decide +kernel

def dResets2 : Dev :=
  { w0 with life := { w0.life with slotB := emptyImage, active := 1, bootValid := true, confirmed := true } }
theorem test_witness_Resets_2 :
    dResets2.wf ∧ (dResets2.life.rstLow = false) ∧ (dResets2.life.bootValid = true) ∧ (dResets2.life.confirmed = true) ∧
    (dResets2.life.active < 2) ∧ (dResets2.life.flashRet = []) ∧ (dResets2.life.store = none) ∧
    (imageResult dResets2.life.keyHash dResets2.life.rollback (dResets2.slot dResets2.life.active) = 0) :=
  by decide +kernel

def dResets8 : Dev :=
  { w0 with life := { w0.life with slotB := emptyImage, active := 1, bootValid := true, confirmed := true, rstLow := true } }
theorem test_witness_Resets_8 :
    dResets8.wf ∧ (dResets8.life.rstLow = true) ∧ (dResets8.life.por = false) ∧ (dResets8.flag F.BOOT_STATUS.RECOVERY = false) ∧
    (dResets8.life.bootValid = true) ∧ (dResets8.life.confirmed = true) ∧ (dResets8.life.active < 2) ∧ (dResets8.life.flashRet = []) ∧
    (dResets8.life.store = none) ∧ (imageResult dResets8.life.keyHash dResets8.life.rollback (dResets8.slot dResets8.life.active) = 0) :=
  by decide +kernel

def dResets9 : Dev :=
  { w0 with life := { w0.life with slotB := emptyImage, active := 1, bootValid := true, confirmed := true } }
theorem test_witness_Resets_9 :
    dResets9.wf ∧ (dResets9.life.strapRcv = false) ∧ (dResets9.life.bootValid = true) ∧ (dResets9.life.confirmed = true) ∧
    (dResets9.life.active < 2) ∧ (dResets9.life.flashRet = []) ∧ (dResets9.life.store = none) ∧
    (imageResult dResets9.life.keyHash dResets9.life.rollback (dResets9.slot dResets9.life.active) = 0) :=
  by decide +kernel

-- Obligations.BootAndStewards

def dBoot1 : Dev :=
  { w0 with held := false, life := { w0.life with boot := 5 } }.set F.CLK_STATUS.FALLBACK 1 |>.set F.STEWARD_STATUS.STANDBY_READY 1
theorem test_witness_Boot_1 :
    dBoot1.wf ∧ (dBoot1.life.boot = 5) ∧ (dBoot1.st = .boot) ∧ (dBoot1.held = false) ∧
    (dBoot1.flag F.CLK_STATUS.FALLBACK = true ∨ dBoot1.flag F.CLK_STATUS.PLL_LOCK = true) ∧
    (dBoot1.flag F.STEWARD_STATUS.STANDBY_READY = true) :=
  by decide +kernel

def dBoot2 : Dev :=
  { w0 with life := { w0.life with loadBuf := emptyImage } }.set F.BOOT_STATUS.RECOVERY 1
theorem test_witness_Boot_2 :
    dBoot2.wf ∧ (dBoot2.flag F.BOOT_STATUS.RECOVERY = true) ∧ (dBoot2.life.recImage = false) ∧ ((1 : Nat) % 2 = 1) ∧
    (4096 + imgLength dBoot2.life.loadBuf ≤ 2 ^ 21) ∧ (imageResult dBoot2.life.keyHash dBoot2.life.rollback dBoot2.loadedImage = 0) :=
  by decide +kernel

def dBoot3 : Dev :=
  { w0 with life := { w0.life with loadBuf := zeros 12 ++ be 4 (2 ^ 21 - 4095) } }.set F.BOOT_STATUS.RECOVERY 1
theorem test_witness_Boot_3 :
    dBoot3.wf ∧ (dBoot3.flag F.BOOT_STATUS.RECOVERY = true) ∧ (dBoot3.life.recImage = false) ∧ ((3 : Nat) % 2 = 1) ∧
    (2 ^ 21 < 4096 + imgLength dBoot3.life.loadBuf) :=
  by decide +kernel

def dStewards1 : Dev :=
  { w0 with life := { w0.life with boot := 6, stewRun := [true, true] } }.set F.STEWARD_STATUS.STANDBY_READY 1
theorem test_witness_Stewards_1 :
    dStewards1.wf ∧ (5 ≤ dStewards1.life.boot) ∧ (at' dStewards1.life.stewRun (dStewards1.get F.STEWARD_STATUS.SERVING) false = true) ∧
    (dStewards1.flag F.STEWARD_STATUS.STANDBY_READY = true) ∧ (dStewards1.st.ticks = false) ∧ (dStewards1.life.checkpoint = []) ∧
    (dStewards1.life.handover = 0) :=
  by decide +kernel

def dStewards2 : Dev :=
  { w0 with life := { w0.life with boot := 5 } }
theorem test_witness_Stewards_2 :
    dStewards2.wf ∧ (5 ≤ dStewards2.life.boot) ∧ (dStewards2.life.recImage = false) ∧ (dStewards2.retiredUnit 8 (1 : Fin 2) = false) ∧
    ((1 : Fin 2).val ≠ dStewards2.get F.STEWARD_STATUS.SERVING) ∧ (dStewards2.life.fwRestart = false) ∧ (dStewards2.life.handover = 0) :=
  by decide +kernel

def dStewards3 : Dev :=
  { w0 with life := { w0.life with boot := 5 } }
theorem test_witness_Stewards_3 :
    dStewards3.wf ∧ (dStewards3.st.ticks = false) ∧ (5 ≤ dStewards3.life.boot) :=
  by decide +kernel

-- Obligations.FirmwareStoresAndFuses

def dFirmware1 : Dev :=
  { w0 with life := { w0.life with slotB := emptyImage } }.set F.STEWARD_STATUS.STANDBY_READY 1
theorem test_witness_Firmware_1 :
    dFirmware1.wf ∧ (dFirmware1.flag F.STEWARD_STATUS.STANDBY_READY = true) ∧ (dFirmware1.unconfirmed = false) ∧
    (imageResult dFirmware1.life.keyHash dFirmware1.life.rollback (dFirmware1.slot (1 - dFirmware1.life.active)) = 0) :=
  by decide +kernel

def dFirmware2 : Dev :=
  { w0 with life := { w0.life with slotB := emptyImage, handover := 1 } }
theorem test_witness_Firmware_2 :
    dFirmware2.wf ∧ (dFirmware2.life.handover = 1) ∧ (dFirmware2.st.ticks = false) ∧
    (imageResult dFirmware2.life.keyHash dFirmware2.life.rollback (dFirmware2.slot (1 - dFirmware2.life.active)) = 0) :=
  by decide +kernel

def dFirmware3 : Dev :=
  { w0 with life := { w0.life with handover := 1 } }
theorem test_witness_Firmware_3 :
    dFirmware3.wf ∧ (dFirmware3.life.handover = 1) :=
  by decide +kernel

def dFirmware4 : Dev :=
  w0
theorem test_witness_Firmware_4 :
    dFirmware4.wf ∧ (dFirmware4.life.confirmed = false) ∧ (dFirmware4.life.handover = 0) :=
  by decide +kernel

def dFirmware5 : Dev :=
  { w0 with life := { w0.life with boot := 6 } }
theorem test_witness_Firmware_5 :
    dFirmware5.wf ∧ (6 ≤ dFirmware5.life.boot) ∧ (dFirmware5.life.confirmed = false) ∧ (dFirmware5.life.handover = 0) :=
  by decide +kernel

def dStoresAndFuses1 : Dev :=
  w0
theorem test_witness_StoresAndFuses_1 :
    dStoresAndFuses1.wf ∧ (dStoresAndFuses1.life.saving = none) :=
  by decide +kernel

def dStoresAndFuses2 : Dev :=
  { w0 with life := { w0.life with saving := some [] } }
theorem test_witness_StoresAndFuses_2 :
    dStoresAndFuses2.wf ∧ (dStoresAndFuses2.life.saving = some ([] : List Saved)) :=
  by decide +kernel

def dStoresAndFuses3 : Dev :=
  { w0 with st := .standby }
theorem test_witness_StoresAndFuses_3 :
    dStoresAndFuses3.wf ∧ ((3 : Nat) < 16) ∧
    (bitAt (3 : Nat) 1 = false ∨ bitAt (3 : Nat) 0 = true ∨ bitAt dStoresAndFuses3.life.fuses 0 = true) ∧
    (dStoresAndFuses3.st = .standby) :=
  by decide +kernel

-- Obligations.TollSupplyAndReload

def dTollSupply1 : Dev :=
  w0
theorem test_witness_TollSupply_1 :
    dTollSupply1.wf ∧ (dTollSupply1.held = false) :=
  by decide +kernel

def dTollSupply2 : Dev :=
  w0
theorem test_witness_TollSupply_2 :
    dTollSupply2.wf ∧ (dTollSupply2.st.ticks = false) :=
  by decide +kernel

def dTollSupply3 : Dev :=
  { w0 with st := .ranging }
theorem test_witness_TollSupply_3 :
    dTollSupply3.wf ∧ (dTollSupply3.st.ticks = true) :=
  by decide +kernel

def dTollSupply4 : Dev :=
  { w0 with toll := { w0.toll with vddOk := false } }
theorem test_witness_TollSupply_4 :
    dTollSupply4.wf ∧ (dTollSupply4.toll.vddOk = false) :=
  by decide +kernel

def dTollSupply5 : Dev :=
  w0
theorem test_witness_TollSupply_5 :
    dTollSupply5.wf ∧ (dTollSupply5.toll.logic.testing = true) ∧ (dTollSupply5.logicRuns = true) ∧ (dTollSupply5.procRuns = true) ∧
    (dTollSupply5.st.ticks = false) ∧ (dTollSupply5.life.boot < 5) :=
  by decide +kernel

def dTollSupply6 : Dev :=
  w0
theorem test_witness_TollSupply_6 :
    dTollSupply6.wf ∧ (((true : Bool) && (false : Bool)) = false) ∧ (dTollSupply6.toll.logic.testing = true) ∧
    (dTollSupply6.logicRuns = true) ∧ (dTollSupply6.procRuns = true) :=
  by decide +kernel

def dTollSupply7 : Dev :=
  { w0 with st := .standby, life := { w0.life with confirmed := true } }
theorem test_witness_TollSupply_7 :
    dTollSupply7.wf ∧ (dTollSupply7.st = .standby ∨ dTollSupply7.st = .safeHold) ∧ (dTollSupply7.life.confirmed = true) :=
  by decide +kernel

def dTollSupply8 : Dev :=
  w0
theorem test_witness_TollSupply_8 :
    dTollSupply8.wf ∧ (dTollSupply8.st ≠ .standby) ∧ (dTollSupply8.st ≠ .safeHold) :=
  by decide +kernel

-- Obligations.ArmingAndEmitterFault

def dArming1 : Dev :=
  { w0 with led := { w0.led with actCyc := some 100 } }.set F.LEDGER_STATUS.HOLDOFF 1 |>.set F.CLK_STATUS.PLL_LOCK 1
theorem test_witness_Arming_1 :
    dArming1.wf ∧ (dArming1.led.actCyc = some (100 : Nat)) ∧ (dArming1.flag F.LEDGER_STATUS.HOLDOFF = true) ∧ (dArming1.rootRuns = true) :=
  by decide +kernel

def dArming2 : Dev :=
  { w0 with led := { w0.led with arming := 1 } }
theorem test_witness_Arming_2 :
    dArming2.wf ∧ (dArming2.led.arming = 1) :=
  by decide +kernel

def dArming3 : Dev :=
  { w0 with led := { w0.led with arming := 1 } }
theorem test_witness_Arming_3 :
    dArming3.wf ∧ (dArming3.led.arming = 1) :=
  by decide +kernel

def dArming4 : Dev :=
  { w0 with led := { w0.led with arming := 2 } }
theorem test_witness_Arming_4 :
    dArming4.wf ∧ (dArming4.led.arming = 2) :=
  by decide +kernel

def dArming5 : Dev :=
  { w0 with led := { w0.led with arming := 2 } }
theorem test_witness_Arming_5 :
    dArming5.wf ∧ (dArming5.led.arming = 2) :=
  by decide +kernel

def dArming6 : Dev :=
  { w0 with led := { w0.led with arming := 3 } }
theorem test_witness_Arming_6 :
    dArming6.wf ∧ (dArming6.led.arming = 3) :=
  by decide +kernel

def dArming7 : Dev :=
  w0
theorem test_witness_Arming_7 :
    dArming7.wf ∧ (dArming7.laserOff) :=
  by decide +kernel

def dEmitterFault1 : Dev :=
  { w0 with life := { w0.life with boot := 4 } }.set F.EM_FAULT_COUNT (2 ^ 32 - 1)
theorem test_witness_EmitterFault_1 :
    dEmitterFault1.wf ∧ (dEmitterFault1.flag F.EM_STATUS.EM_FAULT = false) ∧ (4 ≤ dEmitterFault1.life.boot) :=
  by decide +kernel

def dEmitterFault2 : Dev :=
  w0.set F.EM_STATUS.EM_FAULT 1
theorem test_witness_EmitterFault_2 :
    dEmitterFault2.wf ∧ (dEmitterFault2.flag F.EM_STATUS.EM_FAULT = true) :=
  by decide +kernel

-- Obligations.StateRequestsAndRoles

def dStateRequests1 : Dev :=
  { w0 with st := .degraded }
theorem test_witness_StateRequests_1 :
    dStateRequests1.wf ∧ (dStateRequests1.st = .ranging ∨ dStateRequests1.st = .degraded) ∧ ((2 : Nat) = 1 ∨ (2 : Nat) = 2) :=
  by decide +kernel

def dStateRequests2 : Dev :=
  { w0 with st := .standby, held := false, life := { w0.life with boot := 6 } }.set F.CLK_STATUS.FALLBACK 1 |>.set F.STEWARD_STATUS.STANDBY_READY 1 |>.set F.DRV_CTRL.AXES 1
theorem test_witness_StateRequests_2 :
    dStateRequests2.wf ∧ (dStateRequests2.st = .standby) ∧ (dStateRequests2.diagnostic = true) ∧ (dStateRequests2.axes ≠ 0) ∧
    (dStateRequests2.droverLocked = false) :=
  by decide +kernel

def dStateRequests3 : Dev :=
  { w0 with st := .safeHold }
theorem test_witness_StateRequests_3 :
    dStateRequests3.wf ∧ (dStateRequests3.st = .safeHold) ∧ ((dStateRequests3.set F.DEV_STATE.REQUEST 1).causesClear = true) ∧
    (dStateRequests3.causesClear = true) :=
  by decide +kernel

def dStateRequests4 : Dev :=
  w0
theorem test_witness_StateRequests_4 :
    dStateRequests4.wf ∧ ((7 : Nat) = 0 ∨ 4 ≤ (7 : Nat) ∧ (7 : Nat) < 8) :=
  by decide +kernel

-- Obligations.DroverControlTick

def dControlTick1 : Dev :=
  { w0 with held := false }.set F.CLK_STATUS.PLL_LOCK 1 |>.set F.GATE_STATE.RUNNING (2 ^ 18) |>.set F.DRV_TICK.PERIOD 5000
theorem test_witness_ControlTick_1 :
    dControlTick1.wf ∧ (dControlTick1.drvRuns = true) ∧ (dControlTick1.axes = 0) ∧ (dControlTick1.dues = []) ∧
    (dControlTick1.flag F.DRV_STATUS.LOCKED = false) :=
  by decide +kernel

def dControlTick4 : Dev :=
  { w0 with drv := { w0.drv with phase := 3, u := [-512, 1024] } }
theorem test_witness_ControlTick_4 :
    dControlTick4.wf ∧ (dControlTick4.drv.phase = 3) ∧ (dControlTick4.flag F.DRVSPI_CFG.EN = false) :=
  by decide +kernel

def dControlTick5 : Dev :=
  { w0 with drv := { w0.drv with phase := 4, spi := [5] } }
theorem test_witness_ControlTick_5 :
    dControlTick5.wf ∧ (dControlTick5.drv.phase = 4) :=
  by decide +kernel

def dControlTick6 : Dev :=
  { w0 with held := false }.set F.CLK_STATUS.PLL_LOCK 1 |>.set F.GATE_STATE.RUNNING (2 ^ 18) |>.set F.DRV_TICK.PERIOD 5000 |>.set F.DRV_CTRL.AXES 2 |>.set F.DRV_CTRL.MODE 1
theorem test_witness_ControlTick_6 :
    dControlTick6.wf ∧ (dControlTick6.drvRuns = true) ∧ (dControlTick6.dues = []) :=
  by decide +kernel

def dControlTick7 : Dev :=
  { w0 with drv := { w0.drv with phase := 1, tick := { w0.drv.tick with axes := 1 } }, tabs := [(0x7007, { b0 := [2, 1] })] }
theorem test_witness_ControlTick_7 :
    dControlTick7.wf ∧ (dControlTick7.drv.phase = 1) ∧ (dControlTick7.sized) :=
  by decide +kernel

def dControlTick8 : Dev :=
  { w0 with drv := { w0.drv with phase := 2, tick := { w0.drv.tick with axes := 2, manual := [7, -7] } } }.set F.DRV_STATUS.MODE_ACTIVE 1
theorem test_witness_ControlTick_8 :
    dControlTick8.wf ∧ (dControlTick8.drv.phase = 2) :=
  by decide +kernel

-- Obligations.DroverRegistersAreWritten

def dDroverWrites1 : Dev :=
  { w0 with st := .standby }.set F.GATE_STATE.RUNNING (2 ^ 18)
theorem test_witness_DroverWrites_1 :
    dDroverWrites1.wf ∧ (dDroverWrites1.runs 18 = true) ∧ (dDroverWrites1.st = .standby) :=
  by decide +kernel

def dDroverWrites2 : Dev :=
  w0.set F.GATE_STATE.RUNNING (2 ^ 18)
theorem test_witness_DroverWrites_2 :
    dDroverWrites2.wf ∧ (dDroverWrites2.runs 18 = true) :=
  by decide +kernel

def dDroverWrites3 : Dev :=
  w0.set F.GATE_STATE.RUNNING (2 ^ 18)
theorem test_witness_DroverWrites_3 :
    dDroverWrites3.wf ∧ (dDroverWrites3.runs 18 = true) ∧ (dDroverWrites3.get F.DRV_STATUS.MODE_ACTIVE = 0) ∧
    (((dDroverWrites3.writeNow F.DRV_TICK.PERIOD ((0x00642710 : Word).toNat % 65536)).writeNow F.DRV_TICK.SENSE_DELAY ((0x00642710 : Word).toNat / 65536 % 4096)).projected.drvFits = true) :=
  by decide +kernel

def dDroverWrites4 : Dev :=
  w0.set F.GATE_STATE.RUNNING (2 ^ 18) |>.set F.DRV_STATUS.MODE_ACTIVE 1
theorem test_witness_DroverWrites_4 :
    dDroverWrites4.wf ∧ (dDroverWrites4.runs 18 = true) ∧ (dDroverWrites4.get F.DRV_STATUS.MODE_ACTIVE ≠ 0) :=
  by decide +kernel

def dDroverWrites5 : Dev :=
  w0.set F.GATE_STATE.RUNNING (2 ^ 18)
theorem test_witness_DroverWrites_5 :
    dDroverWrites5.wf ∧ (dDroverWrites5.runs 18 = true) :=
  by decide +kernel

def dDroverWrites6 : Dev :=
  { w0 with st := .scan }.set F.GATE_STATE.RUNNING (2 ^ 18)
theorem test_witness_DroverWrites_6 :
    dDroverWrites6.wf ∧ (dDroverWrites6.runs 18 = true) ∧ (dDroverWrites6.st = .scan ∨ (0x203 : Word).toNat % 4 = 0) :=
  by decide +kernel

def dDroverWrites7 : Dev :=
  { w0 with drv := { w0.drv with testI := 9 } }.set F.DRV_STATUS.TEST_RUN 1 |>.set F.DRV_TEST_LEN 9
theorem test_witness_DroverWrites_7 :
    dDroverWrites7.wf ∧ (dDroverWrites7.flag F.DRV_STATUS.TEST_RUN = true) ∧ (dDroverWrites7.get F.DRV_TEST_LEN ≠ 0) ∧
    (dDroverWrites7.get F.DRV_TEST_LEN ≤ dDroverWrites7.drv.testI) :=
  by decide +kernel

def dDroverWrites8 : Dev :=
  w0
theorem test_witness_DroverWrites_8 :
    dDroverWrites8.wf ∧ (dDroverWrites8.runs 18 = false) :=
  by decide +kernel

-- Obligations.ConverterSequences

def dSequences1 : Dev :=
  w0.set (F.ADC_TIMER 1) 4 |>.set (F.ADC_CTRL.EN 1) 1 |>.set (F.ADC_SEQ2.SRC 1) 1 |>.set F.GATE_STATE.RUNNING (2 ^ 19 + 2 ^ 20) |>.set F.CLK_STATUS.PLL_LOCK 1
theorem test_witness_Sequences_1 :
    dSequences1.wf ∧ (dSequences1.sized) ∧ (4 ≤ dSequences1.get (F.ADC_TIMER (1 : Fin 2))) ∧
    (dSequences1.flag (F.ADC_CTRL.EN (1 : Fin 2)) = true) ∧ (∀ k < 4, (dSequences1.seqCfg (1 : Fin 2) k).src = 1 ↔ k = (2 : Fin 4).val) ∧
    ((dSequences1.seqRun (1 : Fin 2) (2 : Fin 4)).running = false) ∧ ((dSequences1.seqRun (1 : Fin 2) (2 : Fin 4)).waiting = false) ∧
    (dSequences1.convRuns (1 : Fin 2) = true) ∧
    (dSequences1.seqBarred (1 : Fin 2) (dSequences1.seqCfg (1 : Fin 2) (2 : Fin 4)).input = false) :=
  by decide +kernel

def dSequences2 : Dev :=
  w0.set F.GATE_STATE.RUNNING (2 ^ 20) |>.set (F.ADC_CTRL.EN 1) 1 |>.set (F.ADC_SEQ3.SRC 1) 5
theorem test_witness_Sequences_2 :
    dSequences2.wf ∧ (dSequences2.sized) ∧ (dSequences2.runs (19 + (1 : Fin 2)) = true) ∧
    (dSequences2.flag (F.ADC_CTRL.EN (1 : Fin 2)) = true) ∧ ((dSequences2.seqCfg (1 : Fin 2) (3 : Fin 4)).src ≠ 0) ∧
    ((dSequences2.seqRun (1 : Fin 2) (3 : Fin 4)).running = false) ∧ ((dSequences2.seqRun (1 : Fin 2) (3 : Fin 4)).waiting = false) ∧
    (dSequences2.seqBarred (1 : Fin 2) (dSequences2.seqCfg (1 : Fin 2) (3 : Fin 4)).input = false) :=
  by decide +kernel

def dSequences3 : Dev :=
  w0.set F.GATE_STATE.RUNNING (2 ^ 19) |>.set (F.ADC_CTRL.EN 0) 1 |>.set (F.ADC_SEQ1.SRC 0) 5 |>.set F.ADC_MON.EN 1
theorem test_witness_Sequences_3 :
    dSequences3.wf ∧ (dSequences3.sized) ∧ (dSequences3.runs (19 + (0 : Fin 2)) = true) ∧
    (dSequences3.seqBarred (0 : Fin 2) (dSequences3.seqCfg (0 : Fin 2) (1 : Fin 4)).input = true) :=
  by decide +kernel

def dSequences4 : Dev :=
  { w0 with conv := [{ seqs := [{ running := true }, {}, {}, {}] }, {}] }.set F.GATE_STATE.RUNNING (2 ^ 19) |>.set (F.ADC_CTRL.EN 0) 1 |>.set (F.ADC_SEQ0.SRC 0) 5
theorem test_witness_Sequences_4 :
    dSequences4.wf ∧ (dSequences4.sized) ∧ (dSequences4.runs (19 + (0 : Fin 2)) = true) ∧
    (dSequences4.flag (F.ADC_CTRL.EN (0 : Fin 2)) = true) ∧ ((dSequences4.seqCfg (0 : Fin 2) (0 : Fin 4)).src ≠ 0) ∧
    ((dSequences4.seqRun (0 : Fin 2) (0 : Fin 4)).running = true ∨ (dSequences4.seqRun (0 : Fin 2) (0 : Fin 4)).waiting = true) ∧
    (dSequences4.seqBarred (0 : Fin 2) (dSequences4.seqCfg (0 : Fin 2) (0 : Fin 4)).input = false) :=
  by decide +kernel

def dSequences6 : Dev :=
  { w0 with conv := [{ seqs := [{ running := true, left := 1 }, {}, {}, {}] }, {}] }.set F.GATE_STATE.RUNNING (2 ^ 19 + 2 ^ 20) |>.set F.CLK_STATUS.PLL_LOCK 1
theorem test_witness_Sequences_6 :
    dSequences6.wf ∧ (dSequences6.sized) ∧ ((dSequences6.seqRun (0 : Fin 2) (0 : Fin 4)).running = true) ∧
    ((dSequences6.seqRun (0 : Fin 2) (0 : Fin 4)).cont = false) ∧ (dSequences6.convRuns (0 : Fin 2) = true) :=
  by decide +kernel

def dSequences7 : Dev :=
  { w0 with conv := [{}, { seqs := [{}, { waiting := true, input := 9, left := 3, due := 40 }, { waiting := true }, {}] }] }.set F.GATE_STATE.RUNNING (2 ^ 19 + 2 ^ 20) |>.set F.CLK_STATUS.PLL_LOCK 1
theorem test_witness_Sequences_7 :
    dSequences7.wf ∧ (dSequences7.sized) ∧ ((dSequences7.seqRun (1 : Fin 2) (1 : Fin 4)).waiting = true) ∧
    ((dSequences7.convN (1 : Fin 2)).seqs.any (·.running) = false) ∧
    (∀ k < (1 : Fin 4).val, (dSequences7.seqRun (1 : Fin 2) k).waiting = false) ∧ (dSequences7.convRuns (1 : Fin 2) = true) :=
  by decide +kernel

def dSequences8 : Dev :=
  { w0 with conv := [{}, { seqs := [{}, { waiting := true, input := 9, left := 3, due := 40 }, { running := true, cont := true }, {}] }] }.set F.GATE_STATE.RUNNING (2 ^ 19 + 2 ^ 20) |>.set F.CLK_STATUS.PLL_LOCK 1
theorem test_witness_Sequences_8 :
    dSequences8.wf ∧ (dSequences8.sized) ∧ ((dSequences8.seqRun (1 : Fin 2) (1 : Fin 4)).waiting = true) ∧
    ((dSequences8.seqRun (1 : Fin 2) (1 : Fin 4)).running = false) ∧
    ((dSequences8.convN (1 : Fin 2)).seqs.any (fun q => q.running && q.cont) = true) ∧ (dSequences8.convRuns (1 : Fin 2) = true) :=
  by decide +kernel

def dSequences9 : Dev :=
  { w0 with conv := [{ seqs := [{}, {}, {}, { running := true, cont := true, input := 4 }] }, {}] }.set F.GATE_STATE.RUNNING (2 ^ 19 + 2 ^ 20) |>.set F.CLK_STATUS.PLL_LOCK 1 |>.set (F.ADC_SEQ3.SRC 0) 5
theorem test_witness_Sequences_9 :
    dSequences9.wf ∧ (dSequences9.sized) ∧ ((dSequences9.seqRun (0 : Fin 2) (3 : Fin 4)).running = true) ∧
    ((dSequences9.seqRun (0 : Fin 2) (3 : Fin 4)).cont = true) ∧ ((dSequences9.seqCfg (0 : Fin 2) (3 : Fin 4)).src ≠ 0) ∧
    (dSequences9.convRuns (0 : Fin 2) = true) :=
  by decide +kernel

-- Obligations.AcquisitionUnits

def dAcquisition2 : Dev :=
  w0.set F.GATE_STATE.RUNNING (2 ^ 21)
theorem test_witness_Acquisition_2 :
    dAcquisition2.wf ∧ (dAcquisition2.sized) ∧ (dAcquisition2.runs 21 = true) ∧ ((dAcquisition2.unit (3 : Fin 4)).armed = false) ∧
    (dAcquisition2.acqBuf (3 : Fin 4) < dAcquisition2.acqNeed (3 : Fin 4)) ∧ (dAcquisition2.flag (F.ACQ_CTRL.SPILL (3 : Fin 4)) = false) :=
  by decide +kernel

def dCapture1 : Dev :=
  w0.set F.GATE_STATE.RUNNING (2 ^ 21) |>.set (F.ACQ_BUFSIZE 3) 1
theorem test_witness_Capture_1 :
    dCapture1.wf ∧ (dCapture1.sized) ∧ (dCapture1.runs 21 = true) ∧ ((dCapture1.unit (3 : Fin 4)).armed = false) ∧
    (dCapture1.acqNeed (3 : Fin 4) ≤ dCapture1.acqBuf (3 : Fin 4) ∨ (dCapture1.flag (F.ACQ_CTRL.SPILL (3 : Fin 4)) = true ∧ dCapture1.get (F.ACQ_PRE (3 : Fin 4)) * srcWords (dCapture1.acqSrc (3 : Fin 4)) + 16 ≤ dCapture1.acqBuf (3 : Fin 4))) :=
  by decide +kernel

def dCapture3 : Dev :=
  { w0 with acq := { w0.acq with units := [{}, { armed := true, capturing := true }, {}, {}] } }.set F.GATE_STATE.RUNNING (2 ^ 21) |>.set (F.ACQ_CTRL.SOURCE 1) 2
theorem test_witness_Capture_3 :
    dCapture3.wf ∧ (dCapture3.sized) ∧ (dCapture3.runs 21 = true) ∧ ((dCapture3.unit (1 : Fin 4)).armed = true) :=
  by decide +kernel

def dCapture4 : Dev :=
  { w0 with acq := { w0.acq with units := [{ armed := true }, {}, {}, {}] } }.set F.GATE_STATE.RUNNING (2 ^ 21) |>.set (F.ACQ_CTRL.SOURCE 0) 3 |>.set (F.ACQ_TRIGMASK 0) (2 ^ 16)
theorem test_witness_Capture_4 :
    dCapture4.wf ∧ (dCapture4.sized) ∧ (dCapture4.runs 21 = true) ∧ ((dCapture4.unit (0 : Fin 4)).armed = true) ∧
    (dCapture4.acqSrc (0 : Fin 4) = 2 ∨ dCapture4.acqSrc (0 : Fin 4) = 3) ∧ (bitAt (dCapture4.get (F.ACQ_TRIGMASK (0 : Fin 4))) 16 = true) :=
  by decide +kernel

def dCapture5 : Dev :=
  { w0 with acq := { w0.acq with units := [{ armed := true }, {}, {}, {}] } }.set F.GATE_STATE.RUNNING (2 ^ 19 + 2 ^ 20 + 2 ^ 21) |>.set F.CLK_STATUS.PLL_LOCK 1 |>.set (F.ACQ_CTRL.SOURCE 0) 2 |>.set (F.ACQ_TRIGMASK 0) (2 ^ 20)
theorem test_witness_Capture_5 :
    dCapture5.wf ∧ (dCapture5.sized) ∧ ((20 : Nat) < 21) ∧ ((dCapture5.unit (0 : Fin 4)).armed = true) ∧
    (dCapture5.acqSrc (0 : Fin 4) = 2 ∨ dCapture5.acqSrc (0 : Fin 4) = 3) ∧
    (bitAt (dCapture5.get (F.ACQ_TRIGMASK (0 : Fin 4))) (20 : Nat) = true) ∧ (dCapture5.acqRuns = true) :=
  by decide +kernel

def dCapture6 : Dev :=
  { w0 with acq := { w0.acq with units := [{}, {}, { armed := true, capturing := true, rflags := 2 }, {}] } }.set F.GATE_STATE.RUNNING (2 ^ 19 + 2 ^ 20 + 2 ^ 21) |>.set F.CLK_STATUS.PLL_LOCK 1 |>.set (F.ACQ_CTRL.SOURCE 2) 4
theorem test_witness_Capture_6 :
    dCapture6.wf ∧ (dCapture6.sized) ∧ ((dCapture6.unit (2 : Fin 4)).armed = true) ∧ ((dCapture6.unit (2 : Fin 4)).capturing = true) ∧
    ((dCapture6.unit (2 : Fin 4)).postLeft = 0) ∧ (2 ≤ dCapture6.acqSrc (2 : Fin 4)) ∧ (dCapture6.acqRuns = true) :=
  by decide +kernel

def dCapture7 : Dev :=
  { w0 with acq := { w0.acq with units := [{}, { armed := true, closed := true }, {}, {}] } }.set F.GATE_STATE.RUNNING (2 ^ 19 + 2 ^ 20 + 2 ^ 21) |>.set F.CLK_STATUS.PLL_LOCK 1 |>.set (F.ACQ_CTRL.SOURCE 1) 3 |>.set (F.ACQ_CTRL.MODE 1) 1
theorem test_witness_Capture_7 :
    dCapture7.wf ∧ (dCapture7.sized) ∧ ((dCapture7.unit (1 : Fin 4)).armed = true) ∧ ((dCapture7.unit (1 : Fin 4)).closed = true) ∧
    ((dCapture7.unit (1 : Fin 4)).capturing = false) ∧ (2 ≤ dCapture7.acqSrc (1 : Fin 4)) ∧
    (dCapture7.flag (F.ACQ_CTRL.HOLD_MODE (1 : Fin 4)) = false) ∧
    (dCapture7.get (F.ACQ_PRE (1 : Fin 4)) ≤ (dCapture7.unit (1 : Fin 4)).after) ∧ ((dCapture7.unit (1 : Fin 4)).freeT = none) ∧
    ((dCapture7.unit (1 : Fin 4)).trigT + dCapture7.get (F.ACQ_HOLD (1 : Fin 4)) ≤ dCapture7.nowNs) ∧ (dCapture7.acqRuns = true) :=
  by decide +kernel

def dCapture8 : Dev :=
  { w0 with acq := { w0.acq with units := [{}, {}, {}, { fifo := 256, gap := 3 }] } }.set F.GATE_STATE.RUNNING (2 ^ 19 + 2 ^ 20 + 2 ^ 21) |>.set F.CLK_STATUS.PLL_LOCK 1
theorem test_witness_Capture_8 :
    dCapture8.wf ∧ (dCapture8.sized) ∧ (0 < (20 : Nat)) ∧ ((dCapture8.unit (3 : Fin 4)).fifo ≠ 0) ∧ (dCapture8.acqRuns = true) :=
  by decide +kernel

def dCapture9 : Dev :=
  { w0 with acq := { w0.acq with units := [{}, {}, {}, { armed := true }] } }.set F.GATE_STATE.RUNNING (2 ^ 19 + 2 ^ 20 + 2 ^ 21) |>.set F.CLK_STATUS.PLL_LOCK 1 |>.set (F.ACQ_CTRL.SOURCE 3) 1 |>.set (F.ACQ_POST 3) 4 |>.set (F.ACQ_TRIGMASK 3) (2 ^ 16)
theorem test_witness_Capture_9 :
    dCapture9.wf ∧ (dCapture9.sized) ∧ (dCapture9.acqRuns = true) ∧ ((dCapture9.unit (3 : Fin 4)).armed = true) ∧
    (dCapture9.acqSrc (3 : Fin 4) < 2) ∧ (dCapture9.convRuns (dCapture9.acqSrc (3 : Fin 4)) = true) ∧
    ((dCapture9.convN (dCapture9.acqSrc (3 : Fin 4))).slot = false) ∧ ((dCapture9.convN (dCapture9.acqSrc (3 : Fin 4))).queue = []) ∧
    ((dCapture9.convN (dCapture9.acqSrc (3 : Fin 4))).seqs.any (·.running) = false) ∧
    ((dCapture9.convN (dCapture9.acqSrc (3 : Fin 4))).t = instantAt dCapture9.cyc) ∧
    ((dCapture9.unit (3 : Fin 4)).armC ≤ dCapture9.cyc) ∧ ((dCapture9.unit (3 : Fin 4)).pend = []) ∧
    ((dCapture9.unit (3 : Fin 4)).capturing = false) ∧ ((dCapture9.unit (3 : Fin 4)).closed = false) ∧
    (0 < dCapture9.get (F.ACQ_POST (3 : Fin 4))) ∧ (bitAt (dCapture9.get (F.ACQ_TRIGMASK (3 : Fin 4))) 16 = true) :=
  by decide +kernel

def dCapture10 : Dev :=
  { w0 with acq := { w0.acq with units := [{}, {}, {}, { armed := true }] } }.set F.GATE_STATE.RUNNING (2 ^ 19 + 2 ^ 20 + 2 ^ 21) |>.set F.CLK_STATUS.PLL_LOCK 1 |>.set (F.ACQ_CTRL.SOURCE 3) 1 |>.set (F.ACQ_POST 3) 4 |>.set (F.ACQ_TRIGMASK 3) (2 ^ 20)
theorem test_witness_Capture_10 :
    dCapture10.wf ∧ (dCapture10.sized) ∧ (dCapture10.acqRuns = true) ∧ ((dCapture10.unit (3 : Fin 4)).armed = true) ∧
    (dCapture10.acqSrc (3 : Fin 4) < 2) ∧ (dCapture10.convRuns (dCapture10.acqSrc (3 : Fin 4)) = true) ∧
    ((dCapture10.convN (dCapture10.acqSrc (3 : Fin 4))).slot = false) ∧ ((dCapture10.convN (dCapture10.acqSrc (3 : Fin 4))).queue = []) ∧
    ((dCapture10.convN (dCapture10.acqSrc (3 : Fin 4))).seqs.any (·.running) = false) ∧
    ((dCapture10.convN (dCapture10.acqSrc (3 : Fin 4))).t = instantAt dCapture10.cyc) ∧
    ((dCapture10.unit (3 : Fin 4)).armC ≤ dCapture10.cyc) ∧ ((dCapture10.unit (3 : Fin 4)).pend = []) ∧ ((20 : Nat) < 21) ∧
    ((dCapture10.unit (3 : Fin 4)).capturing = false) ∧ ((dCapture10.unit (3 : Fin 4)).closed = false) ∧
    (0 < dCapture10.get (F.ACQ_POST (3 : Fin 4))) ∧ (bitAt (dCapture10.get (F.ACQ_TRIGMASK (3 : Fin 4))) (20 : Nat) = true) :=
  by decide +kernel

def dCapture11 : Dev :=
  { w0 with acq := { w0.acq with units := [{ armed := true, capturing := true, postLeft := 2 }, {}, {}, {}] } }.set F.GATE_STATE.RUNNING (2 ^ 19 + 2 ^ 20 + 2 ^ 21) |>.set F.CLK_STATUS.PLL_LOCK 1 |>.set (F.ACQ_TRIGMASK 0) 1
theorem test_witness_Capture_11 :
    dCapture11.wf ∧ (dCapture11.sized) ∧ (dCapture11.acqRuns = true) ∧ ((dCapture11.unit (0 : Fin 4)).armed = true) ∧
    (dCapture11.acqSrc (0 : Fin 4) < 2) ∧ (dCapture11.convRuns (dCapture11.acqSrc (0 : Fin 4)) = true) ∧
    ((dCapture11.convN (dCapture11.acqSrc (0 : Fin 4))).slot = false) ∧ ((dCapture11.convN (dCapture11.acqSrc (0 : Fin 4))).queue = []) ∧
    ((dCapture11.convN (dCapture11.acqSrc (0 : Fin 4))).seqs.any (·.running) = false) ∧
    ((dCapture11.convN (dCapture11.acqSrc (0 : Fin 4))).t = instantAt dCapture11.cyc) ∧
    ((dCapture11.unit (0 : Fin 4)).armC ≤ dCapture11.cyc) ∧ ((dCapture11.unit (0 : Fin 4)).pend = []) ∧ ((0 : Nat) < 21) ∧
    ((dCapture11.unit (0 : Fin 4)).capturing = true) ∧ (0 < (dCapture11.unit (0 : Fin 4)).postLeft) ∧
    (bitAt (dCapture11.get (F.ACQ_TRIGMASK (0 : Fin 4))) (0 : Nat) = true) :=
  by decide +kernel

def dCapture12 : Dev :=
  { w0 with acq := { w0.acq with units := [{ armed := true, capturing := true, postLeft := 2 }, {}, {}, {}] } }.set F.GATE_STATE.RUNNING (2 ^ 19 + 2 ^ 20 + 2 ^ 21) |>.set F.CLK_STATUS.PLL_LOCK 1
theorem test_witness_Capture_12 :
    dCapture12.wf ∧ (dCapture12.sized) ∧ (dCapture12.acqRuns = true) ∧ ((dCapture12.unit (0 : Fin 4)).armed = true) ∧
    (dCapture12.acqSrc (0 : Fin 4) < 2) ∧ (dCapture12.convRuns (dCapture12.acqSrc (0 : Fin 4)) = true) ∧
    ((dCapture12.convN (dCapture12.acqSrc (0 : Fin 4))).slot = false) ∧ ((dCapture12.convN (dCapture12.acqSrc (0 : Fin 4))).queue = []) ∧
    ((dCapture12.convN (dCapture12.acqSrc (0 : Fin 4))).seqs.any (·.running) = false) ∧
    ((dCapture12.convN (dCapture12.acqSrc (0 : Fin 4))).t = instantAt dCapture12.cyc) ∧
    ((dCapture12.unit (0 : Fin 4)).armC ≤ dCapture12.cyc) ∧ ((dCapture12.unit (0 : Fin 4)).pend = []) ∧
    ((dCapture12.unit (0 : Fin 4)).capturing = true) :=
  by decide +kernel

-- Obligations.InterpolatorsLockAndCalibrate

def dInterpolators1 : Dev :=
  w0.set F.CLK_STATUS.PLL_LOCK 1 |>.set F.GATE_STATE.RUNNING (2 ^ 15)
theorem test_witness_Interpolators_1 :
    dInterpolators1.wf ∧ (dInterpolators1.locked (15 : Fin 16) = false) ∧ (dInterpolators1.rootRuns = true) ∧
    (dInterpolators1.cvyRuns (15 : Fin 16) = true) :=
  by decide +kernel

def dInterpolators3 : Dev :=
  { w0 with st := .standby }.set F.GATE_STATE.RUNNING 1
theorem test_witness_Interpolators_3 :
    dInterpolators3.wf ∧ (dInterpolators3.runs (0 : Fin 16) = true) ∧ (dInterpolators3.flag (F.CVY_STATUS.CAL_BUSY (0 : Fin 16)) = false) ∧
    (dInterpolators3.flag (F.TIS_STATUS.BUSY (0 : Fin 16)) = false) ∧ (dInterpolators3.st = .standby) :=
  by decide +kernel

def dInterpolators4 : Dev :=
  { w0 with st := .ranging }.set F.GATE_STATE.RUNNING 1
theorem test_witness_Interpolators_4 :
    dInterpolators4.wf ∧ (dInterpolators4.runs (0 : Fin 16) = true) ∧ (dInterpolators4.flag (F.CVY_STATUS.CAL_BUSY (0 : Fin 16)) = false) ∧
    (dInterpolators4.resting (0 : Fin 16) = false) ∧ (dInterpolators4.st = .ranging) :=
  by decide +kernel

def dInterpolators5 : Dev :=
  { w0 with st := .scan, cvys := [(3, { calWasResting := true })] }.set (F.CVY_STATUS.CAL_BUSY 3) 1
theorem test_witness_Interpolators_5 :
    dInterpolators5.wf ∧ (dInterpolators5.flag (F.CVY_STATUS.CAL_BUSY (3 : Fin 16)) = true) ∧
    ((List.replicate 64 1024 : List Nat).length = 64) ∧
    (∀ x ∈ (List.replicate 64 1024 : List Nat), dInterpolators5.calHits (3 : Fin 16) ≤ 256 * x ∧ 256 * x ≤ 7 * dInterpolators5.calHits (3 : Fin 16)) ∧
    (dInterpolators5.st = .scan) ∧ ((dInterpolators5.cvy (3 : Fin 16)).calWasResting = true) ∧
    ((dInterpolators5.cvy (3 : Fin 16)).returning = false) :=
  by decide +kernel

def dInterpolators6 : Dev :=
  w0.set (F.CVY_STATUS.CAL_BUSY 3) 1
theorem test_witness_Interpolators_6 :
    dInterpolators6.wf ∧ (dInterpolators6.flag (F.CVY_STATUS.CAL_BUSY (3 : Fin 16)) = true) ∧ (([1] : List Nat).length ≠ 64) ∧
    (dInterpolators6.st.ticks = false) :=
  by decide +kernel

def dInterpolators9 : Dev :=
  w0.set (F.CVY_STATUS.LOCKED 15) 1
theorem test_witness_Interpolators_9 :
    dInterpolators9.wf ∧ (dInterpolators9.locked (15 : Fin 16) = true) :=
  by decide +kernel

-- Obligations.StatisticsRunsAndConvoyRest

def dStatisticsRuns1 : Dev :=
  w0.set F.GATE_STATE.RUNNING (2 ^ 15)
theorem test_witness_StatisticsRuns_1 :
    dStatisticsRuns1.wf ∧ (dStatisticsRuns1.runs (15 : Fin 16) = true) ∧ (bitAt (0x8D1F9000 : Word).toNat 31 = true) :=
  by decide +kernel

def dStatisticsRuns2 : Dev :=
  w0.set (F.TIS_STATUS.BUSY 9) 1
theorem test_witness_StatisticsRuns_2 :
    dStatisticsRuns2.wf ∧ (dStatisticsRuns2.flag (F.TIS_STATUS.BUSY (9 : Fin 16)) = true) ∧
    ((dStatisticsRuns2.cvy (9 : Fin 16)).tis.target ≤ (dStatisticsRuns2.cvy (9 : Fin 16)).tis.n) :=
  by decide +kernel

def dStatisticsRuns3 : Dev :=
  { w0 with cvys := [(0, { tis := { target := 1, ticks := 3 } })] }.set (F.TIS_STATUS.BUSY 0) 1 |>.set (F.TIS_TIMEOUT 0) 3
theorem test_witness_StatisticsRuns_3 :
    dStatisticsRuns3.wf ∧ (dStatisticsRuns3.flag (F.TIS_STATUS.BUSY (0 : Fin 16)) = true) ∧
    (dStatisticsRuns3.get (F.TIS_TIMEOUT (0 : Fin 16)) ≠ 0) ∧
    (dStatisticsRuns3.get (F.TIS_TIMEOUT (0 : Fin 16)) ≤ (dStatisticsRuns3.cvy (0 : Fin 16)).tis.ticks) ∧
    ((dStatisticsRuns3.cvy (0 : Fin 16)).tis.n < (dStatisticsRuns3.cvy (0 : Fin 16)).tis.target) :=
  by decide +kernel

def dConvoyRest1 : Dev :=
  { w0 with st := .ranging }.set (F.CVY_STATUS.LOCKED 15) 1
theorem test_witness_ConvoyRest_1 :
    dConvoyRest1.wf ∧ ((0x7FFF : Nat) < 65536) ∧ ((0x7FFF : Nat) = 0 ∨ dConvoyRest1.restLeaves (0x7FFF : Nat) = true) ∧
    (dConvoyRest1.st.ticks = true) :=
  by decide +kernel

def dConvoyRest2 : Dev :=
  w0.set (F.CVY_STATUS.LOCKED 15) 1
theorem test_witness_ConvoyRest_2 :
    dConvoyRest2.wf ∧ ((0xFFFF : Nat) < 65536) ∧ ((0xFFFF : Nat) ≠ 0) ∧ (dConvoyRest2.restLeaves (0xFFFF : Nat) = false) :=
  by decide +kernel

def dConvoyRest3 : Dev :=
  { w0 with st := .ranging }.set F.P.recalPeriod 1
theorem test_witness_ConvoyRest_3 :
    dConvoyRest3.wf ∧ (dConvoyRest3.get F.P.recalPeriod ≠ 0) ∧ (dConvoyRest3.st.armed = true) ∧ (∀ c < 16, dConvoyRest3.resting c = false) ∧
    (dConvoyRest3.cvyRetired ((dConvoyRest3.life.recalLast + 1) % 16) = false) :=
  by decide +kernel

-- Obligations.ComingShotAndIdleSlot

def dComingShot1 : Dev :=
  shotDev
theorem test_witness_ComingShot_1 :
    dComingShot1.wf ∧ (dComingShot1.st.armed = true) ∧ (dComingShot1.seq.prep = false) ∧ (dComingShot1.seq.j < dComingShot1.ns) ∧
    (dComingShot1.seq.acc + dComingShot1.therm.inEffect < 8) ∧ (dComingShot1.emTabs.wb ≠ []) ∧ (dComingShot1.armed = true) ∧
    (dComingShot1.seq.dec.made = false) ∧
    (dComingShot1.emTabs.dark (mfEntry dComingShot1.emTabs.man (wbShot (wbEntry dComingShot1.emTabs.wb dComingShot1.seq.stage) dComingShot1.seq.j)) = false) :=
  by decide +kernel

def dComingShot2 : Dev :=
  shotDev
theorem test_witness_ComingShot_2 :
    dComingShot2.wf ∧ (dComingShot2.st.armed = true) ∧ (dComingShot2.seq.prep = false) ∧ (dComingShot2.seq.j < dComingShot2.ns) ∧
    (dComingShot2.seq.acc + dComingShot2.therm.inEffect < 8) ∧ (dComingShot2.emTabs.wb ≠ []) ∧ (dComingShot2.armed = true) :=
  by decide +kernel

def dComingShot3 : Dev :=
  { shotDev with seq := { shotDev.seq with dec := { made := true, decided := true, logicOk := true, procOk := true } } }.set F.ADC_MON.EN 1
theorem test_witness_ComingShot_3 :
    dComingShot3.wf ∧ (dComingShot3.st.armed = true) ∧ (dComingShot3.seq.prep = false) ∧ (dComingShot3.seq.j < dComingShot3.ns) ∧
    (dComingShot3.seq.acc + dComingShot3.therm.inEffect < 8) ∧ (dComingShot3.emTabs.wb ≠ []) ∧ (dComingShot3.armed = true) ∧
    (dComingShot3.willFire = true) ∧ (dComingShot3.flag F.ADC_MON.EN = true) ∧ (dComingShot3.sized) :=
  by decide +kernel

def dComingShot4 : Dev :=
  { shotDev with seq := { shotDev.seq with dec := { made := true, decided := true, logicOk := true, procOk := true } } }
theorem test_witness_ComingShot_4 :
    dComingShot4.wf ∧ (dComingShot4.st.armed = true) ∧ (dComingShot4.seq.prep = false) ∧ (dComingShot4.seq.j < dComingShot4.ns) ∧
    (dComingShot4.seq.acc + dComingShot4.therm.inEffect < 8) ∧ (dComingShot4.emTabs.wb ≠ []) ∧ (dComingShot4.armed = true) ∧
    (dComingShot4.seq.shot = none) ∧ (dComingShot4.seq.stageDue = false) ∧ (dComingShot4.seq.frameDue = false) ∧
    (dComingShot4.seq.stageLock = false) ∧ (dComingShot4.seq.dec.made = true) :=
  by decide +kernel

def dIdleSlot1 : Dev :=
  { w0 with st := .scan }
theorem test_witness_IdleSlot_1 :
    dIdleSlot1.wf ∧ (dIdleSlot1.st.ticks = true) ∧ (dIdleSlot1.seq.prep = false) ∧ (dIdleSlot1.seq.shot = none) ∧
    (dIdleSlot1.seq.stageDue = false) ∧ (dIdleSlot1.seq.frameDue = false) ∧ (dIdleSlot1.seq.stageLock = false) ∧
    (dIdleSlot1.ns ≤ dIdleSlot1.seq.j) :=
  by decide +kernel

-- Obligations.EdgesWithinAShot

def dStartEdges1 : Dev :=
  { w0 with seq := { w0.seq with shot := some { idle := false, fired := true } } }.set F.EM_CTRL.START0_EN 1 |>.set (F.CVY_STATUS.LOCKED 3) 1 |>.set F.GATE_STATE.RUNNING 8 |>.set F.CLK_STATUS.PLL_LOCK 1 |>.set F.EM_TIMING.START_WIN 1000
theorem test_witness_StartEdges_1 :
    dStartEdges1.wf ∧ (dStartEdges1.seq.shot = some ({ idle := false, fired := true } : Shot)) ∧
    (({ idle := false, fired := true } : Shot).fired = true) ∧ (({ idle := false, fired := true } : Shot).missing = false) ∧
    (({ idle := false, fired := true } : Shot).startSel = (0 : Fin 2).val) ∧
    (dStartEdges1.flag (if (0 : Fin 2).val = 0 then F.EM_CTRL.START0_EN else F.EM_CTRL.START1_EN) = true) ∧
    (dStartEdges1.locked (3 : Fin 16) = true) ∧ (dStartEdges1.resting (3 : Fin 16) = false) ∧
    (dStartEdges1.cvyRetired (3 : Fin 16) = false) ∧ (dStartEdges1.cvyRuns (3 : Fin 16) = true) ∧ (dStartEdges1.rootRuns = true) ∧
    ((dStartEdges1.cvy (3 : Fin 16)).start = none) ∧
    (0 ≤ rhu (1024 * (10 : Nat) + dStartEdges1.nl (3 : Fin 16) (5 : Fin 64) + dStartEdges1.sskew (3 : Fin 16) (0 : Fin 2)) 16) ∧
    (rhu (1024 * (10 : Nat) + dStartEdges1.nl (3 : Fin 16) (5 : Fin 64) + dStartEdges1.sskew (3 : Fin 16) (0 : Fin 2)) 16 < 64 * dStartEdges1.startWin) :=
  by decide +kernel

def dStartEdges2 : Dev :=
  { w0 with seq := { w0.seq with shot := some { idle := false, fired := true } } }
theorem test_witness_StartEdges_2 :
    dStartEdges2.wf ∧ (dStartEdges2.seq.shot = some ({ idle := false, fired := true } : Shot)) ∧
    (({ idle := false, fired := true } : Shot).fired = true) ∧ (({ idle := false, fired := true } : Shot).startSeen = false) ∧
    (({ idle := false, fired := true } : Shot).missing = false) :=
  by decide +kernel

def dStartEdges3 : Dev :=
  { w0 with seq := { w0.seq with shot := some { idle := false, fired := true } } }.set F.ADC_MON.EN 1
theorem test_witness_StartEdges_3 :
    dStartEdges3.wf ∧ (dStartEdges3.seq.shot = some ({ idle := false, fired := true } : Shot)) ∧
    (({ idle := false, fired := true } : Shot).fired = true) ∧ (({ idle := false, fired := true } : Shot).toppedUp = false) ∧
    (dStartEdges3.flag F.ADC_MON.EN = true) :=
  by decide +kernel

def dStartEdges4 : Dev :=
  { w0 with seq := { w0.seq with shot := some {} } }.set (F.CVY_STATUS.LOCKED 15) 1 |>.set F.GATE_STATE.RUNNING (2 ^ 15) |>.set F.CLK_STATUS.PLL_LOCK 1
theorem test_witness_StartEdges_4 :
    dStartEdges4.wf ∧ (dStartEdges4.seq.shot = some ({} : Shot)) ∧ (dStartEdges4.stamps (511 : Fin 512) = true) ∧
    ((dStartEdges4.chan (511 : Fin 512)).openEv = none) ∧ ((dStartEdges4.chan (511 : Fin 512)).lastAcc = none) :=
  by decide +kernel

def dStartEdges5 : Dev :=
  { w0 with seq := { w0.seq with shot := some {} }, chans := [(0, { openEv := some {} })] }.set (F.CVY_STATUS.LOCKED 0) 1 |>.set F.GATE_STATE.RUNNING 1 |>.set F.CLK_STATUS.PLL_LOCK 1
theorem test_witness_StartEdges_5 :
    dStartEdges5.wf ∧ (dStartEdges5.seq.shot = some ({} : Shot)) ∧ (dStartEdges5.stamps (0 : Fin 512) = true) ∧
    ((dStartEdges5.chan (0 : Fin 512)).openEv ≠ none) :=
  by decide +kernel

def dStartEdges6 : Dev :=
  { w0 with seq := { w0.seq with shot := some { idle := false } } }
theorem test_witness_StartEdges_6 :
    dStartEdges6.wf ∧ (dStartEdges6.seq.shot = some ({ idle := false } : Shot)) ∧ (({ idle := false } : Shot).idle = false) :=
  by decide +kernel

def dStartEdges7 : Dev :=
  { w0 with seq := { w0.seq with shot := some { start := 5, len := 2000 } } }.set F.CLK_STATUS.PLL_LOCK 1
theorem test_witness_StartEdges_7 :
    dStartEdges7.wf ∧ (dStartEdges7.seq.shot = some ({ start := 5, len := 2000 } : Shot)) ∧ (dStartEdges7.rootRuns = true) :=
  by decide +kernel

-- Obligations.StageAndFrameTicks

def dStageTick1 : Dev :=
  { w0 with st := .scan, seq := { w0.seq with stageDue := true, prepFrame := true } }
theorem test_witness_StageTick_1 :
    dStageTick1.wf ∧ (dStageTick1.st.ticks = true) ∧ (dStageTick1.seq.stageDue = true) ∧ (dStageTick1.seq.prepFrame = true) :=
  by decide +kernel

def dStageTick2 : Dev :=
  { w0 with st := .scan, seq := { w0.seq with stageDue := true } }
theorem test_witness_StageTick_2 :
    dStageTick2.wf ∧ (dStageTick2.st.ticks = true) ∧ (dStageTick2.seq.stageDue = true) ∧ (dStageTick2.seq.prepFrame = false) ∧
    (dStageTick2.get F.BX_STRING.ROLE ≠ 2) ∧ (dStageTick2.dues = []) :=
  by decide +kernel

def dFrameTick1 : Dev :=
  { w0 with st := .scan, seq := { w0.seq with frameDue := true } }
theorem test_witness_FrameTick_1 :
    dFrameTick1.wf ∧ (dFrameTick1.st = .scan) ∧ (dFrameTick1.seq.frameDue = true) ∧ (dFrameTick1.want = none) :=
  by decide +kernel

def dFrameTick2 : Dev :=
  { w0 with st := .ranging, want := some .standby, wantFixed := some .standby, seq := { w0.seq with frameDue := true } }
theorem test_witness_FrameTick_2 :
    dFrameTick2.wf ∧ (dFrameTick2.st = .ranging) ∧ (dFrameTick2.seq.frameDue = true) ∧ (dFrameTick2.want = some .standby) ∧
    (dFrameTick2.wantFixed = some .standby) :=
  by decide +kernel

def dFrameTick3 : Dev :=
  { w0 with net := { w0.net with fsoHigh := true } }
theorem test_witness_FrameTick_3 :
    dFrameTick3.wf ∧ (dFrameTick3.net.fsoHigh = true) :=
  by decide +kernel

-- Obligations.PacingOfFrames

def dPacing1 : Dev :=
  { w0 with st := .scan, seq := { w0.seq with lastSyncIn := some 5 } }.set F.P.framePacing 2
theorem test_witness_Pacing_1 :
    dPacing1.wf ∧ (dPacing1.seq.lastSyncIn.any (fun p => decide ((1005 : Nat) < p + 1000)) = false) ∧ (dPacing1.st.ticks = true) ∧
    (dPacing1.get F.P.framePacing = 2) :=
  by decide +kernel

def dPacing2 : Dev :=
  { w0 with seq := { w0.seq with lastSyncIn := some 5 } }
theorem test_witness_Pacing_2 :
    dPacing2.wf ∧ (dPacing2.seq.lastSyncIn = some (5 : Nat)) ∧ ((1004 : Nat) < (5 : Nat) + 1000) :=
  by decide +kernel

def dPacing6 : Dev :=
  { w0 with st := .scan, net := { w0.net with nextT := some 9 } }.set F.P.framePacing 1 |>.set F.TB_STATUS.VALID 1 |>.set F.CLK_STATUS.PLL_LOCK 1 |>.set F.TB_CTRL.RUN 1
theorem test_witness_Pacing_6 :
    dPacing6.wf ∧ (dPacing6.net.nextT = some (9 : Nat)) ∧ (dPacing6.get F.P.framePacing = 1) ∧ (dPacing6.timeValid = true) ∧
    (dPacing6.st.ticks = true) ∧ (dPacing6.tbCounts = true ∨ (9 : Nat) ≤ dPacing6.nowNs) ∧ ((9 : Nat) < 2 ^ 78) :=
  by decide +kernel

def dPacing7 : Dev :=
  { w0 with st := .scan, seq := { w0.seq with stageLock := true }, bx := { w0.bx with tickNew := true } }.set F.BX_STRING.ROLE 2 |>.set F.BX_STRING.POSITIONED 1 |>.set F.BX_STRING.LOCK_MODE 2 |>.set F.P.framePacing 3
theorem test_witness_Pacing_7 :
    dPacing7.wf ∧ (dPacing7.st.ticks = true) ∧ (dPacing7.seq.stageLock = true) ∧ (dPacing7.stageLocks = true) ∧
    (dPacing7.bx.tickNew = true) ∧ (dPacing7.nowNs ≤ dPacing7.bx.tickT + dPacing7.get F.BX_STRING.LATENCY) ∧
    (dPacing7.tbCounts = true ∨ dPacing7.nowNs = dPacing7.bx.tickT + dPacing7.get F.BX_STRING.LATENCY) ∧ (dPacing7.bx.tickT < 2 ^ 78) :=
  by decide +kernel

def dPacing8 : Dev :=
  { w0 with st := .scan, seq := { w0.seq with stageLock := true }, bx := { w0.bx with tickNew := true }, tb := { w0.tb with t40 := 2 ^ 50 } }.set F.BX_STRING.ROLE 2 |>.set F.BX_STRING.POSITIONED 1 |>.set F.BX_STRING.LOCK_MODE 2 |>.set F.P.framePacing 3
theorem test_witness_Pacing_8 :
    dPacing8.wf ∧ (dPacing8.st.ticks = true) ∧ (dPacing8.seq.stageLock = true) ∧ (dPacing8.stageLocks = true) ∧
    (dPacing8.bx.tickNew = true) ∧ (dPacing8.bx.tickStage = dPacing8.seq.stage) ∧
    (dPacing8.bx.tickT + dPacing8.get F.BX_STRING.LATENCY + dPacing8.get F.BX_STRING2.SLIP_LIM < dPacing8.nowNs) :=
  by decide +kernel

def dPacing9 : Dev :=
  { w0 with st := .scan }.set F.BX_STRING.ROLE 2 |>.set F.BX_STRING.POSITIONED 1 |>.set F.BX_STRING.LOCK_MODE 1
theorem test_witness_Pacing_9 :
    dPacing9.wf ∧ (dPacing9.get F.BX_STRING.ROLE = 2) ∧ (dPacing9.flag F.BX_STRING.POSITIONED = true) ∧
    (dPacing9.get F.BX_STRING.LOCK_MODE = 1 ∨ dPacing9.get F.BX_STRING.LOCK_MODE = 2) ∧ (dPacing9.bx.tickNew = false) ∧
    (dPacing9.bx.tickLost = false) ∧ (dPacing9.st.ticks = true) :=
  by decide +kernel

-- Obligations.EchoesPointsAndBales

def dEchoAndPoints1 : Dev :=
  { w0 with st := .scan, seq := { w0.seq with prep := true } }
theorem test_witness_EchoAndPoints_1 :
    dEchoAndPoints1.wf ∧ (dEchoAndPoints1.seq.prep = true) ∧ (dEchoAndPoints1.seq.frameDue = false) ∧
    ((dEchoAndPoints1.nextSlot dEchoAndPoints1.ahead).isSome = true) ∧ (dEchoAndPoints1.seq.info.valid = false) :=
  by decide +kernel

def dEchoAndPoints2 : Dev :=
  { w0 with seq := { w0.seq with info := { valid := true } }, recs := [(0, { flags := 2 ^ 14 + 2 ^ 10 })] }
theorem test_witness_EchoAndPoints_2 :
    dEchoAndPoints2.wf ∧ (dEchoAndPoints2.seq.info.valid = true) ∧ (dEchoAndPoints2.recDone (0 : Fin 512) = false) ∧
    (bitAt (Tab.getD dEchoAndPoints2.recs (0 : Fin 512).val {}).flags 14 = true) ∧
    (bitAt (Tab.getD dEchoAndPoints2.recs (0 : Fin 512).val {}).flags 10 = true) :=
  by decide +kernel

def dEchoAndPoints3 : Dev :=
  { w0 with seq := { w0.seq with info := { valid := true } } }
theorem test_witness_EchoAndPoints_3 :
    dEchoAndPoints3.wf ∧ (dEchoAndPoints3.seq.info.valid = true) ∧ (dEchoAndPoints3.recDone (511 : Fin 512) = false) ∧
    (bitAt (Tab.getD dEchoAndPoints3.recs (511 : Fin 512).val {}).flags 14 = false) :=
  by decide +kernel

def dEchoAndPoints4 : Dev :=
  { w0 with st := .ranging, recs := doneRecs, streams := [{ run := true }, {}], seq := { w0.seq with info := { valid := true, regs := [(F.OUT_SCFG.EN 0, 1)] } } }
theorem test_witness_EchoAndPoints_4 :
    dEchoAndPoints4.wf ∧ (dEchoAndPoints4.st.ticks = true) ∧ (dEchoAndPoints4.takesStage 0 = true) ∧
    (∀ k < 512, dEchoAndPoints4.recDone k = true) ∧ ((dEchoAndPoints4.stream 0).block = none) ∧ ((dEchoAndPoints4.stream 0).unit = none) ∧
    (dEchoAndPoints4.sized) :=
  ⟨by decide +kernel, by decide, by decide, fun k hk => by rw [Dev.recDone, show dEchoAndPoints4.recs = doneRecs from rfl, doneRecs_done k hk], by decide, by decide, by decide +kernel⟩

def dEchoAndPoints5 : Dev :=
  { w0 with st := .ranging, streams := [{ run := true, block := some [] }, {}], seq := { w0.seq with info := { valid := true, regs := [(F.OUT_SCFG.EN 0, 1), (F.OUT_SCFG.COMPRESS 0, 1)] } } }
theorem test_witness_EchoAndPoints_5 :
    dEchoAndPoints5.wf ∧ (dEchoAndPoints5.st.ticks = true) ∧ (dEchoAndPoints5.takesStage (0 : Fin 2) = true) ∧
    ((dEchoAndPoints5.stageCfg (0 : Fin 2)).bales = true) ∧ ((dEchoAndPoints5.stream (0 : Fin 2)).unit = none) ∧
    ((dEchoAndPoints5.stream (0 : Fin 2)).block.isSome = true) ∧ (dEchoAndPoints5.sized) :=
  by decide +kernel

-- Obligations.SafeInputPairs

def dSafeInputs1 : Dev :=
  tollDev
theorem test_witness_SafeInputs_1 :
    dSafeInputs1.wf ∧ (dSafeInputs1.chanRuns (.logic : TollChan) = true) ∧ (dSafeInputs1.toll.cfgOk = true) ∧ (dSafeInputs1.sized) ∧
    (pairFunc dSafeInputs1.toll.cfg (0 : Fin 8) = 1 ∨ pairFunc dSafeInputs1.toll.cfg (0 : Fin 8) = 2 ∨ pairFunc dSafeInputs1.toll.cfg (0 : Fin 8) = 3) ∧
    ((dSafeInputs1.readPair (0 : Fin 8) (3 : Nat) (max dSafeInputs1.up (9 : Nat))).test = false) ∧
    ((dSafeInputs1.readPair (0 : Fin 8) (3 : Nat) (max dSafeInputs1.up (9 : Nat))).a = true) ∧
    ((dSafeInputs1.readPair (0 : Fin 8) (3 : Nat) (max dSafeInputs1.up (9 : Nat))).b = true) ∧ (dSafeInputs1.up ≤ (9 : Nat)) :=
  by decide +kernel

def dSafeInputs2 : Dev :=
  tollDev
theorem test_witness_SafeInputs_2 :
    dSafeInputs2.wf ∧ (dSafeInputs2.chanRuns (.proc : TollChan) = true) ∧ (dSafeInputs2.toll.cfgOk = true) ∧ (dSafeInputs2.sized) ∧
    (pairFunc dSafeInputs2.toll.cfg (0 : Fin 8) = 1) ∧ ((dSafeInputs2.readPair (0 : Fin 8) (1 : Nat) (9 : Nat)).test = false) ∧
    (((dSafeInputs2.readPair (0 : Fin 8) (1 : Nat) (9 : Nat)).a && (dSafeInputs2.readPair (0 : Fin 8) (1 : Nat) (9 : Nat)).b) = false) ∧
    (dSafeInputs2.up ≤ (9 : Nat)) :=
  by decide +kernel

def dSafeInputs3 : Dev :=
  { tollDev with toll := { tollDev.toll with cfg := zeros 12 ++ [2] ++ zeros 240 } }
theorem test_witness_SafeInputs_3 :
    dSafeInputs3.wf ∧ (dSafeInputs3.chanRuns (.proc : TollChan) = true) ∧ (dSafeInputs3.toll.cfgOk = true) ∧ (dSafeInputs3.sized) ∧
    (pairFunc dSafeInputs3.toll.cfg (0 : Fin 8) = 2) ∧ ((dSafeInputs3.readPair (0 : Fin 8) (1 : Nat) (9 : Nat)).test = false) ∧
    (((dSafeInputs3.readPair (0 : Fin 8) (1 : Nat) (9 : Nat)).a && (dSafeInputs3.readPair (0 : Fin 8) (1 : Nat) (9 : Nat)).b) = false) ∧
    (dSafeInputs3.up ≤ (9 : Nat)) :=
  by decide +kernel

def dSafeInputs4 : Dev :=
  { tollDev with toll := { tollDev.toll with cfg := zeros 12 ++ [3, 0, 0, 5] ++ zeros 240 } }
theorem test_witness_SafeInputs_4 :
    dSafeInputs4.wf ∧ (dSafeInputs4.chanRuns (.proc : TollChan) = true) ∧ (dSafeInputs4.toll.cfgOk = true) ∧ (dSafeInputs4.sized) ∧
    (pairFunc dSafeInputs4.toll.cfg (0 : Fin 8) = 3) ∧ ((dSafeInputs4.readPair (0 : Fin 8) (2 : Nat) (9 : Nat)).test = false) ∧
    ((dSafeInputs4.readPair (0 : Fin 8) (2 : Nat) (9 : Nat)).a = false) ∧
    ((dSafeInputs4.readPair (0 : Fin 8) (2 : Nat) (9 : Nat)).b = true) ∧
    (((dSafeInputs4.tollCh (.proc : TollChan)).pairs.getD (0 : Fin 8) {}).filtA < pairFilter dSafeInputs4.toll.cfg (0 : Fin 8)) ∧
    (dSafeInputs4.up ≤ (9 : Nat)) :=
  by decide +kernel

def dSafeInputs5 : Dev :=
  tollDev
theorem test_witness_SafeInputs_5 :
    dSafeInputs5.wf ∧ (dSafeInputs5.chanRuns (.proc : TollChan) = true) ∧ (dSafeInputs5.toll.cfgOk = true) ∧ (dSafeInputs5.sized) ∧
    (pairFunc dSafeInputs5.toll.cfg (0 : Fin 8) = 1 ∨ pairFunc dSafeInputs5.toll.cfg (0 : Fin 8) = 3) ∧
    ((dSafeInputs5.readPair (0 : Fin 8) (1 : Nat) (9 : Nat)).test = false) ∧
    ((dSafeInputs5.readPair (0 : Fin 8) (1 : Nat) (9 : Nat)).a ≠ (dSafeInputs5.readPair (0 : Fin 8) (1 : Nat) (9 : Nat)).b) ∧
    (pairD dSafeInputs5.toll.cfg (0 : Fin 8) ≤ ((dSafeInputs5.tollCh (.proc : TollChan)).pairs.getD (0 : Fin 8) {}).cnt) ∧
    (dSafeInputs5.up ≤ (9 : Nat)) :=
  by decide +kernel

def dSafeInputs6 : Dev :=
  { tollDev with toll := { tollDev.toll with cfg := zeros 12 ++ [1, 2] ++ zeros 240, logic := { tollDev.toll.logic with tpStart := some 0 } } }
theorem test_witness_SafeInputs_6 :
    dSafeInputs6.wf ∧ (dSafeInputs6.chanRuns (.logic : TollChan) = true) ∧ (dSafeInputs6.toll.cfgOk = true) ∧ (dSafeInputs6.sized) ∧
    (pairFunc dSafeInputs6.toll.cfg (0 : Fin 8) ≠ 0) ∧ ((dSafeInputs6.readPair (0 : Fin 8) (1 : Nat) (100000 : Nat)).test = true) ∧
    (dSafeInputs6.up ≤ (100000 : Nat)) :=
  by decide +kernel

def dSafeInputs7 : Dev :=
  tollDev
theorem test_witness_SafeInputs_7 :
    dSafeInputs7.wf ∧ (dSafeInputs7.chanRuns (.logic : TollChan) = true) ∧ (dSafeInputs7.toll.cfgOk = true) ∧
    (dSafeInputs7.st.ticks = false) :=
  by decide +kernel

-- Obligations.OutputTestsAndReadBack

def dTollPulses1 : Dev :=
  tollDev
theorem test_witness_TollPulses_1 :
    dTollPulses1.wf ∧ (dTollPulses1.chanRuns (.logic : TollChan) = true) :=
  by decide +kernel

def dTollPulses3 : Dev :=
  { tollDev with toll := { tollDev.toll with logic := { tollDev.toll.logic with switch := 1 }, proc := { tollDev.toll.proc with switch := 1 } } }
theorem test_witness_TollPulses_3 :
    dTollPulses3.wf ∧ (bitAt (outTest dTollPulses3.toll.cfg) (0 : Fin 4) = true) ∧ (dTollPulses3.pairOn (0 : Fin 4) = true) ∧
    (dTollPulses3.mayClose .logic (0 : Fin 4) = true) :=
  by decide +kernel

def dTollPulses4 : Dev :=
  { tollDev with toll := { tollDev.toll with logic := { tollDev.toll.logic with switch := 1 }, proc := { tollDev.toll.proc with switch := 1 } } }
theorem test_witness_TollPulses_4 :
    dTollPulses4.wf ∧ (bitAt (outTest dTollPulses4.toll.cfg) (0 : Fin 4) = true) ∧ (dTollPulses4.pairOn (0 : Fin 4) = true) ∧
    (dTollPulses4.mayClose .proc (0 : Fin 4) = true) :=
  by decide +kernel

def dTollPulses5 : Dev :=
  { tollDev with toll := { tollDev.toll with testB := 1 } }
theorem test_witness_TollPulses_5 :
    dTollPulses5.wf ∧ (bitAt (dTollPulses5.pulsing (switchChan (1 : Fin 2))) (0 : Fin 4) = true) :=
  by decide +kernel

def dTollPulses6 : Dev :=
  { tollDev with toll := { tollDev.toll with testB := 1 } }
theorem test_witness_TollPulses_6 :
    dTollPulses6.wf ∧ (bitAt (dTollPulses6.pulsing (switchChan (1 : Fin 2))) (0 : Fin 4) = true) :=
  by decide +kernel

def dTollPulses7 : Dev :=
  { tollDev with toll := { tollDev.toll with testB := 1, testPass := 2 } }
theorem test_witness_TollPulses_7 :
    dTollPulses7.wf ∧ (bitAt (dTollPulses7.pulsing (switchChan (1 : Fin 2))) (0 : Fin 4) = true) ∧
    (dTollPulses7.mayClose (switchChan (1 : Fin 2)) (0 : Fin 4) = true) :=
  by decide +kernel

def dTollPulses8 : Dev :=
  tollDev
theorem test_witness_TollPulses_8 :
    dTollPulses8.wf ∧ (bitAt (dTollPulses8.pulsing (switchChan (1 : Fin 2))) (0 : Fin 4) = false) :=
  by decide +kernel

def dOutputsReadBack1 : Dev :=
  { tollDev with toll := { tollDev.toll with logic := { tollDev.toll.logic with rbBad := [1, 0, 0, 0] } } }
theorem test_witness_OutputsReadBack_1 :
    dOutputsReadBack1.wf ∧ (dOutputsReadBack1.chanRuns (.logic : TollChan) = true) ∧ (dOutputsReadBack1.pairTested (0 : Fin 4) = false) ∧
    (dOutputsReadBack1.rbWrong (3 : Nat) (0 : Fin 4) = true) ∧
    (1 ≤ (dOutputsReadBack1.tollCh (.logic : TollChan)).rbBad.getD (0 : Fin 4) 0) :=
  by decide +kernel

def dOutputsReadBack2 : Dev :=
  tollDev
theorem test_witness_OutputsReadBack_2 :
    dOutputsReadBack2.wf ∧ (dOutputsReadBack2.chanRuns (.logic : TollChan) = true) ∧
    (∀ p < 4, dOutputsReadBack2.pairTested p = false ∧ dOutputsReadBack2.rbWrong (0 : Nat) p = false) :=
  by decide +kernel

def dOutputsReadBack3 : Dev :=
  tollDev
theorem test_witness_OutputsReadBack_3 :
    dOutputsReadBack3.wf ∧ (Role.canWrite (.operator : Role) false = true) :=
  by decide +kernel

-- Obligations.EthernetLinksAndLaunch

def dEthernetLinks1 : Dev :=
  { netUp w0 with net := { w0.net with ports := [{}, { cfg := 0xC1 }] } }
theorem test_witness_EthernetLinks_1 :
    dEthernetLinks1.wf ∧ (bitAt (dEthernetLinks1.port (1 : Fin 2)).cfg 0 = true) ∧ (dEthernetLinks1.retiredUnit 6 (1 : Fin 2) = false) ∧
    (dEthernetLinks1.rootRuns = true) ∧ (dEthernetLinks1.runs (25 + (1 : Fin 2)) = true) ∧
    (speedAllowed (dEthernetLinks1.port (1 : Fin 2)).cfg (3 : Nat) = true) ∧
    (fecAllowed (dEthernetLinks1.port (1 : Fin 2)).cfg (3 : Nat) (2 : Nat) = true) :=
  by decide +kernel

def dEthernetLinks2 : Dev :=
  netUp w0
theorem test_witness_EthernetLinks_2 :
    dEthernetLinks2.wf ∧ (dEthernetLinks2.flag (F.ETH_STATUS.LINK (0 : Fin 2)) = true) :=
  by decide +kernel

def dEthernetLinks3 : Dev :=
  netUp w0
theorem test_witness_EthernetLinks_3 :
    dEthernetLinks3.wf ∧ (dEthernetLinks3.runs (25 + (0 : Fin 2)) = true) :=
  by decide +kernel

def dEthernetLinks4 : Dev :=
  netUp w0
theorem test_witness_EthernetLinks_4 :
    dEthernetLinks4.wf ∧ (dEthernetLinks4.runs (25 + (1 : Fin 2)) = true) :=
  by decide +kernel

def dLaunch1 : Dev :=
  { netUp w0 with up := 9, net := { w0.net with ports := [{}, { queues := [[], [], [], [], [], [{ mac := some 8 }]] }] } }
theorem test_witness_Launch_1 :
    dLaunch1.wf ∧ (dLaunch1.ethRuns (1 : Fin 2) = true) ∧ (dLaunch1.sized) ∧ (dLaunch1.up = (9 : Nat)) ∧
    ((dLaunch1.port (1 : Fin 2)).nextQueue dLaunch1.nowNs = some ((5 : Nat), ({ mac := some 8 } : QEnt))) ∧
    (dLaunch1.macOf ({ mac := some 8 } : QEnt) = some (8 : Nat)) ∧ (({ mac := some 8 } : QEnt).what ≠ "ptp") ∧
    (dLaunch1.late (5 : Nat) ({ mac := some 8 } : QEnt) = false) :=
  by decide +kernel

def dLaunch2 : Dev :=
  { netUp w0 with up := 9, tb := { w0.tb with t40 := 9 * 1099511627776 }, net := { w0.net with ports := [{}, { queues := [[], [], [{ mac := some 8, launch := some 1 }], [], [], []] }] } }
theorem test_witness_Launch_2 :
    dLaunch2.wf ∧ (dLaunch2.ethRuns (1 : Fin 2) = true) ∧ (dLaunch2.sized) ∧ (dLaunch2.up = (9 : Nat)) ∧
    ((dLaunch2.port (1 : Fin 2)).nextQueue dLaunch2.nowNs = some ((2 : Nat), ({ mac := some 8, launch := some 1 } : QEnt))) ∧
    (dLaunch2.macOf ({ mac := some 8, launch := some 1 } : QEnt) = some (8 : Nat)) ∧
    (({ mac := some 8, launch := some 1 } : QEnt).what ≠ "ptp") ∧
    (dLaunch2.late (2 : Nat) ({ mac := some 8, launch := some 1 } : QEnt) = true) ∧ (dLaunch2.dropBit (2 : Nat) = false) :=
  by decide +kernel

-- Obligations.PulsePerSecondInAndOut

def dPulsePerSecond1 : Dev :=
  w0
theorem test_witness_PulsePerSecond_1 :
    dPulsePerSecond1.wf ∧ (dPulsePerSecond1.get F.TB_SOURCE.SOURCE ≠ 2) :=
  by decide +kernel

def dPulsePerSecond2 : Dev :=
  { w0 with tb := { w0.tb with setOnce := true, t40 := 999999990 * 2 ^ 40 } }.set F.TB_SOURCE.SOURCE 2 |>.set F.CLK_STATUS.PLL_LOCK 1
theorem test_witness_PulsePerSecond_2 :
    dPulsePerSecond2.wf ∧ (dPulsePerSecond2.get F.TB_SOURCE.SOURCE = 2) ∧ (dPulsePerSecond2.tb.setOnce = true) ∧
    (dPulsePerSecond2.rootRuns = true) ∧ (dPulsePerSecond2.tb.step = none) ∧ (dPulsePerSecond2.tb.rem = 0) ∧
    (dPulsePerSecond2.timeValid = false) ∧ (dPulsePerSecond2.tb.t40 = 999999990 * 2 ^ 40) :=
  by decide +kernel

def dPulsePerSecond4 : Dev :=
  w0
theorem test_witness_PulsePerSecond_4 :
    dPulsePerSecond4.wf ∧ (dPulsePerSecond4.timeValid = false) :=
  by decide +kernel

def dPulsePerSecond5 : Dev :=
  { w0 with net := { w0.net with ppsRise := some 6 } }
theorem test_witness_PulsePerSecond_5 :
    dPulsePerSecond5.wf ∧ (dPulsePerSecond5.net.ppsRise = some (6 : Nat)) :=
  by decide +kernel

def dPulsePerSecond9 : Dev :=
  w0.set F.TB_CTRL.RUN 1 |>.set F.CLK_STATUS.PLL_LOCK 1 |>.set F.TB_STATUS.VALID 1
theorem test_witness_PulsePerSecond_9 :
    dPulsePerSecond9.wf ∧ (dPulsePerSecond9.tbCounts = true) ∧ (dPulsePerSecond9.timeValid = true) ∧ (dPulsePerSecond9.nowSec < 2 ^ 48) :=
  by decide +kernel

-- Obligations.PtpReceivedAndSent

def dPtpReceived1 : Dev :=
  { netUp w0 with net := { w0.net with isMaster := false, ports := [{}, { master := some { rank := [], source := 65536 } }] } }
theorem test_witness_PtpReceived_1 :
    dPtpReceived1.wf ∧ (dPtpReceived1.ethRuns (1 : Fin 2) = true) ∧
    (dPtpReceived1.vidOk ({ t := 0, vid := 0, domain := 0, seq := 3, source := 65536, requester := 0, twoStep := true, corr := 0, sec := 0, ns := 0, peer := false, followUp := false, prio1 := 0, quality := 0, prio2 := 0, gm := 0, steps := 0 } : PtpMsg).vid = true) ∧
    (({ t := 0, vid := 0, domain := 0, seq := 3, source := 65536, requester := 0, twoStep := true, corr := 0, sec := 0, ns := 0, peer := false, followUp := false, prio1 := 0, quality := 0, prio2 := 0, gm := 0, steps := 0 } : PtpMsg).domain = dPtpReceived1.get F.PTP_CTRL.DOMAIN) ∧
    (({ t := 0, vid := 0, domain := 0, seq := 3, source := 65536, requester := 0, twoStep := true, corr := 0, sec := 0, ns := 0, peer := false, followUp := false, prio1 := 0, quality := 0, prio2 := 0, gm := 0, steps := 0 } : PtpMsg).source / 65536 ≠ dPtpReceived1.ptpIdent (1 : Fin 2) / 65536) ∧
    (({ t := 0, vid := 0, domain := 0, seq := 3, source := 65536, requester := 0, twoStep := true, corr := 0, sec := 0, ns := 0, peer := false, followUp := false, prio1 := 0, quality := 0, prio2 := 0, gm := 0, steps := 0 } : PtpMsg).t = dPtpReceived1.up) ∧
    (dPtpReceived1.sized) ∧
    (({ t := 0, vid := 0, domain := 0, seq := 3, source := 65536, requester := 0, twoStep := true, corr := 0, sec := 0, ns := 0, peer := false, followUp := false, prio1 := 0, quality := 0, prio2 := 0, gm := 0, steps := 0 } : PtpMsg).peer = false) ∧
    (dPtpReceived1.fromMaster (1 : Fin 2) ({ t := 0, vid := 0, domain := 0, seq := 3, source := 65536, requester := 0, twoStep := true, corr := 0, sec := 0, ns := 0, peer := false, followUp := false, prio1 := 0, quality := 0, prio2 := 0, gm := 0, steps := 0 } : PtpMsg) = true) ∧
    (({ t := 0, vid := 0, domain := 0, seq := 3, source := 65536, requester := 0, twoStep := true, corr := 0, sec := 0, ns := 0, peer := false, followUp := false, prio1 := 0, quality := 0, prio2 := 0, gm := 0, steps := 0 } : PtpMsg).twoStep = true) :=
  by decide +kernel

def dPtpReceived2 : Dev :=
  { netUp w0 with net := { w0.net with isMaster := false, ports := [{}, { master := some { rank := [], source := 65536 } }] } }
theorem test_witness_PtpReceived_2 :
    dPtpReceived2.wf ∧ (dPtpReceived2.ethRuns (1 : Fin 2) = true) ∧
    (dPtpReceived2.vidOk ({ t := 0, vid := 0, domain := 0, seq := 3, source := 65536, requester := 0, twoStep := false, corr := 0, sec := 0, ns := 0, peer := false, followUp := false, prio1 := 0, quality := 0, prio2 := 0, gm := 0, steps := 0 } : PtpMsg).vid = true) ∧
    (({ t := 0, vid := 0, domain := 0, seq := 3, source := 65536, requester := 0, twoStep := false, corr := 0, sec := 0, ns := 0, peer := false, followUp := false, prio1 := 0, quality := 0, prio2 := 0, gm := 0, steps := 0 } : PtpMsg).domain = dPtpReceived2.get F.PTP_CTRL.DOMAIN) ∧
    (({ t := 0, vid := 0, domain := 0, seq := 3, source := 65536, requester := 0, twoStep := false, corr := 0, sec := 0, ns := 0, peer := false, followUp := false, prio1 := 0, quality := 0, prio2 := 0, gm := 0, steps := 0 } : PtpMsg).source / 65536 ≠ dPtpReceived2.ptpIdent (1 : Fin 2) / 65536) ∧
    (({ t := 0, vid := 0, domain := 0, seq := 3, source := 65536, requester := 0, twoStep := false, corr := 0, sec := 0, ns := 0, peer := false, followUp := false, prio1 := 0, quality := 0, prio2 := 0, gm := 0, steps := 0 } : PtpMsg).t = dPtpReceived2.up) ∧
    (dPtpReceived2.sized) ∧
    (({ t := 0, vid := 0, domain := 0, seq := 3, source := 65536, requester := 0, twoStep := false, corr := 0, sec := 0, ns := 0, peer := false, followUp := false, prio1 := 0, quality := 0, prio2 := 0, gm := 0, steps := 0 } : PtpMsg).peer = false) ∧
    (dPtpReceived2.fromMaster (1 : Fin 2) ({ t := 0, vid := 0, domain := 0, seq := 3, source := 65536, requester := 0, twoStep := false, corr := 0, sec := 0, ns := 0, peer := false, followUp := false, prio1 := 0, quality := 0, prio2 := 0, gm := 0, steps := 0 } : PtpMsg) = true) ∧
    (({ t := 0, vid := 0, domain := 0, seq := 3, source := 65536, requester := 0, twoStep := false, corr := 0, sec := 0, ns := 0, peer := false, followUp := false, prio1 := 0, quality := 0, prio2 := 0, gm := 0, steps := 0 } : PtpMsg).twoStep = false) ∧
    (dPtpReceived2.get F.TB_SOURCE.SOURCE ≠ 1) :=
  by decide +kernel

def dPtpReceived3 : Dev :=
  { netUp w0 with net := { w0.net with isMaster := false, ports := [{}, { syncSeq := some 3, master := some { rank := [], source := 65536 } }] } }
theorem test_witness_PtpReceived_3 :
    dPtpReceived3.wf ∧ (dPtpReceived3.ethRuns (1 : Fin 2) = true) ∧
    (dPtpReceived3.vidOk ({ t := 0, vid := 0, domain := 0, seq := 3, source := 65536, requester := 0, twoStep := false, corr := 0, sec := 0, ns := 0, peer := false, followUp := false, prio1 := 0, quality := 0, prio2 := 0, gm := 0, steps := 0 } : PtpMsg).vid = true) ∧
    (({ t := 0, vid := 0, domain := 0, seq := 3, source := 65536, requester := 0, twoStep := false, corr := 0, sec := 0, ns := 0, peer := false, followUp := false, prio1 := 0, quality := 0, prio2 := 0, gm := 0, steps := 0 } : PtpMsg).domain = dPtpReceived3.get F.PTP_CTRL.DOMAIN) ∧
    (({ t := 0, vid := 0, domain := 0, seq := 3, source := 65536, requester := 0, twoStep := false, corr := 0, sec := 0, ns := 0, peer := false, followUp := false, prio1 := 0, quality := 0, prio2 := 0, gm := 0, steps := 0 } : PtpMsg).source / 65536 ≠ dPtpReceived3.ptpIdent (1 : Fin 2) / 65536) ∧
    (({ t := 0, vid := 0, domain := 0, seq := 3, source := 65536, requester := 0, twoStep := false, corr := 0, sec := 0, ns := 0, peer := false, followUp := false, prio1 := 0, quality := 0, prio2 := 0, gm := 0, steps := 0 } : PtpMsg).t = dPtpReceived3.up) ∧
    (dPtpReceived3.sized) ∧
    (({ t := 0, vid := 0, domain := 0, seq := 3, source := 65536, requester := 0, twoStep := false, corr := 0, sec := 0, ns := 0, peer := false, followUp := false, prio1 := 0, quality := 0, prio2 := 0, gm := 0, steps := 0 } : PtpMsg).peer = false) ∧
    (dPtpReceived3.fromMaster (1 : Fin 2) ({ t := 0, vid := 0, domain := 0, seq := 3, source := 65536, requester := 0, twoStep := false, corr := 0, sec := 0, ns := 0, peer := false, followUp := false, prio1 := 0, quality := 0, prio2 := 0, gm := 0, steps := 0 } : PtpMsg) = true) ∧
    ((dPtpReceived3.port (1 : Fin 2)).syncSeq = some ({ t := 0, vid := 0, domain := 0, seq := 3, source := 65536, requester := 0, twoStep := false, corr := 0, sec := 0, ns := 0, peer := false, followUp := false, prio1 := 0, quality := 0, prio2 := 0, gm := 0, steps := 0 } : PtpMsg).seq) ∧
    (dPtpReceived3.get F.TB_SOURCE.SOURCE ≠ 1) :=
  by decide +kernel

def dPtpReceived4 : Dev :=
  { netUp w0 with net := { w0.net with isMaster := false, ports := [{}, { reqT1 := some 5, reqMaster := some 6, master := some { rank := [], source := 65536 } }] } }
theorem test_witness_PtpReceived_4 :
    dPtpReceived4.wf ∧ (dPtpReceived4.ethRuns (1 : Fin 2) = true) ∧
    (dPtpReceived4.vidOk ({ t := 0, vid := 0, domain := 0, seq := 0, source := 65536, requester := 0xFFFE000000 * 65536 + 2, twoStep := false, corr := 0, sec := 0, ns := 0, peer := false, followUp := false, prio1 := 0, quality := 0, prio2 := 0, gm := 0, steps := 0 } : PtpMsg).vid = true) ∧
    (({ t := 0, vid := 0, domain := 0, seq := 0, source := 65536, requester := 0xFFFE000000 * 65536 + 2, twoStep := false, corr := 0, sec := 0, ns := 0, peer := false, followUp := false, prio1 := 0, quality := 0, prio2 := 0, gm := 0, steps := 0 } : PtpMsg).domain = dPtpReceived4.get F.PTP_CTRL.DOMAIN) ∧
    (({ t := 0, vid := 0, domain := 0, seq := 0, source := 65536, requester := 0xFFFE000000 * 65536 + 2, twoStep := false, corr := 0, sec := 0, ns := 0, peer := false, followUp := false, prio1 := 0, quality := 0, prio2 := 0, gm := 0, steps := 0 } : PtpMsg).source / 65536 ≠ dPtpReceived4.ptpIdent (1 : Fin 2) / 65536) ∧
    (({ t := 0, vid := 0, domain := 0, seq := 0, source := 65536, requester := 0xFFFE000000 * 65536 + 2, twoStep := false, corr := 0, sec := 0, ns := 0, peer := false, followUp := false, prio1 := 0, quality := 0, prio2 := 0, gm := 0, steps := 0 } : PtpMsg).t = dPtpReceived4.up) ∧
    (dPtpReceived4.sized) ∧
    (({ t := 0, vid := 0, domain := 0, seq := 0, source := 65536, requester := 0xFFFE000000 * 65536 + 2, twoStep := false, corr := 0, sec := 0, ns := 0, peer := false, followUp := false, prio1 := 0, quality := 0, prio2 := 0, gm := 0, steps := 0 } : PtpMsg).peer = false) ∧
    (dPtpReceived4.fromMaster (1 : Fin 2) ({ t := 0, vid := 0, domain := 0, seq := 0, source := 65536, requester := 0xFFFE000000 * 65536 + 2, twoStep := false, corr := 0, sec := 0, ns := 0, peer := false, followUp := false, prio1 := 0, quality := 0, prio2 := 0, gm := 0, steps := 0 } : PtpMsg) = true) ∧
    (dPtpReceived4.as = false) ∧
    (({ t := 0, vid := 0, domain := 0, seq := 0, source := 65536, requester := 0xFFFE000000 * 65536 + 2, twoStep := false, corr := 0, sec := 0, ns := 0, peer := false, followUp := false, prio1 := 0, quality := 0, prio2 := 0, gm := 0, steps := 0 } : PtpMsg).requester = dPtpReceived4.ptpIdent (1 : Fin 2)) ∧
    (({ t := 0, vid := 0, domain := 0, seq := 0, source := 65536, requester := 0xFFFE000000 * 65536 + 2, twoStep := false, corr := 0, sec := 0, ns := 0, peer := false, followUp := false, prio1 := 0, quality := 0, prio2 := 0, gm := 0, steps := 0 } : PtpMsg).seq = (dPtpReceived4.port (1 : Fin 2)).reqSeq) ∧
    ((dPtpReceived4.port (1 : Fin 2)).reqT1 = some (5 : Int)) ∧ ((dPtpReceived4.port (1 : Fin 2)).reqMaster = some (6 : Int)) :=
  by decide +kernel

def dPtpReceived5 : Dev :=
  netUp w0
theorem test_witness_PtpReceived_5 :
    dPtpReceived5.wf ∧ (dPtpReceived5.ethRuns (1 : Fin 2) = true) ∧
    (dPtpReceived5.vidOk ({ t := 0, vid := 0, domain := 0, seq := 3, source := 65536, requester := 0, twoStep := false, corr := 0, sec := 0, ns := 0, peer := false, followUp := false, prio1 := 0, quality := 0, prio2 := 0, gm := 0, steps := 0 } : PtpMsg).vid = true) ∧
    (({ t := 0, vid := 0, domain := 0, seq := 3, source := 65536, requester := 0, twoStep := false, corr := 0, sec := 0, ns := 0, peer := false, followUp := false, prio1 := 0, quality := 0, prio2 := 0, gm := 0, steps := 0 } : PtpMsg).domain = dPtpReceived5.get F.PTP_CTRL.DOMAIN) ∧
    (({ t := 0, vid := 0, domain := 0, seq := 3, source := 65536, requester := 0, twoStep := false, corr := 0, sec := 0, ns := 0, peer := false, followUp := false, prio1 := 0, quality := 0, prio2 := 0, gm := 0, steps := 0 } : PtpMsg).source / 65536 ≠ dPtpReceived5.ptpIdent (1 : Fin 2) / 65536) ∧
    (({ t := 0, vid := 0, domain := 0, seq := 3, source := 65536, requester := 0, twoStep := false, corr := 0, sec := 0, ns := 0, peer := false, followUp := false, prio1 := 0, quality := 0, prio2 := 0, gm := 0, steps := 0 } : PtpMsg).t = dPtpReceived5.up) ∧
    (dPtpReceived5.sized) ∧
    (({ t := 0, vid := 0, domain := 0, seq := 3, source := 65536, requester := 0, twoStep := false, corr := 0, sec := 0, ns := 0, peer := false, followUp := false, prio1 := 0, quality := 0, prio2 := 0, gm := 0, steps := 0 } : PtpMsg).peer = false) ∧
    ((dPtpReceived5.port (1 : Fin 2)).master = none) :=
  by decide +kernel

def dPtpReceived6 : Dev :=
  { netUp w0 with net := { w0.net with isMaster := true } }
theorem test_witness_PtpReceived_6 :
    dPtpReceived6.wf ∧ (dPtpReceived6.ethRuns (1 : Fin 2) = true) ∧
    (dPtpReceived6.vidOk ({ t := 0, vid := 0, domain := 0, seq := 3, source := 65536, requester := 0, twoStep := false, corr := 0, sec := 0, ns := 0, peer := false, followUp := false, prio1 := 0, quality := 0, prio2 := 0, gm := 0, steps := 0 } : PtpMsg).vid = true) ∧
    (({ t := 0, vid := 0, domain := 0, seq := 3, source := 65536, requester := 0, twoStep := false, corr := 0, sec := 0, ns := 0, peer := false, followUp := false, prio1 := 0, quality := 0, prio2 := 0, gm := 0, steps := 0 } : PtpMsg).domain = dPtpReceived6.get F.PTP_CTRL.DOMAIN) ∧
    (({ t := 0, vid := 0, domain := 0, seq := 3, source := 65536, requester := 0, twoStep := false, corr := 0, sec := 0, ns := 0, peer := false, followUp := false, prio1 := 0, quality := 0, prio2 := 0, gm := 0, steps := 0 } : PtpMsg).source / 65536 ≠ dPtpReceived6.ptpIdent (1 : Fin 2) / 65536) ∧
    (({ t := 0, vid := 0, domain := 0, seq := 3, source := 65536, requester := 0, twoStep := false, corr := 0, sec := 0, ns := 0, peer := false, followUp := false, prio1 := 0, quality := 0, prio2 := 0, gm := 0, steps := 0 } : PtpMsg).t = dPtpReceived6.up) ∧
    (dPtpReceived6.sized) ∧
    (({ t := 0, vid := 0, domain := 0, seq := 3, source := 65536, requester := 0, twoStep := false, corr := 0, sec := 0, ns := 0, peer := false, followUp := false, prio1 := 0, quality := 0, prio2 := 0, gm := 0, steps := 0 } : PtpMsg).peer = false) ∧
    (dPtpReceived6.net.isMaster = true) ∧ (dPtpReceived6.as = false) :=
  by decide +kernel

def dPtpSent1 : Dev :=
  { netUp w0 with net := { w0.net with isMaster := true } }
theorem test_witness_PtpSent_1 :
    dPtpSent1.wf ∧ (dPtpSent1.net.isMaster = true) ∧ (dPtpSent1.rootRuns = true) :=
  by decide +kernel

def dPtpSent2 : Dev :=
  { netUp w0 with net := { w0.net with isMaster := false } }
theorem test_witness_PtpSent_2 :
    dPtpSent2.wf ∧ (dPtpSent2.net.isMaster = false) :=
  by decide +kernel

def dPtpSent3 : Dev :=
  { netUp w0 with net := { w0.net with isMaster := false, ports := [{ master := some { rank := [], source := 65536 } }, {}] } }
theorem test_witness_PtpSent_3 :
    dPtpSent3.wf ∧ (dPtpSent3.rootRuns = true) ∧ (dPtpSent3.net.isMaster = false) ∧ (dPtpSent3.as = false) ∧ (dPtpSent3.sized) ∧
    ((dPtpSent3.port 0).master.isSome = true) ∧ ((dPtpSent3.port 1).master = none) :=
  by decide +kernel

def dPtpSent4 : Dev :=
  { w0 with net := { w0.net with isMaster := false } }.set F.TB_SOURCE.SOURCE 1
theorem test_witness_PtpSent_4 :
    dPtpSent4.wf ∧ (dPtpSent4.get F.TB_SOURCE.SOURCE = 1) ∧ (dPtpSent4.net.isMaster = false) ∧
    (dPtpSent4.flag F.PTP_STATUS.HOLDOVER = false) :=
  by decide +kernel

-- Obligations.ControlBlocksAndLinkDelay

def dControlBlocks1 : Dev :=
  bxDev
theorem test_witness_ControlBlocks_1 :
    dControlBlocks1.wf ∧ (dControlBlocks1.bxRuns (0 : Fin 2) = true) ∧ (bxParse (0 : BitVec 64) = none) :=
  by decide +kernel

def dControlBlocks2 : Dev :=
  bxDev
theorem test_witness_ControlBlocks_2 :
    dControlBlocks2.wf ∧ (dControlBlocks2.bxRuns (1 : Fin 2) = true) ∧
    (bxParse (bxEncode 0x33 (7 * 2 ^ 32 + 65535 * 2 ^ 16) : BitVec 64) = some (0x33, (7 * 2 ^ 32 + 65535 * 2 ^ 16 : Nat))) ∧
    (dControlBlocks2.bxUp (1 : Fin 2) = true) ∧ (dControlBlocks2.sized) ∧ ((dControlBlocks2.bxPort (1 : Fin 2)).wait0 = []) ∧
    ((dControlBlocks2.bxPort (1 : Fin 2)).waitOwn = []) ∧ ((dControlBlocks2.bxPort (1 : Fin 2)).waitRelay = []) :=
  by decide +kernel

def dControlBlocks3 : Dev :=
  bxDev
theorem test_witness_ControlBlocks_3 :
    dControlBlocks3.wf ∧ (dControlBlocks3.bxRuns (1 : Fin 2) = true) ∧ (dControlBlocks3.bxUp (1 : Fin 2) = true) ∧
    (dControlBlocks3.sized) :=
  by decide +kernel

def dControlBlocks4 : Dev :=
  bxDev
theorem test_witness_ControlBlocks_4 :
    dControlBlocks4.wf ∧ (dControlBlocks4.bxRuns (1 : Fin 2) = true) ∧ (2 ≤ (dControlBlocks4.bxPort (1 : Fin 2)).step) ∧
    (dControlBlocks4.sized) ∧ ((dControlBlocks4.bxPort (1 : Fin 2)).lanes = [0, 1]) :=
  by decide +kernel

def dLinkDelay1 : Dev :=
  bxDev
theorem test_witness_LinkDelay_1 :
    dLinkDelay1.wf ∧ (dLinkDelay1.bxRuns (1 : Fin 2) = true) ∧ (dLinkDelay1.sized) ∧ (dLinkDelay1.bxUp (1 : Fin 2) = true) :=
  by decide +kernel

def dLinkDelay2 : Dev :=
  bxDev
theorem test_witness_LinkDelay_2 :
    dLinkDelay2.wf ∧ (dLinkDelay2.bxRuns (1 : Fin 2) = true) ∧ (dLinkDelay2.sized) ∧ (dLinkDelay2.bxUp (1 : Fin 2) = true) ∧
    (bxParse (bxEncode 0x78 (5 * 2 ^ 40) : BitVec 64) = some (0x78, (5 * 2 ^ 40 : Nat))) :=
  by decide +kernel

def dLinkDelay3 : Dev :=
  { bxBoth { delaySeq := 5, delayT1 := some (9, 0) } with up := 40 }
theorem test_witness_LinkDelay_3 :
    dLinkDelay3.wf ∧ (dLinkDelay3.bxRuns (1 : Fin 2) = true) ∧ (dLinkDelay3.sized) ∧ (dLinkDelay3.bxUp (1 : Fin 2) = true) ∧
    (bxParse (bxEncode 0x87 (5 * 2 ^ 40) : BitVec 64) = some (0x87, (5 * 2 ^ 40 : Nat))) ∧
    ((dLinkDelay3.bxPort (1 : Fin 2)).delayT1 = some ((9 : Int), (0 : Nat))) ∧
    (bits (5 * 2 ^ 40 : Nat) 40 8 = (dLinkDelay3.bxPort (1 : Fin 2)).delaySeq) ∧ (dLinkDelay3.up ≤ (0 : Nat) + 100000) :=
  by decide +kernel

def dLinkDelay4 : Dev :=
  bxBoth { delaySeq := 5, delayT1 := some (9, 0) }
theorem test_witness_LinkDelay_4 :
    dLinkDelay4.wf ∧ (dLinkDelay4.bxRuns (1 : Fin 2) = true) ∧ (dLinkDelay4.sized) ∧ (dLinkDelay4.bxUp (1 : Fin 2) = true) ∧
    ((dLinkDelay4.bxPort (1 : Fin 2)).delayT1 = some ((9 : Int), (0 : Nat))) :=
  by decide +kernel

-- Obligations.LinkBringUpAndTraining

def dBringUp1 : Dev :=
  bxDev
theorem test_witness_BringUp_1 :
    dBringUp1.wf ∧ (dBringUp1.bxRuns (1 : Fin 2) = true) ∧ (dBringUp1.sized) ∧ (2 ≤ (dBringUp1.bxPort (1 : Fin 2)).step) ∧
    ((dBringUp1.bxPort (1 : Fin 2)).laneRetired.getD (1 : Fin 2) false = false) :=
  by decide +kernel

def dBringUp2 : Dev :=
  bxBoth { lanesLock := [true, true] }
theorem test_witness_BringUp_2 :
    dBringUp2.wf ∧ (dBringUp2.bxRuns (0 : Fin 2) = true) ∧ (dBringUp2.sized) ∧
    ((dBringUp2.bxPort (0 : Fin 2)).lanesLock.getD (1 : Fin 2) false = true) :=
  by decide +kernel

def dBringUp3 : Dev :=
  bxDev
theorem test_witness_BringUp_3 :
    dBringUp3.wf ∧ (dBringUp3.bxRuns (1 : Fin 2) = true) ∧ (dBringUp3.sized) :=
  by decide +kernel

def dBringUp4 : Dev :=
  bxDev
theorem test_witness_BringUp_4 :
    dBringUp4.wf ∧ (dBringUp4.bxRuns (1 : Fin 2) = true) ∧ (dBringUp4.sized) ∧ ((dBringUp4.bxPort (1 : Fin 2)).step = 2) ∧
    ((dBringUp4.bxPort (1 : Fin 2)).speed = 0) :=
  by decide +kernel

def dBringUp5 : Dev :=
  bxBoth { step := 5, speed := 3 }
theorem test_witness_BringUp_5 :
    dBringUp5.wf ∧ (dBringUp5.bxRuns (1 : Fin 2) = true) ∧ (dBringUp5.sized) ∧
    (2 ≤ (dBringUp5.bxPort (1 : Fin 2)).step ∧ (dBringUp5.bxPort (1 : Fin 2)).step ≤ 5) ∧ ((dBringUp5.bxPort (1 : Fin 2)).speed ≠ 0) :=
  by decide +kernel

def dBringUp6 : Dev :=
  bxBoth { step := 1 }
theorem test_witness_BringUp_6 :
    dBringUp6.wf ∧ (dBringUp6.bxRuns (1 : Fin 2) = true) ∧ (dBringUp6.sized) ∧ ((dBringUp6.bxPort (1 : Fin 2)).step = 1) :=
  by decide +kernel

def dBringUp7 : Dev :=
  bxBoth { step := 6, countdown := some 5, target := 2 }
theorem test_witness_BringUp_7 :
    dBringUp7.wf ∧ (dBringUp7.bxRuns (1 : Fin 2) = true) ∧ (dBringUp7.sized) ∧ ((dBringUp7.bxPort (1 : Fin 2)).step = 6) ∧
    ((dBringUp7.bxPort (1 : Fin 2)).countdown = some (5 : Nat)) :=
  by decide +kernel

def dBringUp8 : Dev :=
  bxBoth { step := 3, alignSeen := [true, true] }
theorem test_witness_BringUp_8 :
    dBringUp8.wf ∧ (dBringUp8.bxRuns (1 : Fin 2) = true) ∧ (dBringUp8.sized) ∧
    (bxParse (bxEncode 0x2D (2 ^ 40) : BitVec 64) = some (0x2D, (2 ^ 40 : Nat))) ∧ ((dBringUp8.bxPort (1 : Fin 2)).step = 3) ∧
    (bits (2 ^ 40 : Nat) 40 8 = (1 : Fin 2).val) ∧ ((dBringUp8.bxPort (1 : Fin 2)).lanes = [0, 1]) ∧
    ((dBringUp8.bxPort (1 : Fin 2)).alignSeen = [true, true]) :=
  by decide +kernel

def dTraining1 : Dev :=
  bxBoth { step := 4 }
theorem test_witness_Training_1 :
    dTraining1.wf ∧ (dTraining1.bxRuns (1 : Fin 2) = true) ∧ (dTraining1.sized) ∧
    (bxParse (bxEncode 0x4B (3 * 2 ^ 42) : BitVec 64) = some (0x4B, (3 * 2 ^ 42 : Nat))) ∧ (bits (3 * 2 ^ 42 : Nat) 44 4 = 0) ∧
    ((dTraining1.bxPort (1 : Fin 2)).step = 4) ∧ (dTraining1.role ≠ 2) :=
  by decide +kernel

def dTraining2 : Dev :=
  (bxBoth { step := 4 }).set F.BX_STRING.ROLE 2
theorem test_witness_Training_2 :
    dTraining2.wf ∧ (dTraining2.bxRuns (1 : Fin 2) = true) ∧ (dTraining2.sized) ∧
    (bxParse (bxEncode 0x4B (2 ^ 40) : BitVec 64) = some (0x4B, (2 ^ 40 : Nat))) ∧ (bits (2 ^ 40 : Nat) 44 4 = 0) ∧
    ((dTraining2.bxPort 1).step = 4) ∧ ((1 : Fin 2) = 1) ∧ (dTraining2.role = 2) :=
  by decide +kernel

def dTraining3 : Dev :=
  bxBoth { step := 5 }
theorem test_witness_Training_3 :
    dTraining3.wf ∧ (dTraining3.bxRuns (1 : Fin 2) = true) ∧ (dTraining3.sized) ∧
    (bxParse (bxEncode 0x4B (2 ^ 44) : BitVec 64) = some (0x4B, (2 ^ 44 : Nat))) ∧ (bits (2 ^ 44 : Nat) 44 4 = 1) ∧
    ((dTraining3.bxPort (1 : Fin 2)).step = 5) ∧
    ((dTraining3.bxPort (1 : Fin 2)).allLanes (fun k => (dTraining3.bxPort (1 : Fin 2)).rdyRx.getD k false) = false) :=
  by decide +kernel

def dTraining4 : Dev :=
  bxBoth { step := 5 }
theorem test_witness_Training_4 :
    dTraining4.wf ∧ (dTraining4.bxRuns (1 : Fin 2) = true) ∧ (dTraining4.sized) ∧
    (bxParse (bxEncode 0x4B (2 * 2 ^ 44 + 2 ^ 37) : BitVec 64) = some (0x4B, (2 * 2 ^ 44 + 2 ^ 37 : Nat))) ∧
    (bits (2 * 2 ^ 44 + 2 ^ 37 : Nat) 44 4 = 2) ∧ ((dTraining4.bxPort (1 : Fin 2)).step = 5) ∧
    ((dTraining4.bxPort (1 : Fin 2)).allLanes (fun k => (dTraining4.bxPort (1 : Fin 2)).rdyTx.getD k false) = false) :=
  by decide +kernel

def dTraining5 : Dev :=
  bxBoth { step := 5, rdyTx := [true, true], rdyRx := [true, true], fell := true }
theorem test_witness_Training_5 :
    dTraining5.wf ∧ (dTraining5.bxRuns (1 : Fin 2) = true) ∧ (dTraining5.sized) ∧
    (bxParse (bxEncode 0x4B (2 * 2 ^ 44) : BitVec 64) = some (0x4B, (2 * 2 ^ 44 : Nat))) ∧ (bits (2 * 2 ^ 44 : Nat) 44 4 = 2) ∧
    ((dTraining5.bxPort (1 : Fin 2)).step = 5) ∧ ((dTraining5.bxPort (1 : Fin 2)).lanes = [0, 1]) ∧
    ((dTraining5.bxPort (1 : Fin 2)).rdyTx = [true, true]) ∧ ((dTraining5.bxPort (1 : Fin 2)).rdyRx = [true, true]) ∧
    ((dTraining5.bxPort (1 : Fin 2)).nextSpeed = none) :=
  by decide +kernel

def dTraining6 : Dev :=
  bxBoth { step := 6, peerMax := 3 }
theorem test_witness_Training_6 :
    dTraining6.wf ∧ (dTraining6.bxRuns (1 : Fin 2) = true) ∧ (dTraining6.sized) ∧
    (bxParse (bxEncode 0x4B (3 * 2 ^ 44 + 2 ^ 42 + 64 * 2 ^ 32) : BitVec 64) = some (0x4B, (3 * 2 ^ 44 + 2 ^ 42 + 64 * 2 ^ 32 : Nat))) ∧
    (bits (3 * 2 ^ 44 + 2 ^ 42 + 64 * 2 ^ 32 : Nat) 44 4 = 3) ∧ ((1 : Fin 2) = 1) ∧ ((dTraining6.bxPort 1).step = 6) ∧
    ((dTraining6.bxPort 1).nextSpeed = some (bits (3 * 2 ^ 44 + 2 ^ 42 + 64 * 2 ^ 32 : Nat) 42 2)) :=
  by decide +kernel

-- Obligations.StringTimeAndTicks

def dStringTime1 : Dev :=
  bxDev.set F.BX_STRING.ROLE 2 |>.set F.BX_STRING.POSITIONED 1
theorem test_witness_StringTime_1 :
    dStringTime1.wf ∧ (dStringTime1.bxRuns 1 = true) ∧ (dStringTime1.bxUp 1 = true) ∧ (dStringTime1.sized) ∧
    (bxParse (bxEncode 0x55 (5 * 2 ^ 33 + 7) : BitVec 64) = some (0x55, (5 * 2 ^ 33 + 7 : Nat))) ∧ (dStringTime1.follows = true) ∧
    (dStringTime1.bxRuns 0 = true) ∧ (dStringTime1.bxUp 0 = true) ∧ (bitAt (5 * 2 ^ 33 + 7 : Nat) 47 = false) :=
  by decide +kernel

def dStringTime2 : Dev :=
  bxDev.set F.BX_STRING.ROLE 2 |>.set F.BX_STRING.POSITIONED 1 |>.set F.BX_STRING.LOCK_MODE 1
theorem test_witness_StringTime_2 :
    dStringTime2.wf ∧ (dStringTime2.bxRuns 1 = true) ∧ (dStringTime2.bxUp 1 = true) ∧ (dStringTime2.sized) ∧
    (bxParse (bxEncode 0x55 (2 ^ 47 + 7) : BitVec 64) = some (0x55, (2 ^ 47 + 7 : Nat))) ∧ (dStringTime2.follows = true) ∧
    (bitAt (2 ^ 47 + 7 : Nat) 47 = true) ∧ (dStringTime2.seq.stageLock = false) ∧ (dStringTime2.get F.P.framePacing ≠ 3) ∧
    (dStringTime2.get F.BX_STRING.LOCK_MODE = 1) :=
  by decide +kernel

def dStringTime3 : Dev :=
  bxDev.set F.BX_STRING.ROLE 2 |>.set F.BX_STRING.POSITIONED 1
theorem test_witness_StringTime_3 :
    dStringTime3.wf ∧ (dStringTime3.bxRuns 1 = true) ∧ (dStringTime3.bxUp 1 = true) ∧ (dStringTime3.sized) ∧
    (bxParse (bxEncode 0x69 7 : BitVec 64) = some (0x69, (7 : Nat))) :=
  by decide +kernel

def dStringTime4 : Dev :=
  bxDev.set F.BX_STRING.ROLE 2 |>.set F.BX_STRING.POSITIONED 1 |>.set F.TB_SOURCE.SOURCE 3
theorem test_witness_StringTime_4 :
    dStringTime4.wf ∧ (dStringTime4.bxRuns 1 = true) ∧ (dStringTime4.bxUp 1 = true) ∧ (dStringTime4.sized) ∧
    (bxParse (bxEncode 0x66 7 : BitVec 64) = some (0x66, (7 : Nat))) ∧ (dStringTime4.stringTime = true) ∧ (dStringTime4.timeValid = false) ∧
    (dStringTime4.bx.timeSec = none) :=
  by decide +kernel

def dStringTime5 : Dev :=
  { bxDev with bx := { w0.bx with timeSec := some (65536 + 9) } }.set F.BX_STRING.ROLE 2 |>.set F.BX_STRING.POSITIONED 1 |>.set F.TB_SOURCE.SOURCE 3 |>.set (F.BX_DELAY 1) 16
theorem test_witness_StringTime_5 :
    dStringTime5.wf ∧ (dStringTime5.bxRuns 1 = true) ∧ (dStringTime5.bxUp 1 = true) ∧ (dStringTime5.sized) ∧
    (bxParse (bxEncode 0x66 (9 * 2 ^ 32 + 7) : BitVec 64) = some (0x66, (9 * 2 ^ 32 + 7 : Nat))) ∧ (dStringTime5.stringTime = true) ∧
    (dStringTime5.timeValid = false) ∧ (dStringTime5.bx.timeSec = some (65536 + 9 : Nat)) ∧ (dStringTime5.tb.step = none) ∧
    (dStringTime5.tb.rem = 0) ∧ (dStringTime5.get (F.BX_DELAY 1) = 16) ∧ (bits (9 * 2 ^ 32 + 7 : Nat) 32 16 = (65536 + 9 : Nat) % 65536) ∧
    ((65536 + 9 : Nat) < 2 ^ 47) ∧ (bits (9 * 2 ^ 32 + 7 : Nat) 0 32 < 1000000000) ∧ (dStringTime5.tb.t40 = 0) :=
  by decide +kernel

def dStringTime6 : Dev :=
  bxDev.set F.BX_STRING.ROLE 1 |>.set F.TB_STATUS.VALID 1
theorem test_witness_StringTime_6 :
    dStringTime6.wf ∧ (dStringTime6.bxRuns 1 = true) ∧ (dStringTime6.bxUp 1 = true) ∧ (dStringTime6.sized) ∧
    (dStringTime6.sendsTime = true) ∧ (dStringTime6.bxUp 0 = true) :=
  by decide +kernel

def dStringTime7 : Dev :=
  bxDev
theorem test_witness_StringTime_7 :
    dStringTime7.wf ∧ (dStringTime7.bxRuns 1 = true) ∧ (dStringTime7.bxUp 1 = true) ∧ (dStringTime7.sized) ∧
    (dStringTime7.sendsTime = false) :=
  by decide +kernel

-- Obligations.FramesOnBasxiop

def dBasxiop1 : Dev :=
  bxDev
theorem test_witness_Basxiop_1 :
    dBasxiop1.wf ∧ (dBasxiop1.bxRuns (1 : Fin 2) = true) ∧ (dBasxiop1.bxUp (1 : Fin 2) = true) ∧ (dBasxiop1.sized) ∧
    (([1, 2, 3, 4, 5, 6, 7, 0] : Bytes).length % 8 = 0) ∧ (termOk ([1, 2, 3, 4, 5, 6, 7, 0] : Bytes) (none : Option (BitVec 48)) = false) :=
  by decide +kernel

def dBasxiop2 : Dev :=
  bxDev
theorem test_witness_Basxiop_2 :
    dBasxiop2.wf ∧ (dBasxiop2.bxRuns (1 : Fin 2) = true) ∧ (dBasxiop2.bxUp (1 : Fin 2) = true) ∧ (dBasxiop2.sized) ∧
    (([1, 2, 3, 4, 5, 6, 7, 0] : Bytes).length % 8 = 0) ∧
    (termOk ([1, 2, 3, 4, 5, 6, 7, 0] : Bytes) (some (bxTerm [1, 2, 3, 4, 5, 6, 7]) : Option (BitVec 48)) = true) ∧
    (1 ≤ ([1, 2, 3, 4, 5, 6, 7, 0] : Bytes).length ∧ ([1, 2, 3, 4, 5, 6, 7, 0] : Bytes).length ≤ 4096) :=
  by decide +kernel

def dBasxiop3 : Dev :=
  bxDev
theorem test_witness_Basxiop_3 :
    dBasxiop3.wf ∧ (dBasxiop3.bxRuns (1 : Fin 2) = true) ∧ (dBasxiop3.bxUp (1 : Fin 2) = true) ∧ (dBasxiop3.sized) ∧
    (([1, 2, 3, 4, 5, 6, 7, 0] : Bytes).length % 8 = 0) ∧
    (termOk ([1, 2, 3, 4, 5, 6, 7, 0] : Bytes) (some (bxTerm [1, 2, 3, 4, 5, 6, 7]) : Option (BitVec 48)) = true) ∧
    (dBasxiop3.role = 0) ∧ (1 ≤ ([1, 2, 3, 4, 5, 6, 7, 0] : Bytes).length ∧ ([1, 2, 3, 4, 5, 6, 7, 0] : Bytes).length ≤ 9600) :=
  by decide +kernel

def dBasxiop4 : Dev :=
  bxDev.set F.BX_STRING.ROLE 2 |>.set F.BX_STRING.POSITIONED 1
theorem test_witness_Basxiop_4 :
    dBasxiop4.wf ∧ (dBasxiop4.bxRuns (0 : Fin 2) = true) ∧ (dBasxiop4.bxUp (0 : Fin 2) = true) ∧ (dBasxiop4.sized) ∧
    (([1, 2, 3, 4, 5, 6, 7, 0] : Bytes).length % 8 = 0) ∧ ((0 : Fin 2) = 0) ∧
    (termOk ([1, 2, 3, 4, 5, 6, 7, 0] : Bytes) (some (bxTerm [1, 2, 3, 4, 5, 6, 7]) : Option (BitVec 48)) = true) ∧
    (dBasxiop4.role = 2) ∧ (dBasxiop4.flag F.BX_STRING.POSITIONED = true) ∧
    (1 ≤ ([1, 2, 3, 4, 5, 6, 7, 0] : Bytes).length ∧ ([1, 2, 3, 4, 5, 6, 7, 0] : Bytes).length ≤ 9600) ∧ (dBasxiop4.bxUp 1 = true) ∧
    ((dBasxiop4.bxPort 1).waitOwn = []) ∧ ((dBasxiop4.bxPort 1).waitRelay = []) ∧ ((dBasxiop4.bxPort 1).wait0 = []) ∧
    (cdiv (cdiv ([1, 2, 3, 4, 5, 6, 7, 0] : Bytes).length 8) 8 ≤ (dBasxiop4.bxPort 1).credits 1) :=
  by decide +kernel

def dBasxiop5 : Dev :=
  bxDev.set F.BX_STRING.ROLE 1 |>.set (F.OUT_SCFG.PORT 1) 2 |>.set (F.OUT_SCFG.EN 1) 1
theorem test_witness_Basxiop_5 :
    dBasxiop5.wf ∧ (dBasxiop5.bxRuns (0 : Fin 2) = true) ∧ (dBasxiop5.bxUp (0 : Fin 2) = true) ∧ (dBasxiop5.sized) ∧
    (([1, 0, 0, 0, 0, 0, 0, 9, 7, 0, 0, 0, 0, 0, 0, 0] : Bytes).length % 8 = 0) ∧ ((0 : Fin 2) = 0) ∧
    (termOk ([1, 0, 0, 0, 0, 0, 0, 9, 7, 0, 0, 0, 0, 0, 0, 0] : Bytes) (some (bxTerm [1, 0, 0, 0, 0, 0, 0, 9, 7]) : Option (BitVec 48)) = true) ∧
    (dBasxiop5.role = 1) ∧
    (8 ≤ (unpad ([1, 0, 0, 0, 0, 0, 0, 9, 7, 0, 0, 0, 0, 0, 0, 0] : Bytes) (some (bxTerm [1, 0, 0, 0, 0, 0, 0, 9, 7]) : Option (BitVec 48))).length ∧ ([1, 0, 0, 0, 0, 0, 0, 9, 7, 0, 0, 0, 0, 0, 0, 0] : Bytes).length ≤ 9600) ∧
    (rd 1 (unpad ([1, 0, 0, 0, 0, 0, 0, 9, 7, 0, 0, 0, 0, 0, 0, 0] : Bytes) (some (bxTerm [1, 0, 0, 0, 0, 0, 0, 9, 7]) : Option (BitVec 48))) 0 = (1 : Fin 2).val) ∧
    (∀ k < 2, (sCfg dBasxiop5.get (1 : Fin 2)).goes k = true ↔ k = (1 : Fin 2).val) ∧
    ((dBasxiop5.fwdUnit (1 : Fin 2) ((unpad ([1, 0, 0, 0, 0, 0, 0, 9, 7, 0, 0, 0, 0, 0, 0, 0] : Bytes) (some (bxTerm [1, 0, 0, 0, 0, 0, 0, 9, 7]) : Option (BitVec 48))).drop 8)).1 ∉ (dBasxiop5.port (1 : Fin 2)).droppedUnit) ∧
    ((((dBasxiop5.port (1 : Fin 2)).queues.getD 4 []).map (·.size)).sum + ([1, 0, 0, 0, 0, 0, 0, 9, 7, 0, 0, 0, 0, 0, 0, 0] : Bytes).length ≤ 524288) :=
  by decide +kernel

def dBasxiop6 : Dev :=
  bxDev
theorem test_witness_Basxiop_6 :
    dBasxiop6.wf ∧ (dBasxiop6.bxRuns (1 : Fin 2) = true) ∧ (dBasxiop6.bxUp (1 : Fin 2) = true) ∧ (dBasxiop6.sized) ∧
    (([1, 2, 3, 4, 5, 6, 7, 0] : Bytes).length % 8 = 0) ∧
    (termOk ([1, 2, 3, 4, 5, 6, 7, 0] : Bytes) (some (bxTerm [1, 2, 3, 4, 5, 6, 7]) : Option (BitVec 48)) = true) ∧
    (dBasxiop6.role = 0) ∧ (1 ≤ ([1, 2, 3, 4, 5, 6, 7, 0] : Bytes).length ∧ ([1, 2, 3, 4, 5, 6, 7, 0] : Bytes).length ≤ 4096) :=
  by decide +kernel

def dBasxiop7 : Dev :=
  { bxDev with bx := { w0.bx with fwd := [{ pos := 2, session := 0x506, tag := 0x700 }] } }.set F.BX_STRING.ROLE 1
theorem test_witness_Basxiop_7 :
    dBasxiop7.wf ∧ (dBasxiop7.bxRuns (0 : Fin 2) = true) ∧ (dBasxiop7.bxUp (0 : Fin 2) = true) ∧ (dBasxiop7.sized) ∧
    (([1, 2, 3, 4, 5, 6, 7, 0] : Bytes).length % 8 = 0) ∧
    (termOk ([1, 2, 3, 4, 5, 6, 7, 0] : Bytes) (some (BitVec.ofNat 48 (crc32c [1, 2, 3, 4, 5, 6, 7, 0] * 2 ^ 16)) : Option (BitVec 48)) = true) ∧
    (dBasxiop7.role = 1) ∧ (1 ≤ ([1, 2, 3, 4, 5, 6, 7, 0] : Bytes).length ∧ ([1, 2, 3, 4, 5, 6, 7, 0] : Bytes).length ≤ 4096) ∧
    (dBasxiop7.bx.fwd = [({ pos := 2, session := 0x506, tag := 0x700 } : BxFwd)]) ∧
    (({ pos := 2, session := 0x506, tag := 0x700 } : BxFwd).pos = (2 : Fin 4).val) ∧
    (({ pos := 2, session := 0x506, tag := 0x700 } : BxFwd).session = rd 2 (unpad ([1, 2, 3, 4, 5, 6, 7, 0] : Bytes) (some (BitVec.ofNat 48 (crc32c [1, 2, 3, 4, 5, 6, 7, 0] * 2 ^ 16)) : Option (BitVec 48))) 4) ∧
    (({ pos := 2, session := 0x506, tag := 0x700 } : BxFwd).tag = rd 2 (unpad ([1, 2, 3, 4, 5, 6, 7, 0] : Bytes) (some (BitVec.ofNat 48 (crc32c [1, 2, 3, 4, 5, 6, 7, 0] * 2 ^ 16)) : Option (BitVec 48))) 6) ∧
    (dBasxiop7.prpOn = false) :=
  by decide +kernel

def dBasxiop8 : Dev :=
  bxDev.set F.BX_STRING.ROLE 1
theorem test_witness_Basxiop_8 :
    dBasxiop8.wf ∧ (dBasxiop8.ethRuns ({ port := 1, t := 9, mac := 1, vid := 0, trailer := none } : RxFrame).port = true) ∧
    (dBasxiop8.vidOk ({ port := 1, t := 9, mac := 1, vid := 0, trailer := none } : RxFrame).vid = true) ∧
    (({ port := 1, t := 9, mac := 1, vid := 0, trailer := none } : RxFrame).trailer = none) ∧ (dBasxiop8.role = 1) ∧
    (1 ≤ (3 : Nat) ∧ (3 : Nat) ≤ 3) ∧ (dBasxiop8.bxUp 0 = true) :=
  by decide +kernel

def dBasxiop9 : Dev :=
  netUp w0
theorem test_witness_Basxiop_9 :
    dBasxiop9.wf ∧ (dBasxiop9.ethRuns ({ port := 1, t := 9, mac := 1, vid := 0, trailer := none } : RxFrame).port = true) ∧
    (dBasxiop9.vidOk ({ port := 1, t := 9, mac := 1, vid := 0, trailer := none } : RxFrame).vid = true) ∧
    (({ port := 1, t := 9, mac := 1, vid := 0, trailer := none } : RxFrame).trailer = none) ∧ (dBasxiop9.role ≠ 1) :=
  by decide +kernel

-- Obligations.MemoryWordsAreScrubbed

def dMemoryWords5 : Dev :=
  { w0 with held := false }
theorem test_witness_MemoryWords_5 :
    dMemoryWords5.wf ∧ (dMemoryWords5.held = false) :=
  by decide +kernel

def dMemoryWords6 : Dev :=
  { w0 with held := false }
theorem test_witness_MemoryWords_6 :
    dMemoryWords6.wf ∧ (dMemoryWords6.held = false) ∧ (dMemoryWords6.rcd.balanced) ∧
    (dMemoryWords6.bxUp 0 = false ∨ (dMemoryWords6.bxPort 0).overdrawn = false) ∧
    (dMemoryWords6.bxUp 1 = false ∨ (dMemoryWords6.bxPort 1).overdrawn = false) :=
  by decide +kernel

def dMemoryWords7 : Dev :=
  { w0 with held := false, rcd := { w0.rcd with free := 5 } }
theorem test_witness_MemoryWords_7 :
    dMemoryWords7.wf ∧ (dMemoryWords7.held = false) ∧
    (dMemoryWords7.rcd.free + dMemoryWords7.rcd.blocks.length ≠ dMemoryWords7.rcd.total) :=
  by decide +kernel

def dMemoryWords8 : Dev :=
  { bxBoth { cons0 := 65 } with held := false }
theorem test_witness_MemoryWords_8 :
    dMemoryWords8.wf ∧ (dMemoryWords8.held = false) ∧ (dMemoryWords8.bxUp (1 : Fin 2) = true) ∧
    ((dMemoryWords8.bxPort (1 : Fin 2)).overdrawn = true) :=
  by decide +kernel

def dScrub1 : Dev :=
  { w0 with held := false }.set F.CLK_STATUS.PLL_LOCK 1
theorem test_witness_Scrub_1 :
    dScrub1.wf ∧ (dScrub1.held = false) ∧ (dScrub1.memRuns (.acq 2 : MemKind) = true) ∧
    (dScrub1.readsZero (.acq 2 : MemKind) (16 : Nat) = false) ∧
    (dScrub1.readJudge (.acq 2 : MemKind) (16 : Nat) (zeros 19 : Bytes) = .clean) :=
  by decide +kernel

def dScrub2 : Dev :=
  { w0 with held := false }
theorem test_witness_Scrub_2 :
    dScrub2.wf ∧ (dScrub2.held = false) ∧
    (dScrub2.memRuns (.ring : MemKind) = false ∨ dScrub2.readsZero (.ring : MemKind) (0 : Nat) = true) :=
  by decide +kernel

def dScrub3 : Dev :=
  { w0 with held := false }.set F.CLK_STATUS.PLL_LOCK 1
theorem test_witness_Scrub_3 :
    dScrub3.wf ∧ (dScrub3.held = false) ∧ (dScrub3.rootRuns = true) ∧
    (dScrub3.readJudge (.ring : MemKind) (32 : Nat) (1 :: zeros 18 : Bytes) = .corrected (3 : Nat) (zeros 19 : Bytes)) ∧
    ((.ring : MemKind) = .fStore ∨ (.ring : MemKind) = .pStore ∨ (.ring : MemKind) = .ring) :=
  by decide +kernel

def dScrub4 : Dev :=
  { w0 with held := false, cnt := [(511, { coarse := [(5119, 3)] })] }
theorem test_witness_Scrub_4 :
    dScrub4.wf ∧ (dScrub4.held = false) ∧ (dScrub4.readsZero (.tally (511 : Fin 512)) (512 : Nat) = false) ∧
    (dScrub4.readJudge (.tally (511 : Fin 512)) (512 : Nat) (1 :: zeros 18 : Bytes) = .corrected (3 : Nat) (zeros 19 : Bytes)) :=
  by decide +kernel

def dScrub5 : Dev :=
  { w0 with held := false }.set F.CLK_STATUS.PLL_LOCK 1
theorem test_witness_Scrub_5 :
    dScrub5.wf ∧ (dScrub5.held = false) ∧ (dScrub5.rootRuns = true) ∧
    (dScrub5.readJudge .fStore (0 : Nat) (1 :: 1 :: zeros 17 : Bytes) = .uncorrectable) ∧ (dScrub5.st.ticks = false) :=
  by decide +kernel

def dScrub6 : Dev :=
  { w0 with held := false }
theorem test_witness_Scrub_6 :
    dScrub6.wf ∧ (dScrub6.held = false) ∧
    (dScrub6.readJudge (.toll (.proc : TollChan)) (0 : Nat) (1 :: 1 :: zeros 17 : Bytes) = .uncorrectable) ∧ (dScrub6.toll.fault = 0) :=
  by decide +kernel

def dScrub7 : Dev :=
  { w0 with held := false, rcd := { w0.rcd with writeback := [{ m := .pStore, addr := 64, word := zeros 16, seen := [] }] } }.set F.CLK_STATUS.PLL_LOCK 1
theorem test_witness_Scrub_7 :
    dScrub7.wf ∧ (dScrub7.held = false) ∧ (dScrub7.memRuns (.pStore : MemKind) = true) ∧
    (dScrub7.rcd.writeback.find? (fun y => y.m = (.pStore : MemKind) && y.addr = (64 : Nat)) = some ({ m := .pStore, addr := 64, word := zeros 16, seen := [] } : EccBack)) :=
  by decide +kernel

def dScrub8 : Dev :=
  { w0 with held := false }.set F.CLK_STATUS.PLL_LOCK 1
theorem test_witness_Scrub_8 :
    dScrub8.wf ∧ (dScrub8.held = false) ∧
    (dScrub8.memRuns (.pStore : MemKind) = false ∨ dScrub8.rcd.writeback.find? (fun y => y.m = (.pStore : MemKind) && y.addr = (64 : Nat)) = none) :=
  by decide +kernel

-- Obligations.IncidentsAreRecorded

def dIncidents1 : Dev :=
  w0
theorem test_witness_Incidents_1 :
    dIncidents1.wf ∧ ((999 : Nat) < 1000) :=
  by decide +kernel

def dIncidents2 : Dev :=
  { w0 with held := false }
theorem test_witness_Incidents_2 :
    dIncidents2.wf ∧ (dIncidents2.rcd.ready = false) ∧ (dIncidents2.held = false) :=
  by decide +kernel

def dIncidents3 : Dev :=
  { w0 with held := false, rcd := drvReady }
theorem test_witness_Incidents_3 :
    dIncidents3.wf ∧ (dIncidents3.rcd.ready = true) ∧ (dIncidents3.rcd.cur = none) ∧ (dIncidents3.held = false) ∧
    (takenBlocks dIncidents3.rcd.done + dIncidents3.reserve ≤ dIncidents3.rcd.nBlocks) :=
  by decide +kernel

def dIncidents4 : Dev :=
  { w0 with tb := { w0.tb with t40 := 5 * 1099511627776 }, rcd := { drvReady with cur := some { t := 2, endT := 50 } } }
theorem test_witness_Incidents_4 :
    dIncidents4.wf ∧ (dIncidents4.rcd.ready = true) ∧ (dIncidents4.rcd.cur = some ({ t := 2, endT := 50 } : Incident)) ∧
    (dIncidents4.nowNs < ({ t := 2, endT := 50 } : Incident).endT) ∧ (({ t := 2, endT := 50 } : Incident).t < dIncidents4.nowNs) ∧
    (({ t := 2, endT := 50 } : Incident).trigs.length < 32) :=
  by decide +kernel

def dIncidents7 : Dev :=
  { w0 with rcd := { drvReady with done := [{ no := 7 }] } }
theorem test_witness_Incidents_7 :
    dIncidents7.wf ∧ (Role.canWrite (.operator : Role) false = true) ∧
    (dIncidents7.incidents.any (fun i => i.no = (7 : Fin 1000).val) = true) :=
  by decide +kernel

def dIncidents8 : Dev :=
  { w0 with tb := { w0.tb with t40 := 50 * 1099511627776 }, rcd := { drvReady with cur := some { t := 2, endT := 50 } } }
theorem test_witness_Incidents_8 :
    dIncidents8.wf ∧ (dIncidents8.rcd.ready = true) ∧ (dIncidents8.rcd.cur = some ({ t := 2, endT := 50 } : Incident)) ∧
    (({ t := 2, endT := 50 } : Incident).endT ≤ dIncidents8.nowNs) :=
  by decide +kernel

def dIncidents9 : Dev :=
  { w0 with rcd := { drvReady with cur := some { t := 2, endT := 50 }, head := 99 } }
theorem test_witness_Incidents_9 :
    dIncidents9.wf ∧ (dIncidents9.rcd.cur = some ({ t := 2, endT := 50 } : Incident)) ∧ (dIncidents9.rcd.queued = []) ∧
    (dIncidents9.rcd.head < dIncidents9.rcd.nBlocks) ∧ (dIncidents9.rcd.head ≠ dIncidents9.rcd.headOf) :=
  by decide +kernel

def dIncidents10 : Dev :=
  { w0 with rcd := { drvReady with cur := some { t := 2, endT := 50 } } }
theorem test_witness_Incidents_10 :
    dIncidents10.wf ∧ (dIncidents10.rcd.cur = some ({ t := 2, endT := 50 } : Incident)) ∧ (dIncidents10.rcd.queued = []) ∧
    (dIncidents10.rcd.head = dIncidents10.rcd.headOf) :=
  by decide +kernel

-- Obligations.DriveComesAndGoes

def dDrive1 : Dev :=
  { w0 with held := false }
theorem test_witness_Drive_1 :
    dDrive1.wf ∧ (dDrive1.rcd.present = false) ∧ (dDrive1.held = false) :=
  by decide +kernel

def dDrive2 : Dev :=
  { w0 with held := false, rcd := { w0.rcd with present := true } }.set F.CLK_STATUS.PLL_LOCK 1
theorem test_witness_Drive_2 :
    dDrive2.wf ∧ (dDrive2.rcd.present = true) ∧ (dDrive2.get F.REC_STATUS.STATE = 0) ∧ (dDrive2.rootRuns = true) ∧ (dDrive2.held = false) ∧
    (dDrive2.rcd.width ≠ 0) :=
  by decide +kernel

def dDrive3 : Dev :=
  { w0 with held := false, rcd := { w0.rcd with present := true } }.set F.CLK_STATUS.PLL_LOCK 1
theorem test_witness_Drive_3 :
    dDrive3.wf ∧ (dDrive3.rcd.present = true) ∧ (dDrive3.get F.REC_STATUS.STATE = 0) ∧ (dDrive3.rootRuns = true) ∧ (dDrive3.held = false) ∧
    (dDrive3.rcd.width ≠ 0) ∧ (sbOk ([] : Bytes) = false) ∧ (sbOk ([] : Bytes) = false) :=
  by decide +kernel

def dDrive7 : Dev :=
  w0.set F.REC_STATUS.STATE 3
theorem test_witness_Drive_7 :
    dDrive7.wf ∧ (dDrive7.get F.REC_STATUS.STATE = 1 ∨ dDrive7.get F.REC_STATUS.STATE = 3) :=
  by decide +kernel

def dDrive8 : Dev :=
  w0.set F.REC_STATUS.STATE 2
theorem test_witness_Drive_8 :
    dDrive8.wf ∧ (dDrive8.get F.REC_STATUS.STATE = 2) :=
  by decide +kernel

def dDrive9 : Dev :=
  { w0 with held := false, rcd := { w0.rcd with present := true } }.set F.CLK_STATUS.PLL_LOCK 1
theorem test_witness_Drive_9 :
    dDrive9.wf ∧ (dDrive9.rcd.present = true) ∧ (dDrive9.get F.REC_STATUS.STATE = 0) ∧ (dDrive9.rootRuns = true) ∧
    (dDrive9.held = false) ∧ (dDrive9.rcd.width ≠ 0) ∧ (sbOk (superBlk : Bytes) = true) ∧ (sbOk ([] : Bytes) = false) ∧
    (dDrive9.rcd.knows (superBlk : Bytes) = false) ∧
    (rd 8 (superBlk : Bytes) 0x10 = (rd 8 (superBlk : Bytes) 0x18 + takenBlocks (({ blocks := 356, ring := [] } : DriveSpace).ring.map Incident.ofBytes)) % max 1 (rd 8 (superBlk : Bytes) 8)) :=
  by decide +kernel

def dDrive10 : Dev :=
  { w0 with held := false, rcd := { w0.rcd with present := true, sb0 := superBlk, torn := some {}, openAtReset := true } }.set F.CLK_STATUS.PLL_LOCK 1
theorem test_witness_Drive_10 :
    dDrive10.wf ∧ (dDrive10.rcd.present = true) ∧ (dDrive10.get F.REC_STATUS.STATE = 0) ∧ (dDrive10.rootRuns = true) ∧
    (dDrive10.held = false) ∧ (dDrive10.rcd.width ≠ 0) ∧ (sbPick (superBlk : Bytes) ([] : Bytes) = some (superBlk : Bytes)) ∧
    (dDrive10.rcd.knows (superBlk : Bytes) = true) ∧ (dDrive10.rcd.head = dDrive10.rcd.headOf) ∧
    (dDrive10.rcd.torn = some ({} : Incident)) ∧ (dDrive10.rcd.openAtReset = true) :=
  by decide +kernel

def dDrive11 : Dev :=
  { w0 with held := false, rcd := { w0.rcd with present := true } }.set F.CLK_STATUS.PLL_LOCK 1
theorem test_witness_Drive_11 :
    dDrive11.wf ∧ (dDrive11.rcd.present = true) ∧ (dDrive11.get F.REC_STATUS.STATE = 0) :=
  by decide +kernel

def dDrive12 : Dev :=
  { w0 with rcd := drvReady }.set F.REC_STATUS.STATE 1
theorem test_witness_Drive_12 :
    dDrive12.wf ∧ (dDrive12.rcd.present = true) ∧ (dDrive12.get F.REC_STATUS.STATE ≠ 0) :=
  by decide +kernel

def dDrive13 : Dev :=
  { w0 with rcd := { drvReady with cur := some {} } }.set F.REC_STATUS.STATE 2
theorem test_witness_Drive_13 :
    dDrive13.wf ∧ (Role.canWrite (.operator : Role) false = true) ∧ (dDrive13.get F.REC_STATUS.STATE ≠ 0) ∧
    (dDrive13.rcd.cur = some ({} : Incident)) ∧ (dDrive13.rcd.head = dDrive13.rcd.headOf) ∧ (dDrive13.rcd.queued = []) :=
  by decide +kernel

def dDrive14 : Dev :=
  { w0 with rcd := drvReady }.set F.REC_STATUS.STATE 3
theorem test_witness_Drive_14 :
    dDrive14.wf ∧ (Role.canWrite (.operator : Role) false = true) ∧ (dDrive14.get F.REC_STATUS.STATE ≠ 0) ∧ (dDrive14.rcd.cur = none) ∧
    (dDrive14.rcd.queued = []) :=
  by decide +kernel

-- Obligations.UnauthenticatedRequests

def dRequests1 : Dev :=
  sessDev 1
theorem test_witness_Requests_1 :
    dRequests1.wf ∧ ((hdrA : ReqHdr).path = .udp) ∧ (dRequests1.ethRuns (hdrA : ReqHdr).rx.port = true) ∧
    (dRequests1.vidOk (hdrA : ReqHdr).rx.vid = true) ∧ ((hdrA : ReqHdr).rx.trailer = none) ∧
    (dRequests1.flag F.BOOT_STATUS.RECOVERY = false) ∧ (dRequests1.diagnostic = true) ∧ ((hdrA : ReqHdr).session = 0) ∧
    ((hdrA : ReqHdr).seq = 0) ∧ ((hdrA : ReqHdr).mac = []) ∧ ((hdrA : ReqHdr).tag < 65536) ∧
    (∀ k ∈ dRequests1.flf.kept, k.src ≠ (hdrA : ReqHdr).src) ∧ ((0x1FFF : Nat) < 65536) ∧ ((0 : Nat) < 256) ∧
    (entOf (0x1FFF : Nat) (0 : Nat) = none) ∧ (objAccess (0x1FFF : Nat) (0 : Nat) = none) :=
  by decide +kernel

def dRequests2 : Dev :=
  sessDev 1
theorem test_witness_Requests_2 :
    dRequests2.wf ∧ ((hdrA : ReqHdr).path = .udp) ∧ (dRequests2.ethRuns (hdrA : ReqHdr).rx.port = true) ∧
    (dRequests2.vidOk (hdrA : ReqHdr).rx.vid = true) ∧ ((hdrA : ReqHdr).rx.trailer = none) ∧
    (dRequests2.flag F.BOOT_STATUS.RECOVERY = false) ∧ (dRequests2.diagnostic = true) ∧ ((hdrA : ReqHdr).session = 0) ∧
    ((hdrA : ReqHdr).seq = 0) ∧ ((hdrA : ReqHdr).mac = []) ∧ ((hdrA : ReqHdr).tag < 65536) ∧
    (∀ k ∈ dRequests2.flf.kept, k.src ≠ (hdrA : ReqHdr).src) :=
  by decide +kernel

def dRequests3 : Dev :=
  sessDev 1
theorem test_witness_Requests_3 :
    dRequests3.wf ∧ ((hdrA : ReqHdr).path = .udp) ∧ (dRequests3.ethRuns (hdrA : ReqHdr).rx.port = true) ∧
    (dRequests3.vidOk (hdrA : ReqHdr).rx.vid = true) ∧ ((hdrA : ReqHdr).rx.trailer = none) ∧
    (dRequests3.flag F.BOOT_STATUS.RECOVERY = false) ∧ (dRequests3.diagnostic = true) ∧ ((hdrA : ReqHdr).session = 0) ∧
    ((hdrA : ReqHdr).seq = 0) ∧ ((hdrA : ReqHdr).mac = []) ∧ ((hdrA : ReqHdr).tag < 65536) ∧
    (∀ k ∈ dRequests3.flf.kept, k.src ≠ (hdrA : ReqHdr).src) ∧ ((0x1200 : Nat) < 65536) ∧ ((3 : Nat) < 256) ∧ ((3 : Nat) < 256) ∧
    (([0, 60] : Bytes).length < 100) ∧ ((entOf (0x1200 : Nat) (3 : Nat)).isSome = true) :=
  by decide +kernel

def dRequests4 : Dev :=
  sessDev 1
theorem test_witness_Requests_4 :
    dRequests4.wf ∧ ((hdrA : ReqHdr).path = .udp) ∧ (dRequests4.ethRuns (hdrA : ReqHdr).rx.port = true) ∧
    (dRequests4.vidOk (hdrA : ReqHdr).rx.vid = true) ∧ ((hdrA : ReqHdr).rx.trailer = none) ∧
    (dRequests4.flag F.BOOT_STATUS.RECOVERY = false) ∧ (dRequests4.diagnostic = true) ∧ ((hdrA : ReqHdr).session = 0) ∧
    ((hdrA : ReqHdr).seq = 0) ∧ ((hdrA : ReqHdr).mac = []) ∧ ((hdrA : ReqHdr).tag < 65536) ∧
    (∀ k ∈ dRequests4.flf.kept, k.src ≠ (hdrA : ReqHdr).src) ∧ ((0x1200 : Nat) < 65536) ∧ ((3 : Nat) < 256) ∧
    (([0, 60] : Bytes).length = tySize (3 : Nat)) ∧ (1 ≤ (3 : Nat) ∧ (3 : Nat) ≤ 9) ∧ ((entOf (0x1200 : Nat) (3 : Nat)).isSome = true) :=
  by decide +kernel

def dRequests5 : Dev :=
  sessDev 1
theorem test_witness_Requests_5 :
    dRequests5.wf ∧ ((hdrA : ReqHdr).path = .udp) ∧ (dRequests5.ethRuns (hdrA : ReqHdr).rx.port = true) ∧
    (dRequests5.vidOk (hdrA : ReqHdr).rx.vid = true) ∧ ((hdrA : ReqHdr).rx.trailer = none) ∧
    (dRequests5.flag F.BOOT_STATUS.RECOVERY = false) ∧ (dRequests5.diagnostic = true) ∧ ((hdrA : ReqHdr).session = 0) ∧
    ((hdrA : ReqHdr).seq = 0) ∧ ((hdrA : ReqHdr).mac = []) ∧ ((hdrA : ReqHdr).tag < 65536) ∧
    (∀ k ∈ dRequests5.flf.kept, k.src ≠ (hdrA : ReqHdr).src) ∧ (isTable (0x7000 : Nat) = true) ∧
    ((16 : Nat) < 2 ^ 32 ∧ (0 : Nat) < 2 ^ 32) :=
  by decide +kernel

def dRequests6 : Dev :=
  sessDev 1
theorem test_witness_Requests_6 :
    dRequests6.wf ∧ ((hdrA : ReqHdr).path = .udp) ∧ (dRequests6.ethRuns (hdrA : ReqHdr).rx.port = true) ∧
    (dRequests6.vidOk (hdrA : ReqHdr).rx.vid = true) ∧ ((hdrA : ReqHdr).rx.trailer = none) ∧
    (dRequests6.flag F.BOOT_STATUS.RECOVERY = false) ∧ (dRequests6.diagnostic = true) ∧ ((hdrA : ReqHdr).session = 0) ∧
    ((hdrA : ReqHdr).seq = 0) ∧ ((hdrA : ReqHdr).mac = []) ∧ ((hdrA : ReqHdr).tag < 65536) ∧
    (∀ k ∈ dRequests6.flf.kept, k.src ≠ (hdrA : ReqHdr).src) ∧ (([1] : Bytes).length < 100) ∧
    (dRequests6.transferOf (65536 + (hdrA : ReqHdr).src) = none) :=
  by decide +kernel

def dRequests7 : Dev :=
  sessDev 1
theorem test_witness_Requests_7 :
    dRequests7.wf ∧ ((hdrA : ReqHdr).path = .udp) ∧ (dRequests7.ethRuns (hdrA : ReqHdr).rx.port = true) ∧
    (dRequests7.vidOk (hdrA : ReqHdr).rx.vid = true) ∧ ((hdrA : ReqHdr).rx.trailer = none) ∧
    (dRequests7.flag F.BOOT_STATUS.RECOVERY = false) ∧ (dRequests7.diagnostic = true) ∧ ((hdrA : ReqHdr).session = 0) ∧
    ((hdrA : ReqHdr).seq = 0) ∧ ((hdrA : ReqHdr).mac = []) ∧ ((hdrA : ReqHdr).tag < 65536) ∧
    (∀ k ∈ dRequests7.flf.kept, k.src ≠ (hdrA : ReqHdr).src) :=
  by decide +kernel

def dRequests8 : Dev :=
  sessDev 1
theorem test_witness_Requests_8 :
    dRequests8.wf ∧ ((hdrA : ReqHdr).path = .udp) ∧ (dRequests8.ethRuns (hdrA : ReqHdr).rx.port = true) ∧
    (dRequests8.vidOk (hdrA : ReqHdr).rx.vid = true) ∧ ((hdrA : ReqHdr).rx.trailer = none) ∧
    (dRequests8.flag F.BOOT_STATUS.RECOVERY = false) ∧ (dRequests8.diagnostic = true) ∧ ((hdrA : ReqHdr).session = 0) ∧
    ((hdrA : ReqHdr).seq = 0) ∧ ((hdrA : ReqHdr).mac = []) ∧ ((hdrA : ReqHdr).tag < 65536) ∧
    (∀ k ∈ dRequests8.flf.kept, k.src ≠ (hdrA : ReqHdr).src) :=
  by decide +kernel

def dRequests9 : Dev :=
  sessDev 1
theorem test_witness_Requests_9 :
    dRequests9.wf ∧ ((hdrA : ReqHdr).path = .udp) ∧ (dRequests9.ethRuns (hdrA : ReqHdr).rx.port = true) ∧
    (dRequests9.vidOk (hdrA : ReqHdr).rx.vid = true) ∧ ((hdrA : ReqHdr).rx.trailer = none) ∧
    (dRequests9.flag F.BOOT_STATUS.RECOVERY = false) ∧ (dRequests9.diagnostic = true) ∧ ((hdrA : ReqHdr).session = 0) ∧
    ((hdrA : ReqHdr).seq = 0) ∧ ((hdrA : ReqHdr).mac = []) ∧ ((hdrA : ReqHdr).tag < 65536) ∧
    (∀ k ∈ dRequests9.flf.kept, k.src ≠ (hdrA : ReqHdr).src) ∧ ((zeros 16 : Bytes).length = 16) ∧ ((3 : Nat) < 256) ∧ ((3 : Nat) ≠ 1) ∧
    ((3 : Nat) ≠ 2) :=
  by decide +kernel

def dRequests10 : Dev :=
  sessDev 1
theorem test_witness_Requests_10 :
    dRequests10.wf ∧ ((hdrA : ReqHdr).path = .udp) ∧ (dRequests10.ethRuns (hdrA : ReqHdr).rx.port = true) ∧
    (dRequests10.vidOk (hdrA : ReqHdr).rx.vid = true) ∧ ((hdrA : ReqHdr).rx.trailer = none) ∧
    (dRequests10.flag F.BOOT_STATUS.RECOVERY = false) ∧ (dRequests10.diagnostic = true) ∧ ((hdrA : ReqHdr).session = 0) ∧
    ((hdrA : ReqHdr).seq = 0) ∧ ((hdrA : ReqHdr).mac = []) ∧ ((hdrA : ReqHdr).tag < 65536) ∧
    (∀ k ∈ dRequests10.flf.kept, k.src ≠ (hdrA : ReqHdr).src) ∧ ((zeros 16 : Bytes).length = 16) ∧ (dRequests10.flf.lock = []) ∧
    (dRequests10.sessionsFull 1 = false) ∧ (dRequests10.numbersGone = false) :=
  by decide +kernel

def dRequests11 : Dev :=
  sessDev 1
theorem test_witness_Requests_11 :
    dRequests11.wf ∧ ((hdrA : ReqHdr).path = .udp) ∧ (dRequests11.ethRuns (hdrA : ReqHdr).rx.port = true) ∧
    (dRequests11.vidOk (hdrA : ReqHdr).rx.vid = true) ∧ ((hdrA : ReqHdr).rx.trailer = none) ∧
    (dRequests11.flag F.BOOT_STATUS.RECOVERY = false) ∧ (dRequests11.diagnostic = true) ∧ ((hdrA : ReqHdr).session = 0) ∧
    ((hdrA : ReqHdr).seq = 0) ∧ ((hdrA : ReqHdr).mac = []) ∧ ((hdrA : ReqHdr).tag < 65536) ∧
    (∀ k ∈ dRequests11.flf.kept, k.src ≠ (hdrA : ReqHdr).src) :=
  by decide +kernel

def dRepeatedRequests1 : Dev :=
  { sessDev 1 with flf := { w0.flf with kept := [{ src := 65536 * 7 + 9, req := reqFrame hdrA 0x20 (be 1 1 ++ zeros 3 ++ zeros 16), resp := [1] }] } }
theorem test_witness_RepeatedRequests_1 :
    dRepeatedRequests1.wf ∧ ((hdrA : ReqHdr).path = .udp) ∧ (dRepeatedRequests1.ethRuns (hdrA : ReqHdr).rx.port = true) ∧
    (dRepeatedRequests1.vidOk (hdrA : ReqHdr).rx.vid = true) ∧ ((hdrA : ReqHdr).rx.trailer = none) ∧
    (dRepeatedRequests1.flag F.BOOT_STATUS.RECOVERY = false) ∧ (dRepeatedRequests1.diagnostic = true) ∧ ((hdrA : ReqHdr).session = 0) ∧
    ((hdrA : ReqHdr).seq = 0) ∧ ((hdrA : ReqHdr).mac = []) ∧
    (dRepeatedRequests1.flf.kept = [({ src := 65536 * 7 + 9, req := reqFrame hdrA 0x20 (be 1 1 ++ zeros 3 ++ zeros 16), resp := [1] } : Kept)]) ∧
    (({ src := 65536 * 7 + 9, req := reqFrame hdrA 0x20 (be 1 1 ++ zeros 3 ++ zeros 16), resp := [1] } : Kept).src = (hdrA : ReqHdr).src) ∧
    (max dRepeatedRequests1.up (hdrA : ReqHdr).rx.t ≤ ({ src := 65536 * 7 + 9, req := reqFrame hdrA 0x20 (be 1 1 ++ zeros 3 ++ zeros 16), resp := [1] } : Kept).t + 1000000000) ∧
    ((zeros 16 : Bytes).length = 16) ∧
    (({ src := 65536 * 7 + 9, req := reqFrame hdrA 0x20 (be 1 1 ++ zeros 3 ++ zeros 16), resp := [1] } : Kept).req = reqFrame (hdrA : ReqHdr) 0x20 (be 1 1 ++ zeros 3 ++ (zeros 16 : Bytes))) :=
  by decide +kernel

-- Obligations.RequestsInASession

def dSessionRequests1 : Dev :=
  sessDev 1
theorem test_witness_SessionRequests_1 :
    dSessionRequests1.wf ∧ (({ hdr3 1 (entKey 0x1001 0 ++ zeros 1) with seq := 1 } : ReqHdr).path = .udp) ∧
    (dSessionRequests1.ethRuns ({ hdr3 1 (entKey 0x1001 0 ++ zeros 1) with seq := 1 } : ReqHdr).rx.port = true) ∧
    (dSessionRequests1.vidOk ({ hdr3 1 (entKey 0x1001 0 ++ zeros 1) with seq := 1 } : ReqHdr).rx.vid = true) ∧
    (({ hdr3 1 (entKey 0x1001 0 ++ zeros 1) with seq := 1 } : ReqHdr).rx.trailer = none) ∧
    (dSessionRequests1.flag F.BOOT_STATUS.RECOVERY = false) ∧ (dSessionRequests1.diagnostic = true) ∧
    (1 ≤ ({ hdr3 1 (entKey 0x1001 0 ++ zeros 1) with seq := 1 } : ReqHdr).session ∧ ({ hdr3 1 (entKey 0x1001 0 ++ zeros 1) with seq := 1 } : ReqHdr).session < 65536) ∧
    (dSessionRequests1.session ({ hdr3 1 (entKey 0x1001 0 ++ zeros 1) with seq := 1 } : ReqHdr).session = some (sess 1 : Session)) ∧
    (({ hdr3 1 (entKey 0x1001 0 ++ zeros 1) with seq := 1 } : ReqHdr).seq < 2 ^ 32) ∧
    (({ hdr3 1 (entKey 0x1001 0 ++ zeros 1) with seq := 1 } : ReqHdr).tag < 65536) ∧
    (({ hdr3 1 (entKey 0x1001 0 ++ zeros 1) with seq := 1 } : ReqHdr).mac.length = 16) ∧
    (∀ k ∈ dSessionRequests1.flf.kept, k.src ≠ ({ hdr3 1 (entKey 0x1001 0 ++ zeros 1) with seq := 1 } : ReqHdr).src) ∧
    ((0x1001 : Nat) < 65536) ∧ ((0 : Nat) < 256) ∧
    (({ hdr3 1 (entKey 0x1001 0 ++ zeros 1) with seq := 1 } : ReqHdr).mac ≠ frameTag (sess 1 : Session).key (reqFrame ({ hdr3 1 (entKey 0x1001 0 ++ zeros 1) with seq := 1 } : ReqHdr) 1 (entKey (0x1001 : Nat) (0 : Nat) ++ zeros 1)) ∨ ({ hdr3 1 (entKey 0x1001 0 ++ zeros 1) with seq := 1 } : ReqHdr).seq ≤ (sess 1 : Session).seq) :=
  by decide +kernel

def dSessionRequests2 : Dev :=
  sessDev 2
theorem test_witness_SessionRequests_2 :
    dSessionRequests2.wf ∧ ((hdr3 2 (entKey 0x1200 3 ++ be 1 3 ++ be 2 60) : ReqHdr).path = .udp) ∧
    (dSessionRequests2.ethRuns (hdr3 2 (entKey 0x1200 3 ++ be 1 3 ++ be 2 60) : ReqHdr).rx.port = true) ∧
    (dSessionRequests2.vidOk (hdr3 2 (entKey 0x1200 3 ++ be 1 3 ++ be 2 60) : ReqHdr).rx.vid = true) ∧
    ((hdr3 2 (entKey 0x1200 3 ++ be 1 3 ++ be 2 60) : ReqHdr).rx.trailer = none) ∧ (dSessionRequests2.flag F.BOOT_STATUS.RECOVERY = false) ∧
    (dSessionRequests2.diagnostic = true) ∧
    (1 ≤ (hdr3 2 (entKey 0x1200 3 ++ be 1 3 ++ be 2 60) : ReqHdr).session ∧ (hdr3 2 (entKey 0x1200 3 ++ be 1 3 ++ be 2 60) : ReqHdr).session < 65536) ∧
    (dSessionRequests2.session (hdr3 2 (entKey 0x1200 3 ++ be 1 3 ++ be 2 60) : ReqHdr).session = some (sess 2 : Session)) ∧
    ((hdr3 2 (entKey 0x1200 3 ++ be 1 3 ++ be 2 60) : ReqHdr).seq < 2 ^ 32) ∧
    ((hdr3 2 (entKey 0x1200 3 ++ be 1 3 ++ be 2 60) : ReqHdr).tag < 65536) ∧
    ((hdr3 2 (entKey 0x1200 3 ++ be 1 3 ++ be 2 60) : ReqHdr).mac.length = 16) ∧
    (∀ k ∈ dSessionRequests2.flf.kept, k.src ≠ (hdr3 2 (entKey 0x1200 3 ++ be 1 3 ++ be 2 60) : ReqHdr).src) ∧
    (10 ≤ (60 : Nat) ∧ (60 : Nat) ≤ 3600) ∧ ((sess 2 : Session).role = 2) ∧
    ((sess 2 : Session).seq < (hdr3 2 (entKey 0x1200 3 ++ be 1 3 ++ be 2 60) : ReqHdr).seq) ∧
    ((hdr3 2 (entKey 0x1200 3 ++ be 1 3 ++ be 2 60) : ReqHdr).mac = frameTag (sess 2 : Session).key (reqFrame (hdr3 2 (entKey 0x1200 3 ++ be 1 3 ++ be 2 60) : ReqHdr) 2 (entKey 0x1200 3 ++ be 1 3 ++ be 2 (60 : Nat)))) :=
  by decide +kernel

def dSessionRequests3 : Dev :=
  sessDev 2
theorem test_witness_SessionRequests_3 :
    dSessionRequests3.wf ∧ ((hdr3 2 (entKey 0x1200 3 ++ be 1 3 ++ be 2 3601) : ReqHdr).path = .udp) ∧
    (dSessionRequests3.ethRuns (hdr3 2 (entKey 0x1200 3 ++ be 1 3 ++ be 2 3601) : ReqHdr).rx.port = true) ∧
    (dSessionRequests3.vidOk (hdr3 2 (entKey 0x1200 3 ++ be 1 3 ++ be 2 3601) : ReqHdr).rx.vid = true) ∧
    ((hdr3 2 (entKey 0x1200 3 ++ be 1 3 ++ be 2 3601) : ReqHdr).rx.trailer = none) ∧
    (dSessionRequests3.flag F.BOOT_STATUS.RECOVERY = false) ∧ (dSessionRequests3.diagnostic = true) ∧
    (1 ≤ (hdr3 2 (entKey 0x1200 3 ++ be 1 3 ++ be 2 3601) : ReqHdr).session ∧ (hdr3 2 (entKey 0x1200 3 ++ be 1 3 ++ be 2 3601) : ReqHdr).session < 65536) ∧
    (dSessionRequests3.session (hdr3 2 (entKey 0x1200 3 ++ be 1 3 ++ be 2 3601) : ReqHdr).session = some (sess 2 : Session)) ∧
    ((hdr3 2 (entKey 0x1200 3 ++ be 1 3 ++ be 2 3601) : ReqHdr).seq < 2 ^ 32) ∧
    ((hdr3 2 (entKey 0x1200 3 ++ be 1 3 ++ be 2 3601) : ReqHdr).tag < 65536) ∧
    ((hdr3 2 (entKey 0x1200 3 ++ be 1 3 ++ be 2 3601) : ReqHdr).mac.length = 16) ∧
    (∀ k ∈ dSessionRequests3.flf.kept, k.src ≠ (hdr3 2 (entKey 0x1200 3 ++ be 1 3 ++ be 2 3601) : ReqHdr).src) ∧
    (3600 < (3601 : Nat) ∧ (3601 : Nat) < 65536) ∧ ((sess 2 : Session).role = 2) ∧
    ((sess 2 : Session).seq < (hdr3 2 (entKey 0x1200 3 ++ be 1 3 ++ be 2 3601) : ReqHdr).seq) ∧
    ((hdr3 2 (entKey 0x1200 3 ++ be 1 3 ++ be 2 3601) : ReqHdr).mac = frameTag (sess 2 : Session).key (reqFrame (hdr3 2 (entKey 0x1200 3 ++ be 1 3 ++ be 2 3601) : ReqHdr) 2 (entKey 0x1200 3 ++ be 1 3 ++ be 2 (3601 : Nat)))) :=
  by decide +kernel

def dSessionRequests4 : Dev :=
  sessDev 2
theorem test_witness_SessionRequests_4 :
    dSessionRequests4.wf ∧ ((hdr3 3 (be 1 1 ++ zeros 3 ++ entKey 0x1200 3 ++ be 1 3 ++ be 2 60) : ReqHdr).path = .udp) ∧
    (dSessionRequests4.ethRuns (hdr3 3 (be 1 1 ++ zeros 3 ++ entKey 0x1200 3 ++ be 1 3 ++ be 2 60) : ReqHdr).rx.port = true) ∧
    (dSessionRequests4.vidOk (hdr3 3 (be 1 1 ++ zeros 3 ++ entKey 0x1200 3 ++ be 1 3 ++ be 2 60) : ReqHdr).rx.vid = true) ∧
    ((hdr3 3 (be 1 1 ++ zeros 3 ++ entKey 0x1200 3 ++ be 1 3 ++ be 2 60) : ReqHdr).rx.trailer = none) ∧
    (dSessionRequests4.flag F.BOOT_STATUS.RECOVERY = false) ∧ (dSessionRequests4.diagnostic = true) ∧
    (1 ≤ (hdr3 3 (be 1 1 ++ zeros 3 ++ entKey 0x1200 3 ++ be 1 3 ++ be 2 60) : ReqHdr).session ∧ (hdr3 3 (be 1 1 ++ zeros 3 ++ entKey 0x1200 3 ++ be 1 3 ++ be 2 60) : ReqHdr).session < 65536) ∧
    (dSessionRequests4.session (hdr3 3 (be 1 1 ++ zeros 3 ++ entKey 0x1200 3 ++ be 1 3 ++ be 2 60) : ReqHdr).session = some (sess 2 : Session)) ∧
    ((hdr3 3 (be 1 1 ++ zeros 3 ++ entKey 0x1200 3 ++ be 1 3 ++ be 2 60) : ReqHdr).seq < 2 ^ 32) ∧
    ((hdr3 3 (be 1 1 ++ zeros 3 ++ entKey 0x1200 3 ++ be 1 3 ++ be 2 60) : ReqHdr).tag < 65536) ∧
    ((hdr3 3 (be 1 1 ++ zeros 3 ++ entKey 0x1200 3 ++ be 1 3 ++ be 2 60) : ReqHdr).mac.length = 16) ∧
    (∀ k ∈ dSessionRequests4.flf.kept, k.src ≠ (hdr3 3 (be 1 1 ++ zeros 3 ++ entKey 0x1200 3 ++ be 1 3 ++ be 2 60) : ReqHdr).src) ∧
    (10 ≤ (60 : Nat) ∧ (60 : Nat) ≤ 3600) ∧ ((sess 2 : Session).role = 2) ∧
    ((sess 2 : Session).seq < (hdr3 3 (be 1 1 ++ zeros 3 ++ entKey 0x1200 3 ++ be 1 3 ++ be 2 60) : ReqHdr).seq) ∧
    ((hdr3 3 (be 1 1 ++ zeros 3 ++ entKey 0x1200 3 ++ be 1 3 ++ be 2 60) : ReqHdr).mac = frameTag (sess 2 : Session).key (reqFrame (hdr3 3 (be 1 1 ++ zeros 3 ++ entKey 0x1200 3 ++ be 1 3 ++ be 2 60) : ReqHdr) 3 (be 1 1 ++ zeros 3 ++ entKey 0x1200 3 ++ be 1 3 ++ be 2 (60 : Nat)))) :=
  by decide +kernel

def dSessionRequests5 : Dev :=
  sessDev 2
theorem test_witness_SessionRequests_5 :
    dSessionRequests5.wf ∧
    ((hdr3 3 (be 1 2 ++ zeros 3 ++ entKey 0x1200 3 ++ be 1 3 ++ be 2 60 ++ entKey 0x1200 3 ++ be 1 3 ++ be 2 3601) : ReqHdr).path = .udp) ∧
    (dSessionRequests5.ethRuns (hdr3 3 (be 1 2 ++ zeros 3 ++ entKey 0x1200 3 ++ be 1 3 ++ be 2 60 ++ entKey 0x1200 3 ++ be 1 3 ++ be 2 3601) : ReqHdr).rx.port = true) ∧
    (dSessionRequests5.vidOk (hdr3 3 (be 1 2 ++ zeros 3 ++ entKey 0x1200 3 ++ be 1 3 ++ be 2 60 ++ entKey 0x1200 3 ++ be 1 3 ++ be 2 3601) : ReqHdr).rx.vid = true) ∧
    ((hdr3 3 (be 1 2 ++ zeros 3 ++ entKey 0x1200 3 ++ be 1 3 ++ be 2 60 ++ entKey 0x1200 3 ++ be 1 3 ++ be 2 3601) : ReqHdr).rx.trailer = none) ∧
    (dSessionRequests5.flag F.BOOT_STATUS.RECOVERY = false) ∧ (dSessionRequests5.diagnostic = true) ∧
    (1 ≤ (hdr3 3 (be 1 2 ++ zeros 3 ++ entKey 0x1200 3 ++ be 1 3 ++ be 2 60 ++ entKey 0x1200 3 ++ be 1 3 ++ be 2 3601) : ReqHdr).session ∧ (hdr3 3 (be 1 2 ++ zeros 3 ++ entKey 0x1200 3 ++ be 1 3 ++ be 2 60 ++ entKey 0x1200 3 ++ be 1 3 ++ be 2 3601) : ReqHdr).session < 65536) ∧
    (dSessionRequests5.session (hdr3 3 (be 1 2 ++ zeros 3 ++ entKey 0x1200 3 ++ be 1 3 ++ be 2 60 ++ entKey 0x1200 3 ++ be 1 3 ++ be 2 3601) : ReqHdr).session = some (sess 2 : Session)) ∧
    ((hdr3 3 (be 1 2 ++ zeros 3 ++ entKey 0x1200 3 ++ be 1 3 ++ be 2 60 ++ entKey 0x1200 3 ++ be 1 3 ++ be 2 3601) : ReqHdr).seq < 2 ^ 32) ∧
    ((hdr3 3 (be 1 2 ++ zeros 3 ++ entKey 0x1200 3 ++ be 1 3 ++ be 2 60 ++ entKey 0x1200 3 ++ be 1 3 ++ be 2 3601) : ReqHdr).tag < 65536) ∧
    ((hdr3 3 (be 1 2 ++ zeros 3 ++ entKey 0x1200 3 ++ be 1 3 ++ be 2 60 ++ entKey 0x1200 3 ++ be 1 3 ++ be 2 3601) : ReqHdr).mac.length = 16) ∧
    (∀ k ∈ dSessionRequests5.flf.kept, k.src ≠ (hdr3 3 (be 1 2 ++ zeros 3 ++ entKey 0x1200 3 ++ be 1 3 ++ be 2 60 ++ entKey 0x1200 3 ++ be 1 3 ++ be 2 3601) : ReqHdr).src) ∧
    (10 ≤ (60 : Nat) ∧ (60 : Nat) ≤ 3600) ∧ (3600 < (3601 : Nat) ∧ (3601 : Nat) < 65536) ∧ ((sess 2 : Session).role = 2) ∧
    ((sess 2 : Session).seq < (hdr3 3 (be 1 2 ++ zeros 3 ++ entKey 0x1200 3 ++ be 1 3 ++ be 2 60 ++ entKey 0x1200 3 ++ be 1 3 ++ be 2 3601) : ReqHdr).seq) ∧
    ((hdr3 3 (be 1 2 ++ zeros 3 ++ entKey 0x1200 3 ++ be 1 3 ++ be 2 60 ++ entKey 0x1200 3 ++ be 1 3 ++ be 2 3601) : ReqHdr).mac = frameTag (sess 2 : Session).key (reqFrame (hdr3 3 (be 1 2 ++ zeros 3 ++ entKey 0x1200 3 ++ be 1 3 ++ be 2 60 ++ entKey 0x1200 3 ++ be 1 3 ++ be 2 3601) : ReqHdr) 3 (be 1 2 ++ zeros 3 ++ entKey 0x1200 3 ++ be 1 3 ++ be 2 (60 : Nat) ++ entKey 0x1200 3 ++ be 1 3 ++ be 2 (3601 : Nat)))) :=
  by decide +kernel

def dSessionRequests6 : Dev :=
  sessDev 2
theorem test_witness_SessionRequests_6 :
    dSessionRequests6.wf ∧ ((hdr3 0x10 (entKey 0x7050 0 ++ be 1 1 ++ be 4 4096 ++ be 4 7) : ReqHdr).path = .udp) ∧
    (dSessionRequests6.ethRuns (hdr3 0x10 (entKey 0x7050 0 ++ be 1 1 ++ be 4 4096 ++ be 4 7) : ReqHdr).rx.port = true) ∧
    (dSessionRequests6.vidOk (hdr3 0x10 (entKey 0x7050 0 ++ be 1 1 ++ be 4 4096 ++ be 4 7) : ReqHdr).rx.vid = true) ∧
    ((hdr3 0x10 (entKey 0x7050 0 ++ be 1 1 ++ be 4 4096 ++ be 4 7) : ReqHdr).rx.trailer = none) ∧
    (dSessionRequests6.flag F.BOOT_STATUS.RECOVERY = false) ∧ (dSessionRequests6.diagnostic = true) ∧
    (1 ≤ (hdr3 0x10 (entKey 0x7050 0 ++ be 1 1 ++ be 4 4096 ++ be 4 7) : ReqHdr).session ∧ (hdr3 0x10 (entKey 0x7050 0 ++ be 1 1 ++ be 4 4096 ++ be 4 7) : ReqHdr).session < 65536) ∧
    (dSessionRequests6.session (hdr3 0x10 (entKey 0x7050 0 ++ be 1 1 ++ be 4 4096 ++ be 4 7) : ReqHdr).session = some (sess 2 : Session)) ∧
    ((hdr3 0x10 (entKey 0x7050 0 ++ be 1 1 ++ be 4 4096 ++ be 4 7) : ReqHdr).seq < 2 ^ 32) ∧
    ((hdr3 0x10 (entKey 0x7050 0 ++ be 1 1 ++ be 4 4096 ++ be 4 7) : ReqHdr).tag < 65536) ∧
    ((hdr3 0x10 (entKey 0x7050 0 ++ be 1 1 ++ be 4 4096 ++ be 4 7) : ReqHdr).mac.length = 16) ∧
    (∀ k ∈ dSessionRequests6.flf.kept, k.src ≠ (hdr3 0x10 (entKey 0x7050 0 ++ be 1 1 ++ be 4 4096 ++ be 4 7) : ReqHdr).src) ∧
    ((7 : Nat) < 2 ^ 32) ∧ ((sess 2 : Session).role = 2) ∧
    ((sess 2 : Session).seq < (hdr3 0x10 (entKey 0x7050 0 ++ be 1 1 ++ be 4 4096 ++ be 4 7) : ReqHdr).seq) ∧
    ((sess 2 : Session).id = (hdr3 0x10 (entKey 0x7050 0 ++ be 1 1 ++ be 4 4096 ++ be 4 7) : ReqHdr).session) ∧
    (dSessionRequests6.transferOf (hdr3 0x10 (entKey 0x7050 0 ++ be 1 1 ++ be 4 4096 ++ be 4 7) : ReqHdr).session = none) ∧
    (dSessionRequests6.objBusy 0x7050 0 = false) ∧ (dSessionRequests6.bankBusy 0x7050 = false) ∧
    ((hdr3 0x10 (entKey 0x7050 0 ++ be 1 1 ++ be 4 4096 ++ be 4 7) : ReqHdr).mac = frameTag (sess 2 : Session).key (reqFrame (hdr3 0x10 (entKey 0x7050 0 ++ be 1 1 ++ be 4 4096 ++ be 4 7) : ReqHdr) 0x10 (entKey 0x7050 0 ++ be 1 1 ++ be 4 4096 ++ be 4 (7 : Nat)))) :=
  by decide +kernel

def dSessionRequests7 : Dev :=
  { sessDev 2 with flf := { (sessDev 2).flf with transfers := [{ owner := 3, idx := 0x7050, write := true, total := 4096 }] } }
theorem test_witness_SessionRequests_7 :
    dSessionRequests7.wf ∧ ((hdr3 0x11 (be 4 0 ++ [1]) : ReqHdr).path = .udp) ∧
    (dSessionRequests7.ethRuns (hdr3 0x11 (be 4 0 ++ [1]) : ReqHdr).rx.port = true) ∧
    (dSessionRequests7.vidOk (hdr3 0x11 (be 4 0 ++ [1]) : ReqHdr).rx.vid = true) ∧
    ((hdr3 0x11 (be 4 0 ++ [1]) : ReqHdr).rx.trailer = none) ∧ (dSessionRequests7.flag F.BOOT_STATUS.RECOVERY = false) ∧
    (dSessionRequests7.diagnostic = true) ∧
    (1 ≤ (hdr3 0x11 (be 4 0 ++ [1]) : ReqHdr).session ∧ (hdr3 0x11 (be 4 0 ++ [1]) : ReqHdr).session < 65536) ∧
    (dSessionRequests7.session (hdr3 0x11 (be 4 0 ++ [1]) : ReqHdr).session = some (sess 2 : Session)) ∧
    ((hdr3 0x11 (be 4 0 ++ [1]) : ReqHdr).seq < 2 ^ 32) ∧ ((hdr3 0x11 (be 4 0 ++ [1]) : ReqHdr).tag < 65536) ∧
    ((hdr3 0x11 (be 4 0 ++ [1]) : ReqHdr).mac.length = 16) ∧
    (∀ k ∈ dSessionRequests7.flf.kept, k.src ≠ (hdr3 0x11 (be 4 0 ++ [1]) : ReqHdr).src) ∧
    ((sess 2 : Session).seq < (hdr3 0x11 (be 4 0 ++ [1]) : ReqHdr).seq) ∧
    ((sess 2 : Session).id = (hdr3 0x11 (be 4 0 ++ [1]) : ReqHdr).session) ∧
    (dSessionRequests7.transferOf (hdr3 0x11 (be 4 0 ++ [1]) : ReqHdr).session = some ({ owner := 3, idx := 0x7050, write := true, total := 4096 } : Transfer)) ∧
    (({ owner := 3, idx := 0x7050, write := true, total := 4096 } : Transfer).write = true) ∧ ((0 : Nat) < 2 ^ 32) ∧
    ((0 : Nat) = ({ owner := 3, idx := 0x7050, write := true, total := 4096 } : Transfer).data.length) ∧
    (1 ≤ ([1] : Bytes).length ∧ ([1] : Bytes).length ≤ 1024) ∧
    (({ owner := 3, idx := 0x7050, write := true, total := 4096 } : Transfer).data.length + ([1] : Bytes).length ≤ ({ owner := 3, idx := 0x7050, write := true, total := 4096 } : Transfer).total) ∧
    ((hdr3 0x11 (be 4 0 ++ [1]) : ReqHdr).mac = frameTag (sess 2 : Session).key (reqFrame (hdr3 0x11 (be 4 0 ++ [1]) : ReqHdr) 0x11 (be 4 (0 : Nat) ++ ([1] : Bytes)))) :=
  by decide +kernel

def dSessionRequests8 : Dev :=
  { sessDev 2 with flf := { (sessDev 2).flf with transfers := [{ owner := 3, idx := 0x7050, write := true, total := 4096 }] } }
theorem test_witness_SessionRequests_8 :
    dSessionRequests8.wf ∧ ((hdr3 0x12 (be 1 1 ++ zeros 3) : ReqHdr).path = .udp) ∧
    (dSessionRequests8.ethRuns (hdr3 0x12 (be 1 1 ++ zeros 3) : ReqHdr).rx.port = true) ∧
    (dSessionRequests8.vidOk (hdr3 0x12 (be 1 1 ++ zeros 3) : ReqHdr).rx.vid = true) ∧
    ((hdr3 0x12 (be 1 1 ++ zeros 3) : ReqHdr).rx.trailer = none) ∧ (dSessionRequests8.flag F.BOOT_STATUS.RECOVERY = false) ∧
    (dSessionRequests8.diagnostic = true) ∧
    (1 ≤ (hdr3 0x12 (be 1 1 ++ zeros 3) : ReqHdr).session ∧ (hdr3 0x12 (be 1 1 ++ zeros 3) : ReqHdr).session < 65536) ∧
    (dSessionRequests8.session (hdr3 0x12 (be 1 1 ++ zeros 3) : ReqHdr).session = some (sess 2 : Session)) ∧
    ((hdr3 0x12 (be 1 1 ++ zeros 3) : ReqHdr).seq < 2 ^ 32) ∧ ((hdr3 0x12 (be 1 1 ++ zeros 3) : ReqHdr).tag < 65536) ∧
    ((hdr3 0x12 (be 1 1 ++ zeros 3) : ReqHdr).mac.length = 16) ∧
    (∀ k ∈ dSessionRequests8.flf.kept, k.src ≠ (hdr3 0x12 (be 1 1 ++ zeros 3) : ReqHdr).src) ∧
    ((sess 2 : Session).seq < (hdr3 0x12 (be 1 1 ++ zeros 3) : ReqHdr).seq) ∧
    ((sess 2 : Session).id = (hdr3 0x12 (be 1 1 ++ zeros 3) : ReqHdr).session) ∧
    (dSessionRequests8.transferOf (hdr3 0x12 (be 1 1 ++ zeros 3) : ReqHdr).session = some ({ owner := 3, idx := 0x7050, write := true, total := 4096 } : Transfer)) ∧
    ((hdr3 0x12 (be 1 1 ++ zeros 3) : ReqHdr).mac = frameTag (sess 2 : Session).key (reqFrame (hdr3 0x12 (be 1 1 ++ zeros 3) : ReqHdr) 0x12 (be 1 1 ++ zeros 3))) :=
  by decide +kernel

def dSessionRequests9 : Dev :=
  { sessDev 2 with flf := { (sessDev 2).flf with transfers := [{ owner := 3, idx := 0x7050, write := true, total := 1, data := [1], crc := 0 }] } }
theorem test_witness_SessionRequests_9 :
    dSessionRequests9.wf ∧ ((hdr3 0x12 (zeros 4) : ReqHdr).path = .udp) ∧
    (dSessionRequests9.ethRuns (hdr3 0x12 (zeros 4) : ReqHdr).rx.port = true) ∧
    (dSessionRequests9.vidOk (hdr3 0x12 (zeros 4) : ReqHdr).rx.vid = true) ∧ ((hdr3 0x12 (zeros 4) : ReqHdr).rx.trailer = none) ∧
    (dSessionRequests9.flag F.BOOT_STATUS.RECOVERY = false) ∧ (dSessionRequests9.diagnostic = true) ∧
    (1 ≤ (hdr3 0x12 (zeros 4) : ReqHdr).session ∧ (hdr3 0x12 (zeros 4) : ReqHdr).session < 65536) ∧
    (dSessionRequests9.session (hdr3 0x12 (zeros 4) : ReqHdr).session = some (sess 2 : Session)) ∧
    ((hdr3 0x12 (zeros 4) : ReqHdr).seq < 2 ^ 32) ∧ ((hdr3 0x12 (zeros 4) : ReqHdr).tag < 65536) ∧
    ((hdr3 0x12 (zeros 4) : ReqHdr).mac.length = 16) ∧ (∀ k ∈ dSessionRequests9.flf.kept, k.src ≠ (hdr3 0x12 (zeros 4) : ReqHdr).src) ∧
    ((sess 2 : Session).seq < (hdr3 0x12 (zeros 4) : ReqHdr).seq) ∧ ((sess 2 : Session).id = (hdr3 0x12 (zeros 4) : ReqHdr).session) ∧
    (dSessionRequests9.transferOf (hdr3 0x12 (zeros 4) : ReqHdr).session = some ({ owner := 3, idx := 0x7050, write := true, total := 1, data := [1], crc := 0 } : Transfer)) ∧
    (({ owner := 3, idx := 0x7050, write := true, total := 1, data := [1], crc := 0 } : Transfer).write = true) ∧
    (({ owner := 3, idx := 0x7050, write := true, total := 1, data := [1], crc := 0 } : Transfer).data.length = ({ owner := 3, idx := 0x7050, write := true, total := 1, data := [1], crc := 0 } : Transfer).total) ∧
    (crc32c ({ owner := 3, idx := 0x7050, write := true, total := 1, data := [1], crc := 0 } : Transfer).data ≠ ({ owner := 3, idx := 0x7050, write := true, total := 1, data := [1], crc := 0 } : Transfer).crc) ∧
    ((hdr3 0x12 (zeros 4) : ReqHdr).mac = frameTag (sess 2 : Session).key (reqFrame (hdr3 0x12 (zeros 4) : ReqHdr) 0x12 (zeros 4))) :=
  by decide +kernel

def dSessionRequests10 : Dev :=
  sessDev 2
theorem test_witness_SessionRequests_10 :
    dSessionRequests10.wf ∧ ((hdr3 0x22 [] : ReqHdr).path = .udp) ∧ (dSessionRequests10.ethRuns (hdr3 0x22 [] : ReqHdr).rx.port = true) ∧
    (dSessionRequests10.vidOk (hdr3 0x22 [] : ReqHdr).rx.vid = true) ∧ ((hdr3 0x22 [] : ReqHdr).rx.trailer = none) ∧
    (dSessionRequests10.flag F.BOOT_STATUS.RECOVERY = false) ∧ (dSessionRequests10.diagnostic = true) ∧
    (1 ≤ (hdr3 0x22 [] : ReqHdr).session ∧ (hdr3 0x22 [] : ReqHdr).session < 65536) ∧
    (dSessionRequests10.session (hdr3 0x22 [] : ReqHdr).session = some (sess 2 : Session)) ∧ ((hdr3 0x22 [] : ReqHdr).seq < 2 ^ 32) ∧
    ((hdr3 0x22 [] : ReqHdr).tag < 65536) ∧ ((hdr3 0x22 [] : ReqHdr).mac.length = 16) ∧
    (∀ k ∈ dSessionRequests10.flf.kept, k.src ≠ (hdr3 0x22 [] : ReqHdr).src) ∧ ((sess 2 : Session).role ≠ 0) ∧
    ((sess 2 : Session).id = (hdr3 0x22 [] : ReqHdr).session) ∧ ((sess 2 : Session).seq < (hdr3 0x22 [] : ReqHdr).seq) ∧
    ((hdr3 0x22 [] : ReqHdr).mac = frameTag (sess 2 : Session).key (reqFrame (hdr3 0x22 [] : ReqHdr) 0x22 [])) :=
  by decide +kernel

def dSessionRequests11 : Dev :=
  { sessDev 1 with held := false }
theorem test_witness_SessionRequests_11 :
    dSessionRequests11.wf ∧ ((hdr3 0x31 (be 4 0x20010 ++ be 4 9 ++ be 4 0xFFFFFFFF) : ReqHdr).path = .udp) ∧
    (dSessionRequests11.ethRuns (hdr3 0x31 (be 4 0x20010 ++ be 4 9 ++ be 4 0xFFFFFFFF) : ReqHdr).rx.port = true) ∧
    (dSessionRequests11.vidOk (hdr3 0x31 (be 4 0x20010 ++ be 4 9 ++ be 4 0xFFFFFFFF) : ReqHdr).rx.vid = true) ∧
    ((hdr3 0x31 (be 4 0x20010 ++ be 4 9 ++ be 4 0xFFFFFFFF) : ReqHdr).rx.trailer = none) ∧
    (dSessionRequests11.flag F.BOOT_STATUS.RECOVERY = false) ∧ (dSessionRequests11.diagnostic = true) ∧
    (1 ≤ (hdr3 0x31 (be 4 0x20010 ++ be 4 9 ++ be 4 0xFFFFFFFF) : ReqHdr).session ∧ (hdr3 0x31 (be 4 0x20010 ++ be 4 9 ++ be 4 0xFFFFFFFF) : ReqHdr).session < 65536) ∧
    (dSessionRequests11.session (hdr3 0x31 (be 4 0x20010 ++ be 4 9 ++ be 4 0xFFFFFFFF) : ReqHdr).session = some (sess 1 : Session)) ∧
    ((hdr3 0x31 (be 4 0x20010 ++ be 4 9 ++ be 4 0xFFFFFFFF) : ReqHdr).seq < 2 ^ 32) ∧
    ((hdr3 0x31 (be 4 0x20010 ++ be 4 9 ++ be 4 0xFFFFFFFF) : ReqHdr).tag < 65536) ∧
    ((hdr3 0x31 (be 4 0x20010 ++ be 4 9 ++ be 4 0xFFFFFFFF) : ReqHdr).mac.length = 16) ∧
    (∀ k ∈ dSessionRequests11.flf.kept, k.src ≠ (hdr3 0x31 (be 4 0x20010 ++ be 4 9 ++ be 4 0xFFFFFFFF) : ReqHdr).src) ∧
    ((sess 1 : Session).role = 1) ∧ ((sess 1 : Session).seq < (hdr3 0x31 (be 4 0x20010 ++ be 4 9 ++ be 4 0xFFFFFFFF) : ReqHdr).seq) ∧
    ((9 : Nat) < 2 ^ 32) ∧
    ((hdr3 0x31 (be 4 0x20010 ++ be 4 9 ++ be 4 0xFFFFFFFF) : ReqHdr).mac = frameTag (sess 1 : Session).key (reqFrame (hdr3 0x31 (be 4 0x20010 ++ be 4 9 ++ be 4 0xFFFFFFFF) : ReqHdr) 0x31 (be 4 0x20010 ++ be 4 (9 : Nat) ++ be 4 0xFFFFFFFF))) ∧
    (dSessionRequests11.held = false) :=
  by decide +kernel

def dSessionRequests12 : Dev :=
  { sessDev 2 with held := false }
theorem test_witness_SessionRequests_12 :
    dSessionRequests12.wf ∧ ((hdr3 0x31 (be 4 0x20010 ++ be 4 9 ++ be 4 0xFFFFFFFF) : ReqHdr).path = .udp) ∧
    (dSessionRequests12.ethRuns (hdr3 0x31 (be 4 0x20010 ++ be 4 9 ++ be 4 0xFFFFFFFF) : ReqHdr).rx.port = true) ∧
    (dSessionRequests12.vidOk (hdr3 0x31 (be 4 0x20010 ++ be 4 9 ++ be 4 0xFFFFFFFF) : ReqHdr).rx.vid = true) ∧
    ((hdr3 0x31 (be 4 0x20010 ++ be 4 9 ++ be 4 0xFFFFFFFF) : ReqHdr).rx.trailer = none) ∧
    (dSessionRequests12.flag F.BOOT_STATUS.RECOVERY = false) ∧ (dSessionRequests12.diagnostic = true) ∧
    (1 ≤ (hdr3 0x31 (be 4 0x20010 ++ be 4 9 ++ be 4 0xFFFFFFFF) : ReqHdr).session ∧ (hdr3 0x31 (be 4 0x20010 ++ be 4 9 ++ be 4 0xFFFFFFFF) : ReqHdr).session < 65536) ∧
    (dSessionRequests12.session (hdr3 0x31 (be 4 0x20010 ++ be 4 9 ++ be 4 0xFFFFFFFF) : ReqHdr).session = some (sess 2 : Session)) ∧
    ((hdr3 0x31 (be 4 0x20010 ++ be 4 9 ++ be 4 0xFFFFFFFF) : ReqHdr).seq < 2 ^ 32) ∧
    ((hdr3 0x31 (be 4 0x20010 ++ be 4 9 ++ be 4 0xFFFFFFFF) : ReqHdr).tag < 65536) ∧
    ((hdr3 0x31 (be 4 0x20010 ++ be 4 9 ++ be 4 0xFFFFFFFF) : ReqHdr).mac.length = 16) ∧
    (∀ k ∈ dSessionRequests12.flf.kept, k.src ≠ (hdr3 0x31 (be 4 0x20010 ++ be 4 9 ++ be 4 0xFFFFFFFF) : ReqHdr).src) ∧
    ((sess 2 : Session).role = 2) ∧ ((sess 2 : Session).seq < (hdr3 0x31 (be 4 0x20010 ++ be 4 9 ++ be 4 0xFFFFFFFF) : ReqHdr).seq) ∧
    ((9 : Nat) < 2 ^ 32) ∧
    ((hdr3 0x31 (be 4 0x20010 ++ be 4 9 ++ be 4 0xFFFFFFFF) : ReqHdr).mac = frameTag (sess 2 : Session).key (reqFrame (hdr3 0x31 (be 4 0x20010 ++ be 4 9 ++ be 4 0xFFFFFFFF) : ReqHdr) 0x31 (be 4 0x20010 ++ be 4 (9 : Nat) ++ be 4 0xFFFFFFFF))) ∧
    (dSessionRequests12.held = false) :=
  by decide +kernel

-- Obligations.SessionsOpenAndEnd

def dSessionEnds1 : Dev :=
  { sessDev 1 with flf := { w0.flf with sessions := [{ id := 3, role := 1 }] } }
theorem test_witness_SessionEnds_1 :
    dSessionEnds1.wf ∧ (({ hdrA with session := 3, seq := 1 } : ReqHdr).path = .udp) ∧
    (dSessionEnds1.ethRuns ({ hdrA with session := 3, seq := 1 } : ReqHdr).rx.port = true) ∧
    (dSessionEnds1.vidOk ({ hdrA with session := 3, seq := 1 } : ReqHdr).rx.vid = true) ∧
    (({ hdrA with session := 3, seq := 1 } : ReqHdr).rx.trailer = none) ∧ (dSessionEnds1.flag F.BOOT_STATUS.RECOVERY = false) ∧
    (dSessionEnds1.diagnostic = true) ∧
    (1 ≤ ({ hdrA with session := 3, seq := 1 } : ReqHdr).session ∧ ({ hdrA with session := 3, seq := 1 } : ReqHdr).session < 65536) ∧
    ((dSessionEnds1.flf.sessions.find? fun x => !x.opened && x.id = ({ hdrA with session := 3, seq := 1 } : ReqHdr).session) = some ({ id := 3, role := 1 } : Session)) ∧
    (({ hdrA with session := 3, seq := 1 } : ReqHdr).seq = 1) ∧ (({ hdrA with session := 3, seq := 1 } : ReqHdr).mac = []) ∧
    (∀ k ∈ dSessionEnds1.flf.kept, k.src ≠ ({ hdrA with session := 3, seq := 1 } : ReqHdr).src) ∧
    ((hmac (keyBytes []) (ascii "FP" ++ be 2 3) : Bytes).length = 32) ∧
    ((hmac (keyBytes []) (ascii "FP" ++ be 2 3) : Bytes) = dSessionEnds1.proofOf ({ id := 3, role := 1 } : Session)) ∧
    (max dSessionEnds1.up ({ hdrA with session := 3, seq := 1 } : ReqHdr).rx.t ≤ ({ id := 3, role := 1 } : Session).t + 10000000000) ∧
    (dSessionEnds1.sessionsFull ({ id := 3, role := 1 } : Session).role = false) ∧
    (dSessionEnds1.flf.sessions = [({ id := 3, role := 1 } : Session)]) :=
  by decide +kernel

def dSessionEnds2 : Dev :=
  { sessDev 1 with flf := { w0.flf with sessions := [{ id := 3, role := 1 }] } }
theorem test_witness_SessionEnds_2 :
    dSessionEnds2.wf ∧ (({ hdrA with session := 3, seq := 1 } : ReqHdr).path = .udp) ∧
    (dSessionEnds2.ethRuns ({ hdrA with session := 3, seq := 1 } : ReqHdr).rx.port = true) ∧
    (dSessionEnds2.vidOk ({ hdrA with session := 3, seq := 1 } : ReqHdr).rx.vid = true) ∧
    (({ hdrA with session := 3, seq := 1 } : ReqHdr).rx.trailer = none) ∧ (dSessionEnds2.flag F.BOOT_STATUS.RECOVERY = false) ∧
    (dSessionEnds2.diagnostic = true) ∧
    (1 ≤ ({ hdrA with session := 3, seq := 1 } : ReqHdr).session ∧ ({ hdrA with session := 3, seq := 1 } : ReqHdr).session < 65536) ∧
    ((dSessionEnds2.flf.sessions.find? fun x => !x.opened && x.id = ({ hdrA with session := 3, seq := 1 } : ReqHdr).session) = some ({ id := 3, role := 1 } : Session)) ∧
    (({ hdrA with session := 3, seq := 1 } : ReqHdr).seq = 1) ∧ (({ hdrA with session := 3, seq := 1 } : ReqHdr).mac = []) ∧
    (∀ k ∈ dSessionEnds2.flf.kept, k.src ≠ ({ hdrA with session := 3, seq := 1 } : ReqHdr).src) ∧ ((zeros 32 : Bytes).length = 32) ∧
    ((zeros 32 : Bytes) ≠ dSessionEnds2.proofOf ({ id := 3, role := 1 } : Session)) ∧
    (dSessionEnds2.flf.sessions = [({ id := 3, role := 1 } : Session)]) :=
  by decide +kernel

def dSessionEnds3 : Dev :=
  { w0 with flf := { w0.flf with lock := [(1, 5)] } }
theorem test_witness_SessionEnds_3 :
    dSessionEnds3.wf ∧ ((dSessionEnds3.flf.lock.find? fun x => x.1 = (1 : Nat)) = some ((1 : Nat), (5 : Nat))) :=
  by decide +kernel

def dSessionEnds4 : Dev :=
  sessDev 1
theorem test_witness_SessionEnds_4 :
    dSessionEnds4.wf ∧ (dSessionEnds4.session (3 : Nat) = some (sess 1 : Session)) :=
  by decide +kernel

def dSessionEnds5 : Dev :=
  { w0 with flf := { w0.flf with transfers := [{ owner := 3 }] } }
theorem test_witness_SessionEnds_5 :
    dSessionEnds5.wf ∧ ((3 : Nat) ≠ winOwner) ∧ (dSessionEnds5.transferOf (3 : Nat) = some ({ owner := 3 } : Transfer)) :=
  by decide +kernel

def dSessionEnds6 : Dev :=
  { w0 with flf := { w0.flf with winOpen := some 0x7000 } }
theorem test_witness_SessionEnds_6 :
    dSessionEnds6.wf ∧ (dSessionEnds6.flf.winOpen.isSome = true) :=
  by decide +kernel

-- Obligations.EventMessagesAndHostInterface

def dEventsAndHostSpi1 : Dev :=
  { sessDev 1 with evt := { w0.evt with due := [(76, (2, 9))] } }.set (F.EVT_ENABLE 3) 16 |>.set (F.EVT_ROUTE_LO 3) (3 * 256)
theorem test_witness_EventsAndHostSpi_1 :
    dEventsAndHostSpi1.wf ∧ (Tab.find dEventsAndHostSpi1.evt.due (24 * (3 : Fin 13).val + (4 : Fin 24).val) = some ((2 : Nat), (9 : Nat))) ∧
    (dEventsAndHostSpi1.diagnostic = true) ∧ (dEventsAndHostSpi1.evtOn (3 : Fin 13) (4 : Fin 24) = true) ∧
    (dEventsAndHostSpi1.evtRoute (3 : Fin 13) (4 : Fin 24) = 3) ∧
    (Tab.find dEventsAndHostSpi1.evt.lastMsg (24 * (3 : Fin 13).val + (4 : Fin 24).val) = none) ∧
    (dEventsAndHostSpi1.flf.outbox.length < 8) ∧ (dEventsAndHostSpi1.flf.subs = []) :=
  by decide +kernel

def dEventsAndHostSpi2 : Dev :=
  w0
theorem test_witness_EventsAndHostSpi_2 :
    dEventsAndHostSpi2.wf ∧ (Tab.find dEventsAndHostSpi2.evt.due (24 * (3 : Fin 13).val + (4 : Fin 24).val) = none) :=
  by decide +kernel

def dEventsAndHostSpi6 : Dev :=
  { w0 with held := false }
theorem test_witness_EventsAndHostSpi_6 :
    dEventsAndHostSpi6.wf ∧ (dEventsAndHostSpi6.mailbox = true) :=
  by decide +kernel

def dEventsAndHostSpi7 : Dev :=
  { w0 with held := false }
theorem test_witness_EventsAndHostSpi_7 :
    dEventsAndHostSpi7.wf ∧ (dEventsAndHostSpi7.held = false) ∧ (dEventsAndHostSpi7.romOnly = false) :=
  by decide +kernel

def dEventsAndHostSpi8 : Dev :=
  { w0 with held := false }
theorem test_witness_EventsAndHostSpi_8 :
    dEventsAndHostSpi8.wf ∧ (dEventsAndHostSpi8.held = false) ∧ (dEventsAndHostSpi8.romOnly = false) ∧
    (dEventsAndHostSpi8.spiEngineer = false) :=
  by decide +kernel

def dEventsAndHostSpi9 : Dev :=
  { w0 with held := false, flf := { w0.flf with sessions := [{ id := 3, role := 2, opened := true, spi := true }] } }
theorem test_witness_EventsAndHostSpi_9 :
    dEventsAndHostSpi9.wf ∧ (dEventsAndHostSpi9.held = false) ∧ (dEventsAndHostSpi9.romOnly = false) ∧
    (dEventsAndHostSpi9.spiEngineer = true) :=
  by decide +kernel

def dEventsAndHostSpi10 : Dev :=
  { w0 with held := false }
theorem test_witness_EventsAndHostSpi_10 :
    dEventsAndHostSpi10.wf ∧ (dEventsAndHostSpi10.mailbox = true) ∧ (dEventsAndHostSpi10.flf.inbox = none) ∧
    (flefenOk (reqFrame hdrA 0x22 [] : Bytes) = true) ∧
    (spelled (rd 1 (reqFrame hdrA 0x22 [] : Bytes) 3) (frameBody (reqFrame hdrA 0x22 [] : Bytes)) = 0) :=
  by decide +kernel

def dEventsAndHostSpi11 : Dev :=
  { w0 with held := false }
theorem test_witness_EventsAndHostSpi_11 :
    dEventsAndHostSpi11.wf ∧
    (dEventsAndHostSpi11.mailbox = false ∨ dEventsAndHostSpi11.flf.inbox.isSome = true ∨ flefenOk ([] : Bytes) = false) :=
  by decide +kernel

def dEventsAndHostSpi12 : Dev :=
  { w0 with held := false, flf := { w0.flf with outbox := [[1], [2]] } }
theorem test_witness_EventsAndHostSpi_12 :
    dEventsAndHostSpi12.wf ∧ (dEventsAndHostSpi12.mailbox = true) ∧
    (dEventsAndHostSpi12.flf.outbox = ([1] : Bytes) :: ([[2]] : List Bytes)) :=
  by decide +kernel

def dEventsAndHostSpi13 : Dev :=
  { w0 with held := false }
theorem test_witness_EventsAndHostSpi_13 :
    dEventsAndHostSpi13.wf ∧ (dEventsAndHostSpi13.mailbox = true) ∧ (dEventsAndHostSpi13.flf.outbox = []) :=
  by decide +kernel

-- Obligations.RegisterViewsAndTableWindow

def dRegisterAccess2 : Dev :=
  w0.set F.TBL_WIN_LEN 16
theorem test_witness_RegisterAccess_2 :
    dRegisterAccess2.wf ∧ (bitAt (0x8000 : Word).toNat 15 = true) ∧
    (dRegisterAccess2.winOpenCode (0x7000 + bits (0x8000 : Word).toNat 0 12) = 0) :=
  by decide +kernel

def dRegisterAccess3 : Dev :=
  w0
theorem test_witness_RegisterAccess_3 :
    dRegisterAccess3.wf ∧ (bitAt (0x8000 : Word).toNat 15 = true) ∧
    (dRegisterAccess3.winOpenCode (0x7000 + bits (0x8000 : Word).toNat 0 12) ≠ 0) :=
  by decide +kernel

def dRegisterAccess4 : Dev :=
  { w0 with flf := { w0.flf with winOpen := some 0x7000 } }.set F.TBL_WIN_LEN 16
theorem test_witness_RegisterAccess_4 :
    dRegisterAccess4.wf ∧ (bitAt (0x10000 : Word).toNat 16 = true) ∧ (dRegisterAccess4.flf.winOpen = some (0x7000 : Nat)) ∧
    ((dRegisterAccess4.bank (0x7000 : Nat)).inact.length ≠ dRegisterAccess4.get F.TBL_WIN_LEN) :=
  by decide +kernel

def dRegisterAccess5 : Dev :=
  w0
theorem test_witness_RegisterAccess_5 :
    dRegisterAccess5.wf ∧ (bitAt (0x10000 : Word).toNat 16 = true) ∧ (dRegisterAccess5.flf.winOpen = none) :=
  by decide +kernel

def dRegisterAccess6 : Dev :=
  { w0 with flf := { w0.flf with winOpen := some 0x7000 } }
theorem test_witness_RegisterAccess_6 :
    dRegisterAccess6.wf ∧ (bitAt (0x20000 : Word).toNat 17 = true) :=
  by decide +kernel

def dRegisterAccess7 : Dev :=
  { w0 with held := false }
theorem test_witness_RegisterAccess_7 :
    dRegisterAccess7.wf ∧ (dRegisterAccess7.held = false) ∧ (dRegisterAccess7.romOnly = false) ∧
    ((0xF00000 : Nat) / 4 * 4 % 0x2000000 < 0x1000000) ∧ (regAt ((0xF00000 : Nat) / 4 * 4 % 0x2000000) = none) ∧
    (blockOf ((0xF00000 : Nat) / 4 * 4 % 0x2000000) = none) ∧ (roBlock ((0xF00000 : Nat) / 4 * 4 % 0x2000000) = false) :=
  by decide +kernel

def dRegisterAccess8 : Dev :=
  { w0 with held := false }
theorem test_witness_RegisterAccess_8 :
    dRegisterAccess8.wf ∧ (dRegisterAccess8.held = false) ∧ (dRegisterAccess8.romOnly = false) :=
  by decide +kernel

def dRegisterAccess9 : Dev :=
  { w0 with held := false }
theorem test_witness_RegisterAccess_9 :
    dRegisterAccess9.wf ∧ (dRegisterAccess9.held = false) ∧ (dRegisterAccess9.romOnly = false) :=
  by decide +kernel

def dRegisterAccess10 : Dev :=
  { w0 with held := false }
theorem test_witness_RegisterAccess_10 :
    dRegisterAccess10.wf ∧ (dRegisterAccess10.held = false) ∧ (dRegisterAccess10.romOnly = false) ∧
    (dRegisterAccess10.runs (3 : Fin 16) = false) :=
  by decide +kernel

-- Obligations.ReferenceAndRootClock

def dReferenceJudged1 : Dev :=
  { w0 with clk := { w0.clk with judging := true } }.set F.CLK_STATUS.STABLE_RUN 7
theorem test_witness_ReferenceJudged_1 :
    dReferenceJudged1.wf ∧ ((25600 : Nat) < 65536) ∧ (dReferenceJudged1.clk.judging = true) :=
  by decide +kernel

def dReferenceJudged2 : Dev :=
  { w0 with clk := { w0.clk with windows := 64 } }
theorem test_witness_ReferenceJudged_2 :
    dReferenceJudged2.wf ∧ ((0 : Nat) < 65536) ∧ (dReferenceJudged2.clk.judging = true) ∧ (64 ≤ dReferenceJudged2.clk.windows) :=
  by decide +kernel

def dRootClock1 : Dev :=
  w0.set F.CLK_STATUS.REF_STABLE 1
theorem test_witness_RootClock_1 :
    dRootClock1.wf ∧ (dRootClock1.flag F.CLK_STATUS.REF_STABLE = true) ∧ (dRootClock1.flag F.CLK_STATUS.PLL_LOCK = false) :=
  by decide +kernel

def dRootClock2 : Dev :=
  w0.set F.CLK_STATUS.PLL_LOCK 1 |>.set (F.ETH_STATUS.LINK 0) 1 |>.set (F.BX_STATUS.LINK_UP 1) 1
theorem test_witness_RootClock_2 :
    dRootClock2.wf ∧ (dRootClock2.flag F.CLK_STATUS.PLL_LOCK = true) ∧ (dRootClock2.st.ticks = false) :=
  by decide +kernel

def dRootClock3 : Dev :=
  w0.set F.CLK_STATUS.FALLBACK 1 |>.set F.CLK_CTRL.REF_SELECT 1
theorem test_witness_RootClock_3 :
    dRootClock3.wf ∧ (dRootClock3.flag F.CLK_STATUS.FALLBACK = true) :=
  by decide +kernel

def dRootClock6 : Dev :=
  w0
theorem test_witness_RootClock_6 :
    dRootClock6.wf ∧ (dRootClock6.st.ticks = false) :=
  by decide +kernel

-- Obligations.DeviceTimeIsWrittenAndSlewed

def dTimeBaseWrites3 : Dev :=
  { w0 with tb := { w0.tb with t40 := 5 * 2 ^ 40 } }
theorem test_witness_TimeBaseWrites_3 :
    dTimeBaseWrites3.wf ∧ (dTimeBaseWrites3.timeValid = false) ∧
    (0 ≤ dTimeBaseWrites3.tb.t40 + (dTimeBaseWrites3.tb.adjSec * 1000000000 + (-5 : Word).toInt) * 2 ^ 40) ∧
    (dTimeBaseWrites3.tb.t40 + (dTimeBaseWrites3.tb.adjSec * 1000000000 + (-5 : Word).toInt) * 2 ^ 40 < 2 ^ 48 * 1000000000 * 2 ^ 40) :=
  by decide +kernel

def dTimeBaseWrites4 : Dev :=
  w0.set F.TB_CTRL.STEP_THRESHOLD 1 |>.set F.TB_STATUS.VALID 1 |>.set F.CLK_STATUS.PLL_LOCK 1
theorem test_witness_TimeBaseWrites_4 :
    dTimeBaseWrites4.wf ∧ (dTimeBaseWrites4.timeValid = true) ∧ (0 ≤ dTimeBaseWrites4.tb.t40 + (10 : Word).toInt * 2 ^ 40) ∧
    (dTimeBaseWrites4.tb.t40 + (10 : Word).toInt * 2 ^ 40 < 2 ^ 48 * 1000000000 * 2 ^ 40) ∧ (dTimeBaseWrites4.tb.rem = 0) ∧
    (dTimeBaseWrites4.tb.adjSec = 0) ∧ ((10 : Word).toInt.natAbs ≤ 1000 * dTimeBaseWrites4.get F.TB_CTRL.STEP_THRESHOLD) :=
  by decide +kernel

def dTimeBaseWrites5 : Dev :=
  w0.set F.TB_CTRL.STEP_THRESHOLD 1 |>.set F.TB_STATUS.VALID 1 |>.set F.CLK_STATUS.PLL_LOCK 1
theorem test_witness_TimeBaseWrites_5 :
    dTimeBaseWrites5.wf ∧ (dTimeBaseWrites5.timeValid = true) ∧ (0 ≤ dTimeBaseWrites5.tb.t40 + (1001 : Word).toInt * 2 ^ 40) ∧
    (dTimeBaseWrites5.tb.t40 + (1001 : Word).toInt * 2 ^ 40 < 2 ^ 48 * 1000000000 * 2 ^ 40) ∧ (dTimeBaseWrites5.tb.rem = 0) ∧
    (dTimeBaseWrites5.tb.adjSec = 0) ∧ (1000 * dTimeBaseWrites5.get F.TB_CTRL.STEP_THRESHOLD < (1001 : Word).toInt.natAbs) :=
  by decide +kernel

def dTimeBaseWrites6 : Dev :=
  w0.set F.TB_STATUS.TRIM_SAT 1
theorem test_witness_TimeBaseWrites_6 :
    dTimeBaseWrites6.wf ∧ (-(2 ^ 31) ≤ (-44023 : Word).toInt + dTimeBaseWrites6.tb.ageing + slewTerm dTimeBaseWrites6.tb.rem) ∧
    ((-44023 : Word).toInt + dTimeBaseWrites6.tb.ageing + slewTerm dTimeBaseWrites6.tb.rem < 2 ^ 31) :=
  by decide +kernel

def dTimeSetting1 : Dev :=
  w0
theorem test_witness_TimeSetting_1 :
    dTimeSetting1.wf ∧ (dTimeSetting1.timeValid = false) ∧ ((2 ^ 48 - 1 : Nat) < 2 ^ 48) ∧ ((999999999 : Nat) < 1000000000) :=
  by decide +kernel

def dTimeSetting2 : Dev :=
  w0
theorem test_witness_TimeSetting_2 :
    dTimeSetting2.wf ∧ (2 ^ 48 ≤ (0 : Nat) ∨ 1000000000 ≤ (1000000000 : Nat)) :=
  by decide +kernel

def dTimeSetting3 : Dev :=
  { w0 with tb := { w0.tb with step := some 7 } }
theorem test_witness_TimeSetting_3 :
    dTimeSetting3.wf ∧ (dTimeSetting3.tb.step = some (7 : Int)) ∧ (0 ≤ dTimeSetting3.tb.t40 + (7 : Int) * 2 ^ 40) ∧
    (dTimeSetting3.st.ticks = false) :=
  by decide +kernel

def dTimeSetting4 : Dev :=
  { w0 with st := .scan, tb := { w0.tb with step := some (-7) } }
theorem test_witness_TimeSetting_4 :
    dTimeSetting4.wf ∧ (dTimeSetting4.tb.step = some (-7 : Int)) ∧ (dTimeSetting4.st.ticks = true) :=
  by decide +kernel

def dTimeSetting7 : Dev :=
  { w0 with tb := { w0.tb with rem := 3 * 109951163 - 1 } }.set F.TB_CTRL.RUN 1 |>.set F.CLK_STATUS.PLL_LOCK 1
theorem test_witness_TimeSetting_7 :
    dTimeSetting7.wf ∧ (dTimeSetting7.flag F.TB_CTRL.RUN = true) ∧ (dTimeSetting7.rootRuns = true) ∧ (dTimeSetting7.tb.rem ≠ 0) ∧
    (-(2 ^ 31) ≤ dTimeSetting7.trimBase - 109951163) ∧ (dTimeSetting7.trimBase + 109951163 < 2 ^ 31) :=
  by decide +kernel

def dTimeSetting8 : Dev :=
  { w0 with tb := { w0.tb with rem := 7, ageing := 2 ^ 31 - 8 } }.set F.TB_CTRL.RUN 1 |>.set F.CLK_STATUS.PLL_LOCK 1
theorem test_witness_TimeSetting_8 :
    dTimeSetting8.wf ∧ (dTimeSetting8.flag F.TB_CTRL.RUN = true) ∧ (dTimeSetting8.rootRuns = true) ∧
    (dTimeSetting8.slewCycles = some (1 : Nat)) :=
  by decide +kernel

def dTimeSetting9 : Dev :=
  { w0 with tb := { w0.tb with rem := 7, ageing := 2 ^ 31 } }.set F.TB_CTRL.RUN 1 |>.set F.CLK_STATUS.PLL_LOCK 1
theorem test_witness_TimeSetting_9 :
    dTimeSetting9.wf ∧ (dTimeSetting9.tb.rem ≠ 0) ∧ (dTimeSetting9.slewCycles = none) :=
  by decide +kernel

def dTimeSetting10 : Dev :=
  w0.set F.TB_CTRL.RUN 1 |>.set F.CLK_STATUS.PLL_LOCK 1
theorem test_witness_TimeSetting_10 :
    dTimeSetting10.wf ∧ (dTimeSetting10.flag F.TB_CTRL.RUN = true) ∧ (dTimeSetting10.rootRuns = true) ∧ (dTimeSetting10.tb.rem = 0) ∧
    (dTimeSetting10.tb.days * 86400 * 1000000000 * 2 ^ 40 ≤ dTimeSetting10.tb.counted) ∧
    (dTimeSetting10.tb.counted ≤ (dTimeSetting10.tb.days + 1) * 86400 * 1000000000 * 2 ^ 40) :=
  by decide +kernel

-- Obligations.HeatAndRetirement

def dTemperatures1 : Dev :=
  { w0 with held := false }
theorem test_witness_Temperatures_1 :
    dTemperatures1.wf ∧ (dTemperatures1.held = false) ∧ (dTemperatures1.st.ticks = false) :=
  by decide +kernel

def dTemperatures2 : Dev :=
  { w0 with held := false }
theorem test_witness_Temperatures_2 :
    dTemperatures2.wf ∧ ((List.replicate 24 720 : List Int) = List.replicate 24 720) ∧ (dTemperatures2.held = false) ∧
    (dTemperatures2.st.ticks = false) ∧ (dTemperatures2.therm.sens = []) ∧ (dTemperatures2.therm.subst = []) :=
  by decide +kernel

def dTemperatures3 : Dev :=
  { w0 with therm := { w0.therm with sens := [{}], level := 6 } }.setS F.THERM_STATUS.TJ 1979
theorem test_witness_Temperatures_3 :
    dTemperatures3.wf ∧ (dTemperatures3.therm.sens ≠ []) ∧ ((6 : Nat) < 7) ∧ ((19 : Nat) < 20) ∧
    (dTemperatures3.getS F.THERM_STATUS.TJ = 1840 + 20 * (6 : Nat) + (19 : Nat)) ∧ (dTemperatures3.therm.level ≤ (6 : Nat)) :=
  by decide +kernel

def dTemperatures4 : Dev :=
  { w0 with therm := { w0.therm with sens := [{}], level := 7 } }.setS F.THERM_STATUS.TJ 1759
theorem test_witness_Temperatures_4 :
    dTemperatures4.wf ∧ (dTemperatures4.therm.sens ≠ []) ∧ (dTemperatures4.getS F.THERM_STATUS.TJ < 1760) ∧
    (dTemperatures4.therm.subst = []) :=
  by decide +kernel

def dTemperatures5 : Dev :=
  { w0 with therm := { w0.therm with subst := [(3, 900, false)] } }
theorem test_witness_Temperatures_5 :
    dTemperatures5.wf ∧ (dTemperatures5.therm.subst = [((3 : Nat), (900 : Int), false)]) ∧ (dTemperatures5.st.ticks = false) :=
  by decide +kernel

def dRetirement1 : Dev :=
  { w0 with life := { w0.life with retired := [{ kind := 1, unit := 5 }] } }
theorem test_witness_Retirement_1 :
    dRetirement1.wf ∧ (dRetirement1.life.retired = [{ kind := (1 : Nat), unit := (5 : Nat) }]) ∧
    (dRetirement1.life.flashRet.length < 1024) :=
  by decide +kernel

def dRetirement2 : Dev :=
  { w0 with life := { w0.life with retired := [{ kind := 1, unit := 5 }] } }
theorem test_witness_Retirement_2 :
    dRetirement2.wf ∧ (dRetirement2.life.retired = [{ kind := (1 : Nat), unit := (5 : Nat) }]) :=
  by decide +kernel

def dRetirement3 : Dev :=
  { w0 with life := { w0.life with retired := [{ kind := 6, unit := 1 }], portRet := [false, true] } }
theorem test_witness_Retirement_3 :
    dRetirement3.wf ∧ (dRetirement3.retiredUnit 6 (1 : Fin 2) = true) ∧
    ((dRetirement3.seq.retireDue.any fun q => q.1 = 6 && q.2.1 = (1 : Fin 2).val) = false) :=
  by decide +kernel

-- Obligations.FramesAndNeighboursOnEthernet

def dNetReception1 : Dev :=
  netUp w0
theorem test_witness_NetReception_1 :
    dNetReception1.wf ∧ (dNetReception1.ethRuns ({ port := 0, t := 9, mac := 1, vid := 0, trailer := none } : RxFrame).port = true) ∧
    (dNetReception1.vidOk ({ port := 0, t := 9, mac := 1, vid := 0, trailer := none } : RxFrame).vid = true) ∧
    (({ port := 0, t := 9, mac := 1, vid := 0, trailer := none } : RxFrame).trailer = none) ∧ (dNetReception1.prpOn = false) :=
  by decide +kernel

def dNetReception2 : Dev :=
  netUp w0
theorem test_witness_NetReception_2 :
    dNetReception2.wf ∧ (dNetReception2.ethRuns ({ port := 1, t := 9, mac := 1, vid := 0, trailer := none } : RxFrame).port = true) ∧
    (dNetReception2.vidOk ({ port := 1, t := 9, mac := 1, vid := 0, trailer := none } : RxFrame).vid = true) ∧
    (({ port := 1, t := 9, mac := 1, vid := 0, trailer := none } : RxFrame).trailer = none) ∧ ((1 : Nat) ≠ dNetReception2.get F.NET_IP) :=
  by decide +kernel

def dNetReception3 : Dev :=
  netUp w0
theorem test_witness_NetReception_3 :
    dNetReception3.wf ∧ (dNetReception3.ethRuns ({ port := 1, t := 9, mac := 77, vid := 0, trailer := none } : RxFrame).port = true) ∧
    (dNetReception3.vidOk ({ port := 1, t := 9, mac := 77, vid := 0, trailer := none } : RxFrame).vid = true) ∧
    (({ port := 1, t := 9, mac := 77, vid := 0, trailer := none } : RxFrame).trailer = none) :=
  by decide +kernel

def dNetReception4 : Dev :=
  netUp w0
theorem test_witness_NetReception_4 :
    dNetReception4.wf ∧ (dNetReception4.ethRuns ({ port := 1, t := 9, mac := 77, vid := 0, trailer := none } : RxFrame).port = true) ∧
    (dNetReception4.vidOk ({ port := 1, t := 9, mac := 77, vid := 0, trailer := none } : RxFrame).vid = true) ∧
    (({ port := 1, t := 9, mac := 77, vid := 0, trailer := none } : RxFrame).trailer = none) ∧ (dNetReception4.prpOn = false) ∧
    (queueFits 5 (((dNetReception4.port ({ port := 1, t := 9, mac := 77, vid := 0, trailer := none } : RxFrame).port).queues).getD 5 []) {} = true) ∧
    (dNetReception4.net.unitNo ∉ (dNetReception4.port ({ port := 1, t := 9, mac := 77, vid := 0, trailer := none } : RxFrame).port).droppedUnit) ∧
    (dNetReception4.sized) :=
  by decide +kernel

def dNetReception5 : Dev :=
  netUp w0
theorem test_witness_NetReception_5 :
    dNetReception5.wf ∧ (dNetReception5.ethRuns ({ port := 1, t := 9, mac := 1, vid := 0, trailer := none } : RxFrame).port = true) ∧
    (dNetReception5.vidOk ({ port := 1, t := 9, mac := 1, vid := 0, trailer := none } : RxFrame).vid = true) ∧
    (({ port := 1, t := 9, mac := 1, vid := 0, trailer := none } : RxFrame).trailer = none) :=
  by decide +kernel

def dNetReception6 : Dev :=
  netUp w0
theorem test_witness_NetReception_6 :
    dNetReception6.wf ∧ (dNetReception6.ethRuns ({ port := 1, t := 9, mac := 1, vid := 0, trailer := none } : RxFrame).port = true) ∧
    (dNetReception6.vidOk ({ port := 1, t := 9, mac := 1, vid := 0, trailer := none } : RxFrame).vid = true) ∧
    (({ port := 1, t := 9, mac := 1, vid := 0, trailer := none } : RxFrame).trailer = none) :=
  by decide +kernel

def dNetRefusal1 : Dev :=
  netUp w0
theorem test_witness_NetRefusal_1 :
    dNetRefusal1.wf ∧ (dNetRefusal1.ethRuns ({ port := 1, t := 9, mac := 1, vid := 9, trailer := none } : RxFrame).port = true) ∧
    (dNetRefusal1.vidOk ({ port := 1, t := 9, mac := 1, vid := 9, trailer := none } : RxFrame).vid = false) :=
  by decide +kernel

def dNetRefusal2 : Dev :=
  { netUp w0 with net := { w0.net with dups := [{ mac := 1, seq := 4, port := 0, time := 5 }] } }.set F.NET_PRP.EN 1
theorem test_witness_NetRefusal_2 :
    dNetRefusal2.wf ∧ (dNetRefusal2.ethRuns ({ port := 1, t := 9, mac := 1, vid := 0, trailer := some (4, 11) } : RxFrame).port = true) ∧
    (dNetRefusal2.vidOk ({ port := 1, t := 9, mac := 1, vid := 0, trailer := some (4, 11) } : RxFrame).vid = true) ∧
    (({ port := 1, t := 9, mac := 1, vid := 0, trailer := some (4, 11) } : RxFrame).trailer = some ((4 : Nat), (11 : Nat))) ∧
    (dNetRefusal2.prpOn = true) ∧
    ((11 : Nat) = 0xA + ({ port := 1, t := 9, mac := 1, vid := 0, trailer := some (4, 11) } : RxFrame).port.val) ∧
    (dNetRefusal2.up ≤ ({ port := 1, t := 9, mac := 1, vid := 0, trailer := some (4, 11) } : RxFrame).t) ∧
    (dNetRefusal2.net.dups.any (fun x => x.mac = ({ port := 1, t := 9, mac := 1, vid := 0, trailer := some (4, 11) } : RxFrame).mac && x.seq = (4 : Nat) && x.port ≠ ({ port := 1, t := 9, mac := 1, vid := 0, trailer := some (4, 11) } : RxFrame).port.val && ({ port := 1, t := 9, mac := 1, vid := 0, trailer := some (4, 11) } : RxFrame).t ≤ x.time + 400000000) = true) :=
  by decide +kernel

def dNetRefusal3 : Dev :=
  (netUp w0).set F.NET_PRP.EN 1
theorem test_witness_NetRefusal_3 :
    dNetRefusal3.wf ∧ (dNetRefusal3.ethRuns ({ port := 1, t := 9, mac := 1, vid := 0, trailer := some (4, 10) } : RxFrame).port = true) ∧
    (dNetRefusal3.vidOk ({ port := 1, t := 9, mac := 1, vid := 0, trailer := some (4, 10) } : RxFrame).vid = true) ∧
    (({ port := 1, t := 9, mac := 1, vid := 0, trailer := some (4, 10) } : RxFrame).trailer = some ((4 : Nat), (10 : Nat))) ∧
    (dNetRefusal3.prpOn = true) ∧
    ((10 : Nat) ≠ 0xA + ({ port := 1, t := 9, mac := 1, vid := 0, trailer := some (4, 10) } : RxFrame).port.val) :=
  by decide +kernel

def dNetAges1 : Dev :=
  { w0 with net := { w0.net with arp := [{ ip := 5, mac := 6, time := 7 }] } }
theorem test_witness_NetAges_1 :
    dNetAges1.wf ∧ ((dNetAges1.net.arp.find? fun x => x.ip = (5 : Nat)) = some ({ ip := 5, mac := 6, time := 7 } : Arp)) :=
  by decide +kernel

def dNetAges2 : Dev :=
  { w0 with net := { w0.net with arpWait := [(5, 1, 7)] } }
theorem test_witness_NetAges_2 :
    dNetAges2.wf ∧ ((dNetAges2.net.arpWait.find? fun x => x.1 = (5 : Nat)) = some ((5 : Nat), (1 : Nat), (7 : Nat))) :=
  by decide +kernel

def dNetAges3 : Dev :=
  { w0 with net := { w0.net with nodes := [{ mac := 5, seen := 7 }] } }
theorem test_witness_NetAges_3 :
    dNetAges3.wf ∧ ((dNetAges3.net.nodes.find? fun x => x.mac = (5 : Nat)) = some ({ mac := 5, seen := 7 } : Node)) :=
  by decide +kernel

def dNetAges4 : Dev :=
  { w0 with net := { w0.net with ports := [{}, { lastTrailer := some 3 }] } }.set F.NET_PRP.EN 1
theorem test_witness_NetAges_4 :
    dNetAges4.wf ∧ (dNetAges4.prpOn = true) ∧ ((dNetAges4.port (1 - (0 : Fin 2).val)).lastTrailer = some (3 : Nat)) ∧
    ((dNetAges4.port (0 : Fin 2)).lastTrailer.getD 0 < (3 : Nat)) ∧ (dNetAges4.flag (F.ETH_STATUS.LAN_MISSING (0 : Fin 2)) = false) :=
  by decide +kernel

def dNetAges5 : Dev :=
  w0.set F.NET_PRP.EN 1 |>.set F.CLK_STATUS.PLL_LOCK 1
theorem test_witness_NetAges_5 :
    dNetAges5.wf ∧ (dNetAges5.prpOn = true) ∧ (dNetAges5.rootRuns = true) :=
  by decide +kernel

-- Obligations.MailboxAndRaysOfTheIsland

def dMailbox1 : Dev :=
  { tollDev with toll := { tollDev.toll with logic := { tollDev.toll.logic with clockBad := 1 } } }.set F.CLK_STATUS.PLL_LOCK 1
theorem test_witness_Mailbox_1 :
    dMailbox1.wf ∧ (dMailbox1.logicRuns = true) ∧ (dMailbox1.procRuns = true) ∧ (dMailbox1.devLimit < (101 : Int).natAbs) ∧
    (1 ≤ dMailbox1.toll.logic.clockBad) ∧ (dMailbox1.toll.fault = 0) :=
  by decide +kernel

def dMailbox2 : Dev :=
  tollDev
theorem test_witness_Mailbox_2 :
    dMailbox2.wf ∧ (dMailbox2.logicRuns = true) ∧ (dMailbox2.procRuns = true) ∧ (dMailbox2.st.ticks = false) ∧
    ((300 : Int).natAbs ≤ dMailbox2.devLimit) ∧ ((-300 : Int).natAbs ≤ dMailbox2.devLimit) ∧
    (∀ i < 8, dMailbox2.fnDemand .logic i = dMailbox2.fnDemand .proc i) :=
  by decide +kernel

def dMailbox3 : Dev :=
  { tollDev with toll := { tollDev.toll with mbxRun := [4, 0, 0, 0, 0, 0, 0, 0], logic := { tollDev.toll.logic with pairs := [{ demand := true }, {}, {}, {}, {}, {}, {}, {}] } } }
theorem test_witness_Mailbox_3 :
    dMailbox3.wf ∧ (dMailbox3.logicRuns = true) ∧ (dMailbox3.procRuns = true) ∧ ((0 : Int).natAbs ≤ dMailbox3.devLimit) ∧
    ((0 : Int).natAbs ≤ dMailbox3.devLimit) ∧ (dMailbox3.fnDemand .logic (0 : Fin 8) ≠ dMailbox3.fnDemand .proc (0 : Fin 8)) ∧
    (pairD dMailbox3.toll.cfg (0 : Fin 8) + 30 < 10 * dMailbox3.toll.mbxRun.getD (0 : Fin 8) 0) ∧ (dMailbox3.toll.fault = 0) :=
  by decide +kernel

def dMailbox4 : Dev :=
  tollDev
theorem test_witness_Mailbox_4 :
    dMailbox4.wf ∧ (dMailbox4.procRuns = true) ∧ (dMailbox4.life.tollReload = false) ∧ (dMailbox4.toll.fault = 0) :=
  by decide +kernel

def dMailbox5 : Dev :=
  { tollDev with toll := { tollDev.toll with vddOk := false } }
theorem test_witness_Mailbox_5 :
    dMailbox5.wf ∧ (dMailbox5.procRuns = false) :=
  by decide +kernel

def dFieldRays1 : Dev :=
  { tollDev with chans := [(511, { rayDue := true })] }
theorem test_witness_FieldRays_1 :
    dFieldRays1.wf ∧ ((dFieldRays1.chan (511 : Fin 512)).rayDue = true) ∧ (dFieldRays1.logicRuns = true) ∧
    (zoneFields (dFieldRays1.seq.info.tab 0x7071) (sectorOf (wbAz (wbEntry (dFieldRays1.seq.info.tab 0x7000) dFieldRays1.seq.info.index))) (511 : Fin 512) = []) ∧
    (dFieldRays1.st.ticks = false) :=
  by decide +kernel

def dFieldRays2 : Dev :=
  { tollDev with chans := [(0, { rayDue := true })], seq := { w0.seq with info := { valid := true, tabs := [(0x7071, zeros 4 ++ be 2 1 ++ zeros 0x842 ++ [2, 0, 255, 0, 0, 0, 1, 255] ++ zeros 8)] } } }
theorem test_witness_FieldRays_2 :
    dFieldRays2.wf ∧ ((dFieldRays2.chan (0 : Fin 512)).rayDue = true) ∧ (dFieldRays2.logicRuns = true) ∧
    ((2 : Fin 16).val ∈ zoneFields (dFieldRays2.seq.info.tab 0x7071) (sectorOf (wbAz (wbEntry (dFieldRays2.seq.info.tab 0x7000) dFieldRays2.seq.info.index))) (0 : Fin 512)) ∧
    (dFieldRays2.sized) :=
  by decide +kernel

def dFieldRays3 : Dev :=
  { tollDev with recs := [(3, { done := true, flags := 2 ^ 15 })], seq := { w0.seq with info := { valid := true } } }
theorem test_witness_FieldRays_3 :
    dFieldRays3.wf ∧ (dFieldRays3.recDone (3 : Fin 512) = true) ∧ ((Tab.getD dFieldRays3.recs (3 : Fin 512).val {}).ray = false) ∧
    (dFieldRays3.procRuns = true) ∧ (dFieldRays3.seq.info.valid = true) ∧
    (bitAt (Tab.getD dFieldRays3.recs (3 : Fin 512).val {}).flags 14 = true ∨ bitAt (Tab.getD dFieldRays3.recs (3 : Fin 512).val {}).flags 15 = true) ∧
    (dFieldRays3.sized) :=
  by decide +kernel

def dFieldRays4 : Dev :=
  { tollDev with recs := [(3, { done := true })], seq := { w0.seq with info := { valid := true } } }
theorem test_witness_FieldRays_4 :
    dFieldRays4.wf ∧ (dFieldRays4.recDone (3 : Fin 512) = true) ∧ ((Tab.getD dFieldRays4.recs (3 : Fin 512).val {}).ray = false) ∧
    (dFieldRays4.procRuns = true) ∧ (dFieldRays4.seq.info.valid = true) ∧ (dFieldRays4.st.ticks = false) :=
  by decide +kernel

-- Obligations.TelegramsOfTheIsland

def dStatusTelegrams1 : Dev :=
  tollDev
theorem test_witness_StatusTelegrams_1 :
    dStatusTelegrams1.wf ∧ (dStatusTelegrams1.sendsTelegrams = true) ∧ (dStatusTelegrams1.tgSpaced (9 : Nat) = true) ∧
    (dStatusTelegrams1.st.ticks = false) :=
  by decide +kernel

def dStatusTelegrams2 : Dev :=
  tollDev
theorem test_witness_StatusTelegrams_2 :
    dStatusTelegrams2.wf ∧ (dStatusTelegrams2.sendsTelegrams = true) ∧ (dStatusTelegrams2.tgSpaced (9 : Nat) = true) ∧
    (dStatusTelegrams2.st.ticks = false) ∧
    (((dStatusTelegrams2.toll.comp.filter fun x => (9 : Nat) < x + 1000000000) ++ [(9 : Nat)]).length < 3) :=
  by decide +kernel

def dStatusTelegrams3 : Dev :=
  { tollDev with toll := { tollDev.toll with comp := [1, 2] } }
theorem test_witness_StatusTelegrams_3 :
    dStatusTelegrams3.wf ∧ (dStatusTelegrams3.sendsTelegrams = true) ∧ (dStatusTelegrams3.tgSpaced (9 : Nat) = true) ∧
    (dStatusTelegrams3.st.ticks = false) ∧
    (3 ≤ ((dStatusTelegrams3.toll.comp.filter fun x => (9 : Nat) < x + 1000000000) ++ [(9 : Nat)]).length) :=
  by decide +kernel

def dStatusTelegrams4 : Dev :=
  { tollDev with toll := { tollDev.toll with remote := true } }
theorem test_witness_StatusTelegrams_4 :
    dStatusTelegrams4.wf ∧ (dStatusTelegrams4.sendsTelegrams = true) ∧ (dStatusTelegrams4.tgSpaced (9 : Nat) = true) ∧
    (dStatusTelegrams4.st.ticks = false) ∧ (dStatusTelegrams4.tgSays ≠ dStatusTelegrams4.toll.txSaid) :=
  by decide +kernel

def dStatusTelegrams5 : Dev :=
  tollDev
theorem test_witness_StatusTelegrams_5 :
    dStatusTelegrams5.wf ∧ (dStatusTelegrams5.sendsTelegrams = true) ∧ (dStatusTelegrams5.tgSpaced (9 : Nat) = true) ∧
    (dStatusTelegrams5.st.ticks = false) ∧ (dStatusTelegrams5.tgSays = dStatusTelegrams5.toll.txSaid) :=
  by decide +kernel

def dCommandTelegrams1 : Dev :=
  netUp tollDev
theorem test_witness_CommandTelegrams_1 :
    dCommandTelegrams1.wf ∧
    (dCommandTelegrams1.ethRuns ({ port := 0, t := 9, mac := 1, vid := 0, trailer := none } : RxFrame).port = true) ∧
    (dCommandTelegrams1.vidOk ({ port := 0, t := 9, mac := 1, vid := 0, trailer := none } : RxFrame).vid = true) ∧
    (({ port := 0, t := 9, mac := 1, vid := 0, trailer := none } : RxFrame).trailer = none) ∧ (dCommandTelegrams1.takesTelegrams = true) ∧
    ((zeros 64 : Bytes).length = 64) ∧ (tgForm dCommandTelegrams1.toll.cfg (1 : Nat) (3 : Nat) (zeros 64 : Bytes) = false) :=
  by decide +kernel

def dCommandTelegrams2 : Dev :=
  netUp tollDev
theorem test_witness_CommandTelegrams_2 :
    dCommandTelegrams2.wf ∧
    (dCommandTelegrams2.ethRuns ({ port := 0, t := 9, mac := 1, vid := 0, trailer := none } : RxFrame).port = true) ∧
    (dCommandTelegrams2.vidOk ({ port := 0, t := 9, mac := 1, vid := 0, trailer := none } : RxFrame).vid = true) ∧
    (({ port := 0, t := 9, mac := 1, vid := 0, trailer := none } : RxFrame).trailer = none) ∧ (dCommandTelegrams2.takesTelegrams = true) ∧
    ((zeros 63 : Bytes).length ≠ 64) :=
  by decide +kernel

def dCommandTelegrams3 : Dev :=
  netUp tollDev
theorem test_witness_CommandTelegrams_3 :
    dCommandTelegrams3.wf ∧
    (dCommandTelegrams3.ethRuns ({ port := 0, t := 9, mac := 1, vid := 0, trailer := none } : RxFrame).port = true) ∧
    (dCommandTelegrams3.vidOk ({ port := 0, t := 9, mac := 1, vid := 0, trailer := none } : RxFrame).vid = true) ∧
    (({ port := 0, t := 9, mac := 1, vid := 0, trailer := none } : RxFrame).trailer = none) ∧ (dCommandTelegrams3.takesTelegrams = true) ∧
    ((tgBytes 1 : Bytes).length = 64) ∧ (tgForm dCommandTelegrams3.toll.cfg (0 : Nat) (0 : Nat) (tgBytes 1 : Bytes) = true) ∧
    (dCommandTelegrams3.toll.closed.contains (tgSeq (tgBytes 1 : Bytes)) = false) ∧ (dCommandTelegrams3.flag F.PTP_STATUS.LOCKED = false) ∧
    (dCommandTelegrams3.tgFresh (tgBytes 1 : Bytes) = true) ∧
    ((dCommandTelegrams3.toll.wins.find? fun x => tgSeq x.bytes = tgSeq (tgBytes 1 : Bytes)) = none) ∧
    (dCommandTelegrams3.st.ticks = false) :=
  by decide +kernel

def dCommandTelegrams4 : Dev :=
  netUp { tollDev with toll := { tollDev.toll with cfg := stopCfg, wins := [{ bytes := tgBytes 1, port := 0, t := 5 }] } }
theorem test_witness_CommandTelegrams_4 :
    dCommandTelegrams4.wf ∧
    (dCommandTelegrams4.ethRuns ({ port := 1, t := 9, mac := 1, vid := 0, trailer := none } : RxFrame).port = true) ∧
    (dCommandTelegrams4.vidOk ({ port := 1, t := 9, mac := 1, vid := 0, trailer := none } : RxFrame).vid = true) ∧
    (({ port := 1, t := 9, mac := 1, vid := 0, trailer := none } : RxFrame).trailer = none) ∧ (dCommandTelegrams4.takesTelegrams = true) ∧
    ((tgBytes 1 : Bytes).length = 64) ∧ (tgForm dCommandTelegrams4.toll.cfg (0 : Nat) (0 : Nat) (tgBytes 1 : Bytes) = true) ∧
    (dCommandTelegrams4.toll.closed.contains (tgSeq (tgBytes 1 : Bytes)) = false) ∧ (dCommandTelegrams4.flag F.PTP_STATUS.LOCKED = false) ∧
    (dCommandTelegrams4.tgFresh (tgBytes 1 : Bytes) = true) ∧
    ((dCommandTelegrams4.toll.wins.find? fun x => tgSeq x.bytes = tgSeq (tgBytes 1 : Bytes)) = some ({ bytes := tgBytes 1, port := 0, t := 5 } : Copy)) ∧
    (({ bytes := tgBytes 1, port := 0, t := 5 } : Copy).port ≠ ({ port := 1, t := 9, mac := 1, vid := 0, trailer := none } : RxFrame).port.val) ∧
    (max dCommandTelegrams4.up ({ port := 1, t := 9, mac := 1, vid := 0, trailer := none } : RxFrame).t < ({ bytes := tgBytes 1, port := 0, t := 5 } : Copy).t + cmpWin dCommandTelegrams4.toll.cfg) ∧
    (({ bytes := tgBytes 1, port := 0, t := 5 } : Copy).bytes = (tgBytes 1 : Bytes)) :=
  by decide +kernel

def dCommandTelegrams5 : Dev :=
  netUp { tollDev with toll := { tollDev.toll with cfg := stopCfg, wins := [{ bytes := (tgBytes 1).take 63, port := 0, t := 5 }] } }
theorem test_witness_CommandTelegrams_5 :
    dCommandTelegrams5.wf ∧
    (dCommandTelegrams5.ethRuns ({ port := 1, t := 9, mac := 1, vid := 0, trailer := none } : RxFrame).port = true) ∧
    (dCommandTelegrams5.vidOk ({ port := 1, t := 9, mac := 1, vid := 0, trailer := none } : RxFrame).vid = true) ∧
    (({ port := 1, t := 9, mac := 1, vid := 0, trailer := none } : RxFrame).trailer = none) ∧ (dCommandTelegrams5.takesTelegrams = true) ∧
    ((tgBytes 1 : Bytes).length = 64) ∧ (tgForm dCommandTelegrams5.toll.cfg (0 : Nat) (0 : Nat) (tgBytes 1 : Bytes) = true) ∧
    (dCommandTelegrams5.toll.closed.contains (tgSeq (tgBytes 1 : Bytes)) = false) ∧ (dCommandTelegrams5.flag F.PTP_STATUS.LOCKED = false) ∧
    (dCommandTelegrams5.tgFresh (tgBytes 1 : Bytes) = true) ∧
    ((dCommandTelegrams5.toll.wins.find? fun x => tgSeq x.bytes = tgSeq (tgBytes 1 : Bytes)) = some ({ bytes := (tgBytes 1).take 63, port := 0, t := 5 } : Copy)) ∧
    (({ bytes := (tgBytes 1).take 63, port := 0, t := 5 } : Copy).port ≠ ({ port := 1, t := 9, mac := 1, vid := 0, trailer := none } : RxFrame).port.val) ∧
    (max dCommandTelegrams5.up ({ port := 1, t := 9, mac := 1, vid := 0, trailer := none } : RxFrame).t < ({ bytes := (tgBytes 1).take 63, port := 0, t := 5 } : Copy).t + cmpWin dCommandTelegrams5.toll.cfg) ∧
    (({ bytes := (tgBytes 1).take 63, port := 0, t := 5 } : Copy).bytes ≠ (tgBytes 1 : Bytes)) ∧ (dCommandTelegrams5.toll.mism = none) :=
  by decide +kernel

def dTelegramTimers1 : Dev :=
  { tollDev with toll := { tollDev.toll with cfg := zeros 300, wins := [{ bytes := tgBytes 1, port := 0, t := 5 }] } }
theorem test_witness_TelegramTimers_1 :
    dTelegramTimers1.wf ∧ (dTelegramTimers1.toll.wins = ({ bytes := tgBytes 1, port := 0, t := 5 } : Copy) :: ([] : List Copy)) ∧
    (({ bytes := tgBytes 1, port := 0, t := 5 } : Copy).t + cmpWin dTelegramTimers1.toll.cfg ≤ (20 : Nat)) ∧
    (bitAt (rd 1 dTelegramTimers1.toll.cfg 0xE8) 1 = false ∨ dTelegramTimers1.otherDown ({ bytes := tgBytes 1, port := 0, t := 5 } : Copy).port = false) :=
  by decide +kernel

def dTelegramTimers2 : Dev :=
  { tollDev with toll := { tollDev.toll with wins := [{ bytes := tgBytes 1, port := 0, t := 5 }] } }
theorem test_witness_TelegramTimers_2 :
    dTelegramTimers2.wf ∧ (dTelegramTimers2.toll.wins = ({ bytes := tgBytes 1, port := 0, t := 5 } : Copy) :: ([] : List Copy)) ∧
    (({ bytes := tgBytes 1, port := 0, t := 5 } : Copy).t + cmpWin dTelegramTimers2.toll.cfg ≤ (1000005 : Nat)) ∧
    (bitAt (rd 1 dTelegramTimers2.toll.cfg 0xE8) 1 = true) ∧
    (dTelegramTimers2.otherDown ({ bytes := tgBytes 1, port := 0, t := 5 } : Copy).port = true) :=
  by decide +kernel

def dTelegramTimers3 : Dev :=
  tollDev
theorem test_witness_TelegramTimers_3 :
    dTelegramTimers3.wf ∧ (dTelegramTimers3.toll.conn = true) ∧ (tgOn dTelegramTimers3.toll.cfg = true) :=
  by decide +kernel

def dTelegramTimers4 : Dev :=
  tollDev.set F.TG_LOST 0 |> fun d => { d with toll := { d.toll with conn := false } }
theorem test_witness_TelegramTimers_4 :
    dTelegramTimers4.wf ∧ (dTelegramTimers4.toll.conn = false) :=
  by decide +kernel

-- Obligations.ReservedBitsReadZero: bit 31 of DEV_STATE, and an offset that holds no register.
theorem test_witness_reserved :
    w0.wf ∧ (∀ r, regAt 0x10 = some r → ∀ x ∈ r.1.fields, 31 < x.lo ∨ x.lo + x.w ≤ 31) := by
  constructor
  · decide +kernel
  · decide +kernel

/-- A block in RANGING with the laser armed, four open sessions, one of them an engineer's, and two blocks of the ring in use. -/
def heldDev : Dev :=
  { w0 with
      st := .ranging, led := { w0.led with logic := { enable := true }, proc := { enable := true } }
      flf := { w0.flf with sessions := (List.range 4).map fun i : Nat => { id := i + 1, role := if i = 3 then 2 else 1, opened := true } }
      rcd := { w0.rcd with total := 5, free := 3, blocks := [{}, {}] } }

-- The invariants: each holds of a state in which what it bounds is at its limit, and from which a step answers a next state.
theorem test_witness_invariants :
    heldDev.wf ∧ heldDev.sized ∧ heldDev.laser ∧ heldDev.switchesSafe ∧ heldDev.rcd.balanced ∧ heldDev.sessionsOk :=
  ⟨by decide +kernel, by decide +kernel, fun _ => .inr (.inl rfl), by decide +kernel, by decide +kernel, by decide +kernel⟩

theorem test_witness_step : step { pending := [.spiStatus], dev := heldDev } = .next { pending := [], dev := spiStatus heldDev } := rfl

/-- A block in FAULT_STOP. -/
def stopDev : Dev := { w0 with st := .faultStop }

-- Obligations.OutputSwitchesStayOpenWhereTheyMust and Obligations.FaultStopEndsOnlyByReset.
theorem test_witness_fault_stop :
    stopDev.switchesSafe ∧ stopDev.st = .faultStop ∧ step { pending := [.frameOut], dev := stopDev } = .next { pending := [], dev := frameOut stopDev } :=
  ⟨by decide +kernel, rfl, rfl⟩

end Sys2Proof.Tests
end

namespace Sys2Proof.Machine

/-! # What every command and every step keeps

The laws `<operation>_ev` say of each operation that the device it answers `Evolves` from wherever its argument does. Here they are
joined over the arms of `exec` and carried to `step`; an invariant that `Evolves` speaks of is then one projection. -/

/-- The commands that may reset the whole block: power-on, RESET_N, device.reset, and the dictionary writes that can carry it (R512). -/
def mayReset : Instr → Bool
  | .powerOnReset .. | .powerOnResetHold | .resetNAssert _ | .softwareReset .. | .flefenWrite .. | .writeGroup .. => true
  | _ => false

/-- Whatever next state a result answers, its block evolves from `a`. -/
def OutEvolves (r : Bool) (a : Dev) (o : Out) : Prop := ∀ t, o = .next t → Evolves r a t.dev

theorem outEvolves_next {r : Bool} {a : Dev} {s : State} (h : Evolves r a s.dev) : OutEvolves r a (.next s) := by
  rintro t ⟨⟩
  exact h

theorem outEvolves_fault {r : Bool} {a : Dev} {x : Fault} : OutEvolves r a (.fault x) := fun _ h => nomatch h

/-- A command that only changes the block evolves it when its change does. -/
theorem onDev_evolves {r : Bool} {s : State} {f : Dev → Dev} (h : ∀ d, Evolves r s.dev d → Evolves r s.dev (f d)) :
    OutEvolves r s.dev (onDev f s) :=
  outEvolves_next (h s.dev (Evolves.refl r s.dev))

/-- A low of RESET_N below 100 ns does nothing, one below 1 µs has no next state, a longer one resets (R546). -/
theorem execResetNAssert_evolves (width : Nat) (s : State) : OutEvolves true s.dev (execResetNAssert width s) := by
  unfold execResetNAssert
  split
  · exact outEvolves_next (Evolves.refl true s.dev)
  · split
    · exact outEvolves_fault
    · exact onDev_evolves Dev.resetLow_ev

/-- Every command evolves the block, arm by arm: each cites the law of its operation. -/
theorem exec_evolves : ∀ (i : Instr) (s : State), OutEvolves (mayReset i) s.dev (exec i s)
  | .powerOnReset ref rcv maint, _ => onDev_evolves (powerOnReset_ev ref rcv maint)
  | .resetNAssert width, s => execResetNAssert_evolves width s
  | .resetNRelease ref rcv maint, _ => onDev_evolves (resetNRelease_ev ref rcv maint)
  | .bootCtrlRun v, _ => onDev_evolves (bootCtrlRun_ev v)
  | .softwareReset role v, _ => onDev_evolves (softwareReset_ev role v)
  | .vddTollLoss, _ => onDev_evolves vddTollLoss_ev
  | .vddTollGood, _ => onDev_evolves vddTollGood_ev
  | .tollSelfTestDone logicOk procOk, _ => onDev_evolves (tollSelfTestDone_ev logicOk procOk)
  | .supplyWarning supply, _ => onDev_evolves (supplyWarning_ev supply)
  | .refJudgeWindow count, _ => onDev_evolves (refJudgeWindow_ev count)
  | .refJudgeTimeout, _ => onDev_evolves refJudgeTimeout_ev
  | .pllLock, _ => onDev_evolves pllLock_ev
  | .pllLossOfLock, _ => onDev_evolves pllLossOfLock_ev
  | .clockReturn priv, _ => onDev_evolves (clockReturn_ev priv)
  | .clearFault priv, _ => onDev_evolves (clearFault_ev priv)
  | .logicClockStop, _ => onDev_evolves logicClockStop_ev
  | .clkGateWrite via v, _ => onDev_evolves (clkGateWrite_ev via v)
  | .gateTakesEffect blk, _ => onDev_evolves (gateTakesEffect_ev blk)
  | .ungateComplete blk, _ => onDev_evolves (ungateComplete_ev blk)
  | .gatedBlockAccess blk write, _ => onDev_evolves (gatedBlockAccess_ev blk write)
  | .bridgePeerReset bridge, _ => onDev_evolves (bridgePeerReset_ev bridge)
  | .bridgeRelinkDone bridge, _ => onDev_evolves (bridgeRelinkDone_ev bridge)
  | .tbNsRead, _ => onDev_evolves tbNsRead_ev
  | .tbAdjWrite priv v, _ => onDev_evolves (tbAdjWrite_ev priv v)
  | .tbAdjSecWrite priv v, _ => onDev_evolves (tbAdjSecWrite_ev priv v)
  | .tbTrimWrite via v, _ => onDev_evolves (tbTrimWrite_ev via v)
  | .timeSet role sec ns, _ => onDev_evolves (timeSet_ev role sec ns)
  | .acceptStep via v, _ => onDev_evolves (acceptStep_ev via v)
  | .slewComplete, _ => onDev_evolves slewComplete_ev
  | .ageingDayElapsed, _ => onDev_evolves ageingDayElapsed_ev
  | .ledgerDecision logicInTime procInTime, _ => onDev_evolves (ledgerDecision_ev logicInTime procInTime)
  | .rowSelectEdge, _ => onDev_evolves rowSelectEdge_ev
  | .monitorSlotStart, _ => onDev_evolves monitorSlotStart_ev
  | .nominalFireEdge, _ => onDev_evolves nominalFireEdge_ev
  | .startEdge convoy input n q, _ => onDev_evolves (startEdge_ev convoy input n q)
  | .startWindowClose, _ => onDev_evolves startWindowClose_ev
  | .monitorEnergyDelivered base code et, _ => onDev_evolves (monitorEnergyDelivered_ev base code et)
  | .retRisingEdge ch n q, _ => onDev_evolves (retRisingEdge_ev ch n q)
  | .retFallingEdge ch n q, _ => onDev_evolves (retFallingEdge_ev ch n q)
  | .outriderInject, _ => onDev_evolves outriderInject_ev
  | .shotEnd, _ => onDev_evolves shotEnd_ev
  | .stageTick, _ => onDev_evolves stageTick_ev
  | .frameTick, _ => onDev_evolves frameTick_ev
  | .frameSyncOutEnd, _ => onDev_evolves frameSyncOutEnd_ev
  | .frameSyncInEdge t, _ => onDev_evolves (frameSyncInEdge_ev t)
  | .scheduleInstant, _ => onDev_evolves scheduleInstant_ev
  | .stageLockStart, _ => onDev_evolves stageLockStart_ev
  | .tickTimeout, _ => onDev_evolves tickTimeout_ev
  | .seederTake, _ => onDev_evolves seederTake_ev
  | .echoRecordDone ch, _ => onDev_evolves (echoRecordDone_ev ch)
  | .stageBlockDone, _ => onDev_evolves stageBlockDone_ev
  | .baleCoded stream, _ => onDev_evolves (baleCoded_ev stream)
  | .datagramLaunch port t, _ => onDev_evolves (datagramLaunch_ev port t)
  | .ledgerHoldoffEnd, _ => onDev_evolves ledgerHoldoffEnd_ev
  | .armHighCheckExpiry stayedHigh, _ => onDev_evolves (armHighCheckExpiry_ev stayedHigh)
  | .armLowCheckExpiry low, _ => onDev_evolves (armLowCheckExpiry_ev low)
  | .armSettleExpiry, _ => onDev_evolves armSettleExpiry_ev
  | .emArmReadback high, _ => onDev_evolves (emArmReadback_ev high)
  | .emFaultRegistered, _ => onDev_evolves emFaultRegistered_ev
  | .emFaultRelease, _ => onDev_evolves emFaultRelease_ev
  | .controlTick, _ => onDev_evolves controlTick_ev
  | .droverSenseStart, _ => onDev_evolves droverSenseStart_ev
  | .droverMeasureDone samples, _ => onDev_evolves (droverMeasureDone_ev samples)
  | .driveOutputUpdate, _ => onDev_evolves driveOutputUpdate_ev
  | .drvspiTransferDone, _ => onDev_evolves drvspiTransferDone_ev
  | .drvCtrlWrite via v, _ => onDev_evolves (drvCtrlWrite_ev via v)
  | .drvClearFaults priv, _ => onDev_evolves (drvClearFaults_ev priv)
  | .drvTickWrite via v, _ => onDev_evolves (drvTickWrite_ev via v)
  | .drvSetpointWrite via v, _ => onDev_evolves (drvSetpointWrite_ev via v)
  | .drvTestStart via v, _ => onDev_evolves (drvTestStart_ev via v)
  | .drvTestEnd, _ => onDev_evolves drvTestEnd_ev
  | .adcTimerExpiry conv, _ => onDev_evolves (adcTimerExpiry_ev conv)
  | .adcSeqStart via conv m, _ => onDev_evolves (adcSeqStart_ev via conv m)
  | .adcSeqBegin conv m, _ => onDev_evolves (adcSeqBegin_ev conv m)
  | .adcSeqEnd conv m samples, _ => onDev_evolves (adcSeqEnd_ev conv m samples)
  | .acqArm via unit, _ => onDev_evolves (acqArm_ev via unit)
  | .acqDisarm via unit, _ => onDev_evolves (acqDisarm_ev via unit)
  | .acqForce via unit, _ => onDev_evolves (acqForce_ev via unit)
  | .acqTrigger unit bits, _ => onDev_evolves (acqTrigger_ev unit bits)
  | .acqPostWindowEnd unit, _ => onDev_evolves (acqPostWindowEnd_ev unit)
  | .acqRearm unit, _ => onDev_evolves (acqRearm_ev unit)
  | .acqFifoDrain unit n, _ => onDev_evolves (acqFifoDrain_ev unit n)
  | .interpLock convoy, _ => onDev_evolves (interpLock_ev convoy)
  | .interpUnlock convoy, _ => onDev_evolves (interpUnlock_ev convoy)
  | .calStart via convoy, _ => onDev_evolves (calStart_ev via convoy)
  | .calDone convoy hits outr, _ => onDev_evolves (calDone_ev convoy hits outr)
  | .tisStart convoy priv v, _ => onDev_evolves (tisStart_ev convoy priv v)
  | .tisRunDone convoy, _ => onDev_evolves (tisRunDone_ev convoy)
  | .tisTimeout convoy, _ => onDev_evolves (tisTimeout_ev convoy)
  | .rangingRestWrite role v, _ => onDev_evolves (rangingRestWrite_ev role v)
  | .recalPeriodExpiry, _ => onDev_evolves recalPeriodExpiry_ev
  | .thermalReading r, _ => onDev_evolves (thermalReading_ev r)
  | .throttleEval, _ => onDev_evolves throttleEval_ev
  | .substituteTimeout, _ => onDev_evolves substituteTimeout_ev
  | .retirementStoreWrite ok, _ => onDev_evolves (retirementStoreWrite_ev ok)
  | .clearRetirement role v, _ => onDev_evolves (clearRetirement_ev role v)
  | .scrubPass m addr w, _ => onDev_evolves (scrubPass_ev m addr w)
  | .eccWriteback m addr, _ => onDev_evolves (eccWriteback_ev m addr)
  | .conservationCheck, _ => onDev_evolves conservationCheck_ev
  | .incidentInEdge t width, _ => onDev_evolves (incidentInEdge_ev t width)
  | .recorderTrigger role v, _ => onDev_evolves (recorderTrigger_ev role v)
  | .postWindowClose, _ => onDev_evolves postWindowClose_ev
  | .driveInserted, _ => onDev_evolves driveInserted_ev
  | .driveReady fmt4k space sb0 sb1, _ => onDev_evolves (driveReady_ev fmt4k space sb0 sb1)
  | .driveRemoved, _ => onDev_evolves driveRemoved_ev
  | .recorderEject role v, _ => onDev_evolves (recorderEject_ev role v)
  | .recorderFormat role v, _ => onDev_evolves (recorderFormat_ev role v)
  | .recorderProtect role v, _ => onDev_evolves (recorderProtect_ev role v)
  | .stateRequest via code, _ => onDev_evolves (stateRequest_ev via code)
  | .firmwareHandover role v, _ => onDev_evolves (firmwareHandover_ev role v)
  | .handoverReady, _ => onDev_evolves handoverReady_ev
  | .handoverTimeout, _ => onDev_evolves handoverTimeout_ev
  | .firmwareConfirm role v, _ => onDev_evolves (firmwareConfirm_ev role v)
  | .confirmTimeExpiry, _ => onDev_evolves confirmTimeExpiry_ev
  | .stewardWatchdogExpiry, _ => onDev_evolves stewardWatchdogExpiry_ev
  | .stewardCheckpoint, _ => onDev_evolves stewardCheckpoint_ev
  | .tollReload role v, _ => onDev_evolves (tollReload_ev role v)
  | .configSave role v, _ => onDev_evolves (configSave_ev role v)
  | .configSaveDone, _ => onDev_evolves configSaveDone_ev
  | .blowFuse role v confirmed, _ => onDev_evolves (blowFuse_ev role v confirmed)
  | .flefenRead hdr idx sub, _ => onDev_evolves (flefenRead_ev hdr idx sub)
  | .flefenWrite hdr idx sub ty val, _ => onDev_evolves (flefenWrite_ev hdr idx sub ty val)
  | .writeGroup hdr ws, _ => onDev_evolves (writeGroup_ev hdr ws)
  | .domainOpen hdr idx sub dir total crc, _ => onDev_evolves (domainOpen_ev hdr idx sub dir total crc)
  | .domainSegment hdr off body, _ => onDev_evolves (domainSegment_ev hdr off body)
  | .domainClose hdr action, _ => onDev_evolves (domainClose_ev hdr action)
  | .transferIdleTimeout owner, _ => onDev_evolves (transferIdleTimeout_ev owner)
  | .hello hdr role nc, _ => onDev_evolves (hello_ev hdr role nc)
  | .prove hdr proof, _ => onDev_evolves (prove_ev hdr proof)
  | .helloLockoutEnd role, _ => onDev_evolves (helloLockoutEnd_ev role)
  | .endSession hdr, _ => onDev_evolves (endSession_ev hdr)
  | .sessionTimeout id, _ => onDev_evolves (sessionTimeout_ev id)
  | .flefenRegRead hdr addr count, _ => onDev_evolves (flefenRegRead_ev hdr addr count)
  | .flefenRegWrite hdr addr val mask, _ => onDev_evolves (flefenRegWrite_ev hdr addr val mask)
  | .eventMessage g src, _ => onDev_evolves (eventMessage_ev g src)
  | .spiStatus, _ => onDev_evolves spiStatus_ev
  | .spiRegRead addr count, _ => onDev_evolves (spiRegRead_ev addr count)
  | .spiRegWrite addr words, _ => onDev_evolves (spiRegWrite_ev addr words)
  | .frameIn frame, _ => onDev_evolves (frameIn_ev frame)
  | .frameOut, _ => onDev_evolves frameOut_ev
  | .evtStatusClear via g v, _ => onDev_evolves (evtStatusClear_ev via g v)
  | .tblWinStart priv v, _ => onDev_evolves (tblWinStart_ev priv v)
  | .tblWinCommit priv v, _ => onDev_evolves (tblWinCommit_ev priv v)
  | .tblWinAbort priv v, _ => onDev_evolves (tblWinAbort_ev priv v)
  | .safetyClearFaults role v, _ => onDev_evolves (safetyClearFaults_ev role v)
  | .registerWrite priv addr v mask, _ => onDev_evolves (registerWrite_ev priv addr v mask)
  | .arpRequestRx f senderIp targetIp, _ => onDev_evolves (arpRequestRx_ev f senderIp targetIp)
  | .arpReplyRx f senderIp, _ => onDev_evolves (arpReplyRx_ev f senderIp)
  | .arpRetry ip, _ => onDev_evolves (arpRetry_ev ip)
  | .arpCacheExpiry ip, _ => onDev_evolves (arpCacheExpiry_ev ip)
  | .icmpEchoRx f srcIp body, _ => onDev_evolves (icmpEchoRx_ev f srcIp body)
  | .ethFrameDiscarded f, _ => onDev_evolves (ethFrameDiscarded_ev f)
  | .leadFlefenForward f udpPort srcIp srcPort there frame, _ =>
    onDev_evolves (leadFlefenForward_ev f udpPort srcIp srcPort there frame)
  | .ethLinkChange port up speed fec, _ => onDev_evolves (ethLinkChange_ev port up speed fec)
  | .ethLinkRestart priv port, _ => onDev_evolves (ethLinkRestart_ev priv port)
  | .prpSupervisionTx, _ => onDev_evolves prpSupervisionTx_ev
  | .prpSupervisionRx f node, _ => onDev_evolves (prpSupervisionRx_ev f node)
  | .prpNodeExpiry mac, _ => onDev_evolves (prpNodeExpiry_ev mac)
  | .lanMissingTimeout port, _ => onDev_evolves (lanMissingTimeout_ev port)
  | .ptpSyncRx port m, _ => onDev_evolves (ptpSyncRx_ev port m)
  | .ptpFollowUpRx port m, _ => onDev_evolves (ptpFollowUpRx_ev port m)
  | .ptpDelayRespRx port m, _ => onDev_evolves (ptpDelayRespRx_ev port m)
  | .ptpAnnounceRx port m, _ => onDev_evolves (ptpAnnounceRx_ev port m)
  | .ptpSyncTx, _ => onDev_evolves ptpSyncTx_ev
  | .ptpHoldoverTimeout announce, _ => onDev_evolves (ptpHoldoverTimeout_ev announce)
  | .ppsInEdge t, _ => onDev_evolves (ppsInEdge_ev t)
  | .ppsOutSecond, _ => onDev_evolves ppsOutSecond_ev
  | .ppsOutWidthEnd, _ => onDev_evolves ppsOutWidthEnd_ev
  | .bxBlockLock lane, _ => onDev_evolves (bxBlockLock_ev lane)
  | .bxLockLoss lane, _ => onDev_evolves (bxLockLoss_ev lane)
  | .bxPortRestart priv port, _ => onDev_evolves (bxPortRestart_ev priv port)
  | .bxBringupTimeout port, _ => onDev_evolves (bxBringupTimeout_ev port)
  | .bxRestartDelayEnd port, _ => onDev_evolves (bxRestartDelayEnd_ev port)
  | .bxSpeedCountdownEnd port, _ => onDev_evolves (bxSpeedCountdownEnd_ev port)
  | .bxAlignRx lane blk, _ => onDev_evolves (bxAlignRx_ev lane blk)
  | .bxAlignTx port, _ => onDev_evolves (bxAlignTx_ev port)
  | .bxCreditRx port blk, _ => onDev_evolves (bxCreditRx_ev port blk)
  | .bxCreditTx port, _ => onDev_evolves (bxCreditTx_ev port)
  | .bxTrainCapabilityRx port blk, _ => onDev_evolves (bxTrainCapabilityRx_ev port blk)
  | .bxTrainUpdateRx lane blk ready, _ => onDev_evolves (bxTrainUpdateRx_ev lane blk ready)
  | .bxTrainStatusRx lane blk, _ => onDev_evolves (bxTrainStatusRx_ev lane blk)
  | .bxTrainStepRx port blk, _ => onDev_evolves (bxTrainStepRx_ev port blk)
  | .bxTickRx port blk, _ => onDev_evolves (bxTickRx_ev port blk)
  | .bxTimeRx port blk t, _ => onDev_evolves (bxTimeRx_ev port blk t)
  | .bxTimeSecRx port blk, _ => onDev_evolves (bxTimeSecRx_ev port blk)
  | .bxTimeTx, _ => onDev_evolves bxTimeTx_ev
  | .bxTimeSecTx, _ => onDev_evolves bxTimeSecTx_ev
  | .bxDelayReqTx port, _ => onDev_evolves (bxDelayReqTx_ev port)
  | .bxDelayReqRx port blk t turn, _ => onDev_evolves (bxDelayReqRx_ev port blk t turn)
  | .bxDelayRespRx port blk t, _ => onDev_evolves (bxDelayRespRx_ev port blk t)
  | .bxDelayRespTimeout port, _ => onDev_evolves (bxDelayRespTimeout_ev port)
  | .bxFlefenFrameRx port src dst data term, _ => onDev_evolves (bxFlefenFrameRx_ev port src dst data term)
  | .bxForwardFrameRx port src data term, _ => onDev_evolves (bxForwardFrameRx_ev port src data term)
  | .bxStatusFrameRx port src data term, _ => onDev_evolves (bxStatusFrameRx_ev port src data term)
  | .safeInputSample c levels t, _ => onDev_evolves (safeInputSample_ev c levels t)
  | .tpWindowStart c t, _ => onDev_evolves (tpWindowStart_ev c t)
  | .outputReadback c rb, _ => onDev_evolves (outputReadback_ev c rb)
  | .offPulseStart pair sw, _ => onDev_evolves (offPulseStart_ev pair sw)
  | .offPulseCheck pair sw high, _ => onDev_evolves (offPulseCheck_ev pair sw high)
  | .offPulseEnd pair sw, _ => onDev_evolves (offPulseEnd_ev pair sw)
  | .mailboxExchange logicDev procDev, _ => onDev_evolves (mailboxExchange_ev logicDev procDev)
  | .mailboxMissingTimeout, _ => onDev_evolves mailboxMissingTimeout_ev
  | .logicRayDecision ch, _ => onDev_evolves (logicRayDecision_ev ch)
  | .procRayDecision ch, _ => onDev_evolves (procRayDecision_ev ch)
  | .telegramTxPeriod t alike, _ => onDev_evolves (telegramTxPeriod_ev t alike)
  | .telegramChangeTx t alike, _ => onDev_evolves (telegramChangeTx_ev t alike)
  | .safeTelegramRx f srcIp _ dstPort bs, _ => onDev_evolves (safeTelegramRx_ev f srcIp dstPort bs)
  | .compareWindowEnd t, _ => onDev_evolves (compareWindowEnd_ev t)
  | .telegramWatchdog, _ => onDev_evolves telegramWatchdog_ev
  | .powerOnResetHold, _ => onDev_evolves powerOnResetHold_ev
  | .bootComplete, _ => onDev_evolves bootComplete_ev
  | .tpLowEnd c, _ => onDev_evolves (tpLowEnd_ev c)
  | .ptpDelayReqTx, _ => onDev_evolves ptpDelayReqTx_ev
  | .ptpDelayReqRx port m, _ => onDev_evolves (ptpDelayReqRx_ev port m)
  | .ptpAnnounceTx, _ => onDev_evolves ptpAnnounceTx_ev
  | .stewardReloadDone u, _ => onDev_evolves (stewardReloadDone_ev u)

/-- Every step evolves the block: a command as `exec_evolves` says, the empty queue by letting 1 ns pass. -/
theorem step_evolves {s t : State} (h : step s = .next t) : Evolves true s.dev t.dev := by
  obtain ⟨pending, d⟩ := s
  cases pending with
  | nil =>
    have idle : OutEvolves true d (step ⟨[], d⟩) := outEvolves_next (Dev.advance_ev d 1 (Evolves.refl true d))
    exact idle t h
  | cons i rest =>
    have front : OutEvolves (mayReset i) d (step ⟨i :: rest, d⟩) := exec_evolves i ⟨rest, d⟩
    exact (front t h).reset

/-- Settles O52: every step evolves the block, and what evolves from a block whose stores have their form has stores of that form. -/
theorem storesKeepTheirForm : Obligations.StoresKeepTheirForm := by
  intro s t hw h
  obtain ⟨keepsWf, -, -, -⟩ := step_evolves h
  exact keepsWf hw

end Sys2Proof.Machine

namespace Sys2Proof.Machine

/-! # What the word of a register holds

The fields of every register of the space are listed from the highest down without overlap, so the word is made of their values side by
side, and a bit between them is 0. -/

/-- The fields lie below bit `k`, from the highest down, without overlap. -/
def fieldsFall : Nat → List FieldDesc → Bool
  | _, [] => true
  | k, x :: xs => decide (x.lo + x.w ≤ k) && fieldsFall x.lo xs

/-- The fields of every register lie so within its 32 bits (R3). -/
theorem regTable_fieldsFall : ∀ r ∈ regTable, fieldsFall 32 r.fields = true := by decide +kernel

theorem regAt_mem {a j : Nat} {r : RegDesc} (h : regAt a = some (r, j)) : r ∈ regTable := by
  obtain ⟨q, hq, e⟩ := Option.map_eq_some_iff.mp h
  cases e
  exact List.mem_of_find?_eq_some hq

theorem FieldDesc.width_key (x : FieldDesc) (a : Nat) (h : x.w < 64) : Fld.width (x.key a) = x.w := by
  simp only [FieldDesc.key, Fld.mk, Fld.width]
  omega

/-- What a read returns lies within the field's width. -/
theorem Dev.peek_lt (d : Dev) (f : Fld) (h : RegsOk d.regs) : d.peek f < 2 ^ Fld.width f := by
  unfold Dev.peek
  split
  · exact Nat.mod_lt _ (Nat.two_pow_pos _)
  · exact d.get_lt f h

/-- What a field of the register at an offset adds to its word, before its shift. -/
def Dev.fieldRead (d : Dev) (a : Nat) (x : FieldDesc) : Nat := if x.acc = .wo then 0 else d.peek (x.key a)

theorem Dev.fieldRead_lt (d : Dev) (a : Nat) (x : FieldDesc) (h : RegsOk d.regs) (hw : x.w < 64) : d.fieldRead a x < 2 ^ x.w := by
  unfold Dev.fieldRead
  split
  · exact Nat.two_pow_pos _
  · exact x.width_key a hw ▸ d.peek_lt (x.key a) h

/-- The values of fields side by side in a word. -/
def packFields (v : FieldDesc → Nat) (l : List FieldDesc) : Nat := (l.map fun x => v x * 2 ^ x.lo).sum

/-- The word of a register is the values of its fields side by side. -/
theorem Dev.regWord_eq_packFields (d : Dev) {a j : Nat} {r : RegDesc} (h : regAt a = some (r, j)) :
    d.regWord a = packFields (d.fieldRead a) r.fields := by
  have hterm : ∀ x : FieldDesc,
      (if x.acc = .wo then 0 else d.peek (x.key a) * 2 ^ x.lo) = d.fieldRead a x * 2 ^ x.lo := by
    intro x
    unfold Dev.fieldRead
    split
    · exact (Nat.zero_mul _).symm
    · rfl
  unfold Dev.regWord packFields
  rw [h]
  exact congrArg List.sum (List.map_congr_left fun x _ => hterm x)

theorem Dev.regWord_of_none (d : Dev) {a : Nat} (h : regAt a = none) : d.regWord a = 0 := by
  unfold Dev.regWord
  rw [h]

section
variable {v : FieldDesc → Nat}

/-- Fields below bit `k` make a word below bit `k`. -/
theorem packFields_lt {k : Nat} {l : List FieldDesc} (hl : fieldsFall k l = true) (hv : ∀ x ∈ l, v x < 2 ^ x.w) :
    packFields v l < 2 ^ k := by
  induction l generalizing k with
  | nil => exact Nat.two_pow_pos k
  | cons x xs ih =>
    simp only [fieldsFall, Bool.and_eq_true, decide_eq_true_eq] at hl
    obtain ⟨hk, hxs⟩ := hl
    have hx : v x + 1 ≤ 2 ^ x.w := hv x List.mem_cons_self
    have hrest : packFields v xs < 2 ^ x.lo := ih hxs fun y hy => hv y (List.mem_cons_of_mem x hy)
    calc packFields v (x :: xs) = v x * 2 ^ x.lo + packFields v xs := List.sum_cons
      _ < v x * 2 ^ x.lo + 2 ^ x.lo := Nat.add_lt_add_left hrest _
      _ = (v x + 1) * 2 ^ x.lo := (Nat.succ_mul _ _).symm
      _ ≤ 2 ^ x.w * 2 ^ x.lo := Nat.mul_le_mul_right _ hx
      _ = 2 ^ (x.lo + x.w) := by rw [Nat.mul_comm, Nat.pow_add]
      _ ≤ 2 ^ k := Nat.pow_le_pow_right (by decide) hk

/-- A bit that no field holds is 0 in the word. -/
theorem bitAt_packFields_of_reserved {k i : Nat} {l : List FieldDesc} (hl : fieldsFall k l = true) (hv : ∀ x ∈ l, v x < 2 ^ x.w)
    (hi : ∀ x ∈ l, i < x.lo ∨ x.lo + x.w ≤ i) : bitAt (packFields v l) i = false := by
  induction l generalizing k with
  | nil => simp [packFields, bitAt_eq_testBit]
  | cons x xs ih =>
    simp only [fieldsFall, Bool.and_eq_true, decide_eq_true_eq] at hl
    obtain ⟨-, hxs⟩ := hl
    have hv' : ∀ y ∈ xs, v y < 2 ^ y.w := fun y hy => hv y (List.mem_cons_of_mem x hy)
    have hword : packFields v (x :: xs) = 2 ^ x.lo * v x + packFields v xs := by
      rw [Nat.mul_comm]
      exact List.sum_cons
    rw [bitAt_eq_testBit, hword, Nat.testBit_two_pow_mul_add _ (packFields_lt hxs hv')]
    rcases hi x List.mem_cons_self with below | above
    · rw [if_pos below, ← bitAt_eq_testBit]
      exact ih hxs hv' fun y hy => hi y (List.mem_cons_of_mem x hy)
    · rw [if_neg (by omega)]
      exact Nat.testBit_lt_two_pow (Nat.lt_of_lt_of_le (hv x List.mem_cons_self) (Nat.pow_le_pow_right (by decide) (by omega)))

end

/-- Fields that lie below bit `k` are no wider than `k`. -/
theorem width_le_of_fieldsFall {k : Nat} {l : List FieldDesc} (hl : fieldsFall k l = true) : ∀ x ∈ l, x.w ≤ k := by
  induction l generalizing k with
  | nil => exact fun _ h => nomatch h
  | cons x xs ih =>
    simp only [fieldsFall, Bool.and_eq_true, decide_eq_true_eq] at hl
    obtain ⟨hk, hxs⟩ := hl
    intro y hy
    rcases List.mem_cons.mp hy with rfl | hy
    · omega
    · have := ih hxs y hy
      omega

/-- Settles O3: without a register the word is 0; with one, it is the values of its fields side by side, each within its width. -/
theorem reservedBitsReadZero : Obligations.ReservedBitsReadZero := by
  intro d a i ⟨hregs, _⟩ hi
  cases e : regAt a with
  | none => rw [d.regWord_of_none e, bitAt_eq_testBit, Nat.zero_testBit]
  | some r =>
    obtain ⟨r, j⟩ := r
    have hfall := regTable_fieldsFall r (regAt_mem e)
    have hlt : ∀ x ∈ r.fields, d.fieldRead a x < 2 ^ x.w := fun x hx =>
      d.fieldRead_lt a x hregs (Nat.lt_of_le_of_lt (width_le_of_fieldsFall hfall x hx) (by decide))
    rw [d.regWord_eq_packFields e]
    exact bitAt_packFields_of_reserved hfall hlt (hi (r, j) e)

end Sys2Proof.Machine

namespace Sys2Proof.Machine

/-! # Arming of the laser, its read-back, and EM_FAULT_N

Each command here is a change of the block alone. Its case is read off once as an equation; what the case leaves unchanged is put together
from the rules of the operations in it: time that passes, a disarming, a refused arming, an occurrence. -/

/-- A command that only changes the block completes; in a case where its change gives `d`, what holds of `d` holds after it. -/
theorem does_of_onDev {i : Instr} {s : State} {f : Dev → Dev} {d : Dev} {P : Dev → Prop} (he : exec i s = onDev f s)
    (hc : f s.dev = d) (h : P d) : Does i s P := ⟨f s.dev, he, hc ▸ h⟩

/-! ## Time that passes -/

/-- Time that passes changes the uptime, the cycle count while the root runs, and the time base (R44, R56). -/
theorem Dev.advance_eq (d : Dev) (n : Nat) : ∃ t, d.advance n =
    { d with up := d.up + n, cyc := if d.rootRuns then d.cyc + n else d.cyc, tb := t } := by
  let e := { d with up := d.up + n, cyc := if d.rootRuns then d.cyc + n else d.cyc }
  by_cases h : e.tbCounts = true
  · exact ⟨(e.countTime n).tb, if_pos h⟩
  · exact ⟨d.tb, if_neg h⟩

theorem Dev.advance_up (d : Dev) (n : Nat) : (d.advance n).up = d.up + n := by
  obtain ⟨t, e⟩ := d.advance_eq n
  rw [e]

theorem Dev.advance_cyc (d : Dev) (n : Nat) (h : d.rootRuns = true) : (d.advance n).cyc = d.cyc + n := by
  obtain ⟨t, e⟩ := d.advance_eq n
  rw [e]
  exact if_pos h

theorem Dev.advanceTo_up (d : Dev) (t : Nat) : (d.advanceTo t).up = max d.up t := by
  unfold Dev.advanceTo
  rw [Dev.advance_up]
  omega

theorem Dev.cycleTo_cyc (d : Dev) (c : Nat) (h : d.rootRuns = true) : (d.cycleTo c).cyc = max d.cyc c := by
  unfold Dev.cycleTo
  rw [Dev.advance_cyc d _ h]
  omega

section
variable {ps : List DevPart} {fs : List Fld} {a d : Dev}

/-- Time touches the uptime, the cycle count and the time base. -/
theorem Tr.advance (h : Tr ps fs a d) {n : Nat} (hu : .up ∈ ps) (hc : .cyc ∈ ps) (ht : .tb ∈ ps) : Tr ps fs a (d.advance n) := by
  obtain ⟨t, e⟩ := d.advance_eq n
  rw [e]
  exact h.part rfl fun p hp => by
    cases p with
    | up => exact absurd hu hp
    | cyc => exact absurd hc hp
    | tb => exact absurd ht hp
    | _ => rfl

/-! ## The ledger, the sequences and the wish for a state -/

theorem Tr.led (h : Tr ps fs a d) {l : Ledger} (hl : .led ∈ ps) : Tr ps fs a { d with led := l } :=
  h.part rfl fun p hp => by
    cases p with
    | led => exact absurd hl hp
    | _ => rfl

theorem Tr.seq (h : Tr ps fs a d) {q : Seq} (hq : .seq ∈ ps) : Tr ps fs a { d with seq := q } :=
  h.part rfl fun p hp => by
    cases p with
    | seq => exact absurd hq hp
    | _ => rfl

/-- A request that waits is dropped. -/
theorem Tr.dropWant (h : Tr ps fs a d) (hw : .want ∈ ps) (hx : .wantFixed ∈ ps) :
    Tr ps fs a { d with want := none, wantFixed := none } :=
  h.part rfl fun p hp => by
    cases p with
    | want => exact absurd hw hp
    | wantFixed => exact absurd hx hp
    | _ => rfl

/-- A disarming touches the arm enables and ROW_VALID. -/
theorem Tr.disarm (h : Tr ps fs a d) (hr : .regs ∈ ps) (hl : .led ∈ ps) (hf : F.EM_STATUS.ROW_VALID ∈ fs) : Tr ps fs a d.disarm :=
  (h.led hl).set hr hf

end

/-! ## The registers after a write, a disarming and an occurrence -/

theorem Dev.set_wf (d : Dev) (f : Fld) (v : Nat) (h : Tab.wf d.regs) : Tab.wf (d.set f v).regs := Tab.wf_putNat _ _ _ h

theorem Dev.disarm_wf (d : Dev) (h : Tab.wf d.regs) : Tab.wf d.disarm.regs := Dev.set_wf _ _ _ h

theorem Dev.get_raise_other (d : Dev) (g s : Nat) (f : Fld) (h : Tab.wf d.regs) (n : f ≠ F.EVT_STATUS g) :
    (d.raise g s).get f = d.get f := by
  rw [Dev.get_raise d g s f h, if_neg n]

theorem Dev.get_set_raise (d : Dev) (f : Fld) (v g s : Nat) (h : Tab.wf d.regs) (n : f ≠ F.EVT_STATUS g) :
    ((d.set f v).raise g s).get f = v % 2 ^ Fld.width f := by
  rw [Dev.get_raise_other _ g s f (d.set_wf f v h) n, Dev.get_set_same d f v h]

theorem Dev.flag_of_get_zero {d : Dev} {f : Fld} (h : d.get f = 0) : d.flag f = false := by simp [Dev.flag, h]

theorem Dev.flag_of_get_one {d : Dev} {f : Fld} (h : d.get f = 1) : d.flag f = true := by simp [Dev.flag, h]

/-! ## A Toll channel fault stops the device (R31, R397) -/

/-- What follows a change of state does not leave FAULT_STOP: it evolves the block without a reset. -/
theorem Dev.afterGoto_keeps_faultStop (d : Dev) (was : DevState) (tick : Bool) (h : d.st = .faultStop) :
    (d.afterGoto was tick).st = .faultStop := by
  obtain ⟨-, -, stays, -⟩ := Dev.afterGoto_ev d was tick (Evolves.refl false d)
  exact stays.resolve_left Bool.false_ne_true h

theorem Dev.goto_faultStop_st (d : Dev) (tick : Bool) : (d.goto .faultStop tick).st = .faultStop := by
  unfold Dev.goto
  split
  · next stopped => simpa using stopped
  · exact Dev.afterGoto_keeps_faultStop _ _ _ (by simp)

theorem Dev.tollFault_st (d : Dev) (cause : Nat) : (d.tollFault cause).st = .faultStop := Dev.goto_faultStop_st _ false

/-! ## Each command in its case -/

section
variable {d : Dev}

theorem ledgerHoldoffEnd_of_holdoff {a : Nat} (ha : d.led.actCyc = some a) (hh : d.flag F.LEDGER_STATUS.HOLDOFF = true)
    (hr : d.rootRuns = true) : ledgerHoldoffEnd d =
      ((d.cycleTo (a + 65 * bucketLen (d.tab 0x7005) 2)).set F.LEDGER_STATUS.HOLDOFF 0).raise 6 4 := by
  simp [ledgerHoldoffEnd, ha, hh, hr, nat]

theorem armHighCheckExpiry_high (h : d.led.arming = 1) : armHighCheckExpiry true d =
    { d.advanceTo (d.led.armAt + 10000) with
      led := { d.led with
        arming := 2, armAt := (d.advanceTo (d.led.armAt + 10000)).up, proc := { d.led.proc with enable := true } } } := by
  simp [armHighCheckExpiry, h]

theorem armHighCheckExpiry_low (h : d.led.arming = 1) : armHighCheckExpiry false d = d.disarm.tollFault 6 := by
  simp [armHighCheckExpiry, h]

theorem armLowCheckExpiry_low (h : d.led.arming = 2) : armLowCheckExpiry true d = { d with led := { d.led with arming := 3 } } := by
  simp [armLowCheckExpiry, h]

theorem armLowCheckExpiry_high (h : d.led.arming = 2) : armLowCheckExpiry false d = d.armRefused := by
  simp [armLowCheckExpiry, h]

theorem armSettleExpiry_of_settling (h : d.led.arming = 3) : armSettleExpiry d =
    { d.advanceTo (d.led.armAt + 1000 * d.get F.P.armSettle) with led := { d.led with arming := 4 } } := by
  simp [armSettleExpiry, h]

theorem emArmReadback_low (h : d.laserOff) : emArmReadback false d = d.disarm.tollFault 6 := by
  simp [emArmReadback, h]

theorem emFaultRegistered_of_clear (hd : Tab.wf d.regs) (hf : d.flag F.EM_STATUS.EM_FAULT = false) (hb : 4 ≤ d.life.boot) :
    emFaultRegistered d =
      ((d.set F.EM_STATUS.EM_FAULT 1).set F.EM_FAULT_COUNT (d.get F.EM_FAULT_COUNT + 1)).raise 6 3 := by
  have count : (d.set F.EM_STATUS.EM_FAULT 1).get F.EM_FAULT_COUNT = d.get F.EM_FAULT_COUNT :=
    Dev.get_set_other _ _ _ _ hd (by decide)
  simp [emFaultRegistered, hf, Nat.not_lt.mpr hb, nat, count]

theorem emFaultRelease_of_fault (hf : d.flag F.EM_STATUS.EM_FAULT = true) : emFaultRelease d =
    { d with seq := { d.seq with emLoss := false } }.set F.EM_STATUS.EM_FAULT 0 := by
  simp [emFaultRelease, hf, nat]

/-! ## What an arming that is refused leaves (R424) -/

theorem Dev.armRefused_laserOff (d : Dev) : d.armRefused.laserOff := by
  simp [Dev.laserOff, Dev.armed, Dev.armRefused, Dev.disarm]

theorem Dev.armRefused_arming (d : Dev) : d.armRefused.led.arming = 0 := by simp [Dev.armRefused, Dev.disarm]

theorem Dev.armRefused_want (d : Dev) : d.armRefused.want = none := by simp [Dev.armRefused]

theorem Dev.armRefused_lastReject (hd : Tab.wf d.regs) : d.armRefused.get F.DEV_STATE.LAST_REJECT = 4 :=
  Dev.get_set_raise _ F.DEV_STATE.LAST_REJECT 4 12 6 (d.disarm_wf hd) (by decide)

theorem Dev.armRefused_occurred (hd : Tab.wf d.regs) : d.armRefused.occurred 12 6 :=
  Dev.raise_occurred _ 12 6 (Dev.set_wf _ _ _ (d.disarm_wf hd)) (by decide)

theorem Dev.armRefused_touches (hd : Tab.wf d.regs) : Touches [.led, .want, .wantFixed, .evt, .life]
    [F.EM_STATUS.ROW_VALID, F.DEV_STATE.LAST_REJECT, F.EVT_STATUS 12] d d.armRefused :=
  ((((Tr.refl hd).disarm (by decide) (by decide) (by decide)).dropWant (by decide) (by decide)).set (by decide)
    (by decide)).raise (by decide) (by decide) (by decide) (by decide) |>.touches

end

/-! ## The commands -/

section
variable {s : State} (hd : Tab.wf s.dev.regs)
include hd

/-- Time passes until the hold-off is over, its flag falls, and the end is recorded (R102). -/
theorem ledgerHoldoffEnd_does {a : Nat} (ha : s.dev.led.actCyc = some a) (hh : s.dev.flag F.LEDGER_STATUS.HOLDOFF = true)
    (hr : s.dev.rootRuns = true) :
    Does .ledgerHoldoffEnd s fun t =>
      t.flag F.LEDGER_STATUS.HOLDOFF = false ∧ t.cyc = max s.dev.cyc (a + 65 * bucketLen (s.dev.tab 0x7005) 2) ∧ t.occurred 6 4 ∧
      Touches [.up, .cyc, .tb, .evt, .life] [F.LEDGER_STATUS.HOLDOFF, F.EVT_STATUS 6] s.dev t := by
  refine does_of_onDev rfl (ledgerHoldoffEnd_of_holdoff ha hh hr) ?_
  have past : Tr [.regs, .up, .cyc, .tb, .evt, .life] [F.LEDGER_STATUS.HOLDOFF, F.EVT_STATUS 6] s.dev
      (s.dev.cycleTo (a + 65 * bucketLen (s.dev.tab 0x7005) 2)) :=
    (Tr.refl hd).advance (by decide) (by decide) (by decide)
  have cleared := past.set (f := F.LEDGER_STATUS.HOLDOFF) (v := 0) (by decide) (by decide)
  refine ⟨Dev.flag_of_get_zero (Dev.get_set_raise _ F.LEDGER_STATUS.HOLDOFF 0 6 4 past.regs (by decide)), ?_,
    Dev.raise_occurred _ 6 4 cleared.regs (by decide), (cleared.raise (by decide) (by decide) (by decide) (by decide)).touches⟩
  rw [Dev.raise_cyc, Dev.set_cyc, Dev.cycleTo_cyc _ _ hr]

/-- The flag rises, the counter counts one and wraps, and the fault is recorded (R110, R114). -/
theorem emFaultRegistered_does (hf : s.dev.flag F.EM_STATUS.EM_FAULT = false) (hb : 4 ≤ s.dev.life.boot) :
    Does .emFaultRegistered s fun t =>
      t.flag F.EM_STATUS.EM_FAULT = true ∧ t.get F.EM_FAULT_COUNT = (s.dev.get F.EM_FAULT_COUNT + 1) % 2 ^ 32 ∧ t.occurred 6 3 ∧
      Touches [.evt, .life] [F.EM_STATUS.EM_FAULT, F.EM_FAULT_COUNT, F.EVT_STATUS 6] s.dev t := by
  refine does_of_onDev rfl (emFaultRegistered_of_clear hd hf hb) ?_
  have flagged : Tr [.regs, .evt, .life] [F.EM_STATUS.EM_FAULT, F.EM_FAULT_COUNT, F.EVT_STATUS 6] s.dev
      (s.dev.set F.EM_STATUS.EM_FAULT 1) := (Tr.refl hd).set (by decide) (by decide)
  have counted := flagged.set (f := F.EM_FAULT_COUNT) (v := s.dev.get F.EM_FAULT_COUNT + 1) (by decide) (by decide)
  refine ⟨Dev.flag_of_get_one ?_, Dev.get_set_raise _ F.EM_FAULT_COUNT _ 6 3 flagged.regs (by decide),
    Dev.raise_occurred _ 6 3 counted.regs (by decide), (counted.raise (by decide) (by decide) (by decide) (by decide)).touches⟩
  rw [Dev.get_raise_other _ _ _ _ counted.regs (by decide), Dev.get_set_other _ _ _ _ flagged.regs (by decide),
    Dev.get_set_same _ _ _ hd]
  rfl

/-- The flag falls, and the loss of shots to the fault ends (R110). -/
theorem emFaultRelease_does (hf : s.dev.flag F.EM_STATUS.EM_FAULT = true) :
    Does .emFaultRelease s fun t =>
      t.flag F.EM_STATUS.EM_FAULT = false ∧ t.seq = { s.dev.seq with emLoss := false } ∧
      Touches [.seq] [F.EM_STATUS.EM_FAULT] s.dev t := by
  refine does_of_onDev rfl (emFaultRelease_of_fault hf) ?_
  have ended : Tr [.regs, .seq] [F.EM_STATUS.EM_FAULT] s.dev { s.dev with seq := { s.dev.seq with emLoss := false } } :=
    (Tr.refl hd).seq (by decide)
  exact ⟨Dev.flag_of_get_zero (Dev.get_set_same _ F.EM_STATUS.EM_FAULT 0 hd), rfl, (ended.set (by decide) (by decide)).touches⟩

end

/-- Settles O16, command by command: the equation of each case, and what the operations in it leave. -/
theorem armingAndEmitterFault : Obligations.ArmingAndEmitterFault := by
  refine ⟨fun s ⟨⟨⟨hd, _⟩, _⟩, _⟩ => ⟨fun a => ledgerHoldoffEnd_does hd, fun h => ?high, fun h => ?highFails, fun h => ?low,
    fun h => ?lowFails, fun h => ?settled, fun h => ?stillLow, ?readHigh⟩,
    fun s ⟨⟨⟨hd, _⟩, _⟩, _⟩ => ⟨emFaultRegistered_does hd, emFaultRelease_does hd⟩⟩
  case high =>
    exact does_of_onDev rfl (armHighCheckExpiry_high h) ⟨Dev.advanceTo_up _ _, rfl,
      (((Tr.refl hd).advance (by decide) (by decide) (by decide)).led (by decide)).touches⟩
  case highFails => exact does_of_onDev rfl (armHighCheckExpiry_low h) (Dev.tollFault_st _ 6)
  case low => exact does_of_onDev rfl (armLowCheckExpiry_low h) ⟨rfl, ((Tr.refl hd).led (by decide)).touches⟩
  case lowFails =>
    exact does_of_onDev rfl (armLowCheckExpiry_high h) ⟨Dev.armRefused_laserOff _, Dev.armRefused_arming _, Dev.armRefused_want _,
      Dev.armRefused_lastReject hd, Dev.armRefused_occurred hd, Dev.armRefused_touches hd⟩
  case settled =>
    exact does_of_onDev rfl (armSettleExpiry_of_settling h) ⟨rfl, Dev.advanceTo_up _ _,
      (((Tr.refl hd).advance (by decide) (by decide) (by decide)).led (by decide)).touches⟩
  case stillLow => exact does_of_onDev rfl (emArmReadback_low h) (Dev.tollFault_st _ 6)
  case readHigh => exact does_of_onDev (f := emArmReadback true) rfl rfl rfl

end Sys2Proof.Machine

namespace Sys2Proof.Machine

/-! # The Drover control tick with no axes

A tick with no axes measures nothing, so its law runs at once and dates a new angle. That angle may be the first one after the middle of
the stage whose records are processed, and then the angle of that stage is formed anew between the two (R145): the tick changes the
sequencer's part of the block, which the frame of `Obligations.DroverControlTick` says it leaves as it was. -/

/-- A stage of one mirror axis has ended at cycle 4,000 with its middle at 3,000, and the latest dated angle is 100 at cycle 0; since then
the device has entered FAULT_STOP, at which the write that takes the axes away took effect (R121, R461), and the next control tick, at
cycle 10,000, is to come. -/
def stageAwaitsAngle : Dev :=
  let d := (((Dev.reset.set F.CLK_STATUS.FALLBACK 0).set F.CLK_STATUS.PLL_LOCK 1).set F.GATE_STATE.RUNNING (2 ^ 18)).set F.DRV_CTRL.AXES 0
  { d with
    st := .faultStop, held := false, cyc := 4000, drv := { d.drv with hist := [(0, 100, 0, false)] }
    seq := { d.seq with info := { startCyc := 2000, len := 2000, ang0 := 100, regs := [(F.DRV_CTRL.AXES, 1)] } } }

/-- The state meets every hypothesis of the clause. -/
theorem stageAwaitsAngle_runs_without_axes : stageAwaitsAngle.wf ∧ stageAwaitsAngle.drvRuns = true ∧ stageAwaitsAngle.axes = 0 ∧
    stageAwaitsAngle.dues = [] ∧ stageAwaitsAngle.flag F.DRV_STATUS.LOCKED = false := by decide +kernel

/-- The tick dates the angle 0 at cycle 10,000, so the stage's angle goes from 100 to what lies three tenths of the way to 0 (R145). -/
theorem controlTick_reforms_stage_angle : (controlTick stageAwaitsAngle).seq.info.ang0 = 70 := by decide +kernel

/-- What a command that only changes the block is said to do holds of its change. -/
theorem onDev_of_does {i : Instr} {s : State} {f : Dev → Dev} {P : Dev → Prop} (he : exec i s = onDev f s) (h : Does i s P) :
    P (f s.dev) := by
  obtain ⟨t, ht, hP⟩ := h
  cases he.symm.trans ht
  exact hP

/-- Refutes O18: the second clause says that a tick with no axes leaves the sequencer as it was, but the tick forms the angle of the stage
whose records are processed anew (R145). In `stageAwaitsAngle` it goes from 100 to 70. -/
theorem not_droverControlTick : ¬ Obligations.DroverControlTick := by
  intro h
  obtain ⟨wf, runs, noAxes, noDues, unlocked⟩ := stageAwaitsAngle_runs_without_axes
  obtain ⟨-, offTick, -⟩ := h ⟨[], stageAwaitsAngle⟩ wf
  obtain ⟨-, -, -, -, frame⟩ := onDev_of_does (f := controlTick) rfl (offTick runs noAxes noDues unlocked)
  have seqSame : (controlTick stageAwaitsAngle).seq = stageAwaitsAngle.seq := frame .seq (by decide)
  have angleKept : (70 : Int) = 100 := by
    calc (70 : Int) = (controlTick stageAwaitsAngle).seq.info.ang0 := controlTick_reforms_stage_angle.symm
      _ = stageAwaitsAngle.seq.info.ang0 := by rw [seqSame]
      _ = 100 := rfl
  exact absurd angleKept (by decide)

end Sys2Proof.Machine

namespace Sys2Proof.Machine

/-! # Statistics runs of a convoy, and the rest of convoys

A run starts and ends in the register fields of its own convoy, and a wish to rest stands in the convoy's own record. What a field or a
record reads afterwards comes from three rules: fields of one convoy are told apart by their offset, a list of fields is cleared one by
one, and a list of convoys is changed one by one. -/

/-! ## Fields of a convoy -/

/-- The registers of the convoys lie in windows of equal size, so the convoy's number does not enter a field's width. -/
@[simp] theorem Fld.width_convoy (k c : Nat) : Fld.width (k + 134217728 * c) = k % 64 := by
  unfold Fld.width
  omega

/-- No field of a convoy is a status field of the event controller. -/
theorem convoyFld_ne_evtStatus {k c : Nat} (g : Nat) (hk : k < 2 ^ 32) (hc : c < 16) : k + 134217728 * c ≠ F.EVT_STATUS g := by
  show k + 134217728 * c ≠ 21474836504 + 32768 * g
  omega

/-- What any field reads after a list of fields is cleared. -/
theorem Dev.get_each_clear (l : List Fld) (d : Dev) (f : Fld) (h : Tab.wf d.regs) :
    (d.each l fun d f => d.set f 0).get f = if f ∈ l then 0 else d.get f := by
  induction l generalizing d with
  | nil => rfl
  | cons g l ih =>
    show ((d.set g 0).each l fun d f => d.set f 0).get f = _
    rw [ih _ (d.set_wf g 0 h), Dev.get_set d g f 0 h]
    by_cases hl : f ∈ l <;> by_cases hg : f = g <;> simp [hl, hg]

/-! ## Records of the convoys -/

theorem Dev.cvy_modCvy_same (d : Dev) (c : Nat) (f : Convoy → Convoy) : (d.modCvy c f).cvy c = f (d.cvy c) :=
  Tab.getD_put_same _ _ _ _

theorem Dev.cvy_modCvy_other (d : Dev) (c i : Nat) (f : Convoy → Convoy) (h : i ≠ c) : (d.modCvy c f).cvy i = d.cvy i :=
  Tab.getD_put_other _ _ _ _ _ h

@[simp] theorem Dev.cvy_set (d : Dev) (f : Fld) (v c : Nat) : (d.set f v).cvy c = d.cvy c := rfl

/-- What any convoy holds after each convoy of a list is changed once. -/
theorem Dev.cvy_each_modCvy (l : List Nat) (d : Dev) (g : Nat → Convoy → Convoy) (i : Nat) (hl : l.Nodup) :
    (d.each l fun d c => d.modCvy c (g c)).cvy i = if i ∈ l then g i (d.cvy i) else d.cvy i := by
  induction l generalizing d with
  | nil => rfl
  | cons c l ih =>
    obtain ⟨hc, hl⟩ := List.nodup_cons.mp hl
    show ((d.modCvy c (g c)).each l fun d c => d.modCvy c (g c)).cvy i = _
    rw [ih _ hl]
    by_cases hi : i = c
    · subst hi
      simp [hc, Dev.cvy_modCvy_same]
    · simp [hi, Dev.cvy_modCvy_other]

/-- A change of convoys changes their records alone. -/
theorem Dev.each_modCvy_eq (l : List Nat) (d : Dev) (g : Nat → Convoy → Convoy) :
    ∃ t, (d.each l fun d c => d.modCvy c (g c)) = { d with cvys := t } := by
  induction l generalizing d with
  | nil => exact ⟨d.cvys, rfl⟩
  | cons c l ih => exact ih (d.modCvy c (g c))

section
variable {ps : List DevPart} {fs : List Fld} {a d : Dev}

theorem Tr.cvys (h : Tr ps fs a d) {t : Tab Convoy} (hc : .cvys ∈ ps) : Tr ps fs a { d with cvys := t } :=
  h.part rfl fun p hp => by
    cases p with
    | cvys => exact absurd hc hp
    | _ => rfl

theorem Tr.life (h : Tr ps fs a d) {l : Life} (hl : .life ∈ ps) : Tr ps fs a { d with life := l } :=
  h.part rfl fun p hp => by
    cases p with
    | life => exact absurd hl hp
    | _ => rfl

theorem Tr.answer (h : Tr ps fs a d) {code : Nat} (hf : .flf ∈ ps) : Tr ps fs a (d.answer code) :=
  h.part rfl fun p hp => by
    cases p with
    | flf => exact absurd hf hp
    | _ => rfl

theorem Tr.eachClear {l : List Fld} (h : Tr ps fs a d) (hr : .regs ∈ ps) (hl : ∀ f ∈ l, f ∈ fs) :
    Tr ps fs a (d.each l fun d f => d.set f 0) := by
  induction l generalizing d with
  | nil => exact h
  | cons f l ih =>
    obtain ⟨hf, hl⟩ := List.forall_mem_cons.mp hl
    exact ih (h.set hr hf) hl

end

/-! ## A run starts (R192, R203) -/

/-- The fields that a write of TIS_CTRL changes. -/
def tisWritten (c : Nat) : List Fld :=
  [F.TIS_CTRL.SOURCE c, F.TIS_CTRL.GATE_EN c, F.TIS_CTRL.CHANNEL c, F.TIS_CTRL.STOP_INDEX c]

theorem Tr.tisFields {ps : List DevPart} {fs : List Fld} {a d : Dev} (h : Tr ps fs a d) {c v : Nat} (hr : .regs ∈ ps)
    (hf : ∀ f ∈ tisWritten c, f ∈ fs) : Tr ps fs a (d.tisFields c v) :=
  (((h.set hr (hf _ (by simp [tisWritten]))).set hr (hf _ (by simp [tisWritten]))).set hr (hf _ (by simp [tisWritten]))).set hr
    (hf _ (by simp [tisWritten]))

/-- The run that the fields of TIS_CTRL and TIS_N describe. -/
def Dev.tisRun (d : Dev) (c : Nat) : Tis :=
  { src := d.get (F.TIS_CTRL.SOURCE c), gate := d.flag (F.TIS_CTRL.GATE_EN c), chan := d.get (F.TIS_CTRL.CHANNEL c)
    stopIdx := min 8 (d.get (F.TIS_CTRL.STOP_INDEX c)), target := max 1 (d.get (F.TIS_N c)) }

/-- The fields that a start clears: how the last run ended, and its results. -/
def tisOutcome (c : Nat) : List Fld :=
  [F.TIS_STATUS.ABORTED c, F.TIS_STATUS.PARTIAL c, F.TIS_STATUS.DONE c, F.TIS_STATUS.COUNT c, F.TIS_MEAN c, F.TIS_DEV c, F.TIS_MIN c,
    F.TIS_MAX c, F.TIS_REJECTED c]

theorem Dev.tisBegin_eq (d : Dev) (c : Nat) : d.tisBegin c =
    ((d.each (tisOutcome c) fun d f => d.set f 0).modCvy c fun v => { v with tis := d.tisRun c, tisMark := d.tisRun c, rejMark := 0 }).set
      (F.TIS_STATUS.BUSY c) 1 := rfl

theorem Tr.tisBegin {ps : List DevPart} {fs : List Fld} {a d : Dev} (h : Tr ps fs a d) {c : Nat} (hr : .regs ∈ ps) (hc : .cvys ∈ ps)
    (hf : ∀ f ∈ F.TIS_STATUS.BUSY c :: tisOutcome c, f ∈ fs) : Tr ps fs a (d.tisBegin c) := by
  obtain ⟨hb, ho⟩ := List.forall_mem_cons.mp hf
  exact ((h.eachClear hr ho).cvys hc).set hr hb

theorem Dev.tisBegin_tis (d : Dev) (c : Nat) : ((d.tisBegin c).cvy c).tis = d.tisRun c := by
  rw [Dev.tisBegin_eq, Dev.cvy_set, Dev.cvy_modCvy_same]

section
variable {d : Dev} (hd : Tab.wf d.regs)
include hd

theorem Dev.each_clear_wf (l : List Fld) : Tab.wf (d.each l fun d f => d.set f 0).regs :=
  ((Tr.refl (ps := [.regs]) (fs := l) hd).eachClear (by decide) fun _ hf => hf).regs

theorem Dev.tisBegin_busy (c : Nat) : (d.tisBegin c).get (F.TIS_STATUS.BUSY c) = 1 := by
  rw [Dev.tisBegin_eq, Dev.get_set_same]
  · simp
  · exact Dev.each_clear_wf hd (tisOutcome c)

theorem Dev.tisBegin_outcome (c : Nat) : ∀ f ∈ tisOutcome c, (d.tisBegin c).get f = 0 := by
  intro f hf
  have notBusy : f ≠ F.TIS_STATUS.BUSY c := fun e => absurd (e ▸ hf) (by simp [tisOutcome])
  rw [Dev.tisBegin_eq, Dev.get_set_other (n := notBusy)]
  · exact (Dev.get_each_clear (tisOutcome c) d f hd).trans (if_pos hf)
  · exact Dev.each_clear_wf hd (tisOutcome c)

/-- What any field reads after a write of TIS_CTRL (R203). -/
theorem Dev.get_tisFields (c v : Nat) (f : Fld) : (d.tisFields c v).get f =
    if f = F.TIS_CTRL.STOP_INDEX c then v / 2 ^ 12 % 16 else if f = F.TIS_CTRL.CHANNEL c then v / 2 ^ 16 % 32
    else if f = F.TIS_CTRL.GATE_EN c then v / 2 ^ 24 % 2 else if f = F.TIS_CTRL.SOURCE c then v / 2 ^ 26 % 4 else d.get f := by
  have wfSource := d.set_wf (F.TIS_CTRL.SOURCE c) (bits v 26 2) hd
  have wfGate := Dev.set_wf _ (F.TIS_CTRL.GATE_EN c) (bits v 24 1) wfSource
  have wfChannel := Dev.set_wf _ (F.TIS_CTRL.CHANNEL c) (bits v 16 5) wfGate
  rw [Dev.tisFields, Dev.get_set _ _ _ _ wfChannel, Dev.get_set _ _ _ _ wfGate, Dev.get_set _ _ _ _ wfSource, Dev.get_set _ _ _ _ hd]
  simp [bits]

/-- The run that a write of TIS_CTRL describes: each field reads the bits written at its place (R203). -/
theorem Dev.tisFields_run (c v : Nat) : (d.tisFields c v).tisRun c =
    { src := v / 2 ^ 26 % 4, gate := bitAt v 24, chan := v / 2 ^ 16 % 32, stopIdx := min 8 (v / 2 ^ 12 % 16)
      target := max 1 (d.get (F.TIS_N c)) } := by
  simp [Dev.tisRun, Dev.flag, Dev.get_tisFields hd, bitAt]

end

theorem tisStart_of_start {c : Fin 16} {v : Word} {d : Dev} (hr : d.runs c = true) (hv : bitAt v.toNat 31 = true) :
    tisStart c true v d = (d.tisFields c v.toNat).tisBegin c := by
  simp [tisStart, Dev.blockWrite, Dev.privWrite, hr, hv]

/-! ## A run ends (R191, R192) -/

/-- The results of the run, where it took samples (R191). -/
def Dev.tisReport (d : Dev) (c : Nat) (r : Tis) : Dev :=
  if r.n = 0 then d else
    (((d.setS (F.TIS_MEAN c) (rhu (16 * r.sum) r.n)).set (F.TIS_DEV c)
      ((isqrt (1024 * (r.n * r.sumSq - r.sum * r.sum).toNat) / r.n + 1) / 2)).setS (F.TIS_MIN c) r.minV).setS (F.TIS_MAX c) r.maxV

theorem Dev.tisEnd_eq (d : Dev) (c : Nat) (how : Fld) : d.tisEnd c how =
    ((((d.set (F.TIS_STATUS.BUSY c) 0).set how 1).tisReport c (d.cvy c).tis).raise (3 + c / 8) (3 * (c % 8) + 2)) := rfl

theorem Tr.tisReport {ps : List DevPart} {fs : List Fld} {a d : Dev} (h : Tr ps fs a d) {c : Nat} {r : Tis} (hr : .regs ∈ ps)
    (hf : ∀ f ∈ [F.TIS_MEAN c, F.TIS_DEV c, F.TIS_MIN c, F.TIS_MAX c], f ∈ fs) : Tr ps fs a (d.tisReport c r) :=
  Tr.ite (fun _ => h) fun _ => (((h.set hr (hf _ (by simp))).set hr (hf _ (by simp))).set hr (hf _ (by simp))).set hr (hf _ (by simp))

section
variable {d : Dev} (hd : Tab.wf d.regs) {c : Nat}
include hd

/-- Beside its results and the event, the end of a run changes BUSY and the field that tells how it ended. -/
theorem Dev.get_tisEnd (how f : Fld) (hr : f ∉ [F.TIS_MEAN c, F.TIS_DEV c, F.TIS_MIN c, F.TIS_MAX c])
    (he : f ≠ F.EVT_STATUS (3 + c / 8)) :
    (d.tisEnd c how).get f = if f = how then 1 % 2 ^ Fld.width how else if f = F.TIS_STATUS.BUSY c then 0 else d.get f := by
  have wfBusy := d.set_wf (F.TIS_STATUS.BUSY c) 0 hd
  have reported : Tr [.regs] [F.TIS_MEAN c, F.TIS_DEV c, F.TIS_MIN c, F.TIS_MAX c] ((d.set (F.TIS_STATUS.BUSY c) 0).set how 1)
      (((d.set (F.TIS_STATUS.BUSY c) 0).set how 1).tisReport c (d.cvy c).tis) :=
    (Tr.refl (Dev.set_wf _ _ _ wfBusy)).tisReport (by decide) fun _ hf => hf
  rw [Dev.tisEnd_eq, Dev.get_raise_other _ _ _ _ reported.regs he, reported.keeps f hr, Dev.get_set _ _ _ _ wfBusy,
    Dev.get_set _ _ _ _ hd, Nat.zero_mod]

/-- How a run ends, for each field `how` of TIS_STATUS that tells it: the run is over, the field is set, and the convoy-job event occurs. -/
theorem Dev.tisEnd_outcome (hc : c < 16) {how : Fld} (hh : how = F.TIS_STATUS.DONE c ∨ how = F.TIS_STATUS.PARTIAL c) :
    (d.tisEnd c how).flag (F.TIS_STATUS.BUSY c) = false ∧ (d.tisEnd c how).flag how = true ∧
      (d.tisEnd c how).occurred (3 + c / 8) (3 * (c % 8) + 2) ∧
      Touches [.evt, .life] [F.TIS_STATUS.BUSY c, how, F.TIS_MEAN c, F.TIS_DEV c, F.TIS_MIN c, F.TIS_MAX c, F.EVT_STATUS (3 + c / 8)] d
        (d.tisEnd c how) := by
  have reported : Tr [.regs, .evt, .life]
      [F.TIS_STATUS.BUSY c, how, F.TIS_MEAN c, F.TIS_DEV c, F.TIS_MIN c, F.TIS_MAX c, F.EVT_STATUS (3 + c / 8)] d
      (((d.set (F.TIS_STATUS.BUSY c) 0).set how 1).tisReport c (d.cvy c).tis) :=
    (((Tr.refl hd).set (by decide) (by simp)).set (by decide) (by simp)).tisReport (by decide) (by simp)
  refine ⟨Dev.flag_of_get_zero ?ended, Dev.flag_of_get_one ?told, Dev.raise_occurred _ _ _ reported.regs (by omega),
    (reported.raise (by decide) (by decide) (by decide) (by simp)).touches⟩
  case ended =>
    rw [Dev.get_tisEnd hd how _ (by simp) (convoyFld_ne_evtStatus _ (by decide) hc)]
    rcases hh with rfl | rfl <;> simp
  case told =>
    rcases hh with rfl | rfl <;> simp [Dev.get_tisEnd hd, convoyFld_ne_evtStatus, hc]

end

theorem tisRunDone_of_samples {c : Fin 16} {d : Dev} (hb : d.flag (F.TIS_STATUS.BUSY c) = true)
    (hn : (d.cvy c).tis.target ≤ (d.cvy c).tis.n) : tisRunDone c d = d.tisEnd c (F.TIS_STATUS.DONE c) := by
  simp [tisRunDone, hb, hn]

theorem tisTimeout_of_late {c : Fin 16} {d : Dev} (hb : d.flag (F.TIS_STATUS.BUSY c) = true) (h0 : d.get (F.TIS_TIMEOUT c) ≠ 0)
    (hl : d.get (F.TIS_TIMEOUT c) ≤ (d.cvy c).tis.ticks) (hn : (d.cvy c).tis.n < (d.cvy c).tis.target) :
    tisTimeout c d = d.tisEnd c (F.TIS_STATUS.PARTIAL c) := by
  simp [tisTimeout, hb, h0, hl, hn]

/-! ## Rest (R461, R509, R510) -/

/-- The wish of every convoy as a mask gives it. -/
def Dev.wishRests (d : Dev) (v : Nat) : Dev := d.each (List.range 16) fun d c => d.modCvy c fun x => { x with restWant := bitAt v c }

theorem rangingRestWrite_of_left {v : Nat} {d : Dev} (hv : v < 65536) (hl : v = 0 ∨ d.restLeaves v = true) (ht : d.st.ticks = true) :
    rangingRestWrite .engineer v d = (d.answer 0).wishRests v := by
  have inRange : ¬ 65536 ≤ v := by omega
  have left : ¬ (v ≠ 0 && !(d.answer 0).restLeaves v) = true := by
    rcases hl with rfl | hl
    · simp
    · simp [show (d.answer 0).restLeaves v = true from hl]
  have ticks : ((d.answer 0).wishRests v).st.ticks = true := by
    obtain ⟨t, e⟩ := Dev.each_modCvy_eq (List.range 16) (d.answer 0) fun c x => { x with restWant := bitAt v c }
    rw [Dev.wishRests, e]
    exact ht
  show (if 65536 ≤ v then _ else _) = _
  rw [if_neg inRange, if_neg left]
  exact if_pos ticks

theorem rangingRestWrite_of_none_left {v : Nat} {d : Dev} (hv : v < 65536) (h0 : v ≠ 0) (hl : d.restLeaves v = false) :
    rangingRestWrite .engineer v d = d.answer 9 := by
  have inRange : ¬ 65536 ≤ v := by omega
  have noneLeft : (v ≠ 0 && !(d.answer 0).restLeaves v) = true := by
    simp [h0, show (d.answer 0).restLeaves v = false from hl]
  show (if 65536 ≤ v then _ else _) = _
  rw [if_neg inRange, if_pos noneLeft]
  rfl

/-- The convoy after the last one in cyclic order takes its turn when it is active. -/
theorem recalPeriodExpiry_of_next {d : Dev} (hp : d.get F.P.recalPeriod ≠ 0) (ha : d.st.armed = true)
    (hr : ∀ c < 16, d.resting c = false) (hn : d.cvyRetired ((d.life.recalLast + 1) % 16) = false) :
    recalPeriodExpiry d = { d.modCvy ((d.life.recalLast + 1) % 16) (fun v => { v with recalTurn := true }) with
      life := { d.life with recalLast := (d.life.recalLast + 1) % 16 } } := by
  have none_rests : (List.range 16).any (fun c => d.resting c) = false := by
    simpa using hr
  have next : (((List.range 16).map fun i => (d.life.recalLast + 1 + i) % 16).find? fun c => !d.cvyRetired c) =
      some ((d.life.recalLast + 1) % 16) := by
    rw [List.range_succ_eq_map, List.map_cons]
    exact List.find?_cons_of_pos (by simp [hn])
  unfold recalPeriodExpiry
  rw [if_neg (by simp [hp, ha, none_rests]), next]

/-! ## The commands -/

section
variable {s : State} (hd : Tab.wf s.dev.regs)
include hd

theorem tisStart_does {c : Fin 16} {v : Word} (hr : s.dev.runs c = true) (hv : bitAt v.toNat 31 = true) :
    Does (.tisStart c true v) s fun t =>
      t.flag (F.TIS_STATUS.BUSY c) = true ∧ t.flag (F.TIS_STATUS.DONE c) = false ∧ t.get (F.TIS_STATUS.COUNT c) = 0 ∧
      (t.cvy c).tis = {
        src := v.toNat / 2 ^ 26 % 4
        gate := bitAt v.toNat 24
        chan := v.toNat / 2 ^ 16 % 32
        stopIdx := min 8 (v.toNat / 2 ^ 12 % 16)
        target := max 1 (s.dev.get (F.TIS_N c)) } ∧
      Touches [.cvys] (tisWritten c ++ F.TIS_STATUS.BUSY c :: tisOutcome c) s.dev t := by
  refine does_of_onDev rfl (tisStart_of_start hr hv) ?_
  have fields : Tr [.regs, .cvys] (tisWritten c ++ F.TIS_STATUS.BUSY c :: tisOutcome c) s.dev (s.dev.tisFields c v.toNat) :=
    (Tr.refl hd).tisFields (by decide) fun _ => List.mem_append_left _
  have cleared := Dev.tisBegin_outcome fields.regs c
  exact ⟨Dev.flag_of_get_one (Dev.tisBegin_busy fields.regs c), Dev.flag_of_get_zero (cleared _ (by simp [tisOutcome])),
    cleared _ (by simp [tisOutcome]), (Dev.tisBegin_tis _ _).trans (Dev.tisFields_run hd c _),
    (fields.tisBegin (by decide) (by decide) fun _ => List.mem_append_right _).touches⟩

/-- In the states with ticks a mask that leaves an active convoy becomes the wish of every convoy, and the write is accepted. -/
theorem rangingRestWrite_does {v : Nat} (hv : v < 65536) (hl : v = 0 ∨ s.dev.restLeaves v = true) (ht : s.dev.st.ticks = true) :
    Does (.rangingRestWrite .engineer v) s fun t =>
      (∀ c < 16, t.cvy c = { s.dev.cvy c with restWant := bitAt v c }) ∧ t.flf = { s.dev.flf with status := 0 } ∧
      Touches [.cvys, .flf] [] s.dev t := by
  refine does_of_onDev rfl (rangingRestWrite_of_left hv hl ht) ⟨fun c hc => ?wish, ?rest⟩
  case wish =>
    refine (Dev.cvy_each_modCvy (List.range 16) (s.dev.answer 0) (fun c x => { x with restWant := bitAt v c }) c List.nodup_range).trans ?_
    exact if_pos (List.mem_range.mpr hc)
  case rest =>
    obtain ⟨t, e⟩ := Dev.each_modCvy_eq (List.range 16) (s.dev.answer 0) fun c x => { x with restWant := bitAt v c }
    rw [Dev.wishRests, e]
    exact ⟨rfl, (((Tr.refl hd).answer (by decide)).cvys (by decide)).touches⟩

theorem recalPeriodExpiry_does (hp : s.dev.get F.P.recalPeriod ≠ 0) (ha : s.dev.st.armed = true)
    (hr : ∀ c < 16, s.dev.resting c = false) (hn : s.dev.cvyRetired ((s.dev.life.recalLast + 1) % 16) = false) :
    Does .recalPeriodExpiry s fun t =>
      t.life = { s.dev.life with recalLast := (s.dev.life.recalLast + 1) % 16 } ∧
      (t.cvy ((s.dev.life.recalLast + 1) % 16)).recalTurn = true ∧ Touches [.cvys, .life] [] s.dev t := by
  refine does_of_onDev rfl (recalPeriodExpiry_of_next hp ha hr hn) ⟨rfl, ?_, (((Tr.refl hd).cvys (by decide)).life (by decide)).touches⟩
  exact congrArg Convoy.recalTurn (s.dev.cvy_modCvy_same _ fun v => { v with recalTurn := true })

end

/-- Settles O23, command by command: the equation of each case, and what the operations in it leave. -/
theorem statisticsRunsAndConvoyRest : Obligations.StatisticsRunsAndConvoyRest := by
  refine ⟨fun s c ⟨⟨⟨hd, _⟩, _⟩, _⟩ => ⟨fun v hr hv => tisStart_does hd hr hv, fun hb hn => ?done, fun hb h0 hl hn => ?timeout⟩,
    fun s ⟨⟨⟨hd, _⟩, _⟩, _⟩ => ⟨fun v => rangingRestWrite_does hd, fun v hv h0 hl => ?noneLeft, recalPeriodExpiry_does hd⟩⟩
  case done => exact does_of_onDev rfl (tisRunDone_of_samples hb hn) (Dev.tisEnd_outcome hd c.isLt (.inl rfl))
  case timeout => exact does_of_onDev rfl (tisTimeout_of_late hb h0 hl hn) (Dev.tisEnd_outcome hd c.isLt (.inr rfl))
  case noneLeft => exact does_of_onDev rfl (rangingRestWrite_of_none_left hv h0 hl) rfl

end Sys2Proof.Machine

namespace Sys2Proof.Machine

/-! # Seeds, echo records, stage blocks and bales

Each command here is a change of the block alone, and each works for one channel or one stream at a time. What it leaves comes from the
rules of the parts in it: the records with their stores, the echo buffers with the filter banks, the output streams. -/

/-! ## The parts written -/

section
variable {ps : List DevPart} {fs : List Fld} {a d : Dev}

theorem Tr.seeds (h : Tr ps fs a d) {l : Tab (List Nat)} (hs : .seeds ∈ ps) : Tr ps fs a { d with seeds := l } :=
  h.part rfl fun p hp => by
    cases p with
    | seeds => exact absurd hs hp
    | _ => rfl

/-- The echo buffers and the banks of tables. -/
theorem Tr.echTabs (h : Tr ps fs a d) {b : Tab Buf} {t : Tab Bank} (he : .ech ∈ ps) (ht : .tabs ∈ ps) :
    Tr ps fs a { d with ech := b, tabs := t } :=
  h.part rfl fun p hp => by
    cases p with
    | ech => exact absurd he hp
    | tabs => exact absurd ht hp
    | _ => rfl

/-- A record and what the stores keep of it. -/
theorem Tr.records (h : Tr ps fs a d) {r : Tab Rec} {f p : Tab (List Nat)} (hr : .recs ∈ ps) (hf : .fStore ∈ ps) (hp : .pStore ∈ ps) :
    Tr ps fs a { d with recs := r, fStore := f, pStore := p } :=
  h.part rfl fun q hq => by
    cases q with
    | recs => exact absurd hr hq
    | fStore => exact absurd hf hq
    | pStore => exact absurd hp hq
    | _ => rfl

theorem Tr.modStream (h : Tr ps fs a d) {n : Nat} {f : Stream → Stream} (hs : .streams ∈ ps) : Tr ps fs a (d.modStream n f) :=
  h.part rfl fun p hp => by
    cases p with
    | streams => exact absurd hs hp
    | _ => rfl

end

theorem Dev.stream_modStream_same (d : Dev) (n : Nat) (f : Stream → Stream) (h : n < d.streams.length) :
    (d.modStream n f).stream n = f (d.stream n) := by
  simp [Dev.stream, Dev.modStream, at', upd, h]

theorem Dev.stream_modStream_other (d : Dev) (n m : Nat) (f : Stream → Stream) (h : m ≠ n) :
    (d.modStream n f).stream m = d.stream m := by
  simp [Dev.stream, Dev.modStream, at', upd, h.symm]

@[simp] theorem Dev.stream_set (d : Dev) (f : Fld) (v n : Nat) : (d.set f v).stream n = d.stream n := rfl

/-! ## The seeder (R214–R218) -/

/-- No more windows are placed than ZOOM_N allows (R216). -/
theorem placeWins_length_le (n tp : Nat) (l : List Int) (ws : List Nat) (h : ws.length ≤ n) : (placeWins n tp l ws).length ≤ n := by
  induction l generalizing ws with
  | nil => exact h
  | cons p l ih =>
    unfold placeWins
    split
    · exact h
    · split
      · exact ih ws h
      · exact ih _ (by simp; omega)

/-- A channel has at most 8 zoom starts (R217). -/
theorem Dev.seedStarts_length_le (d a : Dev) (k ch : Nat) : (d.seedStarts a k ch).length ≤ 8 :=
  Nat.le_trans (placeWins_length_le _ _ _ _ (Nat.zero_le _)) (Nat.min_le_left _ _)

/-- The zoom starts of the coming stage k, by channel: none on entry to RANGING (R218). -/
def Dev.seedTable (d : Dev) (k : Nat) : Tab (List Nat) :=
  if d.ahead.st.armed && !d.st.armed then [] else (List.range 512).filterMap fun ch =>
    if d.seedStarts d.ahead k ch = [] then none else some (ch, d.seedStarts d.ahead k ch)

theorem Dev.seedTable_bounds (d : Dev) (k : Nat) : ∀ e ∈ d.seedTable k, e.1 < 512 ∧ e.2 ≠ [] ∧ e.2.length ≤ 8 := by
  intro e he
  unfold Dev.seedTable at he
  split at he
  · simp at he
  · obtain ⟨ch, hch, found⟩ := List.mem_filterMap.mp he
    split at found
    · simp at found
    · next some_start =>
      cases found
      exact ⟨List.mem_range.mp hch, some_start, d.seedStarts_length_le d.ahead k ch⟩

/-- Without a stage whose records are processed no record is late: the seeds stand at their instant, and no event occurs. -/
theorem seederTake_of_no_stage {d : Dev} {k j : Nat} {idle : Bool} (hp : d.seq.prep = true) (hf : d.seq.frameDue = false)
    (hn : d.nextSlot d.ahead = some (k, j, idle)) (hv : d.seq.info.valid = false) :
    seederTake d = { d.cycleTo (d.slotEndCyc - 200) with seeds := d.seedTable k }.add F.TALLY_SEEDS_LATE 0 := by
  simp only [seederTake, hn, hp, hf, hv]
  rfl

/-! ## The record of a channel (R222, R250) -/

/-- A swap of an echo filter's banks has none of the effects that swaps of other tables bring: it changes those banks alone (R222). -/
theorem Dev.swapBank_filter (d : Dev) {c : Nat} (hc : c < 16) (busy : Bool) :
    d.swapBank (0x7030 + c) busy = d.modBank (0x7030 + c) fun b => { b.swap with prevBusy := nat busy } := by
  have notEmitter : ¬ (0x7000 ≤ 0x7030 + c && 0x7030 + c ≤ 0x7004) = true := by simp; omega
  have notConvoy : ¬ (0x7010 ≤ 0x7030 + c && 0x7030 + c < 0x7030) = true := by simp
  unfold Dev.swapBank
  simp only [if_neg notEmitter, if_neg notConvoy]
  split
  iterate 6 · omega
  · rfl

/-- The echo engine after a record: the channel's buffer is cleared, and the next record of the stage takes a newly committed filter
bank (R222). -/
def Dev.afterRecord (d : Dev) (ch : Nat) : Dev :=
  let e := { d with ech := Tab.del d.ech ch }
  if e.filterFree (ch / 32) then e else e.filterSwap (ch / 32)

theorem Dev.afterRecord_eq (d : Dev) (ch : Fin 512) :
    ∃ t, d.afterRecord ch = { d with ech := Tab.del d.ech ch, tabs := t } := by
  unfold Dev.afterRecord Dev.filterSwap
  dsimp only
  split
  · exact ⟨d.tabs, rfl⟩
  · split
    · exact ⟨_, Dev.swapBank_filter _ (by omega) _⟩
    · exact ⟨d.tabs, rfl⟩

section
variable (d : Dev) (ch : Fin 512)

theorem Dev.afterRecord_recs : (d.afterRecord ch).recs = d.recs := by
  obtain ⟨t, e⟩ := d.afterRecord_eq ch
  rw [e]

theorem Dev.afterRecord_fStore : (d.afterRecord ch).fStore = d.fStore := by
  obtain ⟨t, e⟩ := d.afterRecord_eq ch
  rw [e]

theorem Dev.afterRecord_get (f : Fld) : (d.afterRecord ch).get f = d.get f := by
  obtain ⟨t, e⟩ := d.afterRecord_eq ch
  rw [e]
  rfl

end

section
variable {d : Dev} {ch : Fin 512} (hv : d.seq.info.valid = true) (hn : d.recDone ch = false)
include hv hn

theorem echoRecordDone_of_empty (ha : bitAt (Tab.getD d.recs ch.val {}).flags 14 = true) :
    echoRecordDone ch d = (d.emptyRecord ch (Tab.getD d.recs ch.val {})).afterRecord ch := by
  simp only [echoRecordDone, hv, hn, ha]
  rfl

theorem echoRecordDone_of_extracted (ha : bitAt (Tab.getD d.recs ch.val {}).flags 14 = false) :
    echoRecordDone ch d = (d.fullRecord ch (Tab.getD d.recs ch.val {}) (judge (d.echoIn ch))).afterRecord ch := by
  simp only [echoRecordDone, hv, hn, ha]
  rfl

end

/-- The records done, once that of a channel is listed. -/
theorem Dev.recDone_of_put {d t : Dev} {ch : Nat} {r : Rec} (h : t.recs = Tab.put d.recs ch r) (k : Nat) :
    t.recDone k = if k = ch then r.done else d.recDone k := by
  unfold Dev.recDone
  rw [h]
  split
  · next same => rw [same, Tab.getD_put_same]
  · next other => rw [Tab.getD_put_other _ _ _ _ _ other]

/-- A sun-blinded channel's record without extraction counts, and its entry of the persistence store goes stale (R254, R259, R274). -/
theorem Dev.emptyRecord_of_sun (d : Dev) (ch : Nat) {r : Rec} (h : bitAt r.flags 10 = true) : d.emptyRecord ch r =
    { d with
      recs := Tab.put d.recs ch { r with echoes := [], tested := [], done := true }
      fStore := Tab.put d.fStore (512 * d.seq.info.index + ch) []
      pStore := Tab.del d.pStore (512 * d.seq.info.index + ch) }.set F.CLUT_SUN_BLINDED (d.get F.CLUT_SUN_BLINDED + 1) := by
  simp only [Dev.emptyRecord, h]
  rfl

/-- The counters of a record (R247, R274). -/
def recordCounters : List Fld :=
  [F.TALLY_SAT_ECHOES, F.TALLY_COARSE_ONLY, F.CLUT_RAIN_SUSPECT, F.CLUT_FOREIGN_SUSPECT, F.CLUT_ZOOM_UNSTABLE, F.CLUT_DROPPED_NEAR,
    F.CLUT_DROPPED_RAIN, F.CLUT_DROPPED_FOREIGN]

section
variable (d : Dev) (ch : Nat) (r : Rec) (j : Judged)

theorem Dev.fullRecord_eq : ∃ x f p q,
    d.fullRecord ch r j = { d with recs := x, fStore := f, pStore := p, seq := q }.countEchoes j := ⟨_, _, _, _, rfl⟩

/-- The record with its echoes is done; those of the other channels stay. -/
theorem Dev.fullRecord_recs : ∃ r', r'.done = true ∧ (d.fullRecord ch r j).recs = Tab.put d.recs ch r' := ⟨_, rfl, rfl⟩

/-- The positions that its echoes offer as seeds are stored for the next frame (R218). -/
theorem Dev.fullRecord_fStore : ∃ l, (d.fullRecord ch r j).fStore = Tab.put d.fStore (512 * d.seq.info.index + ch) l := ⟨_, rfl⟩

end

section
variable {ps : List DevPart} {fs : List Fld} {a d : Dev}

theorem Tr.countEchoes (h : Tr ps fs a d) {j : Judged} (hr : .regs ∈ ps) (hf : ∀ f ∈ recordCounters, f ∈ fs) :
    Tr ps fs a (d.countEchoes j) :=
  (((((((h.set hr (hf _ (by decide))).set hr (hf _ (by decide))).set hr (hf _ (by decide))).set hr (hf _ (by decide))).set hr
    (hf _ (by decide))).set hr (hf _ (by decide))).set hr (hf _ (by decide))).set hr (hf _ (by decide))

theorem Tr.fullRecord (h : Tr ps fs a d) {ch : Nat} {r : Rec} {j : Judged} (hr : .regs ∈ ps) (hq : .seq ∈ ps) (hc : .recs ∈ ps)
    (hs : .fStore ∈ ps) (hp : .pStore ∈ ps) (hf : ∀ f ∈ recordCounters, f ∈ fs) : Tr ps fs a (d.fullRecord ch r j) := by
  obtain ⟨x, f, p, q, e⟩ := d.fullRecord_eq ch r j
  have recorded : Tr ps fs a { d with recs := x, fStore := f, pStore := p } := h.records hc hs hp
  rw [e]
  exact (recorded.seq hq).countEchoes hr hf

theorem Tr.afterRecord (h : Tr ps fs a d) {ch : Fin 512} (he : .ech ∈ ps) (ht : .tabs ∈ ps) : Tr ps fs a (d.afterRecord ch) := by
  obtain ⟨t, e⟩ := d.afterRecord_eq ch
  rw [e]
  exact h.echTabs he ht

end

/-! ## Stage blocks (R278–R284) -/

/-- Forming the angle of the stage leaves all else of it, its validity and its settings among them (R278). -/
theorem Dev.fixAngle_eq (d : Dev) : ∃ x y b,
    d.fixAngle = { d with seq := { d.seq with info := { d.seq.info with ang0 := x, ang1 := y, interp := b } } } := by
  unfold Dev.fixAngle
  dsimp only
  split
  · exact ⟨d.seq.info.ang0, d.seq.info.ang1, d.seq.info.interp, rfl⟩
  · exact ⟨_, _, _, rfl⟩

section
variable (d : Dev)

@[simp] theorem Dev.fixAngle_st : d.fixAngle.st = d.st := by
  obtain ⟨x, y, b, e⟩ := d.fixAngle_eq
  rw [e]

@[simp] theorem Dev.fixAngle_streams : d.fixAngle.streams = d.streams := by
  obtain ⟨x, y, b, e⟩ := d.fixAngle_eq
  rw [e]

@[simp] theorem Dev.fixAngle_stream (n : Nat) : d.fixAngle.stream n = d.stream n := by simp [Dev.stream]

@[simp] theorem Dev.fixAngle_takesStage (n : Nat) : d.fixAngle.takesStage n = d.takesStage n := by
  obtain ⟨x, y, b, e⟩ := d.fixAngle_eq
  rw [e]
  rfl

theorem Tr.fixAngle {ps : List DevPart} {fs : List Fld} {a : Dev} {d : Dev} (h : Tr ps fs a d) (hq : .seq ∈ ps) :
    Tr ps fs a d.fixAngle := by
  obtain ⟨x, y, b, e⟩ := d.fixAngle_eq
  rw [e]
  exact h.seq hq

end

/-- The block of a stream: the stream holds it, and its bytes and the echoes cut count. -/
theorem Dev.buildFor_eq (d : Dev) (n : Nat) (recs : Tab Rec) : ∃ (g : Stream → Stream) (v w : Nat), (∀ s, (g s).block.isSome = true) ∧
    d.buildFor n recs = ((d.modStream n g).set (F.OUT_ORIG_BYTES n) v).set F.OUT_TRUNC_ECHOES w :=
  ⟨_, _, _, fun _ => rfl, rfl⟩

theorem Dev.buildFor_st (d : Dev) (n : Nat) (recs : Tab Rec) : (d.buildFor n recs).st = d.st := by
  obtain ⟨g, v, w, -, e⟩ := d.buildFor_eq n recs
  rw [e]
  rfl

theorem Dev.buildFor_block (d : Dev) (n : Nat) (recs : Tab Rec) (h : n < d.streams.length) :
    ((d.buildFor n recs).stream n).block.isSome = true := by
  obtain ⟨g, v, w, built, e⟩ := d.buildFor_eq n recs
  rw [e, Dev.stream_set, Dev.stream_set, Dev.stream_modStream_same d n g h]
  exact built _

theorem Dev.buildFor_stream_other (d : Dev) (n m : Nat) (recs : Tab Rec) (h : m ≠ n) : (d.buildFor n recs).stream m = d.stream m := by
  obtain ⟨g, v, w, -, e⟩ := d.buildFor_eq n recs
  rw [e, Dev.stream_set, Dev.stream_set, Dev.stream_modStream_other d n m g h]

theorem Tr.buildFor {ps : List DevPart} {fs : List Fld} {a d : Dev} (h : Tr ps fs a d) {n : Nat} {recs : Tab Rec} (hr : .regs ∈ ps)
    (hs : .streams ∈ ps) (ho : F.OUT_ORIG_BYTES n ∈ fs) (ht : F.OUT_TRUNC_ECHOES ∈ fs) : Tr ps fs a (d.buildFor n recs) := by
  obtain ⟨g, v, w, -, e⟩ := d.buildFor_eq n recs
  rw [e]
  exact ((h.modStream hs).set hr ho).set hr ht

/-- While ticks occur a finished unit waits for the tick (R297). -/
theorem Dev.lastUnit_of_ticks {d : Dev} (n : Nat) (h : d.st.ticks = true) : d.lastUnit n = d := by simp [Dev.lastUnit, h]

/-- The point builder's work for one stream. -/
def Dev.blockFor (d : Dev) (n : Nat) : Dev :=
  if d.takesStage n && (d.stream n).block.isNone && (d.stream n).unit.isNone then (d.buildFor n d.recs).lastUnit n else d

theorem stageBlockDone_of_finished {d : Dev} (hv : d.seq.info.valid = true) (hr : ∀ k < 512, d.recDone k = true) :
    stageBlockDone d = (d.fixAngle.blockFor 0).blockFor 1 := by
  have finished : (List.range 512).all d.recDone = true := List.all_eq_true.mpr fun k hk => hr k (List.mem_range.mp hk)
  simp only [stageBlockDone, hv, finished]
  rfl

theorem Dev.valid_of_takesStage {d : Dev} {n : Nat} (h : d.takesStage n = true) : d.seq.info.valid = true := by
  simp only [Dev.takesStage, Bool.and_eq_true] at h
  exact h.1.1

section
variable {d : Dev} (ht : d.st.ticks = true) (n : Nat)
include ht

theorem Dev.blockFor_of_ticks : d.blockFor n =
    if d.takesStage n && (d.stream n).block.isNone && (d.stream n).unit.isNone then d.buildFor n d.recs else d := by
  rw [Dev.blockFor, Dev.lastUnit_of_ticks n (by rwa [Dev.buildFor_st])]

theorem Dev.blockFor_st : (d.blockFor n).st = d.st := by
  rw [Dev.blockFor_of_ticks ht]
  split
  · exact d.buildFor_st n d.recs
  · rfl

theorem Dev.blockFor_stream_other {m : Nat} (h : m ≠ n) : (d.blockFor n).stream m = d.stream m := by
  rw [Dev.blockFor_of_ticks ht]
  split
  · exact d.buildFor_stream_other n m d.recs h
  · rfl

theorem Dev.blockFor_block (hn : n < d.streams.length) (hs : d.takesStage n = true) (hb : (d.stream n).block = none)
    (hu : (d.stream n).unit = none) : ((d.blockFor n).stream n).block.isSome = true := by
  rw [Dev.blockFor_of_ticks ht, if_pos (by simp [hs, hb, hu])]
  exact d.buildFor_block n d.recs hn

theorem Dev.blockFor_tr {ps : List DevPart} {fs : List Fld} {a : Dev} (h : Tr ps fs a d) (hr : .regs ∈ ps) (hs : .streams ∈ ps)
    (ho : F.OUT_ORIG_BYTES n ∈ fs) (hc : F.OUT_TRUNC_ECHOES ∈ fs) : Tr ps fs a (d.blockFor n) := by
  rw [Dev.blockFor_of_ticks ht]
  exact Tr.ite (fun _ => h.buildFor hr hs ho hc) fun _ => h

end

/-! ## Bales (R289–R292) -/

theorem Dev.raiseIf_seq (d : Dev) (c : Bool) (g s : Nat) : (d.raiseIf c g s).seq = d.seq := by
  unfold Dev.raiseIf
  split
  · exact d.raise_seq g s
  · rfl

/-- What is noted of a bale that goes out as ORIGINAL, or of one that did not shrink (R292). -/
def Dev.noteBale (d : Dev) (n : Nat) (whole : Bool) (grown : Prop) [Decidable grown] : Dev :=
  let d1 := if whole then d.inc (F.OUT_NOSHRINK n) else d
  if grown then
    ({ d1 with seq := { d1.seq with shrinkAt := some d.seq.info.frame } }.setB F.OUT_STATUS.NOSHRINK true).raiseIf
      (d.seq.shrinkAt ≠ some d.seq.info.frame) 9 0
  else d1

section
variable {ps : List DevPart} {fs : List Fld} {a d : Dev} {n : Nat} {whole : Bool} {grown : Prop} [Decidable grown]

theorem Tr.noteBale (h : Tr ps fs a d) (hr : .regs ∈ ps) (hq : .seq ∈ ps) (he : .evt ∈ ps) (hl : .life ∈ ps)
    (hf : ∀ f ∈ [F.OUT_NOSHRINK n, F.OUT_STATUS.NOSHRINK, F.EVT_STATUS 9], f ∈ fs) : Tr ps fs a (d.noteBale n whole grown) := by
  have counted : Tr ps fs a (if whole then d.inc (F.OUT_NOSHRINK n) else d) :=
    Tr.ite (fun _ => h.set hr (hf _ (by simp))) fun _ => h
  have shrunkNot {q : Seq} := (counted.seq (q := q) hq).set (f := F.OUT_STATUS.NOSHRINK) (v := 1) hr (hf _ (by simp))
  exact Tr.ite (fun _ => Tr.ite (fun _ => shrunkNot.raise hr he hl (hf _ (by simp))) fun _ => shrunkNot) fun _ => counted

/-- Of the sequencer, only the frame of the latest bale that did not shrink is noted (R292). -/
theorem Dev.noteBale_seq : (d.noteBale n whole grown).seq = { d.seq with shrinkAt := (d.noteBale n whole grown).seq.shrinkAt } := by
  have counted : (if whole then d.inc (F.OUT_NOSHRINK n) else d).seq = d.seq := by split <;> rfl
  unfold Dev.noteBale
  dsimp only
  split
  · rw [Dev.raiseIf_seq, Dev.setB_eq, Dev.set_seq, counted]
  · rw [counted]

end

/-- The packer's result: the unit is there, the bale is numbered, and what did not shrink is noted (R291, R292). -/
theorem Dev.packFor_eq {d : Dev} {n : Nat} (late : Bool) (h : (d.stream n).block.isSome = true) :
    ∃ (s : Stream) (whole : Bool) (len size : Nat), s.unit.isSome = true ∧ s.baleSeq = ((d.stream n).baleSeq + 1) % 2 ^ 32 ∧
      d.packFor n late = (d.modStream n fun _ => s).noteBale n whole (len ≤ size) := by
  obtain ⟨block, hb⟩ := Option.isSome_iff_exists.mp h
  have numbered (hist : Nat) (first : Bool) : ((d.stream n).atFrame hist first).baleSeq = (d.stream n).baleSeq := by
    unfold Stream.atFrame
    split <;> rfl
  unfold Dev.packFor
  rw [hb]
  exact ⟨_, _, _, _, rfl, by simp only [numbered], rfl⟩

section
variable {d : Dev} (hd : Tab.wf d.regs) {n : Nat} (hb : (d.stream n).block.isSome = true)
include hd hb

/-- The parts and fields that the packer may change. -/
theorem Dev.packFor_tr (late : Bool) : Tr [.streams, .seq, .regs, .evt, .life]
    [F.OUT_NOSHRINK n, F.OUT_STATUS.NOSHRINK, F.EVT_STATUS 9] d (d.packFor n late) := by
  obtain ⟨s, whole, len, size, -, -, e⟩ := Dev.packFor_eq late hb
  rw [e]
  exact ((Tr.refl hd).modStream (by decide)).noteBale (by decide) (by decide) (by decide) (by decide) fun _ hf => hf

/-- The unit of a bale, its number, and what the packer notes of the frame (R291, R292). -/
theorem Dev.packFor_bale (late : Bool) (hn : n < d.streams.length) :
    ((d.packFor n late).stream n).unit.isSome = true ∧
      ((d.packFor n late).stream n).baleSeq = ((d.stream n).baleSeq + 1) % 2 ^ 32 ∧
      (d.packFor n late).seq = { d.seq with shrinkAt := (d.packFor n late).seq.shrinkAt } := by
  obtain ⟨s, whole, len, size, hu, hq, e⟩ := Dev.packFor_eq late hb
  have coded : (d.packFor n late).stream n = s := by
    have noted : Tr [.regs, .seq, .evt, .life] [F.OUT_NOSHRINK n, F.OUT_STATUS.NOSHRINK, F.EVT_STATUS 9] (d.modStream n fun _ => s)
        (d.packFor n late) := by
      rw [e]
      exact Tr.noteBale (Tr.refl hd) (by decide) (by decide) (by decide) (by decide) fun _ hf => hf
    have streams : (d.packFor n late).streams = (d.modStream n fun _ => s).streams := noted.frame .streams (by decide)
    rw [Dev.stream, streams]
    exact d.stream_modStream_same n (fun _ => s) hn
  rw [coded]
  refine ⟨hu, hq, ?_⟩
  rw [e]
  exact Dev.noteBale_seq

end

theorem baleCoded_of_block {d : Dev} (hd : Tab.wf d.regs) {n : Fin 2} (ht : d.st.ticks = true) (hs : d.takesStage n = true)
    (hc : (d.stageCfg n).bales = true) (hu : (d.stream n).unit = none) (hb : (d.stream n).block.isSome = true) :
    baleCoded n d = d.packFor n false := by
  have ticks : (d.packFor n false).st.ticks = true := by
    rw [show (d.packFor n false).st = d.st from (Dev.packFor_tr hd hb false).frame .st (by decide)]
    exact ht
  rw [baleCoded, if_pos (by simp [hs, hc, hu]), Dev.lastUnit_of_ticks n ticks]

/-! ## The commands -/

section
variable {s : State} (hd : Tab.wf s.dev.regs)
include hd

theorem seederTake_does (hp : s.dev.seq.prep = true) (hf : s.dev.seq.frameDue = false)
    (hn : (s.dev.nextSlot s.dev.ahead).isSome = true) (hv : s.dev.seq.info.valid = false) :
    Does .seederTake s fun t =>
      (∀ e ∈ t.seeds, e.1 < 512 ∧ e.2 ≠ [] ∧ e.2.length ≤ 8) ∧ Touches [.seeds, .up, .cyc, .tb] [F.TALLY_SEEDS_LATE] s.dev t := by
  obtain ⟨⟨k, j, idle⟩, slot⟩ := Option.isSome_iff_exists.mp hn
  have waited : Tr [.regs, .seeds, .up, .cyc, .tb] [F.TALLY_SEEDS_LATE] s.dev (s.dev.cycleTo (s.dev.slotEndCyc - 200)) :=
    (Tr.refl hd).advance (by decide) (by decide) (by decide)
  exact does_of_onDev rfl (seederTake_of_no_stage hp hf slot hv)
    ⟨s.dev.seedTable_bounds k, ((waited.seeds (by decide)).set (by decide) (by decide)).touches⟩

/-- A sun-blinded channel's record is empty, is stored for the next frame as such, and counts (R254, R274). -/
theorem echoRecordDone_does_of_sun (ch : Fin 512) (hv : s.dev.seq.info.valid = true) (hn : s.dev.recDone ch = false)
    (ha : bitAt (Tab.getD s.dev.recs ch.val {}).flags 14 = true) (hs : bitAt (Tab.getD s.dev.recs ch.val {}).flags 10 = true) :
    Does (.echoRecordDone ch) s fun t =>
      t.recDone ch = true ∧ (Tab.getD t.recs ch.val {}).echoes = [] ∧ Tab.find t.fStore (512 * s.dev.seq.info.index + ch.val) = some [] ∧
      t.get F.CLUT_SUN_BLINDED = (s.dev.get F.CLUT_SUN_BLINDED + 1) % 2 ^ 32 ∧
      Touches [.recs, .fStore, .pStore, .ech, .tabs] [F.CLUT_SUN_BLINDED] s.dev t := by
  refine does_of_onDev rfl (echoRecordDone_of_empty hv hn ha) ?_
  rw [Dev.emptyRecord_of_sun _ _ hs]
  refine ⟨(Dev.recDone_of_put (Dev.afterRecord_recs _ ch) ch.val).trans (if_pos rfl), ?echoes, ?seeds, ?counted, ?rest⟩
  case echoes => rw [Dev.afterRecord_recs, Dev.set_recs, Tab.getD_put_same]
  case seeds => rw [Dev.afterRecord_fStore, Dev.set_fStore, Tab.find_put_same]
  case counted => exact (Dev.afterRecord_get _ ch _).trans (Dev.get_set_same _ _ _ hd)
  case rest =>
    exact ((((Tr.refl hd).records (by decide) (by decide) (by decide)).set (by decide) (by decide)).afterRecord (by decide)
      (by decide)).touches

theorem echoRecordDone_does_of_extracted (ch : Fin 512) (hv : s.dev.seq.info.valid = true) (hn : s.dev.recDone ch = false)
    (ha : bitAt (Tab.getD s.dev.recs ch.val {}).flags 14 = false) :
    Does (.echoRecordDone ch) s fun t =>
      t.recDone ch = true ∧ (∀ k < 512, k ≠ ch.val → t.recDone k = s.dev.recDone k) ∧
      (Tab.find t.fStore (512 * s.dev.seq.info.index + ch.val)).isSome = true ∧
      Frame [.recs, .fStore, .pStore, .ech, .tabs, .seq, .regs] s.dev t := by
  refine does_of_onDev rfl (echoRecordDone_of_extracted hv hn ha) ?_
  obtain ⟨r, done, recs⟩ := s.dev.fullRecord_recs ch (Tab.getD s.dev.recs ch.val {}) (judge (s.dev.echoIn ch))
  obtain ⟨f, stored⟩ := s.dev.fullRecord_fStore ch (Tab.getD s.dev.recs ch.val {}) (judge (s.dev.echoIn ch))
  have finished := Dev.recDone_of_put ((Dev.afterRecord_recs _ ch).trans recs)
  refine ⟨(finished ch).trans ((if_pos rfl).trans done), fun k _ other => (finished k).trans (if_neg other), ?seeds, ?rest⟩
  case seeds =>
    rw [Dev.afterRecord_fStore, stored, Tab.find_put_same]
    rfl
  case rest =>
    exact (((Tr.refl (fs := recordCounters) hd).fullRecord (by decide) (by decide) (by decide) (by decide) (by decide)
      fun _ hf => hf).afterRecord (by decide) (by decide)).frame

theorem stageBlockDone_does (ht : s.dev.st.ticks = true) (hs : s.dev.takesStage 0 = true) (hr : ∀ k < 512, s.dev.recDone k = true)
    (hb : (s.dev.stream 0).block = none) (hu : (s.dev.stream 0).unit = none) (hn : s.dev.streams.length = 2) :
    Does .stageBlockDone s fun t => (t.stream 0).block.isSome = true ∧ Frame [.streams, .seq, .regs] s.dev t := by
  refine does_of_onDev rfl (stageBlockDone_of_finished (Dev.valid_of_takesStage hs) hr) ?_
  have ticks : s.dev.fixAngle.st.ticks = true := by rwa [Dev.fixAngle_st]
  have ticks' : (s.dev.fixAngle.blockFor 0).st.ticks = true := by rwa [Dev.blockFor_st ticks]
  refine ⟨?block, ?rest⟩
  case block =>
    rw [Dev.blockFor_stream_other ticks' 1 (by decide)]
    exact Dev.blockFor_block ticks 0 (by simp [hn]) (by simpa using hs) (by simpa using hb) (by simpa using hu)
  case rest =>
    have angled : Tr [.streams, .seq, .regs] [F.OUT_ORIG_BYTES 0, F.OUT_ORIG_BYTES 1, F.OUT_TRUNC_ECHOES] s.dev s.dev.fixAngle :=
      (Tr.refl hd).fixAngle (by decide)
    have first := Dev.blockFor_tr ticks 0 angled (by decide) (by decide) (by decide) (by decide)
    exact (Dev.blockFor_tr ticks' 1 first (by decide) (by decide) (by decide) (by decide)).frame

theorem baleCoded_does (n : Fin 2) (ht : s.dev.st.ticks = true) (hs : s.dev.takesStage n = true)
    (hc : (s.dev.stageCfg n).bales = true) (hu : (s.dev.stream n).unit = none) (hb : (s.dev.stream n).block.isSome = true)
    (hn : s.dev.streams.length = 2) :
    Does (.baleCoded n) s fun t =>
      (t.stream n).unit.isSome = true ∧ (t.stream n).baleSeq = ((s.dev.stream n).baleSeq + 1) % 2 ^ 32 ∧
      t.seq = { s.dev.seq with shrinkAt := t.seq.shrinkAt } ∧ Frame [.streams, .seq, .regs, .evt, .life] s.dev t := by
  refine does_of_onDev rfl (baleCoded_of_block hd ht hs hc hu hb) ?_
  obtain ⟨unit, number, noted⟩ := Dev.packFor_bale hd hb false (by omega)
  exact ⟨unit, number, noted, (Dev.packFor_tr hd hb false).frame⟩

end

/-- Settles O28, command by command: the equation of each case, and what the operations in it leave. -/
theorem echoesPointsAndBales : Obligations.EchoesPointsAndBales := by
  rintro s ⟨⟨⟨hd, -⟩, -⟩, -⟩
  exact ⟨seederTake_does hd, echoRecordDone_does_of_sun hd, echoRecordDone_does_of_extracted hd,
    fun ht hs hr hb hu ⟨_, _, _, hn, _⟩ => stageBlockDone_does hd ht hs hr hb hu hn,
    fun n ht hs hc hu hb ⟨_, _, _, hn, _⟩ => baleCoded_does hd n ht hs hc hu hb hn⟩

end Sys2Proof.Machine
